-- ==== Sys2Proof/Map.lean ====
section
/-! DEFINITION. Finite maps as plain data: lists of (key, value) pairs with strictly rising keys. -/

namespace Sys2Proof

/-- A finite map keyed by natural numbers. -/
abbrev Map (α : Type) := List (Nat × α)

/-- The value stored under a key, if any. -/
def Map.find {α : Type} : Map α → Nat → Option α
  | [], _ => none
  | (k, v) :: m, a => if a = k then some v else Map.find m a

/-- The value stored under a key, or what an unlisted key reads as. -/
def Map.at {α : Type} (m : Map α) (d : α) (a : Nat) : α := (Map.find m a).getD d

/-- Remove a key. -/
def Map.del {α : Type} : Map α → Nat → Map α
  | [], _ => []
  | (k, v) :: m, a => if a = k then Map.del m a else (k, v) :: Map.del m a

/-- Store a value under a key; the keys stay strictly rising. -/
def Map.put {α : Type} : Map α → Nat → α → Map α
  | [], a, x => [(a, x)]
  | (k, v) :: m, a, x =>
    if a < k then (a, x) :: (k, v) :: m
    else if a = k then (a, x) :: m
    else (k, v) :: Map.put m a x

/-- Store a value in a map in which an unlisted key reads as `d a`: the entry is dropped where the value is that one. -/
def Map.store {α : Type} [DecidableEq α] (d : Nat → α) (m : Map α) (a : Nat) (x : α) : Map α :=
  if x = d a then Map.del m a else Map.put m a x

/-- Change the value under a key. -/
def Map.upd {α : Type} (m : Map α) (d : α) (a : Nat) (f : α → α) : Map α := Map.put m a (f (Map.at m d a))

/-- Every key of the map lies at or above a bound and the keys rise strictly. -/
def Map.risingFrom {α : Type} : Nat → Map α → Bool
  | _, [] => true
  | b, (k, _) :: m => decide (b ≤ k) && Map.risingFrom (k + 1) m

/-- The keys rise strictly. -/
def Map.rising {α : Type} (m : Map α) : Bool := Map.risingFrom 0 m

end Sys2Proof
end

