-- ==== Sys2Proof/Word.lean ====
section
/-! DEFINITION. The word types of the model: bytes, register words, half-words. -/

namespace Sys2Proof

/-- A byte of a packet, a cell, a record or a memory. -/
abbrev Byte := BitVec 8

/-- A half-word: TAG, STATUS, DETAIL, addresses (R46). -/
abbrev Half := BitVec 16

/-- A register is 32 bits wide (R11). -/
abbrev Word := BitVec 32

end Sys2Proof
end

