-- ==== Sys2Proof/Operand.lean ====
section
/-! DEFINITION. The operand types of the commands: requests, messages, frames, bursts, and the parts of the mirrored state. -/

namespace Sys2Proof

/-- How a request reached the chip that executes it (R53: replies go back by the transport and ring of arrival). -/
inductive Via
  /-- A PCIe submission ring: ring, host addresses of the reply buffer and of the descriptor's CPL field, buffer capacity, INT. -/
  | pcie (ring rplAddr rplCap cplAddr : Nat) (int : Bool)
  /-- A UDP datagram on an ingest port, from an IPv4 address and port. -/
  | udp (port ip udpPort : Nat)
  /-- CMD cells on a port in chain framing, under a key (R126), RELAY bit, from a sender. -/
  | chain (port key : Nat) (relay : Bool) (cellSrc : Nat)
  /-- The lead's own firmware (R53). -/
  | own
  deriving DecidableEq, Repr

/-- A request: the header fields of R46 but OPCODE (the row names it), the payload, and the AUTHTAG as received. -/
structure Req where
  via : Via := .own
  flags : Byte := 0
  dest : Half := 0
  src : Half := 0
  seq : Word := 0
  tag : Half := 0
  epoch : Word := 0
  payload : List Byte := []
  authTag : List Byte := []
  deriving DecidableEq, Repr

/-- A verified message of one cell or more (R122 to R124) that the chip consumed, with what its headers said. -/
structure Msg where
  port : Nat := 0
  /-- TYPE of R119. -/
  typ : Nat := 2
  /-- XT of the first cell. -/
  xt : Nat := 0
  src : Nat := 0
  dest : Nat := 0
  bcast : Bool := false
  dir : Bool := false
  relay : Bool := false
  key : Nat := 0
  hops : Nat := 0
  corr : Nat := 0
  /-- Raw ingress stamp of the time-stamp point (R159), with its fraction. -/
  stamp : Nat := 0
  body : List Byte := []
  deriving DecidableEq, Repr

/-- A PTP event or general message of a two-step or one-step master, as R172 uses it. -/
structure PtpMsg where
  /-- 0 Sync, 1 Follow_Up, 2 Delay_Resp, 3 Announce. -/
  kind : Nat := 0
  domain : Nat := 0
  seq : Nat := 0
  twoStep : Bool := false
  /-- Origin or receive time-stamp, in 2^-16 ns. -/
  time : Nat := 0
  /-- correctionField, in 2^-16 ns, signed. -/
  corr : Int := 0
  /-- Raw time-stamp as the port's hardware takes it: ingress of a Sync, egress of the Delay_Req that a Delay_Resp answers. -/
  stamp : Nat := 0
  /-- The data set of an Announce that the default best master clock algorithm compares, as one number: lower is better. -/
  rank : Nat := 0
  /-- The grandmaster of an Announce; the sender's port identity and IPv4 address. -/
  gm : Nat := 0
  sender : Nat := 0
  ip : Nat := 0
  /-- logMessageInterval: the interval is 2 to this power, in s. -/
  logInterval : Int := 0
  utcOffset : Int := 0
  deriving DecidableEq, Repr

/-- Boundary-scan instructions, as R518 tells them apart. -/
inductive JtagInstr | bypass | idcode | sample | other
  deriving DecidableEq, Repr

/-- The clients of the memory controller (R43). -/
inductive MemClient
  | scanOut
  | spill
  | planeFeed
  | ingest
  | almanac
  | upload
  /-- Scrubbing, whose reads EV_578 and EV_579 mark, and the write-back of a corrected burst (R356). -/
  | scrub
  | bulk
  | mirror
  | firmware
  deriving DecidableEq, Repr

/-- One 64-byte burst request of a memory client (R345). -/
structure MemReq where
  /-- DRAM address, a multiple of 64. -/
  addr : Nat
  client : MemClient
  write : Bool
  data : List Byte := []
  deriving DecidableEq, Repr

/-- What an Ethernet frame carries. -/
inductive EthKind
  /-- PAUSE or priority flow control. -/
  | pause
  | arpRequest (targetIp senderIp senderMac : Nat)
  | arpReply (senderIp senderMac : Nat)
  /-- An IGMP query, general (0) or for a group. -/
  | igmpQuery (group : Nat)
  | ptp (p : PtpMsg)
  /-- A UDP datagram over IPv4. -/
  | udp (srcIp dstIp srcPort dstPort : Nat) (options fragment : Bool) (data : List Byte)
  | other
  deriving DecidableEq, Repr

/-- An Ethernet frame on an ingest port. -/
structure EthFrame where
  dstMac : Nat
  /-- VID of its tag, if tagged. -/
  vlan : Option Nat := none
  /-- Bytes from destination address to FCS. -/
  len : Nat := 64
  fcsOk : Bool := true
  kind : EthKind
  deriving DecidableEq, Repr

/-- One sample row data segment of an ST 2110-20 packet: row, pixel offset, data. -/
structure Srd where
  row : Nat
  offset : Nat
  data : List Byte
  deriving DecidableEq, Repr

/-- An RTP packet of a stream. -/
structure RtpPkt where
  pt : Nat
  /-- 32-bit extended sequence number (R215). -/
  seq : Nat
  ts : Nat
  marker : Bool
  srds : List Srd
  deriving DecidableEq, Repr

namespace Machine

/-- Port states with the codes of R94. -/
inductive PortState | off | listen | up | open_ | closed | lost | active
  deriving DecidableEq, Repr

/-- A position of the lead's topology table (R91, R99, R105). -/
structure TopoEntry where
  chain : Nat
  pos : Nat
  unit : List Byte
  upPort : Nat
  dnState : PortState := .closed
  cut : Bool := false
  deriving DecidableEq, Repr

/-- Replay state of a slot and queue class (R64). -/
structure Replay where
  h : Nat := 0
  /-- Bit i: H - i has been seen. -/
  seen : Nat := 0
  deriving DecidableEq, Repr

/-- Servo states (R169). -/
inductive Servo | free | acquire | locked | holdover
  deriving DecidableEq, Repr

/-- A master that announces itself on a port: its data set as a rank, its grandmaster, port identity and address, and its latest Announce. -/
structure PtpMaster where
  rank : Nat
  gm : Nat
  sender : Nat
  ip : Nat
  utcOffset : Int
  /-- Announce interval 2^annLog s, and the raw instant of the latest one. -/
  annLog : Int
  at_ : Nat
  deriving DecidableEq, Repr

/-- An ingest port of a PTP instance: what PTP_CONFIG set, and its best master. -/
structure PtpPort where
  enabled : Bool := false
  unicast : Bool := false
  timeout : Nat := 3
  master : Option PtpMaster := none
  deriving DecidableEq, Repr

/-- A PTP instance (R172). -/
structure Ptp where
  domain : Nat := 0
  /-- P4, P5 and P7. -/
  ports : List PtpPort := [{}, {}, {}]
  /-- The port chosen, and the latest grandmaster. -/
  best : Option Nat := none
  gm : Option Nat := none
  /-- Sync interval 2^syncLog s of the chosen master. -/
  syncLog : Int := 0
  /-- Sequence number of the next Delay_Req, and of the one in flight. -/
  seq : Nat := 0
  dreq : Option Nat := none
  /-- The two-step Sync that waits for its Follow_Up: sequence number, raw ingress stamp, correction. -/
  sync : Option (Nat × Nat × Int) := none
  /-- The latest Sync used: t1 with its corrections (2^-16 ns), raw ingress stamp. -/
  lastSync : Option (Int × Nat) := none
  deriving DecidableEq, Repr

/-- A launch: number, instant in 2^-16 ns, and what its LNCH cell said. -/
structure Launch where
  n : Nat
  at_ : Nat
  /-- The cell's CFG_ID is the chip's own (R197). -/
  cfgOk : Bool := true
  deriving DecidableEq, Repr

/-- A trim set of a bank (R392): temperature, CVALID, and a gain for each colour. -/
structure CalSet where
  t : Int := 0
  valid : Nat := 0
  g : List Int := [0, 0, 0, 0]
  deriving DecidableEq, Repr

/-- A staged change that takes effect at a launch (R37, R293). -/
inductive Change
  /-- LAYER_CONFIG: its payload. -/
  | layer (payload : List Byte)
  /-- PROT_LAYER_SET's payload, or nothing for PROT_LAYER_CLEAR. -/
  | prot (payload : List Byte)
  | bg (reg : Nat) (w : Word)
  | coder (chain ratio mode floor : Nat)
  | lpp (payload : List Byte)
  | lut (c : Nat)
  /-- ALMANAC_ENABLE: the mask. -/
  | mask (m : Nat)
  /-- A target, LLAT or port trim: kind of EV_709, register, word. -/
  | trim (kind reg : Nat) (w : Word)
  /-- A trim set loaded, or one gain of an accepted run. -/
  | irefSet (idx : Nat) (x : CalSet)
  | gain (idx c : Nat) (g t : Int)
  deriving DecidableEq, Repr

/-- A change with the instant of its OK (derived time) and, for a change of R293, the first launch that uses it. -/
structure Pending where
  change : Change
  okAt : Nat
  first : Option Nat := none
  deriving DecidableEq, Repr

/-- A surface (R219). -/
structure Surf where
  fmt : Nat
  colour : Nat
  w : Nat
  h : Nat
  bufs : Nat
  addr : Nat
  /-- The buffer that holds the newest complete frame. -/
  cur : Option Nat := none
  /-- Byte ranges of the raw layout written by the host: start and end. -/
  written : List (Nat × Nat) := []
  /-- Blocks of buffer 0 that a stream has packed since allocation. -/
  streamed : List Nat := []
  /-- The buffer that the compositor holds since the latest A(L) (R189, R217). -/
  held : Option Nat := none
  deriving DecidableEq, Repr

/-- A pending flip group (R231, R233). -/
structure Flip where
  req : Req
  /-- Layers and surfaces. -/
  entries : List (Nat × Nat)
  fence : Nat
  wait : Nat
  /-- Raw instant of the time-out; none for none. -/
  deadline : Option Nat
  ready : Bool
  /-- Derived instant at which it became ready. -/
  readyAt : Nat := 0
  /-- First launch that may use it in a tile (R293). -/
  first : Option Nat := none
  deriving DecidableEq, Repr

/-- One part of the state that R376 mirrors, carried whole; the part's latest copy replaces an earlier one. -/
inductive MirrorItem
  /-- Lead epoch, fault epoch, and the chains' sleep epochs. -/
  | epochs (lead fault : Nat) (sleep : List Nat)
  /-- The mirrored registers away from their reset values. -/
  | regs (l : Map Word)
  /-- Topology table, end codes, and the mask of the chains of which the sender is the tail. -/
  | topo (table : List TopoEntry) (ends : Map Nat) (tails : Nat)
  /-- Layers, with the staged changes of layers and of the coder. -/
  | layers (l : Map (List Byte)) (staged : List Pending)
  | flips (l : Map Flip)
  | fences (l : Map Nat)
  | surfs (l : Map Surf)
  /-- DRAM bytes from `lo` up to `hi` of a surface that the host wrote, or of a layer's meshes. -/
  | data (lo hi : Nat) (cells : Map Byte)
  /-- Ranges of a layer's pending mesh written since reset; the meshes themselves are DRAM data. -/
  | mesh (layer : Nat) (written : List (Nat × Nat))
  /-- STREAM_CONFIG payloads of the four streams. -/
  | locks (l : List (List Byte))
  | ptp (a b : Ptp)
  | coder (l : List (Nat × Nat × Nat))
  /-- Ephemeris: LCH_CONFIG, launch counter, scheduled instant, announced launches. -/
  | lch (cfg : List Byte) (count sched : Nat) (launches : List Launch)
  | servo (st : Servo) (integ : Int)
  | shref (l : List (List Byte))
  | replay (l : Map Replay)
  /-- Session keys of the tiles and the latest key ID of each. -/
  | keys (tiles : Map (List Byte)) (last : Map Nat)
  deriving DecidableEq, Repr

/-- A complete, authenticated mirror delta (R377). -/
structure MirrorDelta where
  mseq : Nat
  /-- The delta begins a baseline, and completes one. -/
  first : Bool := false
  last : Bool := false
  items : List MirrorItem := []
  deriving DecidableEq, Repr

/-- The key store in the boot flash (R440): it outlives every reset. -/
structure KeyStore where
  /-- Credential keys of slots 0 to 15. -/
  creds : Map (List Byte) := []
  /-- Class masks of the tenant slots. -/
  masks : Map Nat := []
  group : Option (List Byte) := none
  /-- Replay floors, at slot * 16 + class (R65). -/
  floors : Map Nat := []
  /-- Floors of the group-key CSEQ counters, at TYPE * 2 + DIR (R547). -/
  gfloors : Map Nat := []
  /-- ISLAND_FPR and its audit counter, once a DEBUG_OPEN record was read (R445); MET_FPR0 before. -/
  fpr : Option (List Byte × Nat) := none
  deriving DecidableEq, Repr

/-- What the data of a journal record holds, by store (R449, R450). -/
inductive StoreData
  /-- 1, the boot pointer: ACTIVE, TRIAL, TRIAL_LEFT (R454). -/
  | pointer (active : Nat) (trial : Bool) (left : Nat)
  /-- 2, the key store (R440). -/
  | keys (k : KeyStore)
  /-- 3, the settings store: its schema (R463). -/
  | settings (schema : Option (Nat × Nat))
  /-- 4, the mirrored state that STATE_SAVE wrote (R379, R464). -/
  | state (items : List MirrorItem)
  /-- 5, an erase intent naming a sector, or its completion (R451). -/
  | erase (sector : Nat) (done : Bool)
  deriving DecidableEq, Repr

end Machine

end Sys2Proof
end

