-- ==== Sys2Proof/Syntax.lean ====
section
/-! DEFINITION. The commands of the block: one constructor per row of the opcode table, with the row's operands. An opcode row
carries the request that reached the executing chip; an event row carries what happened (which port, which bytes, which
measured values). -/

namespace Sys2Proof

open Machine (MirrorDelta)

/-- The commands of the block, in the order of the opcode table. -/
inductive Instr
  /-- POWER_ON_RESET (R472). The power-on detector on VDD_AON causes a cold reset of the main side. -/
  | powerOnReset
  /-- PORESET_N_ASSERT (R472). PORESET_N driven low causes a cold reset: the lamps are blanked and every main-side block resets. -/
  | poresetNAssert
  /-- PORESET_N_RISE (R480). The rising edge of PORESET_N samples ROLE and BOOT_SRC and starts the boot sequence that ends with the command responder up. -/
  | poresetNRise (roleStrap bootStrap : Nat)
  /-- WRESET_N_ASSERT (R474). WRESET_N held low for t_wrst_pw causes a warm reset: blanking, DRAM drain to self-refresh, block reset and a boot from step 3. -/
  | wresetNAssert (lowRaw : Nat)
  /-- SUPPLY_OUT_OF_RANGE (R470). A monitored supply leaves its range, causing a reset, inertness with blocks in hold, or a report only, depending on the supply. -/
  | supplyOutOfRange (supply : Nat)
  /-- SUPPLY_BACK_IN_RANGE (R470). A supply returns to its range, raising EV_35 with the back bit, after which RESUME is permitted. -/
  | supplyBackInRange (supply roleStrap bootStrap : Nat)
  /-- PLL_LOSS_OF_LOCK (R41). A main-side PLL loses lock, which sets its sticky bit, raises an event and triggers the reaction of the domain's owning block. -/
  | pllLossOfLock (pll : Nat)
  /-- FIFO_FAULT (R40). A dual-clock FIFO overflows or underflows, raising a fatal event and putting the receiving block in hold. -/
  | fifoFault (fifo : Nat)
  /-- CORE_FAULT (R476). A management core fault (watchdog, illegal access or C3 error) holds the core in reset and records the cause; the core restarts automatically only if armed. -/
  | coreFault (core cause : Nat)
  /-- TEMPERATURE_MEASUREMENT (R390). Every t_temp_upd the unit measures the eight on-die sensors and four remote diodes and flags faulty sensors. -/
  | temperatureMeasurement (sensors : List (Option Int))
  /-- AVS_MEASUREMENT (R503). Every 10 ms VDD_CORE is measured at the die, updating VMEAS and LOW in GLB_AVS. -/
  | avsMeasurement (millivolts : Nat)
  /-- JTAG_INSTRUCTION_LOAD (R518). Loading a boundary-scan instruction other than BYPASS, IDCODE or SAMPLE holds LBLANK_N low and the IREF outputs at 0. -/
  | jtagInstructionLoad (instr : JtagInstr)
  /-- PCIE_ENDPOINT_RESET (R483). PCIE_PERST_N, a hot reset or a function-level reset clears every ring ENABLE and raises EV_47 while the wall keeps running. -/
  | pcieEndpointReset (kind : Nat)
  /-- PCIE_POWER_STATE_CHANGE (R494). The host moves the endpoint between D0 and D3hot, stopping or resuming ring fetches and enabling PME signalling. -/
  | pciePowerStateChange (toD3hot pmeEnable : Bool)
  /-- PME_STATUS_CLEAR (R494). The host writes 1 to PME_Status, clearing it together with PWR_PME_CAUSE. -/
  | pmeStatusClear
  /-- DOORBELL_WRITE (R74). A write of a new tail index to a ring doorbell hands the chip the descriptors up to that index; an index out of range raises EV_23. -/
  | doorbellWrite (offset : Nat) (data : Word)
  /-- DESCRIPTOR_FETCH (R73). The chip fetches a submission descriptor and its command packet from host memory in index order. -/
  | descriptorFetch (ring : Nat) (descriptor packet : Option (List Byte))
  /-- CMD_RING_ENABLE (R76). A write of CMD_RING_CFG.ENABLE starts or stops a command ring, clearing HOLD and HEAD on 0 and checking SIZE_LOG2 on 1. -/
  | cmdRingEnable (ring : Nat) (cfg : Word)
  /-- UDP_COMMAND_DATAGRAM (R77). An IPv4 UDP datagram to UDP_PORT on an enabled ingest port delivers one command packet; fragments are dropped. -/
  | udpCommandDatagram (port srcIp srcPort dstIp dstPort : Nat) (fragment : Bool) (data : List Byte)
  /-- COMMAND_PACKET_DISCARD (R48). A packet that is shorter than its header, has a wrong major version or fails HCRC is discarded without a reply and raises EV_16. -/
  | commandPacketDiscard (via : Via) (data : List Byte)
  /-- UNDEFINED_OPCODE (R71). A request with an opcode not in the opcode table, or an EVT_NOTIFY sent as a request, returns BAD_OPCODE. -/
  | undefinedOpcode (opcode : Nat) (r : Req)
  /-- TILE_REPLY_RECEIVED (R61). The lead receives a tile's reply to a queued command and passes it to the host or folds it into a broadcast aggregate reply. -/
  | tileReplyReceived (m : Msg)
  /-- TILE_TIMEOUT (R60). No reply arrives within TILE_TIMEOUT, so the lead returns TIMEOUT to the host and raises EV_21. -/
  | tileTimeout
  /-- FAR_LEAD_REPLY_TIMEOUT (R538). A far lead's aggregate reply to a forwarded domain broadcast fails to arrive within twice TILE_TIMEOUT and is counted as a time-out. -/
  | farLeadReplyTimeout
  /-- REGISTER_WRITE (R12). A write to a register without a row of its own stores, clears or is refused according to its access code and the owning chapter. -/
  | registerWrite (addr : Nat) (enables : Nat) (data : Word)
  /-- EVENT_RING_HEAD_WRITE (R543). The host writes a new event ring head index, freeing entries; an index out of range raises EV_23. -/
  | eventRingHeadWrite (data : Word)
  /-- EVT_RING_ENABLE (R543). Setting EVT_RING_CFG.ENABLE from 0 to 1 empties the ring and starts writing records to it. -/
  | evtRingEnable (cfg : Word)
  /-- EVENT_RING_WRITE (R84). A pending event record is written to the event ring once an entry is free, two entries together for a group event. -/
  | eventRingWrite
  /-- RATE_LIMIT_RELEASE (R80). When the sliding 1 s rate limit allows it, a deferred record carrying the counts of suppressed occurrences is emitted. -/
  | rateLimitRelease (source : Nat)
  /-- EVT_NOTIFY (R83). The lead receives a tile's event records and passes them on or holds them in a merge window. -/
  | evtNotify (m : Msg)
  /-- MERGE_WINDOW_CLOSE (R83). A merge window for a SOURCE and DETAIL closes and its held records are resolved. -/
  | mergeWindowClose
  /-- NOP (R539). The NOP command does nothing and replies. -/
  | nop (r : Req)
  /-- GET_INFO (R539). GET_INFO returns the chip ID, role, address, unit ID, lead epoch and image versions. -/
  | getInfo (r : Req)
  /-- REG_READ (R539). REG_READ returns 1 to 1,023 register words from an aligned address. -/
  | regRead (r : Req)
  /-- REG_WRITE (R540). REG_WRITE checks every word first and writes all of them, or none if any would be refused. -/
  | regWrite (r : Req)
  /-- HALT (R22). HALT makes the target chip inert. -/
  | halt (r : Req)
  /-- RESUME (R24). RESUME takes an inert chip out of inertness if its cause has cleared and its credential is sufficient. -/
  | resume (r : Req)
  /-- ARM (R539). ARM enables or disables an armed response by its arming identifier. -/
  | arm (r : Req)
  /-- CORE_RESTART (R477). CORE_RESTART restarts a faulted management core from the image verified at boot. -/
  | coreRestart (r : Req)
  /-- WARM_RESET (R474). WARM_RESET replies and then performs a warm reset within t_warm_cmd. -/
  | warmReset (r : Req)
  /-- CRED_STATUS (R441). CRED_STATUS returns the provisioned slots, tenant class masks and replay floors. -/
  | credStatus (r : Req)
  /-- PROBE_NEAREST (R95). PROBE_NEAREST is executed by the nearest unassigned tile, which returns its unit ID and previous address. -/
  | probeNearest (r : Req)
  /-- ASSIGN_ADDRESS (R99). ASSIGN_ADDRESS with a matching unit ID stores the address and epoch, makes the arrival port UP and the other port CLOSED. -/
  | assignAddress (r : Req)
  /-- PORT_OPEN (R100). PORT_OPEN powers a lead chain port if OFF and starts qualifying the link. -/
  | portOpen (r : Req)
  /-- PORT_CLOSE (R106). PORT_CLOSE makes an OPEN or LOST chain port CLOSED and stops forwarding through it. -/
  | portClose (r : Req)
  /-- RELEASE_ADDRESS (R106). RELEASE_ADDRESS replies, makes the tile inert, clears VALID and returns both ports to LISTEN. -/
  | releaseAddress (r : Req)
  /-- TOPO_READ (R98). TOPO_READ returns a chain's positions, unit IDs, port states and end code from the lead's topology table. -/
  | topoRead (r : Req)
  /-- GLB_TOPO_EPOCH_WRITE (R92). A write of GLB_TOPO_EPOCH in a lead sets a new lead epoch unless it is 0, unchanged, or a chain port is OPEN. -/
  | glbTopoEpochWrite (data : Word)
  /-- PRT_CFG_FUNC_WRITE (R545). A permitted write of PRT_CFG.FUNC powers or powers down the port and sets its state at once. -/
  | prtCfgFuncWrite (port func : Nat)
  /-- PRT_CFG_FEC_EN_WRITE (R110). A write of FEC_EN is stored, or refused while the port is UP, OPEN or ACTIVE. -/
  | prtCfgFecEnWrite (port : Nat) (enable : Bool)
  /-- PORT_QUALIFIED (R100). A link under PORT_OPEN shows 4 ms of error-free PCS blocks, so the port becomes OPEN or UP, EV_97 is raised and OK is returned. -/
  | portQualified (port : Nat)
  /-- PORT_OPEN_TIMEOUT (R100). A port not qualified 20 ms after PORT_OPEN keeps its state and the command returns WRONG_STATE. -/
  | portOpenTimeout (port : Nat) (locked : Bool)
  /-- LINK_LOST (R103). A link fault on an OPEN or UP port makes it LOST, stops forwarding through it and raises EV_98 or EV_99. -/
  | linkLost (port : Nat) (c1 : Bool)
  /-- LINK_QUALIFIES_AGAIN (R104). A LOST link recovers, raising EV_97 with bit 8 set; the port stays LOST until PORT_OPEN. -/
  | linkQualifiesAgain (port : Nat)
  /-- SYNC_MARKER_RECEIVED (R116). A SYNC marker advances superframe lock, checks the counter and carries the link identification. -/
  | syncMarkerReceived (port fills : Nat) (marker : List Byte)
  /-- SUPERFRAME_LOCK_LOST (R116). After three superframes with a missing or bad SYNC, superframe lock is lost, which counts as loss of block lock. -/
  | superframeLockLost (port : Nat)
  /-- MARKER_ERROR (R113). A marker with a bad MCRC or unlisted kind, or another control block, is ignored, counted in PRT_MARK_ERR and raises EV_69. -/
  | markerError (port : Nat) (block : List Byte)
  /-- SLOT_TRANSMIT (R118). A transmitter fills each slot of its superframe with the first cell the order of choice yields, or IDLE. -/
  | slotTransmit (port stamp : Nat)
  /-- CELL_RECEIVED (R132). A received cell is consumed, forwarded, copied or discarded according to its arrival port, DIR, DEST and RELAY. -/
  | cellReceived (port slot stamp : Nat) (cell : List Byte)
  /-- TRANSIT_EGRESS (R133). A forwarded cell leaves with HOPS incremented, residence added to CORR for TIME cells, and its CCRC recomputed or stomped. -/
  | transitEgress (port stamp fills : Nat)
  /-- ECLIPSE_MARKER_RECEIVED (R138). A chip acts on a new ECLIPSE marker, forwarding three copies, blanking a tile's lamps and recording a hold-off if HOLD is set. -/
  | eclipseMarkerReceived (port : Nat) (marker : List Byte)
  /-- ECLIPSE_SEND (R137). ECLIPSE_SEND makes a lead send three ECLIPSE markers with its next ESEQ on every port of the scope. -/
  | eclipseSend (r : Req)
  /-- ECLIPSE_CLEAR (R142). ECLIPSE_CLEAR removes a matching hold-off in a tile, or the lead's record together with a broadcast to its tiles. -/
  | eclipseClear (r : Req)
  /-- PRT_CNT_CLR (R145). A write of PRT_CNT_CLR clears the port counters whose bits are set. -/
  | prtCntClr (port : Nat) (data : Word)
  /-- TMU_NOW_READ (R154). A read of a TMU_NOW word latches a new snapshot when that word was already read or the snapshot is over 100 µs old. -/
  | tmuNowRead (offset : Nat)
  /-- TMU_STG_GO (R158). Writing GO copies the staging registers into the pending slot of the chosen domain, or refuses the write under R157. -/
  | tmuStgGo (ctl : Word)
  /-- TMU_STG_CANCEL (R158). GO with KIND 0b00 cancels the pending staged write of the domain. -/
  | tmuStgCancel (ctl : Word)
  /-- STAGED_WRITE_APPLY (R156). At its apply instant, a staged value or rate write changes OFFSET and RATE at one TIME edge and raises EV_131. -/
  | stagedWriteApply (d : Bool)
  /-- TIME_READ (R177). TIME_READ returns a snapshot of raw time, MTD0 and MTD1. -/
  | timeRead (r : Req)
  /-- TIME_SET (R156). TIME_SET stages a value write to a domain at an instant or at once. -/
  | timeSet (r : Req)
  /-- TIME_RATE (R156). TIME_RATE stages a rate write to a domain at an instant or at once. -/
  | timeRate (r : Req)
  /-- TIME_SELECT (R173). TIME_SELECT changes the active domain at a switch launch, at once when no launch is held, by bridge or step. -/
  | timeSelect (r : Req)
  /-- PTP_CONFIG (R172). PTP_CONFIG configures a PTP instance on an ingest port. -/
  | ptpConfig (r : Req)
  /-- PATH_CAL (R170). PATH_CAL starts ring asymmetry calibration, or a 64-exchange link delay measurement on the port. -/
  | pathCal (r : Req)
  /-- TIME_STATUS (R177). TIME_STATUS returns servo states, offsets, path delays, rates and bridge state. -/
  | timeStatus (r : Req)
  /-- SHREF_EDGE_CAPTURE (R160). An edge on an enabled SHREF input is time-stamped into its capture FIFO, or discarded with EV_139 if the FIFO is full. -/
  | shrefEdgeCapture (input stamp : Nat)
  /-- TMU_CAP_POP (R160). A read of TMU_CAPn_RAW_HI pops the head capture entry into the capture registers. -/
  | tmuCapPop (input : Nat)
  /-- TIME_SYNC_SEND (R162). The lead sends SYNC and FOLLOW for each valid domain on every distributing port at 2^SYNC_LOG pairs per second. -/
  | timeSyncSend (port : Nat) (d : Bool)
  /-- DREQ_SEND (R166). A tile sends a DREQ for its domain to its time source lead 2^DREQ_LOG times per second. -/
  | dreqSend (d : Bool)
  /-- PDREQ_SEND (R165). Each chip sends one PDREQ per second on every UP, OPEN or ACTIVE Volzia port. -/
  | pdreqSend (port : Nat)
  /-- TIME_SYNC_RECEIVED (R166). A tile records the ingress stamp and CORR of a SYNC for an offset sample. -/
  | timeSyncReceived (m : Msg)
  /-- FOLLOW_RECEIVED (R166). A FOLLOW supplies t1 for its SYNC and completes an offset sample. -/
  | followReceived (m : Msg)
  /-- DREQ_RECEIVED (R167). The source lead answers a DREQ that passes its checks with a DRESP carrying t4, C_REQ and ASYM, or discards it with EV_68. -/
  | dreqReceived (m : Msg)
  /-- DRESP_RECEIVED (R166). A tile updates its mean path delay from a DRESP, discarding outlying exchanges with EV_137. -/
  | drespReceived (m : Msg)
  /-- PDREQ_RECEIVED (R165). A chip answers a hop-local PDREQ with a PDRESP carrying its turnaround. -/
  | pdreqReceived (m : Msg)
  /-- PDRESP_RECEIVED (R165). A PDRESP updates the averaged link mean delay of the port. -/
  | pdrespReceived (m : Msg)
  /-- LOOP_CELL_RETURN (R170). A LOOP cell returns to the source lead, giving one Tcw or Tccw sample. -/
  | loopCellReturn (m : Msg)
  /-- PATH_CAL_COMPLETE (R170). A path calibration completes, writing the asymmetry table or rejecting the run, and completes PATH_CAL with EV_19. -/
  | pathCalComplete (tileDelays : List Int)
  /-- SERVO_HOLDOVER_TIMEOUT (R169). No usable sample for 16 sample intervals sends the domain servo into HOLDOVER. -/
  | servoHoldoverTimeout (d : Bool)
  /-- PTP_MESSAGE_RECEIVED (R172). The lead's PTP instance takes a PTP message for its slave servo and best master choice. -/
  | ptpMessageReceived (port : Nat) (p : PtpMsg)
  /-- ANNOUNCE_RECEIPT_TIMEOUT (R172). An announce receipt time-out raises EV_136 and sends the domain's servo to HOLDOVER. -/
  | announceReceiptTimeout (d : Bool)
  /-- BRIDGE_COMPLETE (R173). The bridge offset ρ reaches 0 after a domain switch and EV_134 is raised. -/
  | bridgeComplete
  /-- LCH_CONFIG (R181). LCH_CONFIG sets mode, slots, periods, windows, guard and coast limit, after its range and fit checks. -/
  | lchConfig (r : Req)
  /-- LCH_START (R187). LCH_START puts the lead's Ephemeris in RUN and announces the first launch at once. -/
  | lchStart (r : Req)
  /-- LCH_STOP (R206). LCH_STOP fixes the last launch and puts the lead in STOPPING. -/
  | lchStop (r : Req)
  /-- SHREF_CONFIG (R194). SHREF_CONFIG configures a shutter reference input, its slot, divider and phase bounds. -/
  | shrefConfig (r : Req)
  /-- LCH_STATUS (R206). LCH_STATUS returns the launch state, latest and next launches, counts and servo error. -/
  | lchStatus (r : Req)
  /-- LAUNCH_ANNOUNCE (R188). At A(n+1) the lead announces the next launch in LNCH cells on every OPEN chain port and P6. -/
  | launchAnnounce
  /-- LNCH_REPEAT (R191). The lead sends the LNCH cell again 25 µs and 50 µs after each announcement. -/
  | lnchRepeat
  /-- STOPPING_END (R187). The last launch plus P_coast passes and the lead returns from STOPPING to IDLE. -/
  | stoppingEnd
  /-- LEAD_SUBFRAME_CUT (R193). A sub-frame whose last PIX cell would leave after L − GUARD is cut, counted and raises EV_198. -/
  | leadSubframeCut (chain slot frame : Nat)
  /-- LNCH_CELL_RECEIVED (R197). A tile takes each entry of an LNCH cell into its launch table or discards it with EV_197. -/
  | lnchCellReceived (m : Msg)
  /-- UNDERRUN_CHECK (R200). At L − GUARD the tile checks each slot's sub-frame and aborts incomplete ones with EV_193, repeating the previous frame if armed. -/
  | underrunCheck
  /-- LAUNCH (R203). At L the checked frames become current, staged changes take effect and the emission schedule restarts. -/
  | launch
  /-- MISSING_LAUNCH_DECISION (R204). At L(n) + PCOAST − 250 µs with no later launch held, the tile enters COAST if armed, otherwise WAIT, or WAIT when coasts are exhausted. -/
  | missingLaunchDecision
  /-- COAST_LAUNCH (R204). A coast launch falls at L(n) + PCOAST and repeats each slot's previous frame or is dark. -/
  | coastLaunch
  /-- TILE_STOP_PERIOD_END (R198). The period of the STOP launch ends and the tile's Ephemeris enters IDLE. -/
  | tileStopPeriodEnd
  /-- LCH_CNT_CLR (R208). A write of LCH_CNT_CLR clears the Ephemeris counters whose bits are set. -/
  | lchCntClr (data : Word)
  /-- INGEST_FRAME_RECEIVED (R211). An Ethernet frame on an ingest port is filtered and passed to ARP, IGMP, PTP, UDP commands or a stream, or discarded and counted. -/
  | ingestFrameReceived (port : Nat) (f : EthFrame)
  /-- ARP_REQUEST_RETRY (R212). An unanswered ARP request is repeated at 1 s spacing, and after 3 requests the waiting packet is dropped with EV_266. -/
  | arpRequestRetry
  /-- ARP_ENTRY_EXPIRY (R212). A resolved ARP entry expires 60 s after resolution. -/
  | arpEntryExpiry
  /-- STREAM_ENABLE (R214). A write setting ING_STRm_CTL.ENABLE is checked and, if accepted, starts the stream and its IGMP membership. -/
  | streamEnable (m : Nat) (ctl : Word)
  /-- STREAM_DISABLE (R214). A write clearing ENABLE stops the stream at once, keeping its last complete frame current. -/
  | streamDisable (m : Nat) (ctl : Word)
  /-- STREAM_PACKET_RECEIVED (R215). A stream RTP packet is merged across legs and de-packetised into the target surface. -/
  | streamPacketReceived (m leg : Nat) (p : RtpPkt)
  /-- PACKET_LOSS_DECLARED (R215). A sequence number with no copy DIFF_MAX after a higher number arrived is declared lost. -/
  | packetLossDeclared (m : Nat)
  /-- LEG_LOSS (R216). A leg with no packet for 10 ms is marked lost, clearing LEGn_OK and raising EV_258. -/
  | legLoss (m leg : Nat)
  /-- LOCK_WINDOW_END (R236). A locked stream's window closes without a frame, so no PIX data is sent for the covered tiles and EV_264 is raised. -/
  | lockWindowEnd (m : Nat)
  /-- ING_STR_CNT_CLR (R213). A write of ING_STRm_CNT_CLR clears the stream counters whose bits are set. -/
  | ingStrCntClr (m : Nat) (data : Word)
  /-- SURFACE_ALLOC (R219). SURFACE_ALLOC allocates, replaces or frees a surface after its region and colour checks. -/
  | surfaceAlloc (r : Req)
  /-- SURFACE_WRITE (R220). SURFACE_WRITE merges host bytes into the surface blocks it touches. -/
  | surfaceWrite (r : Req)
  /-- LAYER_CONFIG (R222). LAYER_CONFIG stages a layer's surface, placement, scaling and blend for the next launch. -/
  | layerConfig (r : Req)
  /-- FLIP (R231). FLIP accepts a flip group of layer surface changes, waiting on a fence if given. -/
  | flip (r : Req)
  /-- FENCE_SIGNAL (R232). FENCE_SIGNAL sets a fence value, which can make pending flip groups ready. -/
  | fenceSignal (r : Req)
  /-- FENCE_TIMEOUT (R234). A flip group not ready by TIMEOUT is discarded, or made ready if 0x0401 is armed. -/
  | fenceTimeout
  /-- MESH_LOAD (R225). MESH_LOAD writes a layer's pending warp mesh. -/
  | meshLoad (r : Req)
  /-- STREAM_CONFIG (R235). STREAM_CONFIG locks a stream to OCM line buffers or returns it to DRAM surfaces. -/
  | streamConfig (r : Req)
  /-- PROT_LAYER_SET (R238). PROT_LAYER_SET stages the protected layer's content and placement for the next launch. -/
  | protLayerSet (r : Req)
  /-- PROT_LAYER_CLEAR (R238). PROT_LAYER_CLEAR stages removal of the protected layer for the next launch. -/
  | protLayerClear (r : Req)
  /-- CMP_ENABLE (R230). A write setting CMP_CFG.ENABLE is checked against the output demand and the canvas before composition runs. -/
  | cmpEnable (cfg : Word)
  /-- COMPOSE_TILE (R229). A compositor pipe composes one tile's region for a slot and hands it to encoding. -/
  | composeTile (n slot chain pos : Nat)
  /-- CMP_CNT_CLR (R229). A write of CMP_CNT_CLR clears the compositor counters whose bits are set. -/
  | cmpCntClr (data : Word)
  /-- CODER_CONFIG (R251). CODER_CONFIG stages a chain's transport ratio and mode for the next launch. -/
  | coderConfig (r : Req)
  /-- CODER_STATUS (R269). CODER_STATUS returns chain configurations, slice load and coder counters. -/
  | coderStatus (r : Req)
  /-- ENCODE_SUBFRAME (R263). An encoder slice codes one tile sub-frame, checks it with its own decoder and releases it for transmission. -/
  | encodeSubframe (slice : Nat) (mismatch : Bool)
  /-- TRANSPORT_GROUP_DECODE (R262). Once its runs are authenticated, a tile decodes a block group and releases it only after C2 matches. -/
  | transportGroupDecode (slot frame group : Nat)
  /-- SURFACE_BLOCK_PACK (R260). A surface packer writes a completed block's slot and then its descriptor. -/
  | surfaceBlockPack (m block : Nat)
  /-- SURFACE_BLOCK_DECODE (R259). A decoder slice reads and decodes a surface block, reporting invalid blocks and BCRC failures. -/
  | surfaceBlockDecode (surface buffer block : Nat)
  /-- BCD_CNT_CLR (R268). A write of BCD_CNT_CLR clears the coder counters and BCD_SMAX as selected. -/
  | bcdCntClr (data : Word)
  /-- LPP_CONFIG (R296). LPP_CONFIG sets primaries, tile size, dither, regeneration period and reference compensation. -/
  | lppConfig (r : Req)
  /-- LUT_LOAD (R297). LUT_LOAD writes pending linearisation entries and can stage their commit. -/
  | lutLoad (r : Req)
  /-- ALMANAC_LOAD (R284). ALMANAC_LOAD writes bytes and the temperature of an Almanac set image. -/
  | almanacLoad (r : Req)
  /-- ALMANAC_ENABLE (R285). ALMANAC_ENABLE regenerates from a new set mask and stages it with the new active-set buffer. -/
  | almanacEnable (r : Req)
  /-- ZONE_READ (R298). ZONE_READ returns the 64 zone temperatures, flags and interpolation weights. -/
  | zoneRead (r : Req)
  /-- SUBFRAME_PROCESS_BEGIN (R272). The lamp pipeline begins a sub-frame in a FREE region, or discards it when its launch number is out of range. -/
  | subframeProcessBegin (slot frame : Nat)
  /-- SUBFRAME_WRITE_COMPLETE (R291). The last plane word of a sub-frame is written and its region becomes PENDING. -/
  | subframeWriteComplete (slot n corrected : Nat)
  /-- PIPELINE_CHECK_FAILURE (R295). An uncorrectable C3 error or datapath disagreement aborts the sub-frame and frees its region. -/
  | pipelineCheckFailure (slot n source : Nat) (disagree : Bool)
  /-- ZONE_STALE (R282). A zone with no fresh driver report becomes stale, keeping its temperature or falling back to the on-die mean if armed. -/
  | zoneStale (zone : Nat)
  /-- ALMANAC_REGENERATION_START (R286). Every REGEN × 100 ms the Almanac engine snapshots zone temperatures and starts regenerating the spare active set. -/
  | almanacRegenerationStart
  /-- ALMANAC_REGENERATION_COMPLETE (R286). A regeneration completes, increments LPP_ALM_SEQ and offers its buffer for swap. -/
  | almanacRegenerationComplete (c3 : Option Nat)
  /-- DEFERRED_CHANGE_REPLY (R293). A tile sends the held reply to a pipeline change once L − guard of every launch already begun has passed. -/
  | deferredChangeReply
  /-- LPP_CNT_CLR (R300). A write of LPP_CNT_CLR clears the lamp pipeline counters whose bits are set. -/
  | lppCntClr (data : Word)
  /-- EMS_CONFIG (R330). EMS_CONFIG sets planes, segments, timing, drivers per lane, banks and fill, after its fit checks. -/
  | emsConfig (r : Req)
  /-- EMIT_ENABLE (R331). EMIT_ENABLE sets the emit delay, starts LCLK, initialises and checks driver positions, then enables emission. -/
  | emitEnable (r : Req)
  /-- EMIT_DISABLE (R332). EMIT_DISABLE drives LBLANK_N low at once and stops the schedule. -/
  | emitDisable (r : Req)
  /-- SETUP_TRANSFER (R333). SETUP_TRANSFER queues a setup word transfer to the drivers of the selected banks. -/
  | setupTransfer (r : Req)
  /-- DRIVER_STATUS (R334). DRIVER_STATUS returns stored driver status words from EMS_DRV. -/
  | driverStatus (r : Req)
  /-- WINDOW_PRESHIFT (R309). Each bank begins shifting a window's first unit so that the shift ends at the window start. -/
  | windowPreshift (corrected : Nat)
  /-- UNIT_SHOW (R308). At show(j) a show latch puts unit j on the drivers' outputs. -/
  | unitShow (corrected : Nat)
  /-- DARK_LATCH (R308). At a unit's lit end with no back-to-back show, a dark latch closes every shunt. -/
  | darkLatch
  /-- FILL_START (R312). After the last window, fill passes of FILL_SLOT's frame begin at scale ×1. -/
  | fillStart (corrected : Nat)
  /-- WINDOW_CUT (R326). An uncorrectable plane-word error or C4 loopback mismatch blanks the rest of the window and counts the slot aborted. -/
  | windowCut (c4 : Bool) (lane : Nat)
  /-- STATUS_COLLECTION (R323). Every STAT_MS a collection transfer selects the next lane of each group for status return. -/
  | statusCollection
  /-- SETUP_TRANSFER_RUN (R324). A setup transfer runs in a free interval, ending with a setup pulse and returning the previously captured status words. -/
  | setupTransferRun (words : List (Nat × Nat × Nat))
  /-- SETUP_TRANSFER_DROP (R324). A setup transfer that finds no free interval within 1 s is dropped and raises EV_516. -/
  | setupTransferDrop
  /-- EMS_CNT_CLR (R335). A write of EMS_CNT_CLR clears the emission counters whose bits are set. -/
  | emsCntClr (data : Word)
  /-- MEM_CONFIG (R341). MEM_CONFIG powers and trains the DRAM channels and initialises DRAM or exits self-refresh. -/
  | memConfig (r : Req)
  /-- MEM_TRAINING_COMPLETE (R341). Training ends: the controller is enabled with channels in RUN, or a failed channel enters HOLD. -/
  | memTrainingComplete (failed : Option (Nat × Nat))
  /-- MEM_STATUS (R359). MEM_STATUS returns per-channel status, counters and the latest uncorrectable address. -/
  | memStatus (r : Req)
  /-- MEM_RELEASE (R355). MEM_RELEASE retrains a held channel and reissues its retry buffer, or returns it to OFF. -/
  | memRelease (r : Req)
  /-- SCRUB_CONFIG (R359). SCRUB_CONFIG sets the scrub pass period. -/
  | scrubConfig (r : Req)
  /-- DRAM_REQUEST_ISSUE (R346). A channel chooses and issues the next burst request by refresh, promotion, class and age. -/
  | dramRequestIssue (ch : Nat) (arrived : List MemReq)
  /-- REQUEST_PROMOTION (R347). A request older than its class age limit is promoted. -/
  | requestPromotion (ch : Nat)
  /-- DRAM_READ_COMPLETE (R356). A read burst returns and each word is checked, corrected with write-back or marked uncorrectable. -/
  | dramReadComplete (ch : Nat) (words : List Nat)
  /-- REFRESH_DUE (R349). A rank's REF falls due every tREFI and is issued or postponed. -/
  | refreshDue (ch rank : Nat)
  /-- RETRAIN_DUE (R350). Every 100 ms a channel's retraining falls due and waits for a quiet window. -/
  | retrainDue (ch : Nat)
  /-- RETRAIN_WINDOW (R350). A retraining window runs ZQ and delay training, keeping or discarding the results. -/
  | retrainWindow (ch : Nat) (badLane : Option Nat)
  /-- RETRAIN_FORCED (R350). A retraining deferred for 1 s runs regardless of backlog and raises EV_582. -/
  | retrainForced (ch : Nat) (badLane : Option Nat)
  /-- POWER_DOWN_ENTRY (R351). A rank idle for PD_IDLE clocks enters precharge power-down. -/
  | powerDownEntry (ch rank : Nat)
  /-- CA_PARITY_ALERT (R353). ALERT_n signals a parity error and the channel replays its retry buffer. -/
  | caParityAlert (ch : Nat)
  /-- SCRUB_READ (R357). The scrubber reads the next burst of the channel in class 2. -/
  | scrubRead (ch : Nat)
  /-- MEM_CH_CNT_CLR (R360). A write of MEM_CHn_CNT_CLR clears the channel counters whose bits are set. -/
  | memChCntClr (ch : Nat) (data : Word)
  /-- PAIR_CONFIG (R364). PAIR_CONFIG sets the pair partner, lease and ring chains and puts the lead in Takeover or Standby. -/
  | pairConfig (r : Req)
  /-- PAIR_STATUS (R384). PAIR_STATUS returns pair state, lease, sequence numbers and counters. -/
  | pairStatus (r : Req)
  /-- PAIR_HANDOVER (R375). PAIR_HANDOVER schedules a planned handover at instant H. -/
  | pairHandover (r : Req)
  /-- STATE_SAVE (R379). STATE_SAVE starts writing the mirrored state to boot flash as one journalled record. -/
  | stateSave (r : Req)
  /-- STATE_SAVE_COMPLETE (R379). The state record commits and STATE_SAVE completes with EV_19. -/
  | stateSaveComplete
  /-- STATE_RESTORE (R379). STATE_RESTORE starts loading the saved state record as a baseline. -/
  | stateRestore (r : Req)
  /-- STATE_RESTORE_COMPLETE (R379). The baseline load finishes and STATE_RESTORE completes with EV_19. -/
  | stateRestoreComplete
  /-- CLAIM_SEND (R364). During its claim window the lead sends a CLAIM every P_L. -/
  | claimSend
  /-- CLAIM_WINDOW_END (R364). A lead that has not yielded by the end of its claim window enters Active. -/
  | claimWindowEnd
  /-- CLAIM_RECEIVED (R364). A CLAIM makes an odd claiming lead yield to Standby, and a Standby lead answer with ACK. -/
  | claimReceived (m : Msg)
  /-- RENEW_SEND (R367). The Active lead sends a RENEW at each announcement or every P_L. -/
  | renewSend
  /-- RENEW_RECEIVED (R369). A RENEW is answered with ACK; a Standby records its receive time for the lease expiry, and a claiming lead yields. -/
  | renewReceived (m : Msg)
  /-- ACK_RECEIVED (R367). An ACK holds a renewal, binds the lead and reports the applied mirror sequence. -/
  | ackReceived (m : Msg)
  /-- LEASE_LAPSE (R367). A BOUND Active lead reaching D_a without renewal enters Lapsed and becomes inert. -/
  | leaseLapse
  /-- TAKEOVER_ATTEMPT (R370). At each P_L from expiry X, a Standby checks the takeover conditions. -/
  | takeoverAttempt (answered : List Nat)
  /-- TAKE_RECEIVED (R372). A tile adopts a valid TAKE, setting its lead epoch and applying the relay map. -/
  | takeReceived (m : Msg)
  /-- RMAP_RECEIVED (R380). A tile applies an RMAP, entering or leaving relay reception. -/
  | rmapReceived (m : Msg)
  /-- HANDOVER_START (R375). At H the Active lead stops announcing, flushes the mirror delta and sends HANDOVER. -/
  | handoverStart
  /-- HANDOVER_RECEIVED (R375). The Standby receiving HANDOVER performs the takeover at once. -/
  | handoverReceived (m : Msg)
  /-- MIRROR_DELTA_SEND (R377). Each P_L the Active lead sends a mirror delta of up to 4 MiB on P6. -/
  | mirrorDeltaSend
  /-- MIRROR_DELTA_APPLY (R377). The Standby applies a complete, authenticated delta in MSEQ order. -/
  | mirrorDeltaApply (d : MirrorDelta)
  /-- MIRROR_STALE (R377). No delta applied or acknowledged for LEASE × P_L makes the mirror stale and raises EV_773. -/
  | mirrorStale
  /-- PAI_CNT_CLR (R385). A write of PAI_CNT_CLR clears the pair counters whose bits are set. -/
  | paiCntClr (data : Word)
  /-- CAL_RUN (R394). CAL_RUN starts a two-pass calibration run of an IREF output, bank, LLAT, port or the reference. -/
  | calRun (r : Req)
  /-- SPARE_HANDOVER (R395). At a dark interval the spare IREF channel takes over, or releases, pin n. -/
  | spareHandover
  /-- CAL_RUN_COMPLETE (R397). A calibration run is accepted and stores its result, or is rejected, and completes with EV_19. -/
  | calRunComplete (spareA spareB passA passB tempA tempB : Int)
  /-- CAL_TRIM_LOAD (R403). CAL_TRIM_LOAD stages IREF set, LLAT or port trims to take effect at launch. -/
  | calTrimLoad (r : Req)
  /-- CAL_STATUS (R404). CAL_STATUS returns trims, temperatures, sets, codes and the latest run result. -/
  | calStatus (r : Req)
  /-- IREF_CODE_UPDATE (R393). The IREF codes are recomputed from the bank temperatures, at each launch or every 100 ms when idle. -/
  | irefCodeUpdate
  /-- REF_IN_COMPARE (R401). Every 100 ms REF_IN is compared with the bandgap, clearing REF_OK beyond 2 %. -/
  | refInCompare (diff : Int)
  /-- REF_SEL_WRITE (R401). A write changing REF_SEL switches the reference and clears every CVALID, or is refused while emission is enabled. -/
  | refSelWrite (data : Word)
  /-- IREF_TARGET_WRITE (R402). A write to CAL_IREF_TGTn stages a new target current for the next launch. -/
  | irefTargetWrite (n : Nat) (data : Word)
  /-- INTEGRATION_BOUNDARY (R411). Each island second, energy and lamp-hours are accumulated, MONO advances and the mailbox snapshot is rewritten. -/
  | integrationBoundary (samples : List (List (Int × Int))) (agreement : Nat)
  /-- SELF_CALIBRATION_START (R413). Every CAL_INT a channel begins self-calibration with the spare converter pair. -/
  | selfCalibrationStart (agreement : Nat)
  /-- CHECKPOINT (R423). Every 900 s the island checkpoints its accumulators in flash. -/
  | checkpoint
  /-- DUTY_SEND (R415). Once per second the main side sends a DUTY frame of zone duty to the island. -/
  | dutySend
  /-- DUTY_FRAME (R415). The island takes a DUTY frame into the zone lamp-hours at the next boundary. -/
  | dutyFrame (duty : List Nat) (inert crcOk : Bool)
  /-- LABEL_SEND (R417). Once per second Meridian sends a LABEL frame with the active derived time. -/
  | labelSend
  /-- LABEL_FRAME (R419). The island keeps a new label and writes a CLOCK_STEP record if it differs from the expected value by over 2 s. -/
  | labelFrame (time : Nat) (valid crcOk : Bool)
  /-- LOGSEL_FRAME (R408). A LOGSEL frame selects which records the mailbox log window shows. -/
  | logselFrame (rseq : Nat) (crcOk : Bool)
  /-- REQUEST_FRAME (R429). The island checks a sealed request and applies it, writing its result to MET_RSP. -/
  | requestFrame (payload : List Byte) (crcOk : Bool)
  /-- CRYSTAL_FAULT (R417). A crystal stopped for 4 ms puts the island on its internal oscillator with CLK_FAULT and a FAULT record. -/
  | crystalFault
  /-- MET_POWER_FAIL (R424). VDD_MET below its power-fail threshold makes the island finish flash work and write a POWER_FAIL record. -/
  | metPowerFail (mv : Nat)
  /-- MET_RESET_N_ASSERT (R425). MET_RESET_N asserted makes the island write a POWER_FAIL record and reset. -/
  | metResetNAssert
  /-- ISLAND_START (R425). At start the island restores its accumulators, writes a START record and resumes MONO. -/
  | islandStart (watchdog : Bool) (mv : Nat)
  /-- SEAL_CHANGE (R426). A debounced change of MET_SEAL_N updates SEALED and writes a SEAL record. -/
  | sealChange (low : Bool)
  /-- MAILBOX_POLL (R435). Every 100 ms the main side polls the mailbox and raises metrology relay events for the changes it observes. -/
  | mailboxPoll
  /-- MET_READ (R433). MET_READ returns mailbox words from one consistent snapshot. -/
  | metRead (r : Req)
  /-- MET_LOG_READ (R433). MET_LOG_READ returns signed island log records from a first RSEQ. -/
  | metLogRead (r : Req)
  /-- MET_SEALED (R428). MET_SEALED passes a sealed request to the island unchanged as a REQUEST frame. -/
  | metSealed (r : Req)
  /-- MET_SEALED_COMPLETE (R429). The island's response in MET_RSP completes MET_SEALED with EV_19 carrying its status. -/
  | metSealedComplete
  /-- MET_REQUEST_TIMEOUT (R433). The island does not answer within t_met_req and the command returns TIMEOUT. -/
  | metRequestTimeout
  /-- MET_IDENT (R433). MET_IDENT returns the island software identifier, firmware version, audit counter and seal state. -/
  | metIdent (r : Req)
  /-- ATTEST (R444). ATTEST returns a report of identity and state signed by the identity key. -/
  | attest (r : Req)
  /-- CRED_PROVISION (R441). CRED_PROVISION unseals and installs a credential or the domain group key and resets its replay state. -/
  | credProvision (r : Req)
  /-- CRED_REVOKE (R441). CRED_REVOKE empties a credential slot with its mask, replay state and floors. -/
  | credRevoke (r : Req)
  /-- CRED_PERM (R441). CRED_PERM sets a tenant slot's class mask. -/
  | credPerm (r : Req)
  /-- SESSION_KEY (R442). SESSION_KEY installs a tile session key, and the lead installs its copy when it relays the OK. -/
  | sessionKey (r : Req)
  /-- DEBUG_OPEN (R446). DEBUG_OPEN checks an authorisation to open or close the debug gate. -/
  | debugOpen (r : Req)
  /-- DEBUG_GATE_COMPLETE (R447). The gate change zeroises keys, programs the thermometer, derives new keys and completes with EV_19. -/
  | debugGateComplete
  /-- IMG_BEGIN (R457). IMG_BEGIN marks a slot INVALID and schedules its erase. -/
  | imgBegin (r : Req)
  /-- SLOT_ERASE_COMPLETE (R457). The slot erase finishes and waiting IMG_BLOCK writes proceed. -/
  | slotEraseComplete (ok : Bool)
  /-- IMG_BLOCK (R458). IMG_BLOCK writes image data into the open slot. -/
  | imgBlock (r : Req)
  /-- IMG_VERIFY (R460). IMG_VERIFY starts checking the written slot. -/
  | imgVerify (r : Req)
  /-- IMG_VERIFY_COMPLETE (R460). The slot is found VERIFIED or INVALID and IMG_VERIFY completes with EV_19. -/
  | imgVerifyComplete
  /-- IMG_ACTIVATE (R460). IMG_ACTIVATE commits the boot pointer for the next reset or a timed warm reset. -/
  | imgActivate (r : Req)
  /-- ACTIVATION_INSTANT (R460). At the activation instant the chip performs a warm reset into the new image. -/
  | activationInstant
  /-- IMG_ABORT (R461). IMG_ABORT closes an update, invalidates an unactivated slot or cancels a pending activation. -/
  | imgAbort (r : Req)
  /-- IMG_CONFIRM (R462). IMG_CONFIRM ends a trial boot, advancing ARB and revoking named roots. -/
  | imgConfirm (r : Req)
  /-- IMG_STATUS (R456). IMG_STATUS returns slot states, versions, update progress and the boot pointer. -/
  | imgStatus (r : Req)
  /-- PWR_SET (R469). PWR_SET replaces the forced-off mask of power domains. -/
  | pwrSet (r : Req)
  /-- SLEEP_PROPOSE (R485). SLEEP_PROPOSE broadcasts a Twilight proposal for a chain with entry time T. -/
  | sleepPropose (r : Req)
  /-- SLEEP_COMMIT (R485). SLEEP_COMMIT broadcasts the commit and makes the chain COMMITTED when every tile agrees. -/
  | sleepCommit (r : Req)
  /-- SLEEP_RESUME (R492). SLEEP_RESUME aborts a pending sleep or resumes a chain from Twilight. -/
  | sleepResume (r : Req)
  /-- PWR_STATUS (R495). PWR_STATUS returns domain states, reset cause, supplies, cores, Twilight state and temperature. -/
  | pwrStatus (r : Req)
  /-- TWILIGHT_ENTRY (R486). At T a committed tile becomes inert and powers down to beacon mode, and the lead stops sending on the chain. -/
  | twilightEntry
  /-- BEACON_SEND (R488). Every t_beacon a chip in beacon mode sends a plain beacon on lane 0. -/
  | beaconSend
  /-- PLAIN_BEACON_RECEIVED (R488). A plain beacon is accepted on a port in beacon mode, restarting its beacon-loss time. -/
  | plainBeaconReceived (port : Nat) (beacon : List Byte)
  /-- BEACON_LOSS (R489). No beacon for t_beacon_loss makes a tile latch a wake request. -/
  | beaconLoss (port : Nat)
  /-- WAKE_BEACON_RECEIVED (R491). A tile forwards a wake beacon upstream; the lead raises EV_42 and resumes the chain if 0x0E01 is armed. -/
  | wakeBeaconReceived (port : Nat) (beacon : List Byte)
  /-- RESUME_DWELL_END (R491). At T + DWELL a waiting resume of the chain may start. -/
  | resumeDwellEnd
  /-- RESUME_BEACON_REPEAT (R492). During a resume the lead sends a resume beacon every t_resume_rpt. -/
  | resumeBeaconRepeat
  /-- RESUME_BEACON_RECEIVED (R492). A tile with a matching epoch wakes, forwards the resume and powers and qualifies its ports. -/
  | resumeBeaconReceived (port : Nat) (beacon : List Byte)
  /-- TILE_RESUME_COMPLETE (R492). A woken tile, with its ports qualified, returns to its inertness at T and raises EV_43. -/
  | tileResumeComplete
  /-- EVT_READ (R542). EVT_READ returns held records by RSEQ or the current state of each source. -/
  | evtRead (r : Req)
  /-- EVT_CLEAR (R541). EVT_CLEAR resets the counts of a range of event sources. -/
  | evtClear (r : Req)
  /-- EVT_CONFIG (R541). EVT_CONFIG writes EVT_CFG and the event masks. -/
  | evtConfig (r : Req)
  /-- FAULT_EPOCH (R81). FAULT_EPOCH sets the lead's fault epoch carried in LNCH cells. -/
  | faultEpoch (r : Req)
  /-- EVT_SUBSCRIBE (R541). EVT_SUBSCRIBE starts or ends delivery of EVT_NOTIFY packets to a UDP host. -/
  | evtSubscribe (r : Req)
  /-- PLL_LOCK_REGAINED (R41). A main-side PLL that had lost lock locks again, setting its LOCK bit, after which a TIME domain can be made valid again (R149) and EMIT_ENABLE is no longer refused for an unlocked LAMP PLL (R326, R331). -/
  | pllLockRegained (pll : Nat)
  /-- CORE_RESTART_COMPLETE (R477). A management core that is restarting, automatically under arming identifier 0x0001, comes up serving within t_core_restart, PWR_CORE shows it running and EV_34 is raised with ARMED. -/
  | coreRestartComplete (core : Nat)
  /-- HANDOVER_ACK_TIMEOUT (R375). At a planned handover, the remaining mirror delta is not acknowledged within LEASE × P_L, so the lead stays Active and PAIR_HANDOVER completes with WRONG_STATE, DETAIL 0x0903. -/
  | handoverAckTimeout
  deriving DecidableEq, Repr

end Sys2Proof
end

