-- ==== Sys2Proof/Decode.lean ====
section
/-! DEFINITION. The commands that a word spells by the table's bits. No row of the table gives bits: the block takes its commands as events and
packets, whose own fields are read where their rows are (Transport, Link, Ingest). -/

namespace Sys2Proof

/-- The command that a word of so many bits spells: none, since no row of the table has an encoding. -/
def decodeTableWord (_nbits _w : Nat) : Option Instr := none

end Sys2Proof
end

