-- ==== Sys2Proof/Config.lean ====
section
/-! DEFINITION. What an implementation fixes, what stands in a unit's OTP, and the values the spec leaves open: constants without a
body, so that nothing can lean on a value of them. -/

namespace Sys2Proof.Config

/-- The value number `n` that the spec leaves open. -/
opaque freeValue : Nat → Nat

/-- The 128-bit unit ID in OTP, 16 bytes (R436, GLB_UNIT_ID0 to 3). -/
opaque unitId : Nat → Byte

/-- The path MTU towards an IPv4 address (R77): what the network in between lets through. -/
opaque pathMtu : Nat → Nat

/-- The source port identity of the unit's PTP messages, 10 bytes (R172). -/
opaque ptpIdentity : List Byte

/-- ROOT_SECRET in OTP, 32 bytes (R436). -/
opaque rootSecret : List Byte

/-- The per-message secret number that an ECDSA signature takes (R421, R444): the signer's own choice. -/
opaque signNonce : List Byte → Nat

/-- SHA-384 of image-signing root 0 to 3 in OTP (R436). -/
opaque imgRootHash : Nat → List Byte

/-- ID_CERT and MET_FPR0 in OTP (R436). -/
opaque idCert : List Byte
opaque metFpr0 : List Byte

/-- The OTP code behind VREQ of GLB_AVS (R503): 5 mV steps from 700 mV. -/
opaque vreqCode : Nat

/-- LLAT skew of a bank at a window phase, in 1/1,000,000 raw LSB, where the enabled banks have unequal divisors (R526); one LCLK period of the
largest bounds it. -/
opaque llatSkew : Nat → Nat → Int

/-- How far a unit's power-fail threshold of the 3.3 V or 1.8 V class lies from its nominal value, in mV; ±0.03 V or ±0.02 V bound it (R513). -/
opaque metTripOffset : Bool → Int

/-- The island's 128-bit unit ID in its OTP (R428). -/
opaque metUnit : Nat → Byte

/-- Public key of authority 0 to 3 in island OTP, if provisioned (R429). -/
opaque metKey : Nat → Option (List Byte)

/-- Does the permission mask of an authority include an RKIND (R429)? -/
opaque metPerm : Nat → Nat → Bool

/-- The island's identity private key, by the number of debug openings, which replace it (R421, R428). -/
opaque metPrivate : Nat → Nat

/-- Bytes of a firmware slot of the island's flash, the factory's image, and the version an image carries. -/
opaque metSlotSize : Nat
opaque metImage : List Byte
opaque metVersion : List Byte → Nat

/-- A factory trim in OTP, by register address (R399, R400). -/
opaque otpTrim : Nat → Nat

/-- The bytes of a mirror delta (R377): the source gives no layout of them. -/
opaque mirrorBody : Machine.MirrorDelta → List Byte

/-- The data bytes of a journal record (R379, R440, R450, R464), the key store's being encrypted: the source gives no layout of them. -/
opaque storeBytes : Machine.StoreData → List Byte

/-- The bytes that pad a journal record (R450). -/
opaque storePad : Nat → Byte

/-- Bytes of the boot flash beyond the 32 MiB it has at least (R449). -/
opaque flashMore : Nat

/-- The share of TX_DLY in a port's measured delay, in 1/65,536 (R399): a ratio in OTP. -/
opaque portSplit : Nat → Nat

/-- Word `k` of coefficient bank 0 (R224): the reset value of the compositor's coefficient banks. -/
opaque coefBank0 : Nat → Nat

/-- Tap k of the fixed 4-tap filter that brings co-sited 4:2:2 chroma to the pixels between its sites (R224), in 1/256. -/
opaque chromaTap : Nat → Int

/-- What one layer gives one pixel (R224 to R227): whether it is unscaled and without a mesh, format and colour codes, opacity, gain, L_W, the
coefficients of both axes in 1/512, and the 8 × 8 taps, each with its components in 1/256 of a code. -/
structure LayerIn where
  plain : Bool
  fmt : Nat
  colour : Nat
  alpha : Nat
  gain : Nat
  lw : Nat
  coefX : List Int
  coefY : List Int
  taps : List (List Int)
  deriving DecidableEq, Repr

/-- By how far an output code, by component, lies off exact arithmetic within the tolerance of R228. -/
opaque codeError : Nat × Nat × Nat → List LayerIn → Nat → Nat

/-- Light of an encoded value outside 0 to 1 (R226), by transfer function: the source states none. -/
opaque beyondCurve : Bool → Int → Nat

/-- The nominal peak used for an LW outside 100 to 10,000 (R222, R226), which only a flip can bring about. -/
opaque hlgPeak : Nat → Nat

end Sys2Proof.Config
end

