-- ==== Sys2Proof/Machine/Bytes.lean ====
section
/-! DEFINITION. Byte strings: big-endian fields (R10), the check codes of the spec (R47, R113, R319), bit fields of words. -/

namespace Sys2Proof.Machine

/-! ### Big-endian fields (R10) -/

/-- The number a big-endian byte string spells. -/
def beNat : List Byte → Nat
  | [] => 0
  | b :: bs => b.toNat * 256 ^ bs.length + beNat bs

/-- `n` bytes of a number, most significant first. -/
def beBytes : Nat → Nat → List Byte
  | 0, _ => []
  | n + 1, v => BitVec.ofNat 8 (v / 256 ^ n) :: beBytes n v

/-- `n` bytes of a byte string from offset `o`. -/
def slice (bs : List Byte) (o n : Nat) : List Byte := (bs.drop o).take n

/-- The last `n` elements of a list. -/
def lastOf {α : Type} (n : Nat) (l : List α) : List α := (l.reverse.take n).reverse

/-- The number in the `n` bytes at offset `o`. -/
def fieldAt (bs : List Byte) (o n : Nat) : Nat := beNat (slice bs o n)

/-- Byte `o` as a number. -/
def u8 (bs : List Byte) (o : Nat) : Nat := fieldAt bs o 1
/-- Bytes `o`, `o+1`. -/
def u16 (bs : List Byte) (o : Nat) : Nat := fieldAt bs o 2
/-- Three bytes. -/
def u24 (bs : List Byte) (o : Nat) : Nat := fieldAt bs o 3
/-- Four bytes. -/
def u32 (bs : List Byte) (o : Nat) : Nat := fieldAt bs o 4
/-- Eight bytes. -/
def u64 (bs : List Byte) (o : Nat) : Nat := fieldAt bs o 8

/-- Two bytes of a number. -/
def b2 (v : Nat) : List Byte := beBytes 2 v
/-- Four bytes of a number. -/
def b4 (v : Nat) : List Byte := beBytes 4 v
/-- Eight bytes of a number. -/
def b8 (v : Nat) : List Byte := beBytes 8 v
/-- One byte of a number. -/
def b1 (v : Nat) : List Byte := beBytes 1 v

/-- The 32-bit words of a byte string, in order. -/
def words32 : List Byte → List Word
  | a :: b :: c :: d :: t => BitVec.ofNat 32 (beNat [a, b, c, d]) :: words32 t
  | _ => []

/-- The bytes of a list of words. -/
def wordBytes : List Word → List Byte
  | [] => []
  | w :: ws => b4 w.toNat ++ wordBytes ws

/-- `n` zero bytes. -/
def zeros (n : Nat) : List Byte := List.replicate n 0

/-- `bs` cut or filled with zeros to exactly `n` bytes. -/
def fit (n : Nat) (bs : List Byte) : List Byte := (bs ++ zeros n).take n

/-- Overwrite the bytes of `bs` from offset `o` with `new` (the string grows with zeros where it is shorter). -/
def splice (bs : List Byte) (o : Nat) (new : List Byte) : List Byte :=
  fit o bs ++ new ++ bs.drop (o + new.length)

/-! ### Bit fields -/

/-- Bits `hi:lo` of a word, as a number. -/
def bitsOf (w : Nat) (hi lo : Nat) : Nat := w / 2 ^ lo % 2 ^ (hi + 1 - lo)

/-- Bit `i` of a number. -/
def bitOf (w i : Nat) : Bool := w.testBit i

/-- `w` with bits `hi:lo` set to `v`. -/
def setBits (w : Nat) (hi lo v : Nat) : Nat :=
  w - bitsOf w hi lo * 2 ^ lo + v % 2 ^ (hi + 1 - lo) * 2 ^ lo

/-- 1 for true. -/
def bn (b : Bool) : Nat := if b then 1 else 0

/-- The number of ones among the lowest `n` bits. -/
def popCount : Nat → Nat → Nat
  | 0, _ => 0
  | n + 1, w => w % 2 + popCount n (w / 2)

/-- Two's complement reading of an `n`-bit number. -/
def signed (n v : Nat) : Int := if v < 2 ^ (n - 1) then (v : Int) else (v : Int) - (2 ^ n : Nat)

/-- The `n`-bit two's complement pattern of an integer. -/
def unsigned (n : Nat) (v : Int) : Nat := (v % ((2 ^ n : Nat) : Int)).toNat

/-- Clamp to a range. -/
def clampNat (lo hi v : Nat) : Nat := max lo (min hi v)
/-- Clamp to a range. -/
def clampInt (lo hi v : Int) : Int := max lo (min hi v)

/-- Round `a / b` to the nearest integer, an exact half away from zero (R536). -/
def roundDiv (a : Int) (b : Nat) : Int :=
  if a < 0 then -(((-a) * 2 + b) / (2 * (b : Int))) else (a * 2 + b) / (2 * (b : Int))

/-- Natural-number form of `roundDiv` (R536: rounding a half upward). -/
def roundDivN (a b : Nat) : Nat := (2 * a + b) / (2 * b)

/-- Add 1, stopping at the largest 32-bit value. -/
def satInc (w : Word) : Word := if w = 0xFFFFFFFF#32 then w else w + 1

/-- Add, stopping at the largest 32-bit value. -/
def satAdd (w : Word) (n : Nat) : Word := BitVec.ofNat 32 (min 0xFFFFFFFF (w.toNat + n))

/-! ### Check codes -/

/-- One bit step of the reflected CRC-32C (polynomial 0x1EDC6F41, reflected 0x82F63B78). -/
def crc32cBit (c : Nat) : Nat := if c % 2 = 1 then (c / 2) ^^^ 0x82F63B78 else c / 2

/-- `n` applications of a function. -/
def iter {α : Type} : Nat → (α → α) → α → α
  | 0, _, x => x
  | n + 1, f, x => iter n f (f x)

/-- One byte of the reflected CRC-32C. -/
def crc32cByte (c : Nat) (b : Byte) : Nat := iter 8 crc32cBit (c ^^^ b.toNat)

/-- CRC-32C (R47): bit-reflected, initial value and final XOR all ones. -/
def crc32c (bs : List Byte) : Nat := bs.foldl crc32cByte 0xFFFFFFFF ^^^ 0xFFFFFFFF

/-- One bit step of an MSB-first CRC of width `w` with polynomial `poly`. -/
def crcBit (w poly c : Nat) : Nat :=
  if c.testBit (w - 1) then (c * 2 % 2 ^ w) ^^^ poly else c * 2 % 2 ^ w

/-- One byte of an MSB-first CRC of width `w`. -/
def crcByte (w poly c : Nat) (b : Byte) : Nat := iter 8 (crcBit w poly) (c ^^^ (b.toNat * 2 ^ (w - 8)))

/-- CRC-16 of a coder block group, check stage C2 (R262): polynomial 0x1021, initial value 0xFFFF. -/
def crc16 (bs : List Byte) : Nat := bs.foldl (crcByte 16 0x1021) 0xFFFF

/-- CRC-8 with polynomial 0x07 (R113, R488), initial value 0. -/
def crc8 (bs : List Byte) : Nat := bs.foldl (crcByte 8 0x07) 0

/-- CRC-8 of the lamp port, check stage C4 (R319): polynomial 0x2F, initial value 0xFF, final XOR 0xFF. -/
def crc8Lamp (bs : List Byte) : Nat := bs.foldl (crcByte 8 0x2F) 0xFF ^^^ 0xFF

/-- Exclusive or of two byte strings (check-code stomps, R134). -/
def xorBytes (a b : List Byte) : List Byte := List.zipWith (· ^^^ ·) a b

end Sys2Proof.Machine
end

