-- ==== Sys2Proof/Machine/Aes.lean ====
section
/-! DEFINITION. AES-256 (FIPS 197) and the Galois/counter mode of NIST SP 800-38D, which the spec names for cells (R126), sealed keys (R439)
and the key store (R440): a 96-bit IV and a 128-bit tag. -/

namespace Sys2Proof.Machine

/-! ### AES-256 -/

/-- The substitution box, entry 0 first. -/
def sboxBits : Nat :=
  0x637C777BF26B6FC53001672BFED7AB76CA82C97DFA5947F0ADD4A2AF9CA472C0B7FD9326363FF7CC34A5E5F171D8311504C723C31896059A071280E2EB27B275 * 2 ^ 1536 +
  0x09832C1A1B6E5AA0523BD6B329E32F8453D100ED20FCB15B6ACBBE394A4C58CFD0EFAAFB434D338545F9027F503C9FA851A3408F929D38F5BCB6DA2110FFF3D2 * 2 ^ 1024 +
  0xCD0C13EC5F974417C4A77E3D645D197360814FDC222A908846EEB814DE5E0BDBE0323A0A4906245CC2D3AC629195E479E7C8376D8DD54EA96C56F4EA657AAE08 * 2 ^ 512 +
  0xBA78252E1CA6B4C6E8DD741F4BBD8B8A703EB5664803F60E613557B986C11D9EE1F8981169D98E949B1E87E9CE5528DF8CA1890DBFE6426841992D0FB054BB16

/-- Substitute one byte. -/
def subByte (b : Nat) : Nat := sboxBits >>> (8 * (255 - b)) % 256

/-- Multiply by x in the field of the cipher. -/
def xtime (b : Nat) : Nat := (b * 2 % 256) ^^^ (if 128 ≤ b then 0x1B else 0)

/-- Substitute the four bytes of a word. -/
def subWord (w : Nat) : Nat :=
  subByte (w / 2 ^ 24 % 256) * 2 ^ 24 + subByte (w / 2 ^ 16 % 256) * 2 ^ 16 + subByte (w / 2 ^ 8 % 256) * 2 ^ 8 + subByte (w % 256)

/-- Extend the key schedule, which is held newest first: `i` is the number of the next word, `rc` the next round constant. -/
def expandKey : Nat → Nat → Nat → List Nat → List Nat
  | 0, _, _, ws => ws
  | n + 1, i, rc, ws =>
    let t := ws.getD 0 0
    let u := if i % 8 = 0 then subWord (t * 2 ^ 8 % 2 ^ 32 + t / 2 ^ 24) ^^^ rc * 2 ^ 24 else if i % 8 = 4 then subWord t else t
    expandKey n (i + 1) (if i % 8 = 0 then xtime rc else rc) ((ws.getD 7 0 ^^^ u) :: ws)

/-- The bytes of `n` words. -/
def wordsBytes (ws : List Nat) : List Nat := ws.flatMap (fun w => [w / 2 ^ 24 % 256, w / 2 ^ 16 % 256, w / 2 ^ 8 % 256, w % 256])

/-- The round keys of a 32-byte key, sixteen bytes each. -/
def roundKeys : Nat → List Nat → List (List Nat)
  | 0, _ => []
  | n + 1, b => b.take 16 :: roundKeys n (b.drop 16)

/-- The fifteen round keys of AES-256. -/
def aesKeys (key : List Byte) : List (List Nat) :=
  roundKeys 15 (wordsBytes (expandKey 52 8 1 ((List.range 8).map (fun k => u32 key (4 * k))).reverse).reverse)

/-- Shift the rows of a state held column by column. -/
def shiftRows (s : List Nat) : List Nat := (List.range 16).map (fun i => s.getD ((i + 4 * (i % 4)) % 16) 0)

/-- Mix the columns. -/
def mixColumns : List Nat → List Nat
  | a :: b :: c :: d :: s =>
    let m (p q r t : Nat) : Nat := xtime p ^^^ xtime q ^^^ q ^^^ r ^^^ t
    m a b c d :: m b c d a :: m c d a b :: m d a b c :: mixColumns s
  | _ => []

/-- The rounds after the first key was added; the last one mixes no columns. -/
def aesRounds : List (List Nat) → List Nat → List Nat
  | [], s => s
  | [k], s => List.zipWith (· ^^^ ·) (shiftRows (s.map subByte)) k
  | k :: ks, s => aesRounds ks (List.zipWith (· ^^^ ·) (mixColumns (shiftRows (s.map subByte))) k)

/-- One block under a key schedule. -/
def aesBlock (ks : List (List Nat)) (b : List Byte) : List Byte :=
  match ks with
  | k :: ks => (aesRounds ks (List.zipWith (· ^^^ ·) (b.map BitVec.toNat) k)).map (BitVec.ofNat 8)
  | [] => b

/-! ### Galois/counter mode -/

/-- The product in the field of GHASH, bit by bit of the first factor from its most significant one. -/
def ghashMul : Nat → Nat → Nat → Nat → Nat
  | 0, _, _, z => z
  | n + 1, x, v, z =>
    ghashMul n x (if v % 2 = 1 then (v / 2) ^^^ 0xE1 * 2 ^ 120 else v / 2) (if x.testBit n then z ^^^ v else z)

/-- Fold the 16-byte blocks of a byte string into a hash value. -/
def ghash (h : Nat) : Nat → List Byte → Nat → Nat
  | 0, _, y => y
  | n + 1, b, y => ghash h n (b.drop 16) (ghashMul 128 (y ^^^ beNat (fit 16 b)) h 0)

/-- The key stream from a counter value on. -/
def gcmStream (ks : List (List Nat)) (iv : List Byte) : Nat → Nat → List Byte
  | 0, _ => []
  | n + 1, c => aesBlock ks (fit 12 iv ++ beBytes 4 c) ++ gcmStream ks iv n (c + 1)

/-- Blocks of 16 bytes that a byte string fills. -/
def blocks16 (b : List Byte) : Nat := (b.length + 15) / 16

/-- The tag of additional data and ciphertext. -/
def gcmTagOf (ks : List (List Nat)) (iv aad ct : List Byte) : List Byte :=
  let h := beNat (aesBlock ks (zeros 16))
  let y := ghash h (blocks16 ct) ct (ghash h (blocks16 aad) aad 0)
  let z := ghash h 1 (b8 (8 * aad.length) ++ b8 (8 * ct.length)) y
  xorBytes (beBytes 16 z) (gcmStream ks iv 1 1)

/-- The ciphertext of AES-256-GCM. -/
@[irreducible] def gcmSeal (key iv _aad pt : List Byte) : List Byte := xorBytes pt (gcmStream (aesKeys key) iv (blocks16 pt) 2)

/-- The tag of the same sealing. -/
@[irreducible] def gcmTag (key iv aad pt : List Byte) : List Byte := gcmTagOf (aesKeys key) iv aad (gcmSeal key iv aad pt)

/-- Opening: the plaintext, if the tag verifies. -/
@[irreducible] def gcmOpen (key iv aad ct tag : List Byte) : Option (List Byte) :=
  if gcmTagOf (aesKeys key) iv aad ct = tag then some (gcmSeal key iv aad ct) else none

end Sys2Proof.Machine
end

