-- ==== Sys2Proof/Machine/Hash.lean ====
section
/-! DEFINITION. The hash functions the spec names (R62, R436, R438, R439): SHA-256 and SHA-384 as FIPS 180-4 defines them, HMAC as FIPS 198-1
and HKDF as RFC 5869 do. Words are natural numbers below 2^32 or 2^64. -/

namespace Sys2Proof.Machine

/-! ### SHA-2 -/

/-- A SHA-2 function: bits in a word, the round constants, the rotations of the two sums and of the two schedule functions (the last of
which shifts), the initial hash value and the bytes of the digest. -/
structure Sha2 where
  w : Nat
  ks : List Nat
  sum0 : Nat × Nat × Nat
  sum1 : Nat × Nat × Nat
  sig0 : Nat × Nat × Nat
  sig1 : Nat × Nat × Nat
  iv : List Nat
  out : Nat

/-- Rotate a word of `w` bits to the right. -/
def rotr (w x n : Nat) : Nat := (x >>> n ||| x <<< (w - n)) % 2 ^ w

/-- Three rotations, added without carry. -/
def Sha2.sum (h : Sha2) (r : Nat × Nat × Nat) (x : Nat) : Nat := rotr h.w x r.1 ^^^ rotr h.w x r.2.1 ^^^ rotr h.w x r.2.2

/-- Two rotations and a shift. -/
def Sha2.sig (h : Sha2) (r : Nat × Nat × Nat) (x : Nat) : Nat := rotr h.w x r.1 ^^^ rotr h.w x r.2.1 ^^^ x >>> r.2.2

/-- The next words of a message schedule, which is held newest first. -/
def Sha2.expand (h : Sha2) : Nat → List Nat → List Nat
  | 0, ws => ws
  | n + 1, ws =>
    h.expand n ((h.sig h.sig1 (ws.getD 1 0) + ws.getD 6 0 + h.sig h.sig0 (ws.getD 14 0) + ws.getD 15 0) % 2 ^ h.w :: ws)

/-- One round on the eight working variables, with its constant and its schedule word. -/
def Sha2.round (h : Sha2) (v : List Nat) (kw : Nat × Nat) : List Nat :=
  match v with
  | [a, b, c, d, e, f, g, i] =>
    let t1 := i + h.sum h.sum1 e + ((e &&& f) ^^^ ((2 ^ h.w - 1 - e) &&& g)) + kw.1 + kw.2
    let t2 := h.sum h.sum0 a + ((a &&& b) ^^^ (a &&& c) ^^^ (b &&& c))
    [(t1 + t2) % 2 ^ h.w, a, b, c, (d + t1) % 2 ^ h.w, e, f, g]
  | _ => v

/-- One block of sixteen words. -/
def Sha2.block (h : Sha2) (hv m : List Nat) : List Nat :=
  let ws := (h.expand (h.ks.length - 16) m.reverse).reverse
  List.zipWith (fun x y => (x + y) % 2 ^ h.w) hv ((h.ks.zip ws).foldl h.round hv)

/-- The words of a byte string. -/
def beWords (n : Nat) : Nat → List Byte → List Nat
  | 0, _ => []
  | k + 1, b => beNat (b.take n) :: beWords n k (b.drop n)

/-- The blocks of a padded message. -/
def Sha2.blocks (h : Sha2) : Nat → List Byte → List Nat → List Nat
  | 0, _, hv => hv
  | k + 1, b, hv => h.blocks k (b.drop (2 * h.w)) (h.block hv (beWords (h.w / 8) 16 b))

/-- The digest of a byte string: a one bit, zeros, and the length in bits in the last two words. -/
def Sha2.digest (h : Sha2) (b : List Byte) : List Byte :=
  let blk := 2 * h.w
  let n := (b.length + 1 + h.w / 4 + blk - 1) / blk
  let pad := b ++ b1 0x80 ++ zeros (n * blk - b.length - 1 - h.w / 4) ++ beBytes (h.w / 4) (8 * b.length)
  ((h.blocks n pad h.iv).flatMap (beBytes (h.w / 8))).take h.out

/-- The words of `n` digits each that a number spells, most significant first. -/
def splitWords (w : Nat) : Nat → Nat → List Nat
  | 0, _ => []
  | n + 1, v => v / 2 ^ (w * n) % 2 ^ w :: splitWords w n v

/-- The eighty round constants of the 64-bit functions. -/
def sha512K : List Nat :=
  splitWords 64 8 0x428A2F98D728AE227137449123EF65CDB5C0FBCFEC4D3B2FE9B5DBA58189DBBC3956C25BF348B53859F111F1B605D019923F82A4AF194F9BAB1C5ED5DA6D8118 ++
  splitWords 64 8 0xD807AA98A303024212835B0145706FBE243185BE4EE4B28C550C7DC3D5FFB4E272BE5D74F27B896F80DEB1FE3B1696B19BDC06A725C71235C19BF174CF692694 ++
  splitWords 64 8 0xE49B69C19EF14AD2EFBE4786384F25E30FC19DC68B8CD5B5240CA1CC77AC9C652DE92C6F592B02754A7484AA6EA6E4835CB0A9DCBD41FBD476F988DA831153B5 ++
  splitWords 64 8 0x983E5152EE66DFABA831C66D2DB43210B00327C898FB213FBF597FC7BEEF0EE4C6E00BF33DA88FC2D5A79147930AA72506CA6351E003826F142929670A0E6E70 ++
  splitWords 64 8 0x27B70A8546D22FFC2E1B21385C26C9264D2C6DFC5AC42AED53380D139D95B3DF650A73548BAF63DE766A0ABB3C77B2A881C2C92E47EDAEE692722C851482353B ++
  splitWords 64 8 0xA2BFE8A14CF10364A81A664BBC423001C24B8B70D0F89791C76C51A30654BE30D192E819D6EF5218D69906245565A910F40E35855771202A106AA07032BBD1B8 ++
  splitWords 64 8 0x19A4C116B8D2D0C81E376C085141AB532748774CDF8EEB9934B0BCB5E19B48A8391C0CB3C5C95A634ED8AA4AE3418ACB5B9CCA4F7763E373682E6FF3D6B2B8A3 ++
  splitWords 64 8 0x748F82EE5DEFB2FC78A5636F43172F6084C87814A1F0AB728CC702081A6439EC90BEFFFA23631E28A4506CEBDE82BDE9BEF9A3F7B2C67915C67178F2E372532B ++
  splitWords 64 8 0xCA273ECEEA26619CD186B8C721C0C207EADA7DD6CDE0EB1EF57D4F7FEE6ED17806F067AA72176FBA0A637DC5A2C898A6113F9804BEF90DAE1B710B35131C471B ++
  splitWords 64 8 0x28DB77F523047D8432CAAB7B40C724933C9EBE0A15C9BEBC431D67C49C100D4C4CC5D4BECB3E42B6597F299CFC657E2A5FCB6FAB3AD6FAEC6C44198C4A475817

/-- SHA-256: its round constants are the upper halves of the first sixty-four. -/
def sha2of256 : Sha2 :=
  { w := 32, ks := (sha512K.take 64).map (· / 2 ^ 32), sum0 := (2, 13, 22), sum1 := (6, 11, 25), sig0 := (7, 18, 3), sig1 := (17, 19, 10),
    iv := splitWords 32 8 0x6A09E667BB67AE853C6EF372A54FF53A510E527F9B05688C1F83D9AB5BE0CD19, out := 32 }

/-- SHA-384. -/
def sha2of384 : Sha2 :=
  { w := 64, ks := sha512K, sum0 := (28, 34, 39), sum1 := (14, 18, 41), sig0 := (1, 8, 7), sig1 := (19, 61, 6),
    iv := splitWords 64 4 0xCBBB9D5DC1059ED8629A292A367CD5079159015A3070DD17152FECD8F70E5939 ++
      splitWords 64 4 0x67332667FFC00B318EB44A8768581511DB0C2E0D64F98FA747B5481DBEFA4FA4, out := 48 }

/-- SHA-256. -/
@[irreducible] def sha256 (b : List Byte) : List Byte := sha2of256.digest b

/-- SHA-384. -/
@[irreducible] def sha384 (b : List Byte) : List Byte := sha2of384.digest b

/-! ### HMAC and HKDF -/

/-- HMAC over a hash with blocks of `blk` bytes. -/
def hmac (hash : List Byte → List Byte) (blk : Nat) (key msg : List Byte) : List Byte :=
  let k := fit blk (if blk < key.length then hash key else key)
  hash (k.map (· ^^^ 0x5C#8) ++ hash (k.map (· ^^^ 0x36#8) ++ msg))

/-- HMAC-SHA-256 (R62). -/
def hmacSha256 (key msg : List Byte) : List Byte := hmac sha256 64 key msg

/-- The output blocks of HKDF's expansion. -/
def hkdfExpand (prk info : List Byte) : Nat → Nat → List Byte → List Byte
  | 0, _, _ => []
  | n + 1, i, t =>
    let t' := hmac sha384 128 prk (t ++ info ++ b1 i)
    t' ++ hkdfExpand prk info n (i + 1) t'

/-- HKDF-SHA-384: `n` bytes from input key material, salt and info (R438, R439). -/
def hkdfSha384 (n : Nat) (ikm salt info : List Byte) : List Byte :=
  (hkdfExpand (hmac sha384 128 salt ikm) info ((n + 47) / 48) 1 []).take n

end Sys2Proof.Machine
end

