-- ==== Sys2Proof/Machine/Curve.lean ====
section
/-! DEFINITION. The curve P-384 and ECDSA over it (FIPS 186-5, SEC 1), which the spec names for identities, images, debug, the metrology
island and sealed keys (R421, R428, R438, R439, R444, R446, R453). Points stand in Jacobian coordinates with Z = 0 for the neutral element. -/

namespace Sys2Proof.Machine

/-- The prime of the field. -/
def p384 : Nat := 2 ^ 384 - 2 ^ 128 - 2 ^ 96 + 2 ^ 32 - 1
/-- The coefficient b of y² = x³ - 3x + b. -/
def b384 : Nat := 0xB3312FA7E23EE7E4988E056BE3F82D19181D9C6EFE8141120314088F5013875AC656398D8A2ED19D2A85C8EDD3EC2AEF
/-- The order of the base point. -/
def n384 : Nat := 0xFFFFFFFFFFFFFFFFFFFFFFFFFFFFFFFFFFFFFFFFFFFFFFFFC7634D81F4372DDF581A0DB248B0A77AECEC196ACCC52973
/-- The base point. -/
def g384 : Nat × Nat :=
  (0xAA87CA22BE8B05378EB1C71EF320AD746E1D3B628BA79B9859F741E082542A385502F25DBF55296C3A545E3872760AB7,
   0x3617DE4A96262C6F5D9E98BF9292DC29F8F41DBD289A147CE9DA3113B5F0B8C00A60B1CE1D7E819D7A431D7C90EA0E5F)

/-- A power modulo m: `n` bits of the exponent from bit n - 1 down. -/
def powMod (m b e : Nat) : Nat → Nat
  | 0 => 1 % m
  | n + 1 =>
    let r := powMod m b (e / 2) n
    r * r % m * (if e % 2 = 1 then b else 1) % m

/-- The inverse modulo a prime of at most 384 bits. -/
def invMod (m a : Nat) : Nat := powMod m (a % m) (m - 2) 384

/-- A point in Jacobian coordinates. -/
abbrev Jac := Nat × Nat × Nat

/-- Difference in the field. -/
def subP (a b : Nat) : Nat := (a + p384 - b) % p384

/-- Double a point. -/
def jacDouble (q : Jac) : Jac :=
  let (x, y, z) := q
  if z = 0 ∨ y = 0 then (1, 1, 0)
  else
    let zz := z * z % p384
    let m := 3 * subP x zz * ((x + zz) % p384) % p384
    let yy := y * y % p384
    let s := 4 * x * yy % p384
    let x' := subP (m * m % p384) (2 * s % p384)
    (x', subP (m * subP s x' % p384) (8 * yy * yy % p384), 2 * y * z % p384)

/-- Add two points. -/
def jacAdd (q r : Jac) : Jac :=
  let (x1, y1, z1) := q
  let (x2, y2, z2) := r
  if z1 = 0 then r else if z2 = 0 then q
  else
    let u1 := x1 * z2 % p384 * z2 % p384
    let u2 := x2 * z1 % p384 * z1 % p384
    let s1 := y1 * z2 % p384 * z2 % p384 * z2 % p384
    let s2 := y2 * z1 % p384 * z1 % p384 * z1 % p384
    let h := subP u2 u1
    let d := subP s2 s1
    if h = 0 then (if d = 0 then jacDouble q else (1, 1, 0))
    else
      let h2 := h * h % p384
      let h3 := h2 * h % p384
      let v := u1 * h2 % p384
      let x := subP (subP (d * d % p384) h3) (2 * v % p384)
      (x, subP (d * subP v x % p384) (s1 * h3 % p384), h * z1 % p384 * z2 % p384)

/-- A multiple of a point: bits n - 1 to 0 of the factor. -/
def jacMul (k : Nat) (q : Jac) : Nat → Jac
  | 0 => (1, 1, 0)
  | n + 1 =>
    let r := jacDouble (jacMul (k / 2) q n)
    if k % 2 = 1 then jacAdd r q else r

/-- The affine coordinates, unless it is the neutral element. -/
def jacAffine (q : Jac) : Option (Nat × Nat) :=
  let (x, y, z) := q
  if z = 0 then none
  else
    let i := invMod p384 z
    let i2 := i * i % p384
    some (x * i2 % p384, y * i2 % p384 * i % p384)

/-- Is an affine point on the curve? -/
def onCurve (x y : Nat) : Bool :=
  decide (x < p384) && decide (y < p384) && y * y % p384 == (x * x % p384 * x + b384 + (p384 - x) * 3) % p384

/-- X then Y of a point, 48 bytes each. -/
def pointBytes (q : Nat × Nat) : List Byte := beBytes 48 q.1 ++ beBytes 48 q.2

/-- The public part of a private key. -/
@[irreducible] def publicKey (d : Nat) : List Byte :=
  match jacAffine (jacMul d (g384.1, g384.2, 1) 384) with
  | some q => pointBytes q
  | none => zeros 96

/-- The X coordinate of an ECDH agreement with a public point, where that lies on the curve (R439). -/
@[irreducible] def ecdhX (d : Nat) (pub : List Byte) : Option (List Byte) :=
  let x := fieldAt pub 0 48
  let y := fieldAt pub 48 48
  if onCurve x y then (jacAffine (jacMul d (x, y, 1) 384)).map (fun q => beBytes 48 q.1) else none

/-- ECDSA over the SHA-384 of a message: does a signature, r then s, verify under a public key? -/
@[irreducible] def ecdsaOk (pub msg sig : List Byte) : Bool :=
  let x := fieldAt pub 0 48
  let y := fieldAt pub 48 48
  let r := fieldAt sig 0 48
  let s := fieldAt sig 48 48
  let w := invMod n384 s
  let e := beNat (sha384 msg)
  onCurve x y && decide (0 < r) && decide (r < n384) && decide (0 < s) && decide (s < n384) &&
    (match jacAffine (jacAdd (jacMul (e * w % n384) (g384.1, g384.2, 1) 384) (jacMul (r * w % n384) (x, y, 1) 384)) with
     | some q => q.1 % n384 == r
     | none => false)

/-- An ECDSA signature by a private key with the per-message secret number k. -/
@[irreducible] def ecdsaSign (d k : Nat) (msg : List Byte) : List Byte :=
  let r := match jacAffine (jacMul k (g384.1, g384.2, 1) 384) with | some q => q.1 % n384 | none => 0
  beBytes 48 r ++ beBytes 48 (invMod n384 k * ((beNat (sha384 msg) + r * d) % n384) % n384)

end Sys2Proof.Machine
end

