-- ==== Sys2Proof/Machine/Keys.lean ====
section
/-! DEFINITION. The keys that a chip derives from its root secret, its identity, and keys sealed to it (R436, R438, R439, R444); the island's
identity key (R421, R428). -/

namespace Sys2Proof.Machine

/-- UNIT_ID. -/
def unitIdBytes : List Byte := (List.range 16).map Config.unitId

/-- The bytes of an ASCII string. -/
def ascii (s : String) : List Byte := s.toList.map (fun c => BitVec.ofNat 8 c.toNat)

/-- Derivation from ROOT_SECRET for a gate generation (R438). -/
def derive (n : Nat) (label : String) (g : Nat) : List Byte :=
  hkdfSha384 n (fit 32 Config.rootSecret) unitIdBytes (ascii label ++ b1 g)

/-- A private key from 64 bytes of key material, by the method of extra random bits (R438). -/
def privateFrom (b : List Byte) : Nat := beNat b % (n384 - 1) + 1

/-- The identity private key of a gate generation. -/
def identPrivate (g : Nat) : Nat := privateFrom (derive 64 "LMG-ID" g)

/-- Its public part, X then Y. -/
def identPublic (g : Nat) : List Byte := publicKey (identPrivate g)

/-- A signature over the SHA-384 of a message. The per-message secret number of ECDSA is the signer's own, below the order and not 0. -/
def signBy (d : Nat) (msg : List Byte) : List Byte := ecdsaSign d (Config.signNonce msg % (n384 - 1) + 1) msg

/-- A signature by the identity key (R444). -/
def identSign (g : Nat) (msg : List Byte) : List Byte := signBy (identPrivate g) msg

/-- The key-store key (R438). -/
def keyStoreKey (g : Nat) : List Byte := derive 32 "LMG-KS" g

/-- Unseal 160 bytes for a purpose and an index (R439): the key, if the ephemeral point is on the curve and the tag verifies. -/
@[irreducible] def unsealKey (purpose index g : Nat) (sealed : List Byte) : Option (List Byte) :=
  match ecdhX (identPrivate g) (slice sealed 0 96) with
  | none => none
  | some z =>
    let wrap := hkdfSha384 32 z unitIdBytes (ascii "LMG-SEAL" ++ b1 purpose ++ b1 index)
    gcmOpen wrap (slice sealed 96 12) (unitIdBytes ++ b1 purpose ++ b1 index ++ b1 g) (slice sealed 112 32) (slice sealed 144 16)

/-- The island's identity key of a generation (R421, R428): its public part, and a signature by it. -/
def metPublic (g : Nat) : List Byte := publicKey (Config.metPrivate g % (n384 - 1) + 1)
/-- A signature by the island's identity key. -/
def metSign (g : Nat) (msg : List Byte) : List Byte := signBy (Config.metPrivate g % (n384 - 1) + 1) msg

end Sys2Proof.Machine
end

