-- ==== Sys2Proof/Machine/Sources.lean ====
section
/-! DEFINITION. The severities of the event sources, from the source tables of the chapters (R85, R108, R146 and the tables of the other blocks). -/

namespace Sys2Proof.Machine

/-- The sources of severity notice. -/
def evNotices : List Nat :=
  [20, 22, 25, 26, 29, 34, 38, 39, 40, 41, 42, 43, 46, 65, 73, 97, 101, 131, 133, 137, 138, 192, 196, 199, 259, 262, 266, 326, 451, 455,
   518, 578, 583, 643, 645, 647, 649, 650, 653, 709, 768, 776, 778, 840]

/-- The sources of severity warning. -/
def evWarnings : List Nat :=
  [16, 17, 18, 21, 24, 28, 45, 47, 64, 69, 70, 71, 72, 100, 103, 129, 132, 135, 136, 139, 142, 194, 197, 198, 200, 201, 257, 258, 260,
   263, 264, 321, 322, 387, 449, 450, 452, 454, 514, 515, 516, 517, 520, 580, 582, 642, 644, 646, 648, 651, 705, 706, 707, 710, 769, 771,
   773, 774, 777, 833, 834, 835, 836, 838, 839]

/-- The sources of severity error. -/
def evErrors : List Nat :=
  [23, 37, 66, 67, 68, 74, 75, 98, 99, 130, 193, 195, 261, 265, 325, 384, 385, 386, 388, 453, 513, 519, 577, 579, 584, 652, 708, 711,
   772, 775, 837, 841]

/-- The sources of severity fatal. -/
def evFatals : List Nat :=
  [33, 35, 36, 140, 581, 641, 770]

/-- The severity of a source (R79): 0 info, 1 notice, 2 warning, 3 error, 4 fatal; 0 for a number that no chapter defines. -/
def evSeverity (k : Nat) : Nat :=
  if evNotices.contains k then 1 else if evWarnings.contains k then 2 else if evErrors.contains k then 3
  else if evFatals.contains k then 4 else 0

end Sys2Proof.Machine
end

