-- ==== Sys2Proof/Machine/RegMap.lean ====
section
/-! DEFINITION. The register map: every register's address, role, reset value and access masks, as the register tables give them
(R11, R12, R28, R29), and the ranges of the fields that have one (R7, R8). -/

namespace Sys2Proof.Machine

/-- A register, or an array of like registers. -/
structure RegRow where
  base : Nat
  stride : Nat := 4
  count : Nat := 1
  /-- 0 both roles, 1 lead only, 2 tile only (R28, R29). -/
  role : Nat := 0
  reset : Nat := 0
  /-- Bits a write stores (RW, RWS, and RWL while the block's LOCK is 0). -/
  rw : Nat := 0
  /-- Bits a write of 1 clears (W1C). -/
  w1c : Nat := 0
  /-- RWL bits: they are stored only while the LOCK bit is 0 (R14). -/
  rwl : Nat := 0
  deriving DecidableEq, Repr

/-- Does the row hold the address? -/
def RegRow.holds (r : RegRow) (a : Nat) : Bool :=
  decide (r.base ≤ a) && (a - r.base) % r.stride == 0 && decide ((a - r.base) / r.stride < r.count)

/-- The range a register field may take (a value outside is refused or ignored, R7, R8). -/
structure FieldRule where
  base : Nat
  stride : Nat := 4
  count : Nat := 1
  hi : Nat
  lo : Nat
  min : Nat
  max : Nat
  deriving DecidableEq, Repr

/-- Does the rule bear on the address? -/
def FieldRule.holds (r : FieldRule) (a : Nat) : Bool :=
  decide (r.base ≤ a) && (a - r.base) % r.stride == 0 && decide ((a - r.base) / r.stride < r.count)

/-! ### Addresses -/

namespace Reg

/-! GLB (R3, R41, R87, R92, R94, R503) -/
/-- GLB register glbChipId. -/
abbrev glbChipId : Nat := 0x00000000
/-- GLB register glbPllStatus. -/
abbrev glbPllStatus : Nat := 0x00000010
/-- GLB register glbAvs. -/
abbrev glbAvs : Nat := 0x00000014
/-- GLB register glbUnitId. -/
abbrev glbUnitId : Nat := 0x00000020
/-- GLB register glbTopoCfg. -/
abbrev glbTopoCfg : Nat := 0x00000100
/-- GLB register glbTopoEpoch. -/
abbrev glbTopoEpoch : Nat := 0x00000104
/-- GLB register glbTopoPort. -/
abbrev glbTopoPort : Nat := 0x00000108
/-- GLB register glbTopoAddr. -/
abbrev glbTopoAddr : Nat := 0x0000010C

/-! CMD (R76) -/
/-- CMD register cmdCfg. -/
abbrev cmdCfg : Nat := 0x00100000
/-- CMD register cmdRingBaseLo. -/
abbrev cmdRingBaseLo : Nat := 0x00101000
/-- CMD register cmdRingBaseHi. -/
abbrev cmdRingBaseHi : Nat := 0x00101004
/-- CMD register cmdRingCfg. -/
abbrev cmdRingCfg : Nat := 0x00101008
/-- CMD register cmdRingHead. -/
abbrev cmdRingHead : Nat := 0x0010100C

/-! EVT (R84, R543) -/
/-- EVT register evtCfg. -/
abbrev evtCfg : Nat := 0x00200000
/-- EVT register evtRingBaseLo. -/
abbrev evtRingBaseLo : Nat := 0x00201000
/-- EVT register evtRingBaseHi. -/
abbrev evtRingBaseHi : Nat := 0x00201004
/-- EVT register evtRingCfg. -/
abbrev evtRingCfg : Nat := 0x00201008
/-- EVT register evtRingTail. -/
abbrev evtRingTail : Nat := 0x0020100C
/-- EVT register evtMask. -/
abbrev evtMask : Nat := 0x00202000

/-! TMU (R153, R158, R160, R161, R165, R171, R175, R177) -/
/-- TMU register tmuCfg. -/
abbrev tmuCfg : Nat := 0x00300000
/-- TMU register tmuNow. -/
abbrev tmuNow : Nat := 0x00300100
/-- TMU register tmuDomCfg. -/
abbrev tmuDomCfg : Nat := 0x00300200
/-- TMU register tmuDomStatus. -/
abbrev tmuDomStatus : Nat := 0x00300204
/-- TMU register tmuDomOfs0. -/
abbrev tmuDomOfs0 : Nat := 0x00300208
/-- TMU register tmuDomOfs1. -/
abbrev tmuDomOfs1 : Nat := 0x0030020C
/-- TMU register tmuDomOfs2. -/
abbrev tmuDomOfs2 : Nat := 0x00300210
/-- TMU register tmuDomOfs3. -/
abbrev tmuDomOfs3 : Nat := 0x00300214
/-- TMU register tmuDomRateHi. -/
abbrev tmuDomRateHi : Nat := 0x00300218
/-- TMU register tmuDomRateLo. -/
abbrev tmuDomRateLo : Nat := 0x0030021C
/-- TMU register tmuDomThetaHi. -/
abbrev tmuDomThetaHi : Nat := 0x00300220
/-- TMU register tmuDomThetaLo. -/
abbrev tmuDomThetaLo : Nat := 0x00300224
/-- TMU register tmuDomMpdHi. -/
abbrev tmuDomMpdHi : Nat := 0x00300228
/-- TMU register tmuDomMpdLo. -/
abbrev tmuDomMpdLo : Nat := 0x0030022C
/-- TMU register tmuStgCtl. -/
abbrev tmuStgCtl : Nat := 0x00300300
/-- TMU register tmuStgValHi. -/
abbrev tmuStgValHi : Nat := 0x00300304
/-- TMU register tmuStgValLo. -/
abbrev tmuStgValLo : Nat := 0x00300308
/-- TMU register tmuStgFrac. -/
abbrev tmuStgFrac : Nat := 0x00300310
/-- TMU register tmuStgRate. -/
abbrev tmuStgRate : Nat := 0x00300314
/-- TMU register tmuStgAtHi. -/
abbrev tmuStgAtHi : Nat := 0x0030031C
/-- TMU register tmuStgAtLo. -/
abbrev tmuStgAtLo : Nat := 0x00300320
/-- TMU register tmuBridge. -/
abbrev tmuBridge : Nat := 0x00300400
/-- TMU register tmuBridgeRes. -/
abbrev tmuBridgeRes : Nat := 0x00300404
/-- TMU register tmuCapRawHi. -/
abbrev tmuCapRawHi : Nat := 0x00300500
/-- TMU register tmuCapRawMid. -/
abbrev tmuCapRawMid : Nat := 0x00300504
/-- TMU register tmuCapRawLo. -/
abbrev tmuCapRawLo : Nat := 0x00300508
/-- TMU register tmuCapSecHi. -/
abbrev tmuCapSecHi : Nat := 0x0030050C
/-- TMU register tmuCapSecLo. -/
abbrev tmuCapSecLo : Nat := 0x00300510
/-- TMU register tmuCapNs. -/
abbrev tmuCapNs : Nat := 0x00300514
/-- TMU register tmuCapFrac. -/
abbrev tmuCapFrac : Nat := 0x00300518
/-- TMU register tmuCapCnt. -/
abbrev tmuCapCnt : Nat := 0x0030051C
/-- TMU register tmuPortDly. -/
abbrev tmuPortDly : Nat := 0x00300600
/-- TMU register tmuPortAsym. -/
abbrev tmuPortAsym : Nat := 0x00300604
/-- TMU register tmuPathAsym. -/
abbrev tmuPathAsym : Nat := 0x00300700
/-- TMU register tmuAsymTab. -/
abbrev tmuAsymTab : Nat := 0x00301000

/-! PRT (R144, R145); P2 to P7 are off in a tile (R28) -/
/-- PRT register prtCfg. -/
abbrev prtCfg : Nat := 0x00500000
/-- PRT register prtStatus. -/
abbrev prtStatus : Nat := 0x00500004
/-- PRT register prtC1Bad. -/
abbrev prtC1Bad : Nat := 0x00500010
/-- PRT register prtC1Stomp. -/
abbrev prtC1Stomp : Nat := 0x00500014
/-- PRT register prtAuthFail. -/
abbrev prtAuthFail : Nat := 0x00500018
/-- PRT register prtCseqRej. -/
abbrev prtCseqRej : Nat := 0x0050001C
/-- PRT register prtCorrRej. -/
abbrev prtCorrRej : Nat := 0x00500020
/-- PRT register prtMarkErr. -/
abbrev prtMarkErr : Nat := 0x00500024
/-- PRT register prtSfSkip. -/
abbrev prtSfSkip : Nat := 0x00500028
/-- PRT register prtClosedDisc. -/
abbrev prtClosedDisc : Nat := 0x0050002C
/-- PRT register prtResMax. -/
abbrev prtResMax : Nat := 0x00500030
/-- PRT register prtCntClr. -/
abbrev prtCntClr : Nat := 0x00500034
/-- PRT register prtEclState. -/
abbrev prtEclState : Nat := 0x00580000
/-- PRT register prtEclHold. -/
abbrev prtEclHold : Nat := 0x00580010

/-! PWR (R494) -/
/-- PWR register pwrRstCause. -/
abbrev pwrRstCause : Nat := 0x01000000
/-- PWR register pwrSupply. -/
abbrev pwrSupply : Nat := 0x01000004
/-- PWR register pwrCore. -/
abbrev pwrCore : Nat := 0x01000008
/-- PWR register pwrTwiCfg. -/
abbrev pwrTwiCfg : Nat := 0x01000010
/-- PWR register pwrTwi. -/
abbrev pwrTwi : Nat := 0x01000014
/-- PWR register pwrSleepEpoch. -/
abbrev pwrSleepEpoch : Nat := 0x01000020
/-- PWR register pwrPmeCfg. -/
abbrev pwrPmeCfg : Nat := 0x01000030
/-- PWR register pwrPmeCause. -/
abbrev pwrPmeCause : Nat := 0x01000034
/-- PWR register pwrDomOn. -/
abbrev pwrDomOn : Nat := 0x01000040
/-- PWR register pwrDomOff. -/
abbrev pwrDomOff : Nat := 0x01000060

/-! PAI (R384, R385) -/
/-- PAI register paiStatus. -/
abbrev paiStatus : Nat := 0x00C00000
/-- PAI register paiLeaseCfg. -/
abbrev paiLeaseCfg : Nat := 0x00C00004
/-- PAI register paiLeaseLeft. -/
abbrev paiLeaseLeft : Nat := 0x00C00008
/-- PAI register paiBseq. -/
abbrev paiBseq : Nat := 0x00C0000C
/-- PAI register paiMseqSent. -/
abbrev paiMseqSent : Nat := 0x00C00010
/-- PAI register paiMseqAck. -/
abbrev paiMseqAck : Nat := 0x00C00014
/-- PAI register paiRmap. -/
abbrev paiRmap : Nat := 0x00C00020
/-- PAI register paiRenewMiss. -/
abbrev paiRenewMiss : Nat := 0x00C00040
/-- PAI register paiTakeovers. -/
abbrev paiTakeovers : Nat := 0x00C00044
/-- PAI register paiLapses. -/
abbrev paiLapses : Nat := 0x00C00048
/-- PAI register paiRelayCells. -/
abbrev paiRelayCells : Nat := 0x00C0004C
/-- PAI register paiYields. -/
abbrev paiYields : Nat := 0x00C00050
/-- PAI register paiCntClr. -/
abbrev paiCntClr : Nat := 0x00C00054

/-! LCH (R206 to R208) -/
/-- LCH register lchStatus. -/
abbrev lchStatus : Nat := 0x00400000
/-- LCH register lchLastN. -/
abbrev lchLastN : Nat := 0x00400004
/-- LCH register lchLast. -/
abbrev lchLast : Nat := 0x00400008
/-- LCH register lchNextN. -/
abbrev lchNextN : Nat := 0x00400018
/-- LCH register lchNext. -/
abbrev lchNext : Nat := 0x0040001C
/-- LCH register lchServoErr. -/
abbrev lchServoErr : Nat := 0x00400030
/-- LCH register lchAbortCnt. -/
abbrev lchAbortCnt : Nat := 0x00400040
/-- LCH register lchRepeatCnt. -/
abbrev lchRepeatCnt : Nat := 0x00400044
/-- LCH register lchCoastCnt. -/
abbrev lchCoastCnt : Nat := 0x00400048
/-- LCH register lchDiscCnt. -/
abbrev lchDiscCnt : Nat := 0x0040004C
/-- LCH register lchLateCnt. -/
abbrev lchLateCnt : Nat := 0x00400050
/-- LCH register lchPhaseCnt. -/
abbrev lchPhaseCnt : Nat := 0x00400054
/-- LCH register lchCntClr. -/
abbrev lchCntClr : Nat := 0x00400058
/-- LCH register lchCfg. -/
abbrev lchCfg : Nat := 0x00400100
/-- LCH register lchShref. -/
abbrev lchShref : Nat := 0x00400200

/-! ING (R211 to R216, R235) -/
/-- ING register ingCfg. -/
abbrev ingCfg : Nat := 0x00600000
/-- ING register ingMacHi. -/
abbrev ingMacHi : Nat := 0x00600100
/-- ING register ingMacLo. -/
abbrev ingMacLo : Nat := 0x00600104
/-- ING register ingIp. -/
abbrev ingIp : Nat := 0x00600108
/-- ING register ingPrefix. -/
abbrev ingPrefix : Nat := 0x0060010C
/-- ING register ingGw. -/
abbrev ingGw : Nat := 0x00600110
/-- ING register ingVlan. -/
abbrev ingVlan : Nat := 0x00600114
/-- ING register ingRxBad. -/
abbrev ingRxBad : Nat := 0x00600118
/-- ING register ingRxDisc. -/
abbrev ingRxDisc : Nat := 0x0060011C
/-- ING register ingStrCtl. -/
abbrev ingStrCtl : Nat := 0x00601000
/-- ING register ingStrFmt. -/
abbrev ingStrFmt : Nat := 0x00601004
/-- ING register ingStrSize. -/
abbrev ingStrSize : Nat := 0x00601008
/-- ING register ingStrRate. -/
abbrev ingStrRate : Nat := 0x0060100C
/-- ING register ingStrGrp0. -/
abbrev ingStrGrp0 : Nat := 0x00601010
/-- ING register ingStrGrp1. -/
abbrev ingStrGrp1 : Nat := 0x00601014
/-- ING register ingStrSrc0. -/
abbrev ingStrSrc0 : Nat := 0x00601018
/-- ING register ingStrSrc1. -/
abbrev ingStrSrc1 : Nat := 0x0060101C
/-- ING register ingStrUdp. -/
abbrev ingStrUdp : Nat := 0x00601020
/-- ING register ingStrStatus. -/
abbrev ingStrStatus : Nat := 0x00601024
/-- ING register ingStrPkt0. -/
abbrev ingStrPkt0 : Nat := 0x00601040
/-- ING register ingStrPkt1. -/
abbrev ingStrPkt1 : Nat := 0x00601044
/-- ING register ingStrLost. -/
abbrev ingStrLost : Nat := 0x00601048
/-- ING register ingStrLate. -/
abbrev ingStrLate : Nat := 0x0060104C
/-- ING register ingStrFrmOk. -/
abbrev ingStrFrmOk : Nat := 0x00601050
/-- ING register ingStrFrmInc. -/
abbrev ingStrFrmInc : Nat := 0x00601054
/-- ING register ingStrFrmDrop. -/
abbrev ingStrFrmDrop : Nat := 0x00601058
/-- ING register ingStrFmtErr. -/
abbrev ingStrFmtErr : Nat := 0x0060105C
/-- ING register ingStrCntClr. -/
abbrev ingStrCntClr : Nat := 0x00601060
/-- ING register ingStrLock0. -/
abbrev ingStrLock0 : Nat := 0x00601070
/-- ING register ingStrLock1. -/
abbrev ingStrLock1 : Nat := 0x00601074
/-- ING register ingStrLock2. -/
abbrev ingStrLock2 : Nat := 0x00601078
/-- ING register ingStrLock3. -/
abbrev ingStrLock3 : Nat := 0x0060107C

/-! CMP (R221, R224, R238) -/
/-- CMP register cmpCfg. -/
abbrev cmpCfg : Nat := 0x00700000
/-- CMP register cmpCanvas. -/
abbrev cmpCanvas : Nat := 0x00700004
/-- CMP register cmpBg0. -/
abbrev cmpBg0 : Nat := 0x00700008
/-- CMP register cmpBg1. -/
abbrev cmpBg1 : Nat := 0x0070000C
/-- CMP register cmpFlipCnt. -/
abbrev cmpFlipCnt : Nat := 0x00700040
/-- CMP register cmpFenceToCnt. -/
abbrev cmpFenceToCnt : Nat := 0x00700044
/-- CMP register cmpCutCnt. -/
abbrev cmpCutCnt : Nat := 0x00700048
/-- CMP register cmpCntClr. -/
abbrev cmpCntClr : Nat := 0x0070004C
/-- CMP register cmpLayer0. -/
abbrev cmpLayer0 : Nat := 0x00701000
/-- CMP register cmpLayer1. -/
abbrev cmpLayer1 : Nat := 0x00701004
/-- CMP register cmpLayer2. -/
abbrev cmpLayer2 : Nat := 0x00701008
/-- CMP register cmpLayer3. -/
abbrev cmpLayer3 : Nat := 0x0070100C
/-- CMP register cmpLayer4. -/
abbrev cmpLayer4 : Nat := 0x00701010
/-- CMP register cmpLayer5. -/
abbrev cmpLayer5 : Nat := 0x00701014
/-- CMP register cmpLayer6. -/
abbrev cmpLayer6 : Nat := 0x00701018
/-- CMP register cmpLayer7. -/
abbrev cmpLayer7 : Nat := 0x0070101C
/-- CMP register cmpLayer8. -/
abbrev cmpLayer8 : Nat := 0x00701020
/-- CMP register cmpLayer9. -/
abbrev cmpLayer9 : Nat := 0x00701024
/-- CMP register cmpProt. -/
abbrev cmpProt : Nat := 0x00701800
/-- CMP register cmpFlip. -/
abbrev cmpFlip : Nat := 0x00702000
/-- CMP register cmpTmap0. -/
abbrev cmpTmap0 : Nat := 0x00704000
/-- CMP register cmpTmap1. -/
abbrev cmpTmap1 : Nat := 0x00704004
/-- CMP register cmpFence. -/
abbrev cmpFence : Nat := 0x00708004
/-- CMP register cmpCoef0. -/
abbrev cmpCoef0 : Nat := 0x0070C000
/-- CMP register cmpCoef1. -/
abbrev cmpCoef1 : Nat := 0x0070C800

/-! BCD (R268) -/
/-- BCD register bcdChain. -/
abbrev bcdChain : Nat := 0x00800000
/-- BCD register bcdEncBusy. -/
abbrev bcdEncBusy : Nat := 0x00800010
/-- BCD register bcdDecBusy. -/
abbrev bcdDecBusy : Nat := 0x00800014
/-- BCD register bcdC2Trn. -/
abbrev bcdC2Trn : Nat := 0x00800020
/-- BCD register bcdC2Surf. -/
abbrev bcdC2Surf : Nat := 0x00800024
/-- BCD register bcdInvalid. -/
abbrev bcdInvalid : Nat := 0x00800028
/-- BCD register bcdEncMismatch. -/
abbrev bcdEncMismatch : Nat := 0x0080002C
/-- BCD register bcdHdrErr. -/
abbrev bcdHdrErr : Nat := 0x00800030
/-- BCD register bcdLossy. -/
abbrev bcdLossy : Nat := 0x00800034
/-- BCD register bcdRaw. -/
abbrev bcdRaw : Nat := 0x00800038
/-- BCD register bcdSmax. -/
abbrev bcdSmax : Nat := 0x00800040
/-- BCD register bcdCntClr. -/
abbrev bcdCntClr : Nat := 0x00800044

/-! LPP (R273, R274, R281, R282, R299, R300) -/
/-- LPP register lppStatus. -/
abbrev lppStatus : Nat := 0x00900000
/-- LPP register lppCfg. -/
abbrev lppCfg : Nat := 0x00900010
/-- LPP register lppAlmSet. -/
abbrev lppAlmSet : Nat := 0x00900040
/-- LPP register lppAlmSeq. -/
abbrev lppAlmSeq : Nat := 0x00900050
/-- LPP register lppRegions. -/
abbrev lppRegions : Nat := 0x00900054
/-- LPP register lppSfDone. -/
abbrev lppSfDone : Nat := 0x00900080
/-- LPP register lppSfDisc. -/
abbrev lppSfDisc : Nat := 0x00900084
/-- LPP register lppCheckFail. -/
abbrev lppCheckFail : Nat := 0x00900088
/-- LPP register lppC3Corr. -/
abbrev lppC3Corr : Nat := 0x0090008C
/-- LPP register lppRegenFail. -/
abbrev lppRegenFail : Nat := 0x00900090
/-- LPP register lppCntClr. -/
abbrev lppCntClr : Nat := 0x00900094
/-- LPP register lppMapStatus. -/
abbrev lppMapStatus : Nat := 0x00900098
/-- LPP register lppZoneCfg. -/
abbrev lppZoneCfg : Nat := 0x00900400
/-- LPP register lppZoneTemp. -/
abbrev lppZoneTemp : Nat := 0x00900500
/-- LPP register lppZoneWt. -/
abbrev lppZoneWt : Nat := 0x00900600
/-- LPP register lppLut. -/
abbrev lppLut : Nat := 0x00904000
/-- LPP register lppDmap. -/
abbrev lppDmap : Nat := 0x00910000
/-- LPP register lppShape. -/
abbrev lppShape : Nat := 0x00920000

/-! EMS (R334, R335) -/
/-- EMS register emsStatus. -/
abbrev emsStatus : Nat := 0x00A00000
/-- EMS register emsEmitDelay. -/
abbrev emsEmitDelay : Nat := 0x00A00004
/-- EMS register emsEmark. -/
abbrev emsEmark : Nat := 0x00A00008
/-- EMS register emsCfg. -/
abbrev emsCfg : Nat := 0x00A00010
/-- EMS register emsWinNeed. -/
abbrev emsWinNeed : Nat := 0x00A00040
/-- EMS register emsFillNeed. -/
abbrev emsFillNeed : Nat := 0x00A00050
/-- EMS register emsShiftUse. -/
abbrev emsShiftUse : Nat := 0x00A00054
/-- EMS register emsInitErr. -/
abbrev emsInitErr : Nat := 0x00A00058
/-- EMS register emsWinCut. -/
abbrev emsWinCut : Nat := 0x00A00080
/-- EMS register emsC4Pad. -/
abbrev emsC4Pad : Nat := 0x00A00084
/-- EMS register emsDrvCrc. -/
abbrev emsDrvCrc : Nat := 0x00A00088
/-- EMS register emsRetBad. -/
abbrev emsRetBad : Nat := 0x00A0008C
/-- EMS register emsSetupDone. -/
abbrev emsSetupDone : Nat := 0x00A00090
/-- EMS register emsSetupDefer. -/
abbrev emsSetupDefer : Nat := 0x00A00094
/-- EMS register emsCntClr. -/
abbrev emsCntClr : Nat := 0x00A00098
/-- EMS register emsDrv. -/
abbrev emsDrv : Nat := 0x00A80000

/-! MEM (R359, R360); channels 1 to 3 are off in a tile (R33) -/
/-- MEM register memChStatus. -/
abbrev memChStatus : Nat := 0x00B00000
/-- MEM register memCe. -/
abbrev memCe : Nat := 0x00B00010
/-- MEM register memUe. -/
abbrev memUe : Nat := 0x00B00014
/-- MEM register memReplay. -/
abbrev memReplay : Nat := 0x00B00018
/-- MEM register memHolds. -/
abbrev memHolds : Nat := 0x00B0001C
/-- MEM register memRetrained. -/
abbrev memRetrained : Nat := 0x00B00020
/-- MEM register memRetrainForced. -/
abbrev memRetrainForced : Nat := 0x00B00024
/-- MEM register memRefForced. -/
abbrev memRefForced : Nat := 0x00B00028
/-- MEM register memPromo. -/
abbrev memPromo : Nat := 0x00B0002C
/-- MEM register memHoldDrop. -/
abbrev memHoldDrop : Nat := 0x00B00030
/-- MEM register memScrubPass. -/
abbrev memScrubPass : Nat := 0x00B00034
/-- MEM register memChCntClr. -/
abbrev memChCntClr : Nat := 0x00B00038
/-- MEM register memUeAddrHi. -/
abbrev memUeAddrHi : Nat := 0x00B00040
/-- MEM register memUeAddrLo. -/
abbrev memUeAddrLo : Nat := 0x00B00044
/-- MEM register memCfg. -/
abbrev memCfg : Nat := 0x00B30000
/-- MEM register memAge. -/
abbrev memAge : Nat := 0x00B30004
/-- MEM register memRetrain. -/
abbrev memRetrain : Nat := 0x00B30008
/-- MEM register memScrub. -/
abbrev memScrub : Nat := 0x00B3000C
/-- MEM register memKeep. -/
abbrev memKeep : Nat := 0x00B30010

/-! CAL (R404) -/
/-- CAL register calCfg. -/
abbrev calCfg : Nat := 0x00D00000
/-- CAL register calStatus. -/
abbrev calStatus : Nat := 0x00D00004
/-- CAL register calBankTsel. -/
abbrev calBankTsel : Nat := 0x00D00008
/-- CAL register calIrefTgt. -/
abbrev calIrefTgt : Nat := 0x00D00100
/-- CAL register calIrefCode. -/
abbrev calIrefCode : Nat := 0x00D00140
/-- CAL register calSet. -/
abbrev calSet : Nat := 0x00D00200
/-- CAL register calLlat. -/
abbrev calLlat : Nat := 0x00D00400
/-- CAL register calPortDly. -/
abbrev calPortDly : Nat := 0x00D00500
/-- CAL register calTemp. -/
abbrev calTemp : Nat := 0x00D00600
/-- CAL register calRdCfg. -/
abbrev calRdCfg : Nat := 0x00D00640

/-! MET (R432): the mailbox -/
/-- MET register metSnapSeq. -/
abbrev metSnapSeq : Nat := 0x00E00000
/-- MET register metCh. -/
abbrev metCh : Nat := 0x00E00040
/-- MET register metCalStatus. -/
abbrev metCalStatus : Nat := 0x00E000C0
/-- MET register metZone. -/
abbrev metZone : Nat := 0x00E00100
/-- MET register metSwid. -/
abbrev metSwid : Nat := 0x00E00300
/-- MET register metRsp. -/
abbrev metRsp : Nat := 0x00E00400
/-- MET register metLogWin. -/
abbrev metLogWin : Nat := 0x00E01000

/-! SEC (15, Registers) -/
/-- SEC register secStatus. -/
abbrev secStatus : Nat := 0x00F00000
/-- SEC register secOtpCnt. -/
abbrev secOtpCnt : Nat := 0x00F00004
/-- SEC register secBoot. -/
abbrev secBoot : Nat := 0x00F00008
/-- SEC register secVer. -/
abbrev secVer : Nat := 0x00F0000C
/-- SEC register secProv. -/
abbrev secProv : Nat := 0x00F00014
/-- SEC register secMask. -/
abbrev secMask : Nat := 0x00F00040
/-- SEC register secImgWritten. -/
abbrev secImgWritten : Nat := 0x00F00080

end Reg

/-! ### The tables -/

/-- The registers of GLB (R3, R41, R87, R92, R94, R503). -/
def regsGlb : List RegRow := [
  { base := Reg.glbChipId, reset := 0x947200A1 },
  { base := Reg.glbPllStatus, w1c := 0xFFFF0000 },
  { base := Reg.glbAvs },
  { base := Reg.glbUnitId, stride := 4, count := 4 },
  { base := Reg.glbTopoCfg, rwl := 0x8000FF1F },
  { base := Reg.glbTopoEpoch, rw := 0xFFFFFFFF },
  { base := Reg.glbTopoPort },
  { base := Reg.glbTopoAddr }]

/-- The registers of CMD (R76). -/
def regsCmd : List RegRow := [
  { base := Reg.cmdCfg, role := 1, reset := 0x0640C528, rw := 0x0FFFFFFF },
  { base := Reg.cmdRingBaseLo, stride := 0x20, count := 16, role := 1, rw := 0xFFFFFFE0 },
  { base := Reg.cmdRingBaseHi, stride := 0x20, count := 16, role := 1, rw := 0xFFFFFFFF },
  { base := Reg.cmdRingCfg, stride := 0x20, count := 16, role := 1, rw := 0x003F1F01 },
  { base := Reg.cmdRingHead, stride := 0x20, count := 16, role := 1 }]

/-- The registers of EVT (R84, R543). -/
def regsEvt : List RegRow := [
  { base := Reg.evtCfg, reset := 0x0000108A, rw := 0x00001FFF },
  { base := Reg.evtRingBaseLo, role := 1, rw := 0xFFFFFFFF },
  { base := Reg.evtRingBaseHi, role := 1, rw := 0xFFFFFFFF },
  { base := Reg.evtRingCfg, role := 1, rw := 0x003F1F01, w1c := 2 },
  { base := Reg.evtRingTail, role := 1 },
  { base := Reg.evtMask, stride := 4, count := 32, rw := 0xFFFFFFFF }]

/-- The registers of TMU (R153, R158, R160, R161, R165, R171, R175, R177). -/
def regsTmu : List RegRow := [
  { base := Reg.tmuCfg, reset := 0x00800000, rw := 0xFFFC0001 },
  { base := Reg.tmuNow, stride := 4, count := 12 },
  { base := Reg.tmuDomCfg, stride := 0x40, count := 2, reset := 0x0A05370A, rw := 0xFFFFFFFF },
  { base := Reg.tmuDomStatus, stride := 0x40, count := 2 },
  { base := Reg.tmuDomOfs0, stride := 0x40, count := 2 },
  { base := Reg.tmuDomOfs1, stride := 0x40, count := 2 },
  { base := Reg.tmuDomOfs2, stride := 0x40, count := 2 },
  { base := Reg.tmuDomOfs3, stride := 0x40, count := 2 },
  { base := Reg.tmuDomRateHi, stride := 0x40, count := 2 },
  { base := Reg.tmuDomRateLo, stride := 0x40, count := 2 },
  { base := Reg.tmuDomThetaHi, stride := 0x40, count := 2 },
  { base := Reg.tmuDomThetaLo, stride := 0x40, count := 2 },
  { base := Reg.tmuDomMpdHi, stride := 0x40, count := 2 },
  { base := Reg.tmuDomMpdLo, stride := 0x40, count := 2 },
  { base := Reg.tmuStgCtl, rw := 0x00000033, w1c := 0x00000600 },
  { base := Reg.tmuStgValHi, rw := 0x0000FFFF },
  { base := Reg.tmuStgValLo, stride := 4, count := 2, rw := 0xFFFFFFFF },
  { base := Reg.tmuStgFrac, rw := 0x0000FFFF },
  { base := Reg.tmuStgRate, stride := 4, count := 2, rw := 0xFFFFFFFF },
  { base := Reg.tmuStgAtHi, rw := 0x000000FF },
  { base := Reg.tmuStgAtLo, stride := 4, count := 2, rw := 0xFFFFFFFF },
  { base := Reg.tmuBridge, reset := 0x00640032, rw := 0x00FFFFFF },
  { base := Reg.tmuBridgeRes, stride := 4, count := 2 },
  { base := Reg.tmuCapRawHi, stride := 0x20, count := 4 },
  { base := Reg.tmuCapRawMid, stride := 0x20, count := 4 },
  { base := Reg.tmuCapRawLo, stride := 0x20, count := 4 },
  { base := Reg.tmuCapSecHi, stride := 0x20, count := 4 },
  { base := Reg.tmuCapSecLo, stride := 0x20, count := 4 },
  { base := Reg.tmuCapNs, stride := 0x20, count := 4 },
  { base := Reg.tmuCapFrac, stride := 0x20, count := 4 },
  { base := Reg.tmuCapCnt, stride := 0x20, count := 4 },
  { base := Reg.tmuPortDly, stride := 0x10, count := 8 },
  { base := Reg.tmuPortAsym, stride := 0x10, count := 8, rw := 0xFFFFFFFF },
  { base := Reg.tmuPathAsym, role := 2 },
  { base := Reg.tmuAsymTab, stride := 4, count := 512, role := 1, rw := 0xFFFFFFFF }]

/-- The registers of PRT (R144, R145); P2 to P7 are off in a tile (R28). -/
def regsPrt : List RegRow := [
  { base := Reg.prtCfg, stride := 0x10000, count := 8, reset := 1, rw := 0x00000F01 },
  { base := Reg.prtStatus, stride := 0x10000, count := 8 },
  { base := Reg.prtC1Bad, stride := 0x10000, count := 8 },
  { base := Reg.prtC1Stomp, stride := 0x10000, count := 8 },
  { base := Reg.prtAuthFail, stride := 0x10000, count := 8 },
  { base := Reg.prtCseqRej, stride := 0x10000, count := 8 },
  { base := Reg.prtCorrRej, stride := 0x10000, count := 8 },
  { base := Reg.prtMarkErr, stride := 0x10000, count := 8 },
  { base := Reg.prtSfSkip, stride := 0x10000, count := 8 },
  { base := Reg.prtClosedDisc, stride := 0x10000, count := 8 },
  { base := Reg.prtResMax, stride := 0x10000, count := 8 },
  { base := Reg.prtCntClr, stride := 0x10000, count := 8 },
  { base := Reg.prtEclState },
  { base := Reg.prtEclHold, stride := 4, count := 16 }]

/-- The registers of PWR (R494). -/
def regsPwr : List RegRow := [
  { base := Reg.pwrRstCause },
  { base := Reg.pwrSupply, w1c := 0x07FF0000 },
  { base := Reg.pwrCore },
  { base := Reg.pwrTwiCfg, reset := 0x00000640, rw := 0xFFFFFFFF },
  { base := Reg.pwrTwi },
  { base := Reg.pwrSleepEpoch, stride := 4, count := 4 },
  { base := Reg.pwrPmeCfg, role := 1, reset := 3, rw := 0x00000007 },
  { base := Reg.pwrPmeCause, role := 1 },
  { base := Reg.pwrDomOn, stride := 4, count := 5 },
  { base := Reg.pwrDomOff, stride := 4, count := 5 }]

/-- The registers of PAI (R384, R385). -/
def regsPai : List RegRow := [
  { base := Reg.paiStatus, role := 1 },
  { base := Reg.paiLeaseCfg, role := 1 },
  { base := Reg.paiLeaseLeft, role := 1 },
  { base := Reg.paiBseq, role := 1 },
  { base := Reg.paiMseqSent, role := 1 },
  { base := Reg.paiMseqAck, role := 1 },
  { base := Reg.paiRmap, stride := 4, count := 4, role := 1 },
  { base := Reg.paiRenewMiss, role := 1 },
  { base := Reg.paiTakeovers, role := 1 },
  { base := Reg.paiLapses, role := 1 },
  { base := Reg.paiRelayCells, role := 1 },
  { base := Reg.paiYields, role := 1 },
  { base := Reg.paiCntClr, role := 1 }]

/-- The registers of LCH (R206 to R208). -/
def regsLch : List RegRow := [
  { base := Reg.lchStatus },
  { base := Reg.lchLastN },
  { base := Reg.lchLast, stride := 4, count := 4 },
  { base := Reg.lchNextN },
  { base := Reg.lchNext, stride := 4, count := 4 },
  { base := Reg.lchServoErr },
  { base := Reg.lchAbortCnt },
  { base := Reg.lchRepeatCnt },
  { base := Reg.lchCoastCnt },
  { base := Reg.lchDiscCnt },
  { base := Reg.lchLateCnt },
  { base := Reg.lchPhaseCnt },
  { base := Reg.lchCntClr },
  { base := Reg.lchCfg, stride := 4, count := 15 },
  { base := Reg.lchShref, stride := 4, count := 16 }]

/-- The registers of ING (R211 to R216, R235). -/
def regsIng : List RegRow := [
  { base := Reg.ingCfg, role := 1, reset := 0x0000000A, rw := 0x0000001F },
  { base := Reg.ingMacHi, stride := 0x40, count := 3, role := 1, rw := 0x0000FFFF },
  { base := Reg.ingMacLo, stride := 0x40, count := 3, role := 1, rw := 0xFFFFFFFF },
  { base := Reg.ingIp, stride := 0x40, count := 3, role := 1, rw := 0xFFFFFFFF },
  { base := Reg.ingPrefix, stride := 0x40, count := 3, role := 1, rw := 0x0000003F },
  { base := Reg.ingGw, stride := 0x40, count := 3, role := 1, rw := 0xFFFFFFFF },
  { base := Reg.ingVlan, stride := 0x40, count := 3, role := 1, rw := 0x8000EFFF },
  { base := Reg.ingRxBad, stride := 0x40, count := 3, role := 1 },
  { base := Reg.ingRxDisc, stride := 0x40, count := 3, role := 1 },
  { base := Reg.ingStrCtl, stride := 0x100, count := 4, role := 1, rw := 0xC3C000FF },
  { base := Reg.ingStrFmt, stride := 0x100, count := 4, role := 1, rw := 0xFFFF0000 },
  { base := Reg.ingStrSize, stride := 0x100, count := 4, role := 1, rw := 0xFFFFFFFF },
  { base := Reg.ingStrRate, stride := 0x100, count := 4, role := 1, rw := 0xFFFFFFFF },
  { base := Reg.ingStrGrp0, stride := 0x100, count := 4, role := 1, rw := 0xFFFFFFFF },
  { base := Reg.ingStrGrp1, stride := 0x100, count := 4, role := 1, rw := 0xFFFFFFFF },
  { base := Reg.ingStrSrc0, stride := 0x100, count := 4, role := 1, rw := 0xFFFFFFFF },
  { base := Reg.ingStrSrc1, stride := 0x100, count := 4, role := 1, rw := 0xFFFFFFFF },
  { base := Reg.ingStrUdp, stride := 0x100, count := 4, role := 1, rw := 0xFFFFFFFF },
  { base := Reg.ingStrStatus, stride := 0x100, count := 4, role := 1 },
  { base := Reg.ingStrPkt0, stride := 0x100, count := 4, role := 1 },
  { base := Reg.ingStrPkt1, stride := 0x100, count := 4, role := 1 },
  { base := Reg.ingStrLost, stride := 0x100, count := 4, role := 1 },
  { base := Reg.ingStrLate, stride := 0x100, count := 4, role := 1 },
  { base := Reg.ingStrFrmOk, stride := 0x100, count := 4, role := 1 },
  { base := Reg.ingStrFrmInc, stride := 0x100, count := 4, role := 1 },
  { base := Reg.ingStrFrmDrop, stride := 0x100, count := 4, role := 1 },
  { base := Reg.ingStrFmtErr, stride := 0x100, count := 4, role := 1 },
  { base := Reg.ingStrCntClr, stride := 0x100, count := 4, role := 1 },
  { base := Reg.ingStrLock0, stride := 0x100, count := 4, role := 1 },
  { base := Reg.ingStrLock1, stride := 0x100, count := 4, role := 1 },
  { base := Reg.ingStrLock2, stride := 0x100, count := 4, role := 1 },
  { base := Reg.ingStrLock3, stride := 0x100, count := 4, role := 1 }]

/-- The registers of CMP (R221, R224, R238). -/
def regsCmp : List RegRow := [
  { base := Reg.cmpCfg, rw := 0x00000001 },
  { base := Reg.cmpCanvas, rw := 0xFFFFFFFF },
  { base := Reg.cmpBg0, rw := 0x0FFF0FFF },
  { base := Reg.cmpBg1, rw := 0x00000FFF },
  { base := Reg.cmpFlipCnt },
  { base := Reg.cmpFenceToCnt },
  { base := Reg.cmpCutCnt },
  { base := Reg.cmpCntClr },
  { base := Reg.cmpLayer0, stride := 0x40, count := 32 },
  { base := Reg.cmpLayer1, stride := 0x40, count := 32 },
  { base := Reg.cmpLayer2, stride := 0x40, count := 32 },
  { base := Reg.cmpLayer3, stride := 0x40, count := 32 },
  { base := Reg.cmpLayer4, stride := 0x40, count := 32 },
  { base := Reg.cmpLayer5, stride := 0x40, count := 32 },
  { base := Reg.cmpLayer6, stride := 0x40, count := 32 },
  { base := Reg.cmpLayer7, stride := 0x40, count := 32 },
  { base := Reg.cmpLayer8, stride := 0x40, count := 32 },
  { base := Reg.cmpLayer9, stride := 0x40, count := 32 },
  { base := Reg.cmpProt, stride := 4, count := 6, role := 2 },
  { base := Reg.cmpFlip, stride := 4, count := 16 },
  { base := Reg.cmpTmap0, stride := 8, count := 256, role := 1, rw := 0xFFFFFFFF },
  { base := Reg.cmpTmap1, stride := 8, count := 256, role := 1, rw := 0x803FFFFF },
  { base := Reg.cmpFence, stride := 4, count := 1023 },
  { base := Reg.cmpCoef0, stride := 4, count := 512 },
  { base := Reg.cmpCoef1, stride := 4, count := 1536, rw := 0x000003FF }]

/-- The registers of BCD (R268). -/
def regsBcd : List RegRow := [
  { base := Reg.bcdChain, stride := 4, count := 4 },
  { base := Reg.bcdEncBusy },
  { base := Reg.bcdDecBusy },
  { base := Reg.bcdC2Trn },
  { base := Reg.bcdC2Surf },
  { base := Reg.bcdInvalid },
  { base := Reg.bcdEncMismatch },
  { base := Reg.bcdHdrErr },
  { base := Reg.bcdLossy },
  { base := Reg.bcdRaw },
  { base := Reg.bcdSmax },
  { base := Reg.bcdCntClr }]

/-- The registers of LPP (R273, R274, R281, R282, R299, R300). -/
def regsLpp : List RegRow := [
  { base := Reg.lppStatus, role := 2 },
  { base := Reg.lppCfg, stride := 4, count := 12, role := 2 },
  { base := Reg.lppAlmSet, stride := 4, count := 4, role := 2 },
  { base := Reg.lppAlmSeq, role := 2 },
  { base := Reg.lppRegions, role := 2 },
  { base := Reg.lppSfDone, role := 2 },
  { base := Reg.lppSfDisc, role := 2 },
  { base := Reg.lppCheckFail, role := 2 },
  { base := Reg.lppC3Corr, role := 2 },
  { base := Reg.lppRegenFail, role := 2 },
  { base := Reg.lppCntClr, role := 2 },
  { base := Reg.lppMapStatus, role := 2 },
  { base := Reg.lppZoneCfg, stride := 4, count := 64, role := 2, rw := 0xC700FFFF },
  { base := Reg.lppZoneTemp, stride := 4, count := 64, role := 2 },
  { base := Reg.lppZoneWt, stride := 4, count := 64, role := 2 },
  { base := Reg.lppLut, stride := 4, count := 12288, role := 2 },
  { base := Reg.lppDmap, stride := 4, count := 16384, role := 2, rw := 0xF003FFFF },
  { base := Reg.lppShape, stride := 4, count := 512, role := 2, rw := 0x800003FF }]

/-- The registers of EMS (R334, R335). -/
def regsEms : List RegRow := [
  { base := Reg.emsStatus, role := 2, reset := 0x20000000 },
  { base := Reg.emsEmitDelay, role := 2, rw := 0x03FFFFFF },
  { base := Reg.emsEmark, role := 2, rw := 0x000000F3 },
  { base := Reg.emsCfg, stride := 4, count := 8, role := 2 },
  { base := Reg.emsWinNeed, stride := 4, count := 4, role := 2 },
  { base := Reg.emsFillNeed, role := 2 },
  { base := Reg.emsShiftUse, role := 2 },
  { base := Reg.emsInitErr, role := 2 },
  { base := Reg.emsWinCut, role := 2 },
  { base := Reg.emsC4Pad, role := 2 },
  { base := Reg.emsDrvCrc, role := 2 },
  { base := Reg.emsRetBad, role := 2 },
  { base := Reg.emsSetupDone, role := 2 },
  { base := Reg.emsSetupDefer, role := 2 },
  { base := Reg.emsCntClr, role := 2 },
  { base := Reg.emsDrv, stride := 4, count := 32768, role := 2 }]

/-- The registers of MEM (R359, R360); channels 1 to 3 are off in a tile (R33). -/
def regsMem : List RegRow := [
  { base := Reg.memChStatus, stride := 0x40000, count := 4 },
  { base := Reg.memCe, stride := 0x40000, count := 4 },
  { base := Reg.memUe, stride := 0x40000, count := 4 },
  { base := Reg.memReplay, stride := 0x40000, count := 4 },
  { base := Reg.memHolds, stride := 0x40000, count := 4 },
  { base := Reg.memRetrained, stride := 0x40000, count := 4 },
  { base := Reg.memRetrainForced, stride := 0x40000, count := 4 },
  { base := Reg.memRefForced, stride := 0x40000, count := 4 },
  { base := Reg.memPromo, stride := 0x40000, count := 4 },
  { base := Reg.memHoldDrop, stride := 0x40000, count := 4 },
  { base := Reg.memScrubPass, stride := 0x40000, count := 4 },
  { base := Reg.memChCntClr, stride := 0x40000, count := 4 },
  { base := Reg.memUeAddrHi, stride := 0x40000, count := 4 },
  { base := Reg.memUeAddrLo, stride := 0x40000, count := 4 },
  { base := Reg.memCfg, reset := 0x00000100, rw := 0x0000FFFF },
  { base := Reg.memAge, reset := 0xFF7F1F07, rw := 0xFFFFFFFF },
  { base := Reg.memRetrain, reset := 0x00000010, rw := 0x0000FFFF },
  { base := Reg.memScrub, reset := 0x00000018, rw := 0x0000003F },
  { base := Reg.memKeep }]

/-- The registers of CAL (R404). -/
def regsCal : List RegRow := [
  { base := Reg.calCfg, reset := 0x00001400, rw := 0x0000FF01 },
  { base := Reg.calStatus },
  { base := Reg.calBankTsel, role := 2, rw := 0x00007777 },
  { base := Reg.calIrefTgt, stride := 4, count := 16, role := 2, rw := 0x0000FFFF },
  { base := Reg.calIrefCode, stride := 4, count := 16, role := 2 },
  { base := Reg.calSet, stride := 4, count := 64, role := 2 },
  { base := Reg.calLlat, role := 2 },
  { base := Reg.calPortDly, stride := 4, count := 8 },
  { base := Reg.calTemp, stride := 4, count := 12 },
  { base := Reg.calRdCfg, stride := 4, count := 4, rw := 0x0000FFFF }]

/-- The registers of MET (R432): the mailbox. -/
def regsMet : List RegRow := [
  { base := Reg.metSnapSeq, stride := 4, count := 16 },
  { base := Reg.metCh, stride := 4, count := 32 },
  { base := Reg.metCalStatus },
  { base := Reg.metZone, stride := 4, count := 128 },
  { base := Reg.metSwid, stride := 4, count := 6 },
  { base := Reg.metRsp, stride := 4, count := 2 },
  { base := Reg.metLogWin, stride := 4, count := 1024 }]

/-- The registers of SEC (15, Registers). -/
def regsSec : List RegRow := [
  { base := Reg.secStatus },
  { base := Reg.secOtpCnt },
  { base := Reg.secBoot },
  { base := Reg.secVer, stride := 4, count := 2 },
  { base := Reg.secProv },
  { base := Reg.secMask, stride := 4, count := 15 },
  { base := Reg.secImgWritten }]

/-- Every register of the map. -/
def regRows : List RegRow :=
  regsGlb ++ regsCmd ++ regsEvt ++ regsTmu ++ regsPrt ++ regsPwr ++ regsPai ++ regsLch ++ regsIng ++ regsCmp ++ regsBcd ++ regsLpp ++ regsEms ++ regsMem ++ regsCal ++ regsMet ++ regsSec

/-- Field ranges, part 0. -/
def fieldRules0 : List FieldRule := [
  { base := Reg.cmdCfg, hi := 27, lo := 20, min := 1, max := 255 },
  { base := Reg.evtCfg, hi := 12, lo := 8, min := 1, max := 16 },
  { base := Reg.evtCfg, hi := 6, lo := 0, min := 1, max := 100 },
  { base := Reg.tmuCfg, hi := 23, lo := 20, min := 4, max := 10 },
  { base := Reg.tmuDomCfg, stride := 0x40, count := 2, hi := 28, lo := 24, min := 4, max := 24 },
  { base := Reg.tmuDomCfg, stride := 0x40, count := 2, hi := 23, lo := 16, min := 1, max := 255 },
  { base := Reg.tmuDomCfg, stride := 0x40, count := 2, hi := 7, lo := 0, min := 1, max := 255 },
  { base := Reg.tmuBridge, hi := 23, lo := 16, min := 1, max := 100 },
  { base := Reg.tmuBridge, hi := 15, lo := 0, min := 1, max := 1000 },
  { base := Reg.pwrPmeCfg, hi := 2, lo := 0, min := 0, max := 4 },
  { base := Reg.ingCfg, hi := 4, lo := 0, min := 1, max := 20 },
  { base := Reg.ingPrefix, stride := 0x40, count := 3, hi := 5, lo := 0, min := 8, max := 30 },
  { base := Reg.ingVlan, stride := 0x40, count := 3, hi := 11, lo := 0, min := 1, max := 4094 },
  { base := Reg.ingStrCtl, stride := 0x100, count := 4, hi := 25, lo := 24, min := 0, max := 2 },
  { base := Reg.ingStrCtl, stride := 0x100, count := 4, hi := 23, lo := 22, min := 0, max := 2 },
  { base := Reg.ingStrSize, stride := 0x100, count := 4, hi := 31, lo := 16, min := 64, max := 4320 },
  { base := Reg.ingStrSize, stride := 0x100, count := 4, hi := 15, lo := 0, min := 64, max := 7680 },
  { base := Reg.ingStrFmt, stride := 0x100, count := 4, hi := 31, lo := 30, min := 0, max := 2 },
  { base := Reg.ingStrFmt, stride := 0x100, count := 4, hi := 28, lo := 27, min := 0, max := 2 },
  { base := Reg.ingStrFmt, stride := 0x100, count := 4, hi := 23, lo := 16, min := 96, max := 127 },
  { base := Reg.cmpCanvas, hi := 31, lo := 16, min := 1, max := 32768 },
  { base := Reg.cmpCanvas, hi := 15, lo := 0, min := 1, max := 32768 },
  { base := Reg.cmpTmap1, stride := 8, count := 256, hi := 19, lo := 10, min := 1, max := 512 },
  { base := Reg.cmpTmap1, stride := 8, count := 256, hi := 9, lo := 0, min := 1, max := 512 },
  { base := Reg.emsEmitDelay, hi := 25, lo := 0, min := 0, max := 65536000 },
  { base := Reg.emsEmark, hi := 1, lo := 0, min := 0, max := 2 },
  { base := Reg.memCfg, hi := 15, lo := 0, min := 64, max := 65535 },
  { base := Reg.memRetrain, hi := 15, lo := 0, min := 1, max := 65535 },
  { base := Reg.memScrub, hi := 5, lo := 0, min := 0, max := 48 },
  { base := Reg.calCfg, hi := 15, lo := 8, min := 5, max := 100 },
  { base := Reg.calBankTsel, hi := 2, lo := 0, min := 0, max := 4 },
  { base := Reg.calBankTsel, hi := 6, lo := 4, min := 0, max := 4 },
  { base := Reg.calBankTsel, hi := 10, lo := 8, min := 0, max := 4 },
  { base := Reg.calBankTsel, hi := 14, lo := 12, min := 0, max := 4 }]

/-- The fields whose values have a range (R7, R8). -/
def fieldRules : List FieldRule := fieldRules0

/-- The row of an address, if a register is assigned to it (R9). -/
def regRow (a : Nat) : Option RegRow := regRows.find? (fun r => r.holds a)

/-- Reset values that a table of constants gives instead of the row (coefficient banks, LUTs, OTP trims). -/
def regReset (a : Nat) : Word :=
  if 0x0070C000 ≤ a ∧ a < 0x0070E000 then BitVec.ofNat 32 (Config.coefBank0 ((a - 0x0070C000) % 0x800 / 4) % 1024)
  else if a = Reg.calLlat ∨ (Reg.calPortDly ≤ a ∧ a < Reg.calPortDly + 32) then BitVec.ofNat 32 (Config.otpTrim a)
  else match regRow a with
  | some r => BitVec.ofNat 32 r.reset
  | none => 0

end Sys2Proof.Machine
end

