-- ==== Sys2Proof/Machine/State.lean ====
section
/-! DEFINITION. The state of the block as plain data: registers, queues, counters, modes and pins, and the queue of commands. Every
field stands with its reset value; State.reset takes all of them. A register that software reads and writes stands in `regs`;
what the chip itself computes stands in a field of its own and the register reads it (RegView). -/

namespace Sys2Proof.Machine

/-- Why a step stops. -/
inductive Fault
  /-- A DRAM access outside the installed devices (R342): raised by DRAM_REQUEST_ISSUE. Safe: the machine stops where no cell is. -/
  | dramAddress (addr : Nat)
  deriving DecidableEq, Repr

/-- Why a command has no meaning. -/
inductive Refusal
  /-- The command has no meaning in the model yet: raised by Dispatch alone. Safe: the machine stops. -/
  | notModelled (mnemonic : String)
  deriving DecidableEq, Repr

/-- What the chip has put on its links, pins and host memory, in order (the model's own record). -/
inductive Out
  /-- A write to host memory (R75, R84). -/
  | hostWrite (addr : Nat) (bytes : List Byte)
  /-- An MSI-X vector (R75, R543). -/
  | msix (vector : Nat)
  /-- A UDP datagram on an ingest port (R77, R84), with the 16-bit control word of its VLAN tag, if tagged, and its destination MAC. -/
  | udp (port : Nat) (tag : Option Nat) (mac ip dstPort : Nat) (bytes : List Byte)
  /-- A frame on an ingest port (R172, R212, R214): 0 ARP request, 1 ARP reply, 2 and 3 IGMPv3 report in INCLUDE and EXCLUDE mode, 4 leave;
  its tag and destination MAC; its address, or group and source. -/
  | eth (port kind : Nat) (tag : Option Nat) (mac ip src : Nat)
  /-- A cell in a slot of a port (R114, R118). -/
  | cell (port slot : Nat) (bytes : List Byte)
  /-- A marker block on a port (R111). -/
  | marker (port : Nat) (bytes : List Byte)
  /-- A beacon on lane 0 of a port (R488). -/
  | beacon (port : Nat) (bytes : List Byte)
  /-- A latch pulse on the banks of a mask: 1 show, 2 load, 3 dark, 8 setup (R318, R319); for a show or dark pulse, each bank and the raw instant
  of its LLAT falling edge in 1/1,000,000 raw LSB (R310, R398). -/
  | latch (banks count : Nat) (edges : List (Nat × Int) := [])
  /-- Seventy-two-bit words shifted on a lane, in the order sent (R315, R316). -/
  | shift (lane : Nat) (words : List Nat)
  /-- Frames on the inbound link of the island (R408): zone duty with INERT, label with VALID, log selection, request. -/
  | duty (d : List Nat) (inert : Bool)
  | label (time : Nat) (valid : Bool)
  | logSel (rseq : Nat)
  | request (payload : List Byte)
  /-- The data of a read of a register through BAR0 that has an effect (R154, R160). -/
  | readData (addr data : Nat)
  /-- The word that the IDCODE instruction shifts out on TDO (R518). -/
  | tdo (word : Nat)
  /-- PM_PME on the PCIe link (R494). -/
  | pmPme
  deriving DecidableEq, Repr

/-! ### Roles, boot and power (00, 01, 16) -/

/-- The role held since the last cold reset (R1). -/
inductive Role | tile | lead | factory | reserved
  deriving DecidableEq, Repr

/-- Where the start-up stands (R472, R455, R479, R480). -/
inductive Phase
  /-- A main-side reset is asserted. -/
  | held
  /-- A failed secure boot: the recovery responder answers (R455). -/
  | recovery
  /-- A reserved strap: only the opcodes of R479 are answered. -/
  | strap
  /-- The boot has ended with the command responder up (R480). -/
  | up
  deriving DecidableEq, Repr

/-- A management core (R476, R477). -/
structure CoreS where
  /-- 0 off, 1 running, 2 faulted, 3 restarting (PWR_CORE). -/
  state : Nat := 0
  /-- 0 watchdog, 1 access, 2 C3. -/
  cause : Nat := 0
  /-- Raw instants of the automatic restarts. -/
  autos : List Nat := []
  deriving DecidableEq, Repr

/-- Sleep states of a chain or of a tile (R484). -/
inductive Sleep | awake | proposed | committed | twilight | waking
  deriving DecidableEq, Repr

/-- One chain's sleep as its lead holds it, or a tile's own (entry 0). -/
structure SleepS where
  state : Sleep := .awake
  epoch : Nat := 0
  /-- T of the proposal, in 2^-16 ns of the active domain. -/
  at_ : Nat := 0
  /-- Every tile of the chain answered the proposal OK (R485). -/
  allOk : Bool := false
  /-- A SLEEP_RESUME that waits for T + DWELL, or for its chain port to qualify (R491, R492); a resume armed by 0x0E01 waits. -/
  waiting : Option Req := none
  armedWait : Bool := false
  /-- Raw instant at which the chain entered Twilight: TILE_TIMEOUT stands still from then on (R70). -/
  since : Nat := 0
  /-- Resume beacons are sent (R490, R492): BEPOCH, and the raw instant of the next. -/
  resuming : Bool := false
  beaconEpoch : Nat := 0
  nextBeacon : Nat := 0
  deriving DecidableEq, Repr

/-- Power, reset, PCIe function and Twilight state without a register of its own. -/
structure PwrS where
  role : Role := .tile
  roleStrap : Nat := 0
  bootStrap : Nat := 0
  phase : Phase := .held
  /-- The PORESET_N pin is low. -/
  poresetLow : Bool := true
  /-- The chip is inert (R22). -/
  inert : Bool := true
  /-- A HALT authenticated under slot 15 was executed since the chip last left inert (R24). -/
  haltSafety : Bool := false
  /-- Supplies out of their range, by the numbers of R470. -/
  supplyOut : List Nat := []
  cores : List CoreS := [{}, {}]
  restarts : Nat := 0
  /-- PWR_RST_CAUSE (R494): latest source and warm resets. -/
  rstCause : Nat := 0
  warmCnt : Nat := 0
  /-- Forced-off mask of R469. -/
  domOff : Nat := 0
  /-- The endpoint is in D3hot (R494). -/
  d3hot : Bool := false
  pmeEn : Bool := false
  pmeStatus : Bool := false
  pmeCause : Nat := 0
  /-- A boundary-scan instruction holds the lamp outputs (R518). -/
  jtagHold : Bool := false
  /-- Chain sleep: chains 0 to 3 in a lead; entry 0 is a tile's own. -/
  sleep : List SleepS := [{}, {}, {}, {}]
  crossed : Nat := 0
  /-- Wake request latched, and its causes (R489). -/
  wakeLatched : Bool := false
  wakeCause : Nat := 0
  wakePos : Nat := 0xFF
  /-- Inertness and emission of a tile at Twilight entry (R492). -/
  inertAtT : Bool := true
  emitAtT : Bool := false
  /-- Ports still to qualify after a resume, with the raw instants at which they began. -/
  qualifying : Map Nat := []
  /-- Raw instant of the last beacon received per port (R489), and of the last plain beacon sent (R488). -/
  beaconAt : Map Nat := []
  plainAt : Nat := 0
  /-- Highest on-die temperature reported critical (R471). -/
  critical : Bool := false
  /-- Blocks on hold after a FIFO fault, by bits 27:20 of their base address (R40). -/
  held : List Nat := []
  /-- PLLs that have lost lock and not regained it, by the lock bits of GLB_PLL_STATUS (R41). -/
  pllLost : List Nat := []
  /-- VDD_CORE at the die, in mV (R503). -/
  vmeas : Nat := 0
  /-- The boot flash fails programs and erases, as a failed slot erase showed (R440, R451). -/
  flashBad : Bool := false
  deriving DecidableEq, Repr

/-! ### Events (02) -/

/-- One event source (R79, R80). -/
structure EvSrc where
  count : Nat := 0
  /-- FIRST and LAST, in 2^-16 ns. -/
  first : Nat := 0
  last : Nat := 0
  detail : Nat := 0
  sev : Nat := 0
  /-- An occurrence not yet carried by a record ran an armed response. -/
  armed : Bool := false
  /-- Domain and validity flags of the times (RFLAGS bits 6:5). -/
  tflags : Nat := 0
  /-- Occurrences since the latest record. -/
  dirty : Bool := false
  /-- Raw instants of the records emitted (R80). -/
  times : List Nat := []
  /-- Fault epoch of the latest record (R81). -/
  fepoch : Nat := 0
  deriving DecidableEq, Repr

/-- An event record (R79), or a bitmap record (R83). -/
structure EvRec where
  src : Nat := 0
  sev : Nat := 0
  rflags : Nat := 0
  origin : Nat := 0
  rseq : Nat := 0
  count : Nat := 0
  first : Nat := 0
  last : Nat := 0
  detail : Nat := 0
  /-- A bitmap record carries these 32 bytes instead. -/
  bitmap : Option (List Byte) := none
  deriving DecidableEq, Repr

/-- An open merge window of the lead (R83). -/
structure Merge where
  src : Nat
  detail : Nat
  /-- Raw instant at which the window closes. -/
  close : Nat
  /-- The tile whose record opened the window. -/
  opener : EvRec
  /-- The latest held record of each tile that reported after it. -/
  held : List EvRec := []
  deriving DecidableEq, Repr

/-- A UDP host that subscribed (R84). -/
structure Subscriber where
  ip : Nat
  udpPort : Nat
  /-- The ingest port used. -/
  port : Nat
  /-- SRC of the subscribing request, and whether it was authenticated. -/
  src : Nat
  auth : Bool
  deriving DecidableEq, Repr

/-- The event unit. -/
structure EvtS where
  srcs : Map EvSrc := []
  rseq : Nat := 0
  /-- The latest 1,024 records formed here, oldest first (R542). -/
  history : List EvRec := []
  /-- Records held for the ring (lead), or pending for CMD cells (tile). -/
  heldRecs : List EvRec := []
  /-- Records not delivered since the last EV_24 (R84). -/
  lost : Nat := 0
  merges : List Merge := []
  /-- The subscriber of EVT_SUBSCRIBE (R84). -/
  sub : Option Subscriber := none
  /-- Fault epoch: the lead's own setting, or the latest one a tile received. -/
  fepoch : Nat := 0
  /-- Held records already looked at for a PME cause; instants, ORIGIN and RSEQ of the records that carry the latest causes (R494, R533). -/
  pmeSeen : Nat := 0
  pmeMark : List (Nat × Nat × Nat) := []
  /-- EVT_RING_TAIL and the chip's copy of the head index (R543). -/
  ringTail : Nat := 0
  ringHead : Nat := 0
  deriving DecidableEq, Repr

/-! ### Commands (02) -/

/-- A command a lead sends on to tiles or to another lead, from admission to its reply (R60, R61, R538). -/
structure Job where
  id : Nat := 0
  op : Nat := 0
  req : Req := {}
  /-- 0 unicast to `addrs`, 1 broadcast, 2 NEAREST. -/
  kind : Nat := 0
  /-- The tiles addressed. -/
  addrs : List Nat := []
  /-- The chains on which it is queued, with the queue's tile address (R66). -/
  lanes : List (Nat × Nat) := []
  /-- CMD cells still to send, per chain: chain and next FRAG. -/
  frags : List (Nat × Nat) := []
  /-- Raw instant at which TILE_TIMEOUT started. -/
  started : Option Nat := none
  /-- Raw instant at which the last cell left on every chain. -/
  sentAll : Option Nat := none
  /-- Replies: tile, STATUS, DETAIL. -/
  replies : List (Nat × Nat × Nat) := []
  /-- Forwarded over P7: raw instant, and the far lead's aggregate data once it came. -/
  far : Option Nat := none
  farData : Option (List Byte) := none
  farGone : Bool := false
  /-- The number of the far lead at the forwarding. -/
  farLead : Nat := 0
  /-- TILE_TIMEOUT has passed and EV_21 was raised (R60). -/
  told : Bool := false
  deriving DecidableEq, Repr

/-- The command processor. -/
structure CmdS where
  /-- Requests that passed checks 1 to 12 of R58 and wait for execution here, with their opcodes. -/
  admitted : List (Nat × Req) := []
  replay : Map Replay := []
  /-- CMD_RING_HEAD, the doorbell's tail, and HOLD of each ring (R74, R76). -/
  ringHead : Map Nat := []
  ringTail : Map Nat := []
  ringHold : List Nat := []
  jobs : List Job := []
  nextJob : Nat := 0
  /-- Commands answered with TIMEOUT whose reply may still come: SEQ, TAG, tile address. -/
  late : List (Nat × Nat × Nat) := []
  /-- CMD cells sent per chain, for the share of classes 8 to 11 (R68): cells since the last such cell. -/
  share : Map Nat := []
  /-- PSEQ counters per destination and direction (R123). -/
  pseq : Map Nat := []
  /-- Round-robin position: the queue served last, per port and class (R68). -/
  rr : Map Nat := []
  deriving DecidableEq, Repr

/-! ### Keys (04, 15) -/

/-- Volatile keys and cell counters (R126, R128, R442). -/
structure KeyS where
  /-- A tile's own session keys A and B. -/
  sessA : Option (List Byte) := none
  sessB : Option (List Byte) := none
  /-- Key ID loaded most recently (R443). -/
  lastId : Option Nat := none
  /-- A lead's session keys, at tile address * 2 + key ID, and the latest key ID of each tile. -/
  tiles : Map (List Byte) := []
  tileLast : Map Nat := []
  /-- Next CSEQ to send, at ((peer * 4 + KEY) * 16 + TYPE) * 2 + DIR. -/
  txSeq : Map Nat := []
  /-- Last CSEQ accepted, at the same key over the sender. -/
  rxSeq : Map Nat := []
  /-- Keys under which a counter ran out, at peer * 4 + KEY (R128). -/
  stopped : List Nat := []
  /-- Group-key counters whose latest floor write failed (R547), by the same key as txSeq. -/
  floorBad : List Nat := []
  deriving DecidableEq, Repr

/-- The OTP fields that the chip itself programs (R436): they outlive every reset. -/
structure OtpS where
  arb : Nat := 0
  dbgOpen : Nat := 0
  dbgClose : Nat := 0
  rootRevoke : Nat := 0
  deriving DecidableEq, Repr

/-- An image slot (R449, R456): 0 INVALID, 2 VERIFIED, 5 booted before; its bytes away from 0xFF, and the size written. -/
structure ImgSlot where
  mark : Nat := 0
  img : Map Byte := []
  size : Nat := 0
  deriving DecidableEq, Repr

/-- A journal record of a store (R450): the half it stands in, SEQ, what its data holds, and whether its commit marker was written. -/
structure FlashRec where
  half : Nat
  seq : Nat
  data : StoreData
  marked : Bool
  deriving DecidableEq, Repr

/-- The boot flash, which outlives every reset (R449 to R451): the image slots, the journals, and what the boot pointer and the settings store hold. -/
structure FlashS where
  /-- Slots A and B. -/
  slots : List ImgSlot := [{}, {}]
  /-- Boot pointer: ACTIVE, TRIAL, TRIAL_LEFT. -/
  active : Nat := 0
  trial : Bool := false
  left : Nat := 0
  /-- Pending activation: its INSTANT for MODE 1; and the pointer before it. -/
  pend : Option (Option Nat) := none
  before : Nat × Bool × Nat := (0, false, 0)
  /-- A slot whose erase has an intent without completion (R451). -/
  erasing : Option Nat := none
  /-- Schema of the settings store: major and minor. -/
  schema : Option (Nat × Nat) := none
  /-- Journals of stores 1 to 5, at STORE - 1, each with the newest record first. -/
  journals : List (List FlashRec) := [[], [], [], [], []]
  deriving DecidableEq, Repr

/-- An open image update (R457 to R460): 64-byte units written, and the IMG_VERIFY in progress. -/
structure ImgUpdate where
  slot : Nat
  size : Nat
  units : List Nat := []
  verify : Option Req := none
  deriving DecidableEq, Repr

/-- The security unit and the boot's outcome, volatile. -/
structure SecS where
  /-- ISLAND_FPR is stale (R445). -/
  stale : Bool := false
  /-- The running image: 0 slot A, 1 slot B, 2 the load area (R482). -/
  running : Option Nat := none
  trial : Bool := false
  settingsReset : Bool := false
  bootDetail : Nat := 0
  /-- A gate change in progress (R447): its DEBUG_OPEN, and whether it opens. -/
  gate : Option (Req × Bool) := none
  upd : Option ImgUpdate := none
  /-- The load area in OCM banks 0 to 31 (R482). -/
  load : ImgSlot := {}
  deriving DecidableEq, Repr

/-! ### Topology and ports (03, 04) -/

/-- A PORT_OPEN in progress (R100). -/
structure Opening where
  op : Nat
  req : Req
  start : Nat
  prev : PortState
  /-- The port is a tile's upstream port that was LOST (R104). -/
  wasUp : Bool := false
  /-- FUNC or PORT_CLOSE set the port's state since: it can no longer pass, and answers at 20 ms (R100, R106, R545). -/
  dead : Bool := false
  deriving DecidableEq, Repr

/-- A message in assembly (R122, R123). -/
structure Asm where
  typ : Nat
  src : Nat
  key : Nat
  dest : Nat
  ctrl : Nat
  cseq0 : Nat
  cseq : Nat
  idx : Nat
  xt : Nat
  /-- Headers with HOPS 0, for the additional data (R127). -/
  aad : List Byte
  data : List Byte
  /-- A C1 failure or a stomp touched the message (R125). -/
  bad : Bool := false
  stamp : Nat := 0
  deriving DecidableEq, Repr

/-- One port in chain framing. -/
structure PortS where
  state : PortState := .off
  /-- PCS bits of PRT_STATUS: 3 SF_LOCK, 2 ALIGN_LOCK, 1 BLOCK_LOCK, 0 FEC_LOCK. -/
  sfLock : Bool := false
  pcsLock : Bool := false
  /-- Latest superframe counter received, and consecutive good and bad superframes (R116). -/
  sfRx : Option Nat := none
  sfGood : Nat := 0
  sfBad : Nat := 0
  /-- Raw instant of the latest good SYNC (R116). -/
  syncAt : Nat := 0
  /-- Consecutive C1 failures (R102). -/
  c1Run : Nat := 0
  /-- Link identification of the far end: lead bit, LEAD_NUM, DOMAIN_ID (R112). -/
  farId : Option (Bool × Nat × Nat) := none
  /-- The lead-to-lead link on P7 is up (R93), as last reported. -/
  linkUp : Bool := false
  /-- Messages in assembly: PIX at 0, MIRR at 1, CMD at 4 + 2 * SRC + BCAST. -/
  asm : Map Asm := []
  /-- Next slot to send and superframe counter to send (R112, R114). -/
  slot : Nat := 0
  sfTx : Nat := 0
  opening : Option Opening := none
  /-- NEAREST messages of more than one cell in progress, by SRC (R95): 0 discarded, 1 forwarded, 2 consumed. -/
  near : Map Nat := []
  /-- The link of a LOST port was reported to qualify again (R104). -/
  again : Bool := false
  deriving DecidableEq, Repr

/-- A message ready to be sent on a port (R118 chooses among them). -/
structure TxMsg where
  port : Nat
  typ : Nat
  dest : Nat
  bcast : Bool := false
  dir : Bool := false
  relay : Bool := false
  key : Nat := 3
  /-- Queue class of a CMD message (R68). -/
  cls : Nat := 12
  /-- XT of the first cell (R122, R123). -/
  xt : Nat := 0
  /-- SRC of the cells where it is not the chip's own: a NEAREST packet passed on (R95). -/
  src : Option Nat := none
  body : List Byte
  /-- The sealed cells still to send, once the message has begun. -/
  cells : Option (List (List Byte)) := none
  /-- The job this message carries (lead). -/
  job : Option Nat := none
  /-- What the egress stamp of a TIME message feeds: 0 nothing, 1 the FOLLOW of a SYNC, 2 t3 of a DREQ, 3 a PDREQ, 4 the turnaround
  of a PDRESP, 5 a LOOP cell. -/
  mark : Nat := 0
  /-- A raw stamp the mark needs. -/
  arg : Nat := 0
  /-- Raw instant before which it is not sent (R371). -/
  notBefore : Nat := 0
  deriving DecidableEq, Repr

/-- A cell in transit through a tile or relayed by a lead (R131, R133). -/
structure Transit where
  inPort : Nat
  outPort : Nat
  slot : Nat
  ingress : Nat
  bad : Bool
  /-- Empty for a slot that leaves as IDLE (R131). -/
  bytes : List Byte
  deriving DecidableEq, Repr

/-- An Eclipse hold-off (R140), or the lead's own record of one it originated (R141). -/
structure HoldOff where
  eseq : Nat
  safe : Bool
  scope : Nat
  chain : Nat
  domain : Nat
  deriving DecidableEq, Repr

/-- Eclipse state (R137 to R142). -/
structure EclS where
  nextEseq : Nat := 0
  /-- ESEQ values sent, with their raw instants (R137). -/
  sentAt : List (Nat × Nat) := []
  /-- Markers acted on: origin, ESEQ, raw instant (R138). -/
  acted : List (Nat × Nat × Nat) := []
  /-- Hold-offs by origin lead. -/
  holds : Map HoldOff := []
  /-- A tile's lamps are held dark by Eclipse. -/
  dark : Bool := false
  /-- Raw instant of the latest marker with HOLD = 0 (R140). -/
  markAt : Nat := 0
  /-- The last marker acted on, for PRT_ECL_STATE: scope, origin, chain, ESEQ. -/
  last : Nat × Nat × Nat × Nat := (0, 0, 0, 0)
  deriving DecidableEq, Repr

/-- Topology and the port complex. -/
structure NetS where
  /-- GLB_TOPO_ADDR: VALID, UPSTREAM and ADDRESS. -/
  valid : Bool := false
  /-- The tile has held an address since the main-side reset (R98). -/
  had : Bool := false
  upPort : Nat := 0
  addr : Nat := 0
  ports : List PortS := [{}, {}, {}, {}, {}, {}, {}, {}]
  table : List TopoEntry := []
  /-- End codes of the chains (R98). -/
  ends : Map Nat := []
  /-- Arrival port in the latest probe reply of each chain (R98). -/
  probed : Map Nat := []
  /-- Verified messages that wait for their rows. -/
  inbox : List Msg := []
  tx : List TxMsg := []
  transit : List Transit := []
  ecl : EclS := {}
  deriving DecidableEq, Repr

/-! ### Meridian (05) -/

/-- A staged write (R156). -/
structure Staged where
  /-- V in 2^-16 ns. -/
  value : Option Nat := none
  /-- r' in 2^-56 ns per raw LSB. -/
  rate : Option Nat := none
  /-- Raw apply instant, at a TIME edge. -/
  at_ : Nat
  atOnce : Bool := false
  deriving DecidableEq, Repr

/-- A derived time domain and its servo (R151, R166, R168, R169). -/
structure Dom where
  /-- OFFSET in 2^-56 ns. -/
  offset : Int := 0
  /-- RATE in 2^-56 ns per raw LSB; reset nominal. -/
  rate : Nat := 0x0003E80000000000
  valid : Bool := false
  servo : Servo := .free
  pend : Option Staged := none
  /-- Filtered offset (2^-16 ns), integral term, and the latest mean path delay. -/
  theta : Int := 0
  integ : Int := 0
  mpd : Int := 0
  /-- Twice the delay of the latest exchanges of R166, newest first, at most 16. -/
  mpds : List Int := []
  rej : Nat := 0
  utcOffset : Int := 0
  lhops : Nat := 0
  /-- Consecutive filtered offsets within, and beyond, ALIGN_LIM. -/
  inRun : Nat := 0
  outRun : Nat := 0
  /-- EV_130 was raised in this excursion. -/
  excursion : Bool := false
  /-- Raw instant of the latest usable sample. -/
  sampleAt : Nat := 0
  /-- The SYNC waiting for its FOLLOW: MSEQ, ingress raw stamp, CORR. -/
  sync : Option (Nat × Nat × Nat) := none
  /-- The latest SYNC used: its t1 (2^-16 ns), ingress raw stamp and CORR. -/
  lastSync : Option (Nat × Nat × Nat) := none
  /-- 0x0nFF of the source lead, from the latest SYNC. -/
  src : Nat := 0
  /-- The DREQ in flight: MSEQ, egress stamp. -/
  dreq : Option (Nat × Option Nat) := none
  /-- ASYM of the latest DRESP, raw LSB. -/
  asym : Int := 0
  mseq : Nat := 0
  dseq : Nat := 0
  deriving DecidableEq, Repr

/-- A snapshot of the time (R153). -/
structure Snap where
  seq : Nat := 0
  raw : Nat := 0
  m0 : Nat := 0
  m1 : Nat := 0
  v0 : Bool := false
  v1 : Bool := false
  /-- Words read from this snapshot. -/
  read : List Nat := []
  /-- No snapshot has been latched yet. -/
  fresh : Bool := false
  deriving DecidableEq, Repr

/-- A SHREF capture FIFO (R160). -/
structure CapFifo where
  entries : List (Nat × Nat) := []
  discards : Nat := 0
  /-- The entry shown in TMU_CAPn. -/
  shown : Nat × Nat := (0, 0)
  deriving DecidableEq, Repr

/-- A PATH_CAL in progress (R165, R170). -/
structure PathCal where
  req : Req
  port : Nat
  ring : Bool
  /-- Egress stamps of LOOP cells, at 2 * MSEQ + direction. -/
  loops : Map Nat := []
  /-- Samples of the ring, or the link exchanges made. -/
  cw : List Int := []
  ccw : List Int := []
  deriving DecidableEq, Repr

/-- A pending domain switch (R173). -/
structure Switch where
  new : Nat
  stepOk : Bool
  /-- The TIME_SELECT that asked for it; none for the armed response. -/
  req : Option Req := none
  /-- EV_135 of the deferral of LMG-KL-05 was raised. -/
  deferred : Bool := false
  /-- Ls is announced: the switch happens at it. -/
  decided : Bool := false
  deriving DecidableEq, Repr

/-- The Meridian time unit. -/
structure TmuS where
  /-- The free-running raw counter (R147). -/
  raw : BitVec 72 := 0
  d0 : Dom := {}
  d1 : Dom := {}
  /-- The active domain: false MTD0, true MTD1. -/
  active : Bool := false
  /-- The snapshots of BAR0 and of the management firmware (R154). -/
  snap : Snap := {}
  fw : Snap := {}
  caps : List CapFifo := [{}, {}, {}, {}]
  ptp0 : Ptp := {}
  ptp1 : Ptp := {}
  /-- Raw instant at which a value last applied to MTD0 (LMG-KL-05). -/
  kl05 : Option Nat := none
  switch : Option Switch := none
  /-- ρ of a running bridge, in 2^-16 ns, and the raw instant of its latest change. -/
  bridge : Option (Int × Nat) := none
  pathCal : Option PathCal := none
  /-- Link delay exchanges: egress stamps of the PDREQs in flight, at 65,536 * port + MSEQ; twice the latest delays per port. -/
  pdreq : Map Nat := []
  pdelay : Map (List Int) := []
  pseq : Nat := 0
  deriving DecidableEq, Repr

/-! ### Ephemeris (06) -/

/-- States of the lead's and of the tile's Ephemeris (R187, R198). -/
inductive LchSt | idle | run | stopping | hold | tRun | tCoast | tWait
  deriving DecidableEq, Repr

/-- What a slot shows after the check of R200: the new frame, its previous one, or nothing. -/
inductive SlotNext | frame | previous | dark
  deriving DecidableEq, Repr

/-- The Ephemeris launch scheduler. -/
structure LchS where
  state : LchSt := .idle
  /-- The accepted LCH_CONFIG payload; empty before one. -/
  cfg : List Byte := []
  /-- Launch counter (R185). -/
  count : Nat := 0
  /-- Lead: the scheduled instant of the newest announced launch, without the bridge offset (R173). -/
  sched : Nat := 0
  /-- Lead: announced launches, oldest first. Tile: held launches after its latest. -/
  table : List Launch := []
  /-- Tile: launches and coast launches past, newest first. -/
  past : List Launch := []
  /-- PCOAST and SMIN of the latest accepted cell. -/
  pcoast : Nat := 0
  smin : Nat := 0
  /-- Number of the launch that carried STOP. -/
  stopN : Option Nat := none
  /-- Launch servo (R195): state, integrator, latest error, runs of small and large errors, launches since an edge. -/
  servo : Servo := .free
  integ : Int := 0
  err : Int := 0
  small : Nat := 0
  large : Nat := 0
  sinceEdge : Nat := 0
  /-- The latest unused reference edge, in 2^-16 ns. -/
  edge : Option Nat := none
  /-- Lead: raw instant of the latest announcement. -/
  annAt : Nat := 0
  /-- Cells that are still to be repeated (R191), oldest first: raw instant of the announcement, repeats sent, body. -/
  repeats : List (Nat × Nat × List Byte) := []
  /-- Switch launch data (R190): N, B0, new domain, stepped. -/
  sw : Option (Nat × Int × Bool × Bool) := none
  /-- SHREF configurations (R194). -/
  shref : List (List Byte) := [[], [], [], []]
  coasts : Nat := 0
  /-- The launches checked (R200), oldest first: number, and what each slot shows. -/
  checked : List (Nat × List SlotNext) := []
  /-- Numbers of the launches for which EV_193 was raised, newest first. -/
  told : List Nat := []
  /-- The next coast launch was decided (R204): its number and instant, and whether 0x0301 was armed then (R19). -/
  coastNext : Option (Nat × Nat × Bool) := none
  deriving DecidableEq, Repr

/-! ### Memory controller (11) -/

/-- Channel states (MEM_CHn_STATUS). -/
inductive ChSt | off | init | run | selfRefresh | hold
  deriving DecidableEq, Repr

/-- A request in a channel queue with its promotion. -/
structure Queued where
  req : MemReq
  /-- Raw instant of its entry into the queue. -/
  entry : Nat
  /-- Raw instant of its promotion (R347). -/
  promoted : Option Nat := none
  deriving DecidableEq, Repr

/-- One DRAM channel. -/
structure Chan where
  st : ChSt := .off
  /-- Read and write queue, oldest first (R345). -/
  reads : List Queued := []
  writes : List Queued := []
  /-- Reads issued whose data have not returned. -/
  flight : List MemReq := []
  /-- Requests whose queue is full: their clients wait (R345). -/
  blocked : List MemReq := []
  /-- Raw instants at which class 0 requests entered a queue, no older than 1 µs at the latest (R350). -/
  recent : List Nat := []
  /-- Postponed REFs and the raw instant of the next due one, per rank (R349). -/
  debt : List Nat := [0, 0]
  refAt : List Nat := [0, 0]
  /-- Ranks in precharge power-down, and the raw instant of each rank's latest request (R351). -/
  pd : List Nat := []
  lastReq : List Nat := [0, 0]
  /-- Raw instant of the latest retraining run, and since when one is deferred (R350). -/
  trainedAt : Nat := 0
  trainDue : Option Nat := none
  /-- The last 32 commands (R353), the alerts of the episode and the commands since its replay. -/
  retry : List MemReq := []
  alerts : Nat := 0
  since : Nat := 32
  /-- Next scrub address, channel-local, and the raw instant from which it is read (R357). -/
  scrub : Nat := 0
  scrubAt : Nat := 0
  /-- Second of the latest EV_584 and writes dropped since (R354). -/
  dropAt : Nat := 0
  drops : Nat := 0
  /-- DRAM address of the latest uncorrectable error. -/
  ueAddr : Nat := 0
  deriving DecidableEq, Repr

/-- The memory controller and the DRAM behind it. -/
structure MemS where
  /-- DRAM bytes away from 0, by DRAM address, in canonical form. -/
  dram : Map Byte := []
  /-- 64-bit words of DRAM that hold an uncorrectable error, by word number. -/
  bad : List Nat := []
  /-- The accepted MEM_CONFIG payload; empty while none. -/
  cfg : List Byte := []
  enabled : Bool := false
  chans : List Chan := [{}, {}, {}, {}]
  /-- MEM_CONFIG or MEM_RELEASE waiting for training: the request, and the channel of a release. -/
  training : Option (Req × Option Nat) := none
  /-- Commands that wait for the controller (R358): opcodes and requests. -/
  waiting : List (Nat × Req) := []
  deriving DecidableEq, Repr

/-! ### Calibration (13) -/

/-- A calibration run in progress (R394). -/
structure CalRun where
  req : Req
  target : Nat
  set : Nat
  /-- The output being measured (IREF runs). -/
  out : Nat := 0
  /-- The run was aborted (R396, reason 0x0A06). -/
  abort : Bool := false
  deriving DecidableEq, Repr

/-- The calibration and analogue unit. -/
structure CalS where
  /-- CAL_TEMP: the last values and the FAULT flags; the on-die mean. -/
  temps : List Int := List.replicate 12 0
  faults : List Bool := List.replicate 12 false
  onDie : Int := 0
  /-- Trim sets at 4 * bank + set. -/
  sets : List CalSet := List.replicate 16 {}
  /-- CODE_n in effect, and codes sampled for the launch to come. -/
  codes : List Nat := List.replicate 16 0
  next : Option (List Nat) := none
  /-- Outputs clamped, and bank * 4 + colour outside the span, in this excursion. -/
  clamped : List Nat := []
  outSpan : List Nat := []
  /-- Raw instants of the latest update of R393 and of the latest comparison of R401. -/
  updAt : Nat := 0
  refAt : Nat := 0
  refOk : Bool := false
  run : Option CalRun := none
  /-- Latest run: TARGET, SET, result, pass A, pass B; its final DETAIL. -/
  last : Nat × Nat × Nat × Int × Int := (0, 0, 0, 0, 0)
  lastDetail : Nat := 0
  /-- The pin that the spare channel drives. -/
  spare : Option Nat := none
  deriving DecidableEq, Repr

/-! ### Changes at a launch (01, 09) -/

/-- A reply held until L - guard of the launches already begun (R293): opcode, request, answer, and the launch it waits for. -/
structure HeldReply where
  op : Nat
  req : Req
  status : Nat
  until_ : Nat
  /-- The flip group of a FLIP. -/
  group : Option Nat := none
  deriving DecidableEq, Repr

/-! ### Ingest and composition (07) -/

/-- A resolved ARP entry (R212): port, next hop, MAC, raw instant. -/
structure ArpEntry where
  port : Nat
  ip : Nat
  mac : Nat
  at_ : Nat
  deriving DecidableEq, Repr

/-- Datagrams that wait for the ARP resolution of a next hop (R212). -/
structure ArpWait where
  port : Nat
  ip : Nat
  tries : Nat
  last : Nat
  /-- Destination address, UDP port, and data. -/
  packets : List (Nat × Nat × List Byte)
  deriving DecidableEq, Repr

/-- A frame of a stream (R217, R236). -/
structure Frame where
  /-- Its number since the stream was enabled; lines of a locked stream are numbered on from frame to frame. -/
  no : Nat := 0
  /-- RTP timestamp, and raw instant of the first packet. -/
  ts : Nat := 0
  began : Nat := 0
  /-- The packet with the marker bit arrived. -/
  marker : Bool := false
  /-- The frame is complete, or EV_261 was raised for it. -/
  done : Bool := false
  failed : Bool := false
  /-- The frame is dropped for lack of a buffer; numbers declared lost in it. -/
  drop : Bool := false
  lost : Nat := 0
  /-- Ranges of bits of the raw layout received. -/
  have_ : List (Nat × Nat) := []
  /-- Blocks of it already packed. -/
  packed : List Nat := []
  /-- Lines that were lost or discarded. -/
  bad : List Nat := []
  deriving DecidableEq, Repr

/-- A stream (R213 to R217, R235, R236). -/
structure Strm where
  /-- Accepted STREAM_CONFIG payload; empty before one. -/
  conf : List Byte := []
  /-- Raw instant of the enable, and of the latest packet of each leg since. -/
  since : Nat := 0
  legAt : List (Option Nat) := [none, none]
  legOk : List Bool := [false, false]
  /-- A first complete frame was reported. -/
  first : Bool := false
  /-- LOCKED, and the launches whose window closed without a frame. -/
  locked : Bool := false
  noFrame : List Nat := []
  writeBuf : Nat := 0
  curBuf : Nat := 0
  /-- Extended sequence numbers: highest, missing with deadline, received, and declared lost. -/
  high : Option Nat := none
  missing : List (Nat × Nat) := []
  got : List Nat := []
  lost : List Nat := []
  /-- Packets received behind a missing number, with the raw instants of their arrival (R215). -/
  queue : List (RtpPkt × Nat) := []
  /-- RTP timestamp of the frame for which EV_263 was raised last (R217). -/
  fmtTs : Option Nat := none
  /-- Raw instants of the latest EV_260 and EV_264. -/
  lateAt : Option Nat := none
  noLockAt : Option Nat := none
  /-- The frame in progress, and the one before it. -/
  frame : Option Frame := none
  prev : Option Frame := none
  frames : Nat := 0
  /-- Sample bytes received: the raw layout of the frame in progress, or the line buffer of a locked stream, by line number. -/
  raw : Map Byte := []
  /-- Number of the frame that the compositor reads from the line buffer. -/
  useNo : Nat := 0
  deriving DecidableEq, Repr

/-- A composed tile image that waits for encoding (R229). -/
structure Composed where
  n : Nat
  slot : Nat
  chain : Nat
  pos : Nat
  pixels : List (Nat × Nat × Nat)
  deriving DecidableEq, Repr

/-- Ingest unit, compositor and block coder. -/
structure PixS where
  arp : List ArpEntry := []
  arpWait : List ArpWait := []
  streams : List Strm := [{}, {}, {}, {}]
  surfs : Map Surf := []
  /-- Current LAYER_CONFIG payloads, SURFACE as changed by flips (CMP_LAYERn). -/
  layers : Map (List Byte) := []
  fences : Map Nat := []
  flips : Map Flip := []
  /-- Ranges of each layer's pending mesh written since reset (R223, R225); the meshes stand in DRAM. -/
  meshes : Map (List (Nat × Nat)) := []
  /-- PROT_LAYER_SET in effect; empty when cleared. -/
  prot : List Byte := []
  /-- Layers whose surface has no complete frame (EV_322 was raised). -/
  bare : List Nat := []
  composed : List Composed := []
  /-- Sub-frames of which nothing more is sent: launch, slot, tile address (R193, R229, R263). -/
  cut : List (Nat × Nat × Nat) := []
  /-- Sub-frames composed, for the launches announced. -/
  made : List (Nat × Nat × Nat) := []
  staged : List Pending := []
  heldReplies : List HeldReply := []
  /-- Ratio, mode and shift floor of each chain (BCD_CHAINc). -/
  coder : List (Nat × Nat × Nat) := [(0, 0, 0), (0, 0, 0), (0, 0, 0), (0, 0, 0)]
  deriving DecidableEq, Repr

/-! ### Lamp pipeline (09) -/

/-- The flags of a temperature zone (R282). -/
structure Zone where
  stale : Bool := false
  fallback : Bool := false
  deriving DecidableEq, Repr

/-- One Almanac set (R283, R284); its image stands in DRAM. -/
structure AlmSet where
  temp : Int := 0
  written : List (Nat × Nat) := []
  loaded : Bool := false
  deriving DecidableEq, Repr

/-- An active-set buffer: what its regeneration interpolated from (R286, R287), with the four set images as it read them. -/
structure AlmBuf where
  mask : Nat := 0
  seq : Nat := 0
  imgs : List (Map Byte) := []
  /-- lo, hi and w of every zone; empty while no regeneration covered them. -/
  zones : List (Nat × Nat × Nat) := []
  deriving DecidableEq, Repr

/-- Region states (R291). -/
inductive RegSt | free | filling | pending | current
  deriving DecidableEq, Repr

/-- A region of plane memory: 64 codes of every mapped driver (R289). -/
structure Region where
  st : RegSt := .free
  slot : Nat := 0
  n : Nat := 0
  codes : Map (List Nat) := []
  deriving DecidableEq, Repr

/-- A sub-frame whose PIX runs a tile decodes or processes, by slot and FRAME. -/
structure SubF where
  slot : Nat
  frame : Nat
  /-- Its launch number and region, once the pipeline has begun it. -/
  begun : Option (Nat × Nat) := none
  /-- Decoded block groups: pixels of block k in raster order. -/
  blocks : Map (List (Nat × Nat × Nat)) := []
  groups : List Nat := []
  deriving DecidableEq, Repr

/-- A regeneration in progress: its buffer, its start, and the ALMANAC_ENABLE that asked for it. -/
structure Regen where
  buf : AlmBuf
  start : Nat
  enable : Option Req := none
  deriving DecidableEq, Repr

/-- The lamp pipeline and the Almanac engine. -/
structure LppS where
  /-- LPP_CONFIG in effect; empty before one. -/
  cfg : List Byte := []
  /-- Linearisation tables away from the PQ table: current and pending (R276). -/
  lut : List (Map Nat) := [[], [], []]
  lutPend : List (Map Nat) := [[], [], []]
  /-- The tables were lost with OCM (R487): their content from here on is the free values from this number on. -/
  lutLost : Option Nat := none
  sets : List AlmSet := [{}, {}, {}, {}]
  /-- Set mask in effect. -/
  mask : Nat := 0
  /-- Active-set buffers A and B, which is in use, and a completed regeneration not yet used. -/
  bufs : List AlmBuf := [{}, {}]
  active : Nat := 0
  fresh : Bool := false
  regen : Option Regen := none
  /-- Raw instant of the latest start of a regeneration, and completed regenerations. -/
  regenAt : Nat := 0
  almSeq : Nat := 0
  /-- LPP_MAP_STATUS, once the map was scanned. -/
  mapScan : Option Nat := none
  zones : List Zone := List.replicate 64 {}
  /-- Raw instants of the latest report of each driver (R281). -/
  reports : Map Nat := []
  regions : List Region := [{}, {}, {}, {}, {}, {}, {}, {}]
  subs : List SubF := []
  /-- Launches the pipeline has begun, with the active set each uses (R288), and the buffer of the latest. -/
  begun : List (Nat × AlmBuf) := []
  lastBuf : Nat := 0
  /-- PIX runs spoilt by C1 failures: FRAME, slot, run. -/
  pixBad : List (Nat × Nat × Nat) := []
  /-- Sub-frames that failed: FRAME, slot, reason (R200). -/
  failed : List (Nat × Nat × Nat) := []
  deriving DecidableEq, Repr

/-! ### Emission (10) -/

/-- A setup transfer that waits (R323, R324, R331, R333). -/
structure Setup where
  banks : Nat
  /-- Lane k of each group that gets RET_EN = 1; none where RET selects none. -/
  ret : Option Nat
  op : Nat
  addr : Nat
  mode : Nat
  lane : Nat
  data : Nat
  perDriver : List Nat := []
  /-- 0 SETUP_TRANSFER, 1 a collection, 2 a step of EMIT_ENABLE. -/
  kind : Nat
  req : Option Req := none
  since : Nat := 0
  deriving DecidableEq, Repr

/-- A window or fill in emission. -/
structure Win where
  slot : Nat
  n : Nat
  /-- The LAMP cycle of raw time in which it starts, and its phase φ_w in raw LSB (R39, R310). -/
  start : Nat
  phase : Nat := 0
  /-- Index of the next unit to show, from 0. -/
  next : Nat := 0
  /-- The window was cut (R326). -/
  cut : Bool := false
  fill : Bool := false
  /-- A unit is shown whose dark latch or next show is still to come. -/
  open_ : Bool := false
  /-- The codes it shows; none where it is dark. -/
  codes : Option (Map (List Nat)) := none
  deriving DecidableEq, Repr

/-- Emission scheduler and lamp port. -/
structure EmsS where
  /-- Accepted EMS_CONFIG; empty before one. -/
  cfg : List Byte := []
  enabled : Bool := false
  hold : Bool := false
  /-- EMIT_ENABLE in progress: the request, and the drivers found at their place so far. -/
  init : Option (Req × List Nat) := none
  setups : List Setup := []
  /-- The lane of each group whose drivers return their status in the next transfer of bank b (R320). -/
  selected : List (Option Nat) := [none, none, none, none]
  collectAt : Nat := 0
  /-- The next collection's step k. -/
  k : Nat := 0
  /-- 64 content bits of the latest verified status word of each driver (EMS_DRV). -/
  drv : Map Nat := []
  /-- Raw instant of the enable (R331). -/
  since : Nat := 0
  /-- The window in progress; windows of the latest launch that have ended. -/
  win : Option Win := none
  /-- LAMP cycle and phase of the latest window's start (R310, R312). -/
  grid : Nat × Nat := (0, 0)
  ended : List Nat := []
  /-- The window whose first unit has been shifted: launch and slot. -/
  pre : Option (Nat × Nat) := none
  /-- The rest of the fill of the latest launch is dark; the fill has run. -/
  fillCut : Bool := false
  fillDone : Bool := false
  /-- What is lit: the plane word shown, and the raw instant up to which its light is counted. -/
  lit : Option Nat := none
  litFrom : Nat := 0
  /-- Light of each zone since the last DUTY frame: raw time times 16 times the reference scale, summed over its lamps (R415). -/
  duty : Map Nat := []
  /-- Reference scale: c for 2^-c (R305). -/
  scale : Nat := 0
  /-- What each slot shows of the latest launch: a region number, or nothing. -/
  shows : List (Option Nat) := [none, none, none, none]
  /-- The latest launch and its instant; it is emitted. -/
  launch : Option (Nat × Nat) := none
  emits : Bool := false
  deriving DecidableEq, Repr

/-! ### Lead pairs (12) -/

/-- Pair states (R363). -/
inductive Pair | solo | takeover | active | standby | lapsed
  deriving DecidableEq, Repr

/-- The pair controller of a lead, and the relay map of a tile. -/
structure PaiS where
  state : Pair := .solo
  /-- Partner state as last seen: codes of R363, 7 unknown. -/
  partner : Nat := 0
  bound : Bool := false
  ringSeen : Nat := 0
  /-- Chains relayed through the partner, and chains of which this lead is the tail (R89, R371). -/
  relay : Nat := 0
  tails : Nat := 0
  /-- End of the claim window, and the latest CLAIM, raw (R364). -/
  claimEnd : Nat := 0
  claimAt : Option Nat := none
  bseq : Nat := 0
  /-- Raw instant of the latest RENEW; whether its ACK came; BSEQ and raw instants of the recent ones. -/
  renewAt : Option Nat := none
  renewAcked : Bool := true
  renews : List (Nat × Nat) := []
  /-- t_s of the latest RENEW that holds (R367), and renewals missed since. -/
  tHold : Option Nat := none
  missed : Nat := 0
  /-- t_r of a Standby (R369); EV_772 was raised for this expiry; raw instant of the latest attempt. -/
  tRecv : Option Nat := none
  told : Bool := false
  lastTry : Option Nat := none
  /-- LAST_N and LAST_L of the latest RENEW or HANDOVER received. -/
  lastN : Nat := 0
  lastL : Nat := 0
  /-- Latest delta sent, or announced by RENEW; latest one acknowledged, or applied. -/
  mseqSent : Nat := 0
  mseqAck : Nat := 0
  /-- Active: parts that the partner has been sent since its baseline began; raw instants of the latest delta sent and acknowledged. -/
  sent : List MirrorItem := []
  deltaAt : Option Nat := none
  ackAt : Nat := 0
  mirrorStale : Bool := false
  /-- Standby: mirrored parts; a baseline has begun, and has been applied (R377); since when the mirror is behind; EV_773 was raised. -/
  mirror : List MirrorItem := []
  begun : Bool := false
  baseline : Bool := false
  behind : Option Nat := none
  /-- RMAP_c in effect. -/
  rmap : List (Option Nat) := [none, none, none, none]
  /-- Replies held for the mirror (R378): request, STATUS, packet, MSEQ awaited. -/
  held : List (Req × Nat × List Byte × Nat) := []
  /-- PAIR_HANDOVER: the request, H; and the raw instant from which the ACK of the last delta is awaited (R375). -/
  handover : Option (Req × Nat) := none
  flushing : Option Nat := none
  save : Option Req := none
  restore : Option Req := none
  deriving DecidableEq, Repr

/-! ### Metrology island (14) -/

/-- Sealed parameters (R427), each within its range. -/
structure MetPar where
  perLen : Nat := 3600
  calInt : Nat := 900
  chEn : Nat := 0
  zoneEn : Nat := 0
  kv : List Nat := [65536, 65536, 65536, 65536]
  rsh : List Nat := [1, 1, 1, 1]
  cv : List Int := [0, 0, 0, 0]
  ci : List Int := [0, 0, 0, 0]
  deriving DecidableEq, Repr

/-- Accumulators of a channel (R411), in µWh, with the carried fractions in 1 / (1.2 × 10^8 × 2^62 × RSH). -/
structure MetCh where
  eImp : Nat := 0
  eRev : Nat := 0
  perImp : Nat := 0
  fracImp : Nat := 0
  fracRev : Nat := 0
  deriving DecidableEq, Repr

/-- What a checkpoint and a POWER_FAIL record keep (R423, R425). -/
structure Meter where
  mono : Nat := 0
  ch : List MetCh := [{}, {}, {}, {}]
  /-- ZONE_LH, in 2^-16 s. -/
  zones : List Nat := List.replicate 64 0
  /-- GAP_S of the open period. -/
  gap : Nat := 0
  period : Nat := 1
  deriving DecidableEq, Repr

/-- A label (R417): time value in 2^-16 ns, VALID, MONO at its arrival. -/
structure MetLabel where
  time : Nat
  valid : Bool
  mono : Nat
  deriving DecidableEq, Repr

/-- A self-calibration run (R413): its channel, the step it is in (1 to 3), and its agreements in 10^-6. -/
structure MetCal where
  ch : Nat
  step : Nat := 1
  spare : Nat
  chan : Nat := 0
  deriving DecidableEq, Repr

/-- The metrology island: no main-side reset changes it (R407). -/
structure MetS where
  /-- VDD_MET in mV; the supply class taken at the latest start is 3.3 V; VDD_MET fell below the power-fail threshold and has not risen again by
  the hysteresis (R513). The island runs. -/
  vdd : Nat := 0
  cls33 : Bool := false
  low : Bool := true
  run : Bool := false
  /-- START cause of the next start: 0 power, 1 MET_RESET_N. -/
  cause : Nat := 0
  par : MetPar := {}
  meter : Meter := {}
  saved : Meter := {}
  /-- Mean voltage in mV and current in mA of each channel over the latest interval. -/
  vMv : List Int := [0, 0, 0, 0]
  iMa : List Int := [0, 0, 0, 0]
  /-- Consecutive rejections of each channel, and CAL_FAULT. -/
  rejected : List Nat := [0, 0, 0, 0]
  calFault : Nat := 0
  cal : Option MetCal := none
  /-- Sum of the duty received in the current interval. -/
  duty : Option (List Nat) := none
  label : Option MetLabel := none
  /-- MONO and label at which the open period began. -/
  perStart : Nat := 0
  perLabel : Nat := 0
  /-- The log, oldest first; RSEQ of the newest record and its MONO. -/
  log : List (List Byte) := []
  rseq : Nat := 0
  lastMono : Nat := 0
  logSel : Nat := 0
  /-- MET_SEAL_N is low; as the island last recorded it. -/
  sealPin : Bool := true
  sealed : Bool := true
  clkFault : Bool := false
  /-- Island flash failed a program or erase: no row sets it. -/
  flashFault : Bool := false
  linkErr : Nat := 0
  reqSeq : Nat := 0
  audit : Nat := 0
  dbgCnt : Nat := 0
  dbgOpen : Bool := false
  /-- MET_RSP: final STATUS and DETAIL; MET_RSP_SEQ; requests answered. -/
  rsp : Nat × Nat := (0, 0)
  rspSeq : Nat := 0
  answers : Nat := 0
  /-- Parameters that wait for the boundary: REQ_SEQ, KEYIDX, entries of ID and value. -/
  params : List (Nat × Nat × List (Nat × Nat)) := []
  /-- Requests whose parameters were dropped at a boundary. -/
  dropped : Nat := 0
  /-- Active firmware image away from the factory's, the inactive slot (erased bytes 0xFF), and the size of an image to start next. -/
  fw : Option (List Byte) := none
  slot : Map Byte := []
  fwNext : Option Nat := none
  snapSeq : Nat := 0
  /-- Snapshot words that are not 0, by mailbox offset. -/
  snap : Map Nat := []
  deriving DecidableEq, Repr

/-- What the main side saw at its latest poll of the mailbox (R435). -/
structure MetPoll where
  head : Nat
  sealed : Bool
  audit : Nat
  gap : Nat
  calFault : Nat
  clk : Bool
  flash : Bool
  dropped : Nat
  snapSeq : Nat
  /-- Raw instant at which MET_SNAP_SEQ last advanced; EV_841 was raised since. -/
  snapAt : Nat
  told : Bool
  deriving DecidableEq, Repr

/-- The main side's end of the island's paths. -/
structure MetMain where
  /-- The MET_SEALED that waits: request, raw instant, and the requests the island had answered. -/
  sent : Option (Req × Nat × Nat) := none
  poll : Option MetPoll := none
  pollAt : Nat := 0
  dutyAt : Nat := 0
  labelAt : Nat := 0
  deriving DecidableEq, Repr

/-! ### The whole state -/

/-- The state of the chip. -/
structure State where
  /-- The commands that wait, first in first out. -/
  pending : List Instr := []
  /-- Registers away from their reset values (R11, R12). -/
  regs : Map Word := []
  /-- Arming identifiers set (R17 to R21). -/
  armed : List Nat := []
  pwr : PwrS := {}
  evt : EvtS := {}
  cmd : CmdS := {}
  ks : KeyStore := {}
  otp : OtpS := {}
  flash : FlashS := {}
  sec : SecS := {}
  key : KeyS := {}
  net : NetS := {}
  tmu : TmuS := {}
  lch : LchS := {}
  mem : MemS := {}
  pix : PixS := {}
  lpp : LppS := {}
  ems : EmsS := {}
  cal : CalS := {}
  pai : PaiS := {}
  met : MetS := {}
  metm : MetMain := {}
  /-- The model's own counter of free values. -/
  free : Nat := 0
  /-- The model's own record of outputs, oldest first. -/
  out : List Out := []
  deriving DecidableEq, Repr

/-- The machine right after reset: the main side held in cold reset, every field at its reset value. -/
def State.reset : State := {}

end Sys2Proof.Machine
end

