-- ==== Sys2Proof/Machine/Ops.lean ====
section
/-! DEFINITION. The named operations over the state that every command shares: time, registers, outputs, addresses, events, replies. -/

namespace Sys2Proof.Machine

/-- A command's answer: the next state. -/
abbrev Res := Host.Outcome State Fault Refusal

/-! ### Durations in raw LSB (R16): a raw LSB is 1,000/65,536 ns -/

/-- Milliseconds. -/
def rawMs (n : Nat) : Nat := n * 65536000
/-- Microseconds. -/
def rawUs (n : Nat) : Nat := n * 65536
/-- Nanoseconds, rounded under R536. -/
def rawNs (n : Nat) : Nat := roundDivN (n * 65536) 1000
/-- Seconds. -/
def rawSec (n : Nat) : Nat := n * 65536000000

/-! ### Time (R147, R150, R151) -/

/-- The raw counter. -/
def State.now (s : State) : Nat := s.tmu.raw.toNat

/-- A derived domain: false MTD0, true MTD1. -/
def State.dom (s : State) (d : Bool) : Dom := if d then s.tmu.d1 else s.tmu.d0

/-- Replace a derived domain. -/
def State.setDom (s : State) (d : Bool) (x : Dom) : State :=
  { s with tmu := if d then { s.tmu with d1 := x } else { s.tmu with d0 := x } }

/-- Derived time at a raw instant, in 2^-16 ns, truncated toward negative infinity (R151). -/
def Dom.at (d : Dom) (r : Nat) : Int := (d.offset + (d.rate : Int) * r) / 1099511627776

/-- A raw stamp of a port's hardware referred to the balls: without the latencies that the port's trims hold (R159, R399). DEDUCED (log entry
34): RX_DLY is taken from an ingress stamp, TX_DLY added to an egress stamp. -/
def State.atBalls (s : State) (p stamp : Nat) (tx : Bool) : Nat :=
  let w := ((Map.find s.regs (Reg.calPortDly + 4 * p)).getD (regReset (Reg.calPortDly + 4 * p))).toNat
  ((stamp : Int) + (if tx then signed 16 (w / 65536) else -signed 16 (w % 65536))).toNat

/-- The active domain (R173). -/
def State.actDom (s : State) : Dom := s.dom s.tmu.active

/-- Derived time of the active domain now. -/
def State.derivedNow (s : State) : Int := s.actDom.at s.now

/-- The first raw instant at which a domain reaches a derived instant. -/
def Dom.rawOf (d : Dom) (t : Int) : Nat :=
  let n : Int := t * 1099511627776 - d.offset
  if n ≤ 0 ∨ d.rate = 0 then 0 else ((n + d.rate - 1) / d.rate).toNat

/-- 2^-16 ns in a second. -/
def unitsPerSec : Nat := 65536000000000

/-- The 12 bytes of a time value (R150) of so many 2^-16 ns. -/
def timeBytes (t : Nat) : List Byte :=
  beBytes 6 (t / unitsPerSec) ++ b4 (t / 65536 % 1000000000) ++ b2 (t % 65536)

/-- The time value in 12 bytes at an offset, if its NS is below 1,000,000,000 (R150). -/
def timeAt (bs : List Byte) (o : Nat) : Option Nat :=
  let ns := fieldAt bs (o + 6) 4
  if ns < 1000000000 then some ((fieldAt bs o 6) * unitsPerSec + ns * 65536 + fieldAt bs (o + 10) 2) else none

/-- Seconds [31:0] and nanoseconds of a time, as event records carry it (R79). -/
def stampBytes (t : Nat) : List Byte := b4 (t / unitsPerSec) ++ b4 (t / 65536 % 1000000000)

/-! ### Launch numbers and instants (R185, R190) -/

/-- N' is after N: (N' - N) mod 2^32 from 1 to 2^31 - 1 (R185). -/
def isAfter (n' n : Nat) : Bool := let d := (n' + 2 ^ 32 - n) % 2 ^ 32; decide (1 ≤ d) && decide (d < 2 ^ 31)

/-- The domain in which the instant of launch n stands (R190): the old one before the switch launch, the new one from it on. -/
def State.domFor (s : State) (n : Nat) : Bool :=
  match s.lch.sw with
  | some (m, _, nd, _) => if n = m ∨ isAfter n m then nd else !nd
  | none => s.tmu.active

/-- The instant of a launch in the active domain: an instant of the other domain differs by B0 (R173, R199). -/
def State.inActive (s : State) (l : Launch) : Int :=
  match s.lch.sw with
  | some (_, b0, nd, _) =>
    if s.domFor l.n = s.tmu.active then l.at_ else if s.tmu.active = nd then (l.at_ : Int) + b0 else (l.at_ : Int) - b0
  | none => l.at_

/-! ### Registers (R11, R12) -/

/-- The stored word of a register. -/
def State.reg (s : State) (a : Nat) : Word := (Map.find s.regs a).getD (regReset a)

/-- Store a word in a register; a word equal to the reset value leaves no entry. -/
def State.setReg (s : State) (a : Nat) (w : Word) : State := { s with regs := Map.store regReset s.regs a w }

/-- A field of a register. -/
def State.fld (s : State) (a hi lo : Nat) : Nat := bitsOf (s.reg a).toNat hi lo

/-- One bit of a register. -/
def State.bit (s : State) (a i : Nat) : Bool := (s.reg a).toNat.testBit i

/-- Set a field of a register. -/
def State.setFld (s : State) (a hi lo v : Nat) : State :=
  s.setReg a (BitVec.ofNat 32 (setBits (s.reg a).toNat hi lo v))

/-- Is a field of a word within its range (R7, R8)? The reset value is, and 0 in PD_IDLE. -/
def FieldRule.ok (f : FieldRule) (a w : Nat) : Bool :=
  let v := bitsOf w f.hi f.lo
  (decide (f.min ≤ v) && decide (v ≤ f.max)) || v == bitsOf (regReset a).toNat f.hi f.lo || (a == Reg.memCfg && v == 0)

/-- The word with every field out of its range left as it is (R8), and whether some field was. -/
def State.keepRanges (s : State) (a w : Nat) : Nat × Bool :=
  let bad := fieldRules.filter (fun f => f.holds a && !f.ok a w)
  (bad.foldl (fun v f => setBits v f.hi f.lo (s.fld a f.hi f.lo)) w, !bad.isEmpty)

/-- Count up a saturating 32-bit counter register. -/
def State.bump (s : State) (a : Nat) : State := s.setReg a (satInc (s.reg a))

/-- Count up by `n`. -/
def State.bumpBy (s : State) (a n : Nat) : State := s.setReg a (satAdd (s.reg a) n)

/-- Clear the counters `base + 4k` for the bits k below `n` that are set in `w` (the CNT_CLR registers). -/
def State.clearCounters (s : State) (base : Nat) : Nat → Nat → State
  | 0, _ => s
  | n + 1, w =>
    let t := State.clearCounters s base n w
    if w.testBit n then t.setReg (base + 4 * n) 0 else t

/-! ### Outputs and free values -/

/-- Append an output. -/
def State.emit (s : State) (o : Out) : State := { s with out := s.out ++ [o] }

/-- Append outputs. -/
def State.emits (s : State) (os : List Out) : State := { s with out := s.out ++ os }

/-- The next value that the spec leaves open. -/
def State.freeVal (s : State) : Nat := Config.freeValue s.free

/-- Count the free value used. -/
def State.freeNext (s : State) : State := { s with free := s.free + 1 }

/-! ### Ingest ports (R212) -/

/-- Index i of the ingest port registers: P4, P5, P7. -/
def ingIdx (p : Nat) : Nat := if p = 4 then 0 else if p = 5 then 1 else 2
/-- A register of an ingest port. -/
def ingReg (base p : Nat) : Nat := base + 0x40 * ingIdx p
/-- ING_PORTi_IP. -/
def State.ingIp (s : State) (p : Nat) : Nat := (s.reg (ingReg Reg.ingIp p)).toNat
/-- The next hop towards a unicast address: the address itself inside the port's prefix, otherwise the gateway. -/
def State.nextHop (s : State) (p ip : Nat) : Nat :=
  let k := 32 - s.fld (ingReg Reg.ingPrefix p) 5 0
  if ip / 2 ^ k = s.ingIp p / 2 ^ k then ip else (s.reg (ingReg Reg.ingGw p)).toNat

/-- The tag of the frames that a port sends: PCP and VID of ING_PORTi_VLAN where EN is 1. -/
def State.txTag (s : State) (p : Nat) : Option Nat :=
  let r := ingReg Reg.ingVlan p
  if s.bit r 31 then some (s.fld r 15 13 * 8192 + s.fld r 11 0) else none
/-- The broadcast MAC address. -/
abbrev macAll : Nat := 0xFFFFFFFFFFFF

/-- Send a datagram from an ingest port: at once where the next hop is resolved, else once ARP resolves it (R212). A port without an
address, or without a next hop, sends nothing. -/
def State.sendIp (s : State) (p ip dp : Nat) (d : List Byte) : State :=
  let hop := s.nextHop p ip
  if s.ingIp p = 0 ∨ hop = 0 then s
  else match s.pix.arp.find? (fun e => e.port == p && e.ip == hop && decide (s.now < e.at_ + rawSec 60)) with
  | some e => s.emit (.udp p (s.txTag p) e.mac ip dp d)
  | none =>
    if s.pix.arpWait.any (fun w => w.port == p && w.ip == hop) then
      { s with pix := { s.pix with arpWait := s.pix.arpWait.map (fun w =>
          if w.port = p ∧ w.ip = hop then { w with packets := w.packets ++ [(ip, dp, d)] } else w) } }
    else
      let w : ArpWait := { port := p, ip := hop, tries := 1, last := s.now, packets := [(ip, dp, d)] }
      ({ s with pix := { s.pix with arpWait := s.pix.arpWait ++ [w] } }).emit (.eth p 0 (s.txTag p) macAll hop 0)

/-! ### Roles, addresses, arming -/

/-- Lead role. -/
def State.isLead (s : State) : Bool := s.pwr.role == .lead
/-- Tile role; a reserved strap leaves the ports of a tile (R479). -/
def State.isTile (s : State) : Bool := s.pwr.role == .tile || s.pwr.role == .reserved
/-- The command responder is up (R480). -/
def State.isUp (s : State) : Bool := s.pwr.phase == .up
/-- The main side is out of reset. -/
def State.alive (s : State) : Bool := s.pwr.phase != .held

/-- LEAD_NUM (R87). -/
def State.leadNum (s : State) : Nat := s.fld Reg.glbTopoCfg 3 0
/-- PAIRED. -/
def State.paired (s : State) : Bool := s.bit Reg.glbTopoCfg 4
/-- DOMAIN_ID. -/
def State.domainId (s : State) : Nat := s.fld Reg.glbTopoCfg 15 8
/-- The lead field under which the lead holds tiles: its number, or 2k for a lead of pair k (R90). -/
def State.leadField (s : State) : Nat := if s.paired then s.leadNum / 2 * 2 else s.leadNum
/-- The current lead epoch (R92). -/
def State.leadEpoch (s : State) : Nat := (s.reg Reg.glbTopoEpoch).toNat
/-- 0xnFF of lead n. -/
def leadAddr (n : Nat) : Nat := n * 256 + 0xFF
/-- The chip's own address: 0xnFF of a lead, the tile address of a tile (R56, R79). -/
def State.selfAddr (s : State) : Nat := if s.isLead then leadAddr s.leadNum else s.net.addr

/-- Is an arming identifier set (R17)? -/
def State.isArmed (s : State) (a : Nat) : Bool := s.armed.contains a

/-- A port. -/
def State.port (s : State) (p : Nat) : PortS := s.net.ports.getD p {}
/-- Replace a port. -/
def State.setPort (s : State) (p : Nat) (x : PortS) : State :=
  { s with net := { s.net with ports := s.net.ports.set p x } }
/-- The state of a port. -/
def State.portState (s : State) (p : Nat) : PortState := (s.port p).state
/-- Set the state of a port. -/
def State.setPortState (s : State) (p : Nat) (x : PortState) : State := s.setPort p { s.port p with state := x }
/-- The port states of R94 as codes. -/
def PortState.code : PortState → Nat
  | .off => 0 | .listen => 1 | .up => 2 | .open_ => 3 | .closed => 4 | .lost => 5 | .active => 6
/-- A tile's downstream port. -/
def State.downPort (s : State) : Nat := 1 - s.net.upPort
/-- PRT_CFG.FUNC of a port. -/
def State.func (s : State) (p : Nat) : Nat := s.fld (Reg.prtCfg + 0x10000 * p) 11 8

/-! ### Event records (R79 to R84) -/

/-- The instant of an event in 2^-16 ns, and the RFLAGS bits of its times: domain, and TIME_INVALID with raw times
while the active domain is not VALID (R79, R152). -/
def State.evTime (s : State) : Nat × Nat :=
  let d := if s.tmu.active then 0x40 else 0
  if s.actDom.valid then (s.derivedNow.toNat, d) else (s.now * 1000, d + 0x20)

/-- Is a source masked (EVT_MASKn)? -/
def State.masked (s : State) (k : Nat) : Bool := s.bit (Reg.evtMask + 4 * (k / 32)) (k % 32)

/-- The 32 bytes of a record (R79). -/
def EvRec.bytes (r : EvRec) : List Byte :=
  match r.bitmap with
  | some m => fit 32 m
  | none => b2 (r.src % 1024) ++ b1 r.sev ++ b1 r.rflags ++ b2 (r.origin % 4096) ++ b2 r.rseq ++ b4 r.count ++
      stampBytes r.first ++ stampBytes r.last ++ b4 r.detail

/-- A record read back from its 32 bytes. -/
def EvRec.ofBytes (b : List Byte) : EvRec :=
  let t (o : Nat) := u32 b o * unitsPerSec + u32 b (o + 4) * 65536
  { src := u16 b 0 % 1024, sev := u8 b 2, rflags := u8 b 3, origin := u16 b 4 % 4096, rseq := u16 b 6, count := u32 b 8,
    first := t 12, last := t 20, detail := u32 b 28 }

/-- 24 header bytes and payload of a packet (R46), with HCRC. -/
def packetBytes (flags op dest src seq len tag epoch : Nat) (payload : List Byte) : List Byte :=
  let h := b1 0x10 ++ b1 flags ++ b2 op ++ b2 dest ++ b2 src ++ b4 seq ++ b2 len ++ b2 tag ++ b4 epoch
  h ++ b4 (crc32c h) ++ payload

/-- The AUTHTAG of a packet under a credential key (R62): the first 16 bytes of HMAC-SHA-256 over header and payload. -/
def authTagOf (key packet : List Byte) : List Byte := (hmacSha256 key packet).take 16

/-- The EVT_NOTIFY packets that carry records (R84): at most 127 each. DESIGN CHOICE (log entry 24): SEQ and TAG are 0 and DEST is the
subscriber's SRC; the spec gives them no value. -/
def notifyPackets (s : State) (slot dest src : Nat) (auth : Bool) : Nat → List EvRec → List (List Byte)
  | 0, _ => []
  | n + 1, rs =>
    if rs.isEmpty then [] else
    let body := (rs.take 127).flatMap EvRec.bytes
    let p := packetBytes (if auth then 0xC0 else 0x80) 0x0F04 dest src 0 body.length 0 s.evt.fepoch body
    let p' := if auth then p ++ fit 16 (authTagOf (Map.at s.ks.creds [] slot) p) else p
    p' :: notifyPackets s slot dest src auth n (rs.drop 127)

/-- Hold records for the event ring; beyond 256 held they are not delivered and OVERFLOW is set (R84). -/
def State.holdRecs (s : State) (rs : List EvRec) : State :=
  if s.evt.heldRecs.length + rs.length ≤ 256 then
    { s with evt := { s.evt with heldRecs := s.evt.heldRecs ++ rs } }
  else
    ({ s with evt := { s.evt with lost := s.evt.lost + rs.length } }).setFld Reg.evtRingCfg 1 1 1

/-- Give records to the host: to a UDP subscriber at once, and to the event ring's held records where the ring is enabled or no
host subscribed (R84). An inert chip sends no notification (R22), so the records are held. -/
def State.toHost (s : State) (rs : List EvRec) : State :=
  match (if s.pwr.inert then none else s.evt.sub) with
  | none => s.holdRecs rs
  | some u =>
    let ps := notifyPackets s (u.src / 4096) u.src (u.src / 4096 * 4096 + leadAddr s.leadNum) u.auth (rs.length + 1) rs
    let t := ps.foldl (fun t p => t.sendIp u.port u.ip u.udpPort p) s
    if s.bit Reg.evtRingCfg 0 then t.holdRecs rs else t

/-- May a source emit a record now: it is not masked, it is below its rate limit (R80), a tile has not reported it in the current
fault epoch (R81) and has fewer than 256 records pending (R82)? -/
def State.mayRecord (s : State) (k : Nat) (e : EvSrc) : Bool :=
  !s.masked k &&
  decide ((e.times.filter (fun t => s.now < t + rawSec 1)).length < s.fld Reg.evtCfg 12 8) &&
  (s.isLead || s.evt.fepoch == 0 || k == 98 || k == 99 || e.fepoch != s.evt.fepoch) &&
  (s.isLead || decide (s.evt.heldRecs.length < 256))

/-- The record a source forms now. -/
def State.recordOf (s : State) (k : Nat) (e : EvSrc) (rseq : Nat) : EvRec :=
  { src := k, sev := e.sev, rflags := e.tflags + (if e.armed then 0x10 else 0), origin := s.selfAddr, rseq := rseq,
    count := e.count, first := e.first, last := e.last, detail := e.detail }

/-- Form and deliver a record of a source, if it may emit one. -/
def State.tryRecord (s : State) (k : Nat) : State :=
  let e := Map.at s.evt.srcs {} k
  if s.mayRecord k e then
    let r := s.recordOf k e s.evt.rseq
    let e' := { e with dirty := false, armed := false, fepoch := s.evt.fepoch,
                       times := s.now :: e.times.filter (fun t => s.now < t + rawSec 1) }
    let h := s.evt.history ++ [r]
    let t := { s with evt := { s.evt with srcs := Map.put s.evt.srcs k e', rseq := (s.evt.rseq + 1) % 65536,
                                          history := lastOf 1024 h } }
    if s.isLead then t.toHost [r] else { t with evt := { t.evt with heldRecs := t.evt.heldRecs ++ [r] } }
  else s

/-- An occurrence of an event source (R79, R80); `armed` where an armed response ran (R20). -/
def State.raiseA (s : State) (k sev detail : Nat) (armed : Bool) : State :=
  let e := Map.at s.evt.srcs {} k
  let (t, fl) := s.evTime
  let e' := { e with count := min 0xFFFFFFFF (e.count + 1), first := if e.count = 0 then t else e.first, last := t,
                     detail := detail % 4294967296, sev := sev, armed := e.armed || armed, tflags := fl, dirty := true }
  ({ s with evt := { s.evt with srcs := Map.put s.evt.srcs k e' } }).tryRecord k

/-- An occurrence that is no armed response. -/
def State.raise (s : State) (k sev detail : Nat) : State := s.raiseA k sev detail false

/-! ### Replies (R51, R56, R57, R75) -/

/-- STATUS, DETAIL and reply data. -/
structure Rsp where
  status : Nat := 0
  detail : Nat := 0
  data : List Byte := []
  /-- The data follow whatever STATUS is (aggregate replies, R61). -/
  keep : Bool := false
  deriving DecidableEq, Repr

/-! The codes of R57. -/
abbrev stOk : Nat := 0x0000
abbrev stAccepted : Nat := 0x0001
abbrev stBadOpcode : Nat := 0x0100
abbrev stBadLength : Nat := 0x0101
abbrev stBadParam : Nat := 0x0102
abbrev stBadAddress : Nat := 0x0103
abbrev stNotAuthorized : Nat := 0x0200
abbrev stAuthFail : Nat := 0x0201
abbrev stReplay : Nat := 0x0202
abbrev stBusy : Nat := 0x0300
abbrev stQueueFull : Nat := 0x0301
abbrev stWrongState : Nat := 0x0400
abbrev stNotArmed : Nat := 0x0401
abbrev stIntegrity : Nat := 0x0500
abbrev stTimeout : Nat := 0x0600
abbrev stHwFault : Nat := 0x0700
abbrev stUnsupportedRole : Nat := 0x0800

/-- OK with reply data. -/
def rspOk (data : List Byte := []) : Rsp := { data := data }
/-- ACCEPTED. -/
def rspAccepted : Rsp := { status := stAccepted }
/-- A refusal. -/
def rspErr (status : Nat) (detail : Nat := 0) : Rsp := { status := status, detail := detail }
/-- BAD_PARAM with the byte offset of a payload byte (R57: from byte 0 of the packet). -/
def rspParam (o : Nat) : Rsp := rspErr stBadParam (24 + o)

end Sys2Proof.Machine

namespace Sys2Proof

/-! Header fields of a request (R46). -/
/-- REPLY. -/
def Req.isReply (r : Req) : Bool := r.flags.getLsbD 7
/-- AUTH. -/
def Req.isAuth (r : Req) : Bool := r.flags.getLsbD 6
/-- BCAST. -/
def Req.isBcast (r : Req) : Bool := r.flags.getLsbD 5
/-- NEAREST. -/
def Req.isNearest (r : Req) : Bool := r.flags.getLsbD 4
/-- MORE. -/
def Req.isMore (r : Req) : Bool := r.flags.getLsbD 3
/-- NOREPLY. -/
def Req.noReply (r : Req) : Bool := r.flags.getLsbD 2
/-- Queue class, DEST[15:12]. -/
def Req.cls (r : Req) : Nat := r.dest.toNat / 4096
/-- DEST[11:0]. -/
def Req.addr (r : Req) : Nat := r.dest.toNat % 4096
/-- Credential slot, SRC[15:12]. -/
def Req.slot (r : Req) : Nat := r.src.toNat / 4096
/-- The request was authenticated under the safety slot. -/
def Req.isSafety (r : Req) : Bool := r.isAuth && r.slot == 15

end Sys2Proof

namespace Sys2Proof.Machine

/-- Has a tile no address in the EPOCH of a NEAREST packet: VALID is 0, or its epoch differs (R95)? -/
def State.nearestHere (s : State) (r : Req) : Bool := !(s.net.valid && s.leadEpoch == r.epoch.toNat)

/-- The responder's address in a reply: a tile that has no address, or none in the EPOCH of a NEAREST request, repeats the request's
DEST[11:0] (R56, R95, R96). -/
def State.responder (s : State) (r : Req) : Nat :=
  if s.isTile && (!s.net.valid || (r.isNearest && !r.isBcast && s.nearestHere r)) then r.addr else s.selfAddr

/-- A reply packet (R56): EPOCH is the chip's current lead epoch (R55); AUTHTAG under the key that verified the request. -/
def State.replyPacket (s : State) (op : Nat) (r : Req) (auth : Bool) (key : List Byte) (a : Rsp) : List Byte :=
  let body := b2 a.status ++ b2 a.detail ++ (if a.keep ∨ a.status = stOk ∨ a.status = stAccepted then a.data else [])
  let p := packetBytes (if auth then 0xC0 else 0x80) op r.src.toNat (r.slot * 4096 + s.responder r) r.seq.toNat body.length
    r.tag.toNat s.leadEpoch body
  if auth then p ++ fit 16 (authTagOf key p) else p

/-- Content or pair traffic, which an inert chip does not originate (R22): PIX, LNCH, BEAT, MIRR. -/
def TxMsg.isContent (m : TxMsg) : Bool := m.typ == 1 || m.typ == 4 || m.typ == 5 || m.typ == 6

/-- A message between neighbours or around a ring (R164, R170), which no relay changes: PDREQ, PDRESP, LOOP. -/
def TxMsg.isLocal (m : TxMsg) : Bool := m.typ == 3 && (let k := fieldAt m.body 0 1; k == 5 || k == 6 || k == 7)

/-- The position from which a relayed chain is fed through its downstream ports (R381). -/
def State.relayFrom (s : State) (c : Nat) : Nat := (((s.pai.rmap.getD c none).getD 0xFF)) % 256

/-- The way of a lead's message for a chain: as its tail with DIR and RELAY set (R366, R372), and over P6 for the tiles of a relayed chain
from FROM on, a broadcast both ways (R381). -/
def State.route (s : State) (m : TxMsg) : List TxMsg :=
  if !s.isLead ∨ 4 ≤ m.port ∨ m.isLocal then [m]
  else
    let n := if s.pai.tails.testBit m.port then { m with dir := true, relay := true } else m
    if !s.pai.relay.testBit m.port ∨ m.typ = 5 then [n]
    else
      let far := { m with port := 6, dir := true, relay := true }
      if m.bcast then (if s.portState m.port = .open_ then [n, far] else [far]) else if s.relayFrom m.port ≤ m.dest % 64 then [far] else [n]

/-- May a message leave this chip at all: an inert chip originates no content (R22), a lead of a pair sends PIX and LNCH in Active only (R363),
and without the domain group key nothing can be sent under it (R126). -/
def State.maySend (s : State) (m : TxMsg) : Bool :=
  !(s.pwr.inert && m.isContent) && !(m.key == 3 && s.ks.group.isNone) &&
    !(s.isLead && s.paired && s.pai.state != .active && (m.typ == 1 || m.typ == 4))

/-- Queue a message for transmission. -/
def State.send (s : State) (m : TxMsg) : State :=
  if s.maySend m then { s with net := { s.net with tx := s.net.tx ++ s.route m } } else s

/-- A reply packet with its payload replaced by `body`, MORE set or clear, and its AUTHTAG formed anew under `key` (R50, R62). -/
def rePacket (key : List Byte) (packet body : List Byte) (more : Bool) : List Byte :=
  let auth := (u8 packet 1).testBit 6
  let p := packetBytes ((if auth then 0xC0 else 0x80) + (if more then 8 else 0)) (u16 packet 2) (u16 packet 4) (u16 packet 6) (u32 packet 8)
    body.length (u16 packet 14) (u32 packet 16) body
  if auth then p ++ fit 16 (authTagOf key p) else p

/-- The packets that carry reply data in pieces of at most `room` bytes, each with STATUS and DETAIL before it (R50). -/
def splitData (key packet : List Byte) (room : Nat) : Nat → List Byte → List (List Byte)
  | 0, _ => []
  | n + 1, d =>
    let head := slice packet 24 4
    if d.length ≤ room then [rePacket key packet (head ++ d) false]
    else rePacket key packet (head ++ d.take room) true :: splitData key packet room n (d.drop room)

/-- A reply as it goes over a path (R77): one packet where IPv4 and UDP header and packet fit the path MTU, else several with MORE.
DESIGN CHOICE (log entry 28): each packet but the last is filled; a path too small for any data carries one byte in each. -/
def splitReply (key packet : List Byte) (mtu : Nat) : List (List Byte) :=
  if 28 + packet.length ≤ mtu then [packet]
  else
    let d := slice packet 28 (u16 packet 12 - 4)
    let room := max 1 (mtu - 28 - 28 - (if (u8 packet 1).testBit 6 then 16 else 0))
    splitData key packet room (d.length + 1) d

/-- Send a reply the way its request came (R51, R53, R75, R77): over PCIe the reply buffer, then CPL with DONE, then the vector;
over UDP to the datagram's source, split where it exceeds the path MTU; in CMD cells to the sending lead. DESIGN CHOICE (log entry 25): a
reply that NOREPLY suppresses over PCIe still ends its descriptor, with DONE, length 0 and the vector. -/
def State.reply (s : State) (r : Req) (status : Nat) (packet : List Byte) : State :=
  let quiet := r.noReply && (status == stOk || status == stAccepted)
  match r.via with
  | .pcie ring rpl cap cpl int =>
    let vec := if int then [Out.msix (s.fld (Reg.cmdRingCfg + 0x20 * ring) 21 16)] else []
    if quiet then s.emits (.hostWrite cpl (b4 0x80000000) :: vec)
    else if packet.length ≤ cap then
      s.emits (.hostWrite rpl packet :: .hostWrite cpl (b4 (0x80000000 + packet.length)) :: vec)
    else
      (s.emits (.hostWrite cpl (b4 (0xC0000000 + packet.length)) :: vec)).raise 29 1 (ring + packet.length * 65536)
  | .udp port ip dp =>
    if quiet then s else
      (splitReply (Map.at s.ks.creds [] r.slot) packet (Config.pathMtu ip)).foldl (fun t p => t.sendIp port ip dp p) s
  | .chain port key relay src =>
    s.send { port := port, typ := 2, dest := src, dir := !relay, relay := false, key := key, cls := r.cls, body := packet }
  | .own => s

/-- The key of the request's slot. -/
def State.credKey (s : State) (r : Req) : List Byte := Map.at s.ks.creds [] r.slot

/-- The registers whose content a pair mirrors (R376): tile map, canvas, coefficient banks, stream and ingest-port configuration, asymmetry
table and port asymmetries, EVT_CFG. -/
def mirroredReg (a : Nat) : Bool :=
  a == Reg.cmpCanvas || (decide (Reg.cmpTmap0 ≤ a) && decide (a < Reg.cmpTmap0 + 0x800)) ||
  (decide (Reg.cmpCoef1 ≤ a) && decide (a < Reg.cmpCoef1 + 0x1800)) || a == Reg.ingCfg ||
  (decide (Reg.ingMacHi ≤ a) && decide (a < Reg.ingMacHi + 0xC0) && decide ((a - Reg.ingMacHi) % 0x40 < 0x18)) ||
  (decide (Reg.ingStrCtl ≤ a) && decide (a < Reg.ingStrCtl + 0x400) && decide ((a - Reg.ingStrCtl) % 0x100 ≤ 0x20)) ||
  (decide (Reg.tmuAsymTab ≤ a) && decide (a < Reg.tmuAsymTab + 0x800)) ||
  (decide (Reg.tmuPortAsym ≤ a) && decide (a < Reg.tmuPortAsym + 0x80) && (a - Reg.tmuPortAsym) % 0x10 == 0) || a == Reg.evtCfg

/-- Does a command with this opcode and payload change mirrored state when it is answered OK (R376, R378)? -/
def changesMirror (op : Nat) (payload : List Byte) : Bool :=
  [0x0204, 0x0300, 0x0301, 0x0302, 0x0303, 0x0400, 0x0401, 0x0402, 0x0403, 0x0404, 0x0405, 0x0406, 0x0500, 0x0F02, 0x0F03, 0x0E01,
   0x0101, 0x0102, 0x0103, 0x0104, 0x0C04].contains op ||
    (op == 0x0003 && (List.range (payload.length / 4 - 1)).any (fun k => mirroredReg (u32 payload 0 + 4 * k)))

/-- Send a reply, or hold it until the mirror delta that carries the command's change is acknowledged (R378). -/
def State.deliver (s : State) (op : Nat) (r : Req) (status : Nat) (packet : List Byte) : State :=
  if s.isLead && s.pai.state == .active && !s.pai.mirrorStale && (status == stOk || status == stAccepted) && changesMirror op r.payload then
    { s with pai := { s.pai with held := s.pai.held ++ [(r, status, packet, (s.pai.mseqSent + 1) % 2 ^ 32)] } }
  else s.reply r status packet

/-- Answer a request that passed check 7: authenticated when its AUTH is set, under the key held in `s0` (R56, R441). -/
def State.answer (s0 s : State) (op : Nat) (r : Req) (a : Rsp) : State :=
  s.deliver op r a.status (s.replyPacket op r r.isAuth (s0.credKey r) a)

/-- Answer a request refused at checks 1 to 7: without AUTHTAG (R56). -/
def State.answerPlain (s : State) (op : Nat) (r : Req) (a : Rsp) : State :=
  s.reply r a.status (s.replyPacket op r false [] a)

/-- An ACCEPTED command ends with one EV_19 (R59). -/
def State.complete (s : State) (r : Req) (status : Nat) : State := s.raise 19 0 (r.tag.toNat * 65536 + status)

end Sys2Proof.Machine
end

