-- ==== Sys2Proof/Machine/Flash.lean ====
section
/-! DEFINITION. The journals of the boot flash (R449 to R451): records with header, data, padding and commit marker; the two halves of a store;
what a store holds; and a write that fails (R440). -/

namespace Sys2Proof.Machine

/-! ### Records (R450) -/

/-- STORE. -/
def StoreData.store : StoreData → Nat
  | .pointer .. => 1
  | .keys _ => 2
  | .settings _ => 3
  | .state _ => 4
  | .erase .. => 5

/-- The 32-byte header of a record of store `store` with number `seq` over the data `d`. -/
def recHeader (store seq : Nat) (d : List Byte) : List Byte :=
  b4 0x4A524E4C ++ (b1 store ++ (zeros 3 ++ (b8 seq ++ (b4 d.length ++ (b4 (crc32c d) ++ zeros 8)))))

/-- The commit marker of a record with the header `h`. -/
def recMarker (seq : Nat) (h : List Byte) : List Byte := b4 0x434F4D54 ++ (b4 (seq % 2 ^ 32) ++ (b4 (crc32c h) ++ zeros 4))

/-- A record exists: its marker is complete and matches the header, and its DCRC verifies. -/
def recStands (h d m : List Byte) : Bool :=
  u32 m 0 == 0x434F4D54 && u32 m 4 == u64 h 8 % 2 ^ 32 && u32 m 8 == crc32c h && u32 h 20 == crc32c d

namespace FlashRec

/-- Data bytes, as many as LEN can count: the source gives no layout of them (Config.storeBytes). -/
def dataOf (d : StoreData) : List Byte := (Config.storeBytes d).take (2 ^ 32 - 1)
/-- The data bytes of a record. -/
def bytes (r : FlashRec) : List Byte := dataOf r.data
/-- The header. -/
def header (r : FlashRec) : List Byte := recHeader r.data.store r.seq r.bytes
/-- The place of the marker: written last, erased before. -/
def marker (r : FlashRec) : List Byte := if r.marked then recMarker r.seq r.header else List.replicate 16 0xFF
/-- Padding to a multiple of 256 bytes; which bytes it takes is open. -/
def padding (r : FlashRec) : List Byte := (List.range ((256 - (32 + r.bytes.length) % 256) % 256)).map Config.storePad
/-- Bytes of a record of data `d`. -/
def sizeOf (d : StoreData) : Nat := (32 + (dataOf d).length + 255) / 256 * 256 + 16
/-- The record as it stands in the flash. -/
def image (r : FlashRec) : List Byte := r.header ++ r.bytes ++ r.padding ++ r.marker

end FlashRec

/-! ### Stores and halves (R449, R450) -/

/-- First byte of a store. -/
def storeBase (store : Nat) : Nat := [0, 0, 0x1010000, 0x1050000, 0x10A0000, 0x1090000].getD store 0
/-- Bytes of one half; the state area is the rest of the device. -/
def halfSize (store : Nat) : Nat :=
  if store = 4 then (2 ^ 25 + Config.flashMore - 0x10A0000) / 2 else [0, 0x8000, 0x20000, 0x20000, 0, 0x8000].getD store 0

/-- The journal of a store, newest record first. -/
def State.journal (s : State) (store : Nat) : List FlashRec := s.flash.journals.getD (store - 1) []
/-- Replace a journal. -/
def State.setJournal (s : State) (store : Nat) (j : List FlashRec) : State :=
  { s with flash := { s.flash with journals := s.flash.journals.set (store - 1) j } }

/-- The content of a store: of the records that exist, the one with the highest SEQ. -/
def newestRec (j : List FlashRec) : Option FlashRec := j.find? (·.marked)
/-- What a store holds. -/
def State.storeContent (s : State) (store : Nat) : Option StoreData := (newestRec (s.journal store)).map (·.data)

/-- The half in which a journal was written last. -/
def curHalf (j : List FlashRec) : Nat := (j.head?.map (·.half)).getD 0
/-- Bytes taken in a half. -/
def usedIn (j : List FlashRec) (h : Nat) : Nat := ((j.filter (fun r => r.half == h)).map (fun r => FlashRec.sizeOf r.data)).sum
/-- A record of data `d` still fits the half written last. -/
def fitsHalf (j : List FlashRec) (d : StoreData) : Bool := decide (usedIn j (curHalf j) + FlashRec.sizeOf d ≤ halfSize d.store)
/-- The half that is erased and written next once the half written last is full: not the one that holds the newest existing record. -/
def nextHalf (j : List FlashRec) : Nat := match newestRec j with | some r => 1 - r.half | none => 1 - curHalf j

/-- The half that takes the next record. -/
def putHalf (j : List FlashRec) (d : StoreData) : Nat := if fitsHalf j d then curHalf j else nextHalf j
/-- A journal with one more record: the half that takes it is erased first where the one written last is full. -/
def appendRec (j : List FlashRec) (d : StoreData) (marked : Bool) : List FlashRec :=
  { half := putHalf j d, seq := (j.head?.map (·.seq)).getD 0 + 1, data := d, marked := marked } ::
    (if fitsHalf j d then j else j.filter (fun r => r.half != nextHalf j))
/-- Where the next record of data `d` stands. -/
def nextOffset (j : List FlashRec) (d : StoreData) : Nat :=
  storeBase d.store + putHalf j d * halfSize d.store + (if fitsHalf j d then usedIn j (curHalf j) else 0)

/-- Intent and completion of the erases of some sectors (R451). -/
def eraseRecs (j : List FlashRec) (sectors : List Nat) : List FlashRec :=
  sectors.foldl (fun j o => appendRec (appendRec j (.erase o false) true) (.erase o true) true) j

/-- The sectors of a store's half; a half of the boot pointer or of the erase-intent journal is less than one (log entry 43). -/
def halfSectors (store h : Nat) : List Nat :=
  (List.range (halfSize store / 65536)).map (fun i => storeBase store + h * halfSize store + 65536 * i)

/-- Write a record, with its marker or interrupted before it; a half that has to be erased first is erased under intents (R451). -/
def State.putRecord (s : State) (d : StoreData) (marked : Bool) : State :=
  let j := s.journal d.store
  let t := s.setJournal d.store (appendRec j d marked)
  t.setJournal 5 (if fitsHalf j d then t.journal 5 else eraseRecs (t.journal 5) (halfSectors d.store (nextHalf j)))

/-- What the state holds of a store's content. -/
def State.storeData (s : State) (store : Nat) : StoreData :=
  if store = 1 then .pointer s.flash.active s.flash.trial s.flash.left
  else if store = 2 then .keys s.ks
  else .settings s.flash.schema

/-- Commit the boot pointer (1), the key store (2) or the settings store (3) as the state holds it. -/
def State.commit (s : State) (store : Nat) : State := s.putRecord (s.storeData store) true

/-- EV_652 for a program or an erase that failed: STORE, 0 for the image slots, and the offset (R440). -/
def State.flashEvent (s : State) (store offset : Nat) : State := s.raise 652 3 (store + offset / 16 % 2 ^ 24 * 256)

/-- A record that could not be written: no marker, EV_652. -/
def State.spoil (s : State) (d : StoreData) : State := (s.putRecord d false).flashEvent d.store (nextOffset (s.journal d.store) d)

/-- A command whose record cannot be written: the store is unchanged, HW_FAULT (R440). -/
def State.flashFail (s : State) (store : Nat) : State × Rsp := (s.spoil (s.storeData store), rspErr stHwFault 0x0F)

/-- A commit that the chip makes for itself; where the flash fails it, the previous record stands. -/
def State.tryCommit (s : State) (store : Nat) : State :=
  if s.pwr.flashBad then s.spoil (s.storeData store) else s.commit store

/-- Take a store's content into the state. -/
def State.openStore (s : State) : Option StoreData → State
  | some (.pointer a t l) => { s with flash := { s.flash with active := a, trial := t, left := l } }
  | some (.keys k) => { s with ks := k }
  | some (.settings x) => { s with flash := { s.flash with schema := x } }
  | _ => s

/-- The boot pointer, the key store and the settings store as a boot finds them (R450): a store without a record keeps what the factory left. -/
def State.openStores (s : State) : State :=
  ((s.openStore (s.storeContent 1)).openStore (s.storeContent 2)).openStore (s.storeContent 3)

end Sys2Proof.Machine
end

