-- ==== Sys2Proof/Machine/Load.lean ====
section
/-! DEFINITION. The fields of LCH_CONFIG and LPP_CONFIG payloads, the capacities a wall must fit (R144, R181, R182, R230, R266), and the
times of a lead's lease (R367, R369). -/

namespace Sys2Proof.Machine

/-! ### LCH_CONFIG (R181, R182) -/

/-- MODE. -/
def lchMode (c : List Byte) : Nat := u8 c 0
/-- SLOTS. -/
def lchSlots (c : List Byte) : Nat := u8 c 1
/-- CFG_ID. -/
def lchId (c : List Byte) : Nat := u8 c 2
/-- COAST_MAX; 0 selects 4. -/
def lchCoastMax (c : List Byte) : Nat := if u8 c 3 = 0 then 4 else u8 c 3
/-- PERIOD. -/
def lchPeriod (c : List Byte) : Nat := u32 c 4
/-- P_MIN. -/
def lchPmin (c : List Byte) : Nat := u32 c 8
/-- P_MAX. -/
def lchPmax (c : List Byte) : Nat := u32 c 12
/-- SERVO_RANGE. -/
def lchRange (c : List Byte) : Nat := u16 c 24
/-- S_min (R182). -/
def lchSmin (c : List Byte) : Nat :=
  if lchMode c = 0 then lchPeriod c
  else if lchMode c = 1 then lchPeriod c * (1000000 - lchRange c) / 1000000
  else lchPmin c
/-- P_coast (R182). -/
def lchPcoast (c : List Byte) : Nat := if lchMode c = 2 then lchPmax c else lchPeriod c
/-- The base period of R144: P_min in content-paced mode. -/
def lchBase (c : List Byte) : Nat := if lchMode c = 2 then lchPmin c else lchPeriod c
/-- ANN_LEAD in raw LSB; 0 selects two nominal periods. -/
def lchAnn (c : List Byte) : Nat := if u32 c 16 = 0 then 2 * lchPcoast c else rawUs (u32 c 16)
/-- GUARD in raw LSB; 0 selects 100 µs. -/
def lchGuard (c : List Byte) : Nat := if u32 c 20 = 0 then rawUs 100 else rawUs (u32 c 20)
/-- WIN_START of a slot. -/
def lchStart (c : List Byte) (w : Nat) : Nat := u32 c (28 + 8 * w)
/-- WIN_LEN of a slot. -/
def lchLen (c : List Byte) (w : Nat) : Nat := u32 c (32 + 8 * w)

/-- Raw LSB per second. -/
def rawPerSec : Nat := 65536000000

/-! ### LPP_CONFIG and coded size (R242, R254, R296) -/

/-- NPRIM. -/
def lppPrims (c : List Byte) : Nat := u8 c 0
/-- WIDTH. -/
def lppW (c : List Byte) : Nat := u16 c 2
/-- HEIGHT. -/
def lppH (c : List Byte) : Nat := u16 c 4
/-- REF_COMP of a bank and primary. -/
def lppRef (c : List Byte) (b p : Nat) : Nat := u16 c (8 + 8 * b + 2 * p)
/-- Transport blocks of a tile (R242). -/
def nBlk (w h : Nat) : Nat := ((w + 7) / 8) * ((h + 3) / 4)
/-- Coded pixels (R254). -/
def codedPx (w h : Nat) : Nat := 32 * nBlk w h
/-- B_blk of a ratio code (R243). -/
def blkBytes (ratio : Nat) : Nat := [144, 72, 48, 36].getD ratio 144
/-- Bits per pixel of a ratio code. -/
def ratioBpp (ratio : Nat) : Nat := [36, 18, 12, 9].getD ratio 36

/-! ### Capacities (R44, R144, R230, R266) -/

/-- VALID tile map entries: chain, position, width, height. -/
def State.tileMap (s : State) : List (Nat × Nat × Nat × Nat) :=
  (List.range 256).filterMap (fun i =>
    let w := (s.reg (Reg.cmpTmap1 + 8 * i)).toNat
    if w.testBit 31 then some (i / 64, i % 64, bitsOf w 9 0, bitsOf w 19 10) else none)

/-- Does a demand of pixels per launch exceed 19.2 Gpixel/s at a spacing? -/
def over19 (px smin : Nat) : Bool := decide (19200000000 * smin < px * rawPerSec)

/-- Output demand (R230): pixels of the VALID entries. -/
def State.outputOver (s : State) (c : List Byte) : Bool :=
  over19 ((s.tileMap.map (fun e => e.2.2.1 * e.2.2.2)).sum * lchSlots c) (lchSmin c)

/-- Transport encoding demand (R266). -/
def State.encodeOver (s : State) (c : List Byte) : Bool :=
  over19 ((s.tileMap.map (fun e => codedPx e.2.2.1 e.2.2.2)).sum * lchSlots c) (lchSmin c)

/-- Decode demand (R230) of layer payloads: source pixels of the visible layers in each slot. -/
def decodeOver (c : List Byte) (layers : List (List Byte)) : Bool :=
  let px := (List.range (lchSlots c)).map (fun sl =>
    (layers.map (fun p => if (u8 p 1).testBit 0 ∧ (u8 p 2).testBit sl then u16 p 12 * u16 p 14 else 0)).sum)
  over19 px.sum (lchSmin c)

/-- Chain payload (R144) for the given ratio codes: does some chain exceed 86 Gb/s? -/
def State.chainOver (s : State) (c : List Byte) (ratio : Nat → Nat) : Bool :=
  (List.range 4).any (fun ch =>
    let px := (s.tileMap.filter (fun e => e.1 == ch)).map (fun e => codedPx e.2.2.1 e.2.2.2)
    decide (86000000000 * lchBase c < px.sum * lchSlots c * ratioBpp (ratio ch) * rawPerSec))

/-- Transport decoding demand of a tile (R266). -/
def tileOver (c lpp : List Byte) (layers : List (List Byte)) (prot : List Byte) : Bool :=
  let px := codedPx (lppW lpp) (lppH lpp) +
    (layers.map (fun p => if (u8 p 1).testBit 0 then u16 p 12 * u16 p 14 else 0)).sum +
    (if prot.isEmpty then 0 else u16 prot 8 * u16 prot 10)
  over19 (px * lchSlots c) (lchSmin c)

/-! ### The lease (R364, R367, R369, R384) -/

/-- P_L: P_coast of the accepted LCH_CONFIG, or 10 ms without one. -/
def State.leaseUnit (s : State) : Nat := if s.lch.cfg.isEmpty then rawMs 10 else lchPcoast s.lch.cfg
/-- LEASE. -/
def State.leaseLen (s : State) : Nat := let v := s.fld Reg.paiLeaseCfg 20 16; if v = 0 then 2 else v
/-- GUARD, in quarter units. -/
def State.leaseGuard (s : State) : Nat := let v := s.fld Reg.paiLeaseCfg 10 8; if v = 0 then 4 else v
/-- LEASE × P_L. -/
def State.leaseTime (s : State) : Nat := s.leaseLen * s.leaseUnit
/-- The chains in RING. -/
def State.ringChains (s : State) : List Nat := (List.range 4).filter (s.fld Reg.paiLeaseCfg 3 0).testBit
/-- D_a, raw (R367). -/
def State.leaseEnd (s : State) : Option Nat := s.pai.tHold.map (fun t => t + s.leaseTime * 9999 / 10000)
/-- X, raw (R369). -/
def State.expiry (s : State) : Option Nat :=
  s.pai.tRecv.map (fun t => t + ((4 * s.leaseTime + s.leaseGuard * s.leaseUnit) * 10001 + 39999) / 40000)
/-- Has a BOUND lead reached D_a? -/
def State.leaseOver (s : State) : Bool :=
  s.pai.bound && (match s.leaseEnd with | some d => decide (d ≤ s.now) | none => false)

/-! ### What is lit (R274, R281, R415) -/

/-- Zone of a pixel (R281). -/
def zoneOf (w h x y : Nat) : Nat := 8 * (8 * y / max 1 h) + 8 * x / max 1 w

/-- The pixel and primary that bit b of driver i shows; nothing for an unmapped bit (R274). -/
def State.lampOf (v : State) (i b : Nat) : Option (Nat × Nat × Nat) :=
  let e := (v.reg (Reg.lppDmap + 4 * i)).toNat
  let sh := (v.reg (Reg.lppShape + 0x100 * bitsOf e 30 28 + 4 * b)).toNat
  let x := bitsOf e 8 0 + bitsOf sh 3 0
  let y := bitsOf e 17 9 + bitsOf sh 7 4
  let p := bitsOf sh 9 8
  if e.testBit 31 ∧ sh.testBit 31 ∧ x < lppW v.lpp.cfg ∧ y < lppH v.lpp.cfg ∧ ¬(p = 3 ∧ lppPrims v.lpp.cfg = 3) then some (x, y, p) else none

/-- Count the light of the unit that is lit up to now (R415): in each zone, for each lamp on, its raw time times 16 times the reference scale. -/
def State.credit (s : State) : State :=
  match s.ems.lit, s.ems.win.bind (fun w => w.codes) with
  | some p, some codes =>
    let amount := (s.now - s.ems.litFrom) * 2 ^ (4 - s.ems.scale)
    let zones := codes.flatMap (fun e => (List.range 64).filterMap (fun b =>
      if (e.2.getD b 0).testBit p then (s.lampOf e.1 b).map (fun l => zoneOf (lppW s.lpp.cfg) (lppH s.lpp.cfg) l.1 l.2.1) else none))
    { s with ems := { s.ems with litFrom := s.now, duty := zones.foldl (fun m z => Map.upd m 0 z (· + amount)) s.ems.duty } }
  | _, _ => s

end Sys2Proof.Machine
end

