-- ==== Sys2Proof/Machine/Operands.lean ====
section
/-! DEFINITION. The operand forms of opcode commands: the opcode table (R71), payload lengths (R49) and the common course of a
request's execution (R58 checks 13 and 14, reply, completion). -/

namespace Sys2Proof.Machine

/-- A row of the opcode table (R71) with the payload lengths the owning chapters give. -/
structure OpRow where
  code : Nat
  name : String
  /-- 0 both, 1 lead, 2 tile. -/
  role : Nat := 0
  /-- 0 open, 1 tenant or safety, 2 safety only (R63). -/
  cred : Nat := 0
  qlo : Nat
  qhi : Nat
  lmin : Nat
  lmax : Nat
  lstep : Nat := 1

/-- The opcode table of R71, part 0. -/
def opRows0 : List OpRow := [
  { code := 0x0000, name := "NOP", qlo := 0, qhi := 15, lmin := 0, lmax := 0 },
  { code := 0x0001, name := "GET_INFO", qlo := 12, qhi := 15, lmin := 0, lmax := 0 },
  { code := 0x0002, name := "REG_READ", cred := 1, qlo := 12, qhi := 15, lmin := 8, lmax := 8 },
  { code := 0x0003, name := "REG_WRITE", cred := 1, qlo := 4, qhi := 7, lmin := 8, lmax := 4096, lstep := 4 },
  { code := 0x0004, name := "HALT", cred := 1, qlo := 0, qhi := 0, lmin := 0, lmax := 0 },
  { code := 0x0005, name := "RESUME", cred := 1, qlo := 0, qhi := 0, lmin := 0, lmax := 0 },
  { code := 0x0006, name := "ARM", cred := 1, qlo := 4, qhi := 7, lmin := 4, lmax := 4 },
  { code := 0x0007, name := "CORE_RESTART", cred := 1, qlo := 4, qhi := 7, lmin := 4, lmax := 4 },
  { code := 0x0008, name := "WARM_RESET", cred := 1, qlo := 4, qhi := 7, lmin := 0, lmax := 0 },
  { code := 0x0009, name := "CRED_STATUS", qlo := 12, qhi := 15, lmin := 0, lmax := 0 },
  { code := 0x0100, name := "PROBE_NEAREST", role := 2, qlo := 4, qhi := 7, lmin := 0, lmax := 0 },
  { code := 0x0101, name := "ASSIGN_ADDRESS", role := 2, cred := 1, qlo := 4, qhi := 7, lmin := 24, lmax := 24 },
  { code := 0x0102, name := "PORT_OPEN", cred := 1, qlo := 4, qhi := 7, lmin := 4, lmax := 4 },
  { code := 0x0103, name := "PORT_CLOSE", cred := 1, qlo := 4, qhi := 7, lmin := 4, lmax := 4 },
  { code := 0x0104, name := "RELEASE_ADDRESS", role := 2, cred := 1, qlo := 4, qhi := 7, lmin := 0, lmax := 0 },
  { code := 0x0105, name := "TOPO_READ", role := 1, cred := 1, qlo := 12, qhi := 15, lmin := 4, lmax := 4 },
  { code := 0x0200, name := "TIME_READ", cred := 1, qlo := 1, qhi := 1, lmin := 0, lmax := 0 },
  { code := 0x0201, name := "TIME_SET", cred := 1, qlo := 1, qhi := 1, lmin := 28, lmax := 28 },
  { code := 0x0202, name := "TIME_RATE", cred := 1, qlo := 1, qhi := 1, lmin := 24, lmax := 24 },
  { code := 0x0203, name := "TIME_SELECT", cred := 1, qlo := 1, qhi := 1, lmin := 4, lmax := 4 },
  { code := 0x0204, name := "PTP_CONFIG", role := 1, cred := 1, qlo := 1, qhi := 1, lmin := 8, lmax := 8 },
  { code := 0x0205, name := "PATH_CAL", cred := 1, qlo := 1, qhi := 1, lmin := 4, lmax := 4 },
  { code := 0x0206, name := "TIME_STATUS", cred := 1, qlo := 1, qhi := 1, lmin := 0, lmax := 0 },
  { code := 0x0300, name := "LCH_CONFIG", cred := 1, qlo := 2, qhi := 2, lmin := 60, lmax := 60 },
  { code := 0x0301, name := "LCH_START", role := 1, cred := 1, qlo := 2, qhi := 2, lmin := 12, lmax := 12 },
  { code := 0x0302, name := "LCH_STOP", role := 1, cred := 1, qlo := 2, qhi := 2, lmin := 12, lmax := 12 },
  { code := 0x0303, name := "SHREF_CONFIG", role := 1, cred := 1, qlo := 2, qhi := 2, lmin := 16, lmax := 16 },
  { code := 0x0304, name := "LCH_STATUS", cred := 1, qlo := 2, qhi := 2, lmin := 0, lmax := 0 },
  { code := 0x0400, name := "LAYER_CONFIG", cred := 1, qlo := 4, qhi := 7, lmin := 40, lmax := 40 },
  { code := 0x0401, name := "FLIP", cred := 1, qlo := 4, qhi := 7, lmin := 12, lmax := 140, lstep := 4 },
  { code := 0x0402, name := "FENCE_SIGNAL", role := 1, cred := 1, qlo := 4, qhi := 7, lmin := 8, lmax := 8 }]

/-- The opcode table of R71, part 1. -/
def opRows1 : List OpRow := [
  { code := 0x0403, name := "SURFACE_ALLOC", cred := 1, qlo := 4, qhi := 7, lmin := 20, lmax := 20 },
  { code := 0x0404, name := "SURFACE_WRITE", cred := 1, qlo := 8, qhi := 11, lmin := 9, lmax := 4040 },
  { code := 0x0405, name := "MESH_LOAD", role := 1, cred := 1, qlo := 8, qhi := 11, lmin := 12, lmax := 4036, lstep := 8 },
  { code := 0x0406, name := "STREAM_CONFIG", role := 1, cred := 1, qlo := 4, qhi := 7, lmin := 16, lmax := 16 },
  { code := 0x0407, name := "PROT_LAYER_SET", role := 2, cred := 2, qlo := 4, qhi := 7, lmin := 24, lmax := 24 },
  { code := 0x0408, name := "PROT_LAYER_CLEAR", role := 2, cred := 2, qlo := 4, qhi := 7, lmin := 0, lmax := 0 },
  { code := 0x0500, name := "CODER_CONFIG", role := 1, cred := 1, qlo := 4, qhi := 7, lmin := 4, lmax := 4 },
  { code := 0x0501, name := "CODER_STATUS", cred := 1, qlo := 12, qhi := 15, lmin := 0, lmax := 0 },
  { code := 0x0600, name := "LPP_CONFIG", role := 2, cred := 1, qlo := 4, qhi := 7, lmin := 48, lmax := 48 },
  { code := 0x0601, name := "LUT_LOAD", role := 2, cred := 1, qlo := 8, qhi := 11, lmin := 4, lmax := 4036, lstep := 3 },
  { code := 0x0602, name := "ALMANAC_LOAD", role := 2, cred := 1, qlo := 8, qhi := 11, lmin := 9, lmax := 4040 },
  { code := 0x0603, name := "ALMANAC_ENABLE", role := 2, cred := 1, qlo := 4, qhi := 7, lmin := 4, lmax := 4 },
  { code := 0x0604, name := "ZONE_READ", role := 2, cred := 1, qlo := 12, qhi := 15, lmin := 0, lmax := 0 },
  { code := 0x0700, name := "EMS_CONFIG", role := 2, cred := 1, qlo := 4, qhi := 7, lmin := 32, lmax := 32 },
  { code := 0x0701, name := "EMIT_ENABLE", role := 2, cred := 1, qlo := 4, qhi := 7, lmin := 8, lmax := 8 },
  { code := 0x0702, name := "EMIT_DISABLE", role := 2, cred := 1, qlo := 4, qhi := 7, lmin := 0, lmax := 0 },
  { code := 0x0703, name := "SETUP_TRANSFER", role := 2, cred := 1, qlo := 4, qhi := 7, lmin := 8, lmax := 264 },
  { code := 0x0704, name := "DRIVER_STATUS", role := 2, cred := 1, qlo := 12, qhi := 15, lmin := 4, lmax := 4 },
  { code := 0x0705, name := "ECLIPSE_SEND", role := 1, cred := 1, qlo := 0, qhi := 0, lmin := 4, lmax := 4 },
  { code := 0x0706, name := "ECLIPSE_CLEAR", cred := 1, qlo := 0, qhi := 0, lmin := 4, lmax := 4 },
  { code := 0x0800, name := "MEM_CONFIG", cred := 1, qlo := 4, qhi := 7, lmin := 48, lmax := 48 },
  { code := 0x0801, name := "MEM_STATUS", cred := 1, qlo := 12, qhi := 15, lmin := 0, lmax := 0 },
  { code := 0x0802, name := "MEM_RELEASE", cred := 1, qlo := 4, qhi := 7, lmin := 4, lmax := 4 },
  { code := 0x0803, name := "SCRUB_CONFIG", cred := 1, qlo := 4, qhi := 7, lmin := 4, lmax := 4 },
  { code := 0x0900, name := "PAIR_CONFIG", role := 1, cred := 1, qlo := 3, qhi := 3, lmin := 8, lmax := 8 },
  { code := 0x0901, name := "PAIR_STATUS", role := 1, cred := 1, qlo := 3, qhi := 3, lmin := 0, lmax := 0 },
  { code := 0x0902, name := "PAIR_HANDOVER", role := 1, cred := 1, qlo := 3, qhi := 3, lmin := 12, lmax := 12 },
  { code := 0x0903, name := "STATE_SAVE", role := 1, cred := 1, qlo := 3, qhi := 3, lmin := 0, lmax := 0 },
  { code := 0x0904, name := "STATE_RESTORE", role := 1, cred := 1, qlo := 3, qhi := 3, lmin := 0, lmax := 0 },
  { code := 0x0A00, name := "CAL_RUN", cred := 1, qlo := 4, qhi := 7, lmin := 4, lmax := 4 },
  { code := 0x0A01, name := "CAL_TRIM_LOAD", cred := 1, qlo := 4, qhi := 7, lmin := 16, lmax := 16 }]

/-- The opcode table of R71, part 2. -/
def opRows2 : List OpRow := [
  { code := 0x0A02, name := "CAL_STATUS", cred := 1, qlo := 12, qhi := 15, lmin := 0, lmax := 0 },
  { code := 0x0B00, name := "MET_READ", cred := 1, qlo := 12, qhi := 15, lmin := 8, lmax := 8 },
  { code := 0x0B01, name := "MET_LOG_READ", cred := 1, qlo := 8, qhi := 11, lmin := 8, lmax := 8 },
  { code := 0x0B02, name := "MET_SEALED", cred := 1, qlo := 4, qhi := 7, lmin := 120, lmax := 4096 },
  { code := 0x0B03, name := "MET_IDENT", qlo := 12, qhi := 15, lmin := 0, lmax := 0 },
  { code := 0x0C00, name := "ATTEST", qlo := 12, qhi := 15, lmin := 32, lmax := 32 },
  { code := 0x0C01, name := "CRED_PROVISION", cred := 2, qlo := 4, qhi := 7, lmin := 164, lmax := 164 },
  { code := 0x0C02, name := "CRED_REVOKE", cred := 2, qlo := 4, qhi := 7, lmin := 4, lmax := 4 },
  { code := 0x0C03, name := "CRED_PERM", cred := 2, qlo := 4, qhi := 7, lmin := 4, lmax := 4 },
  { code := 0x0C04, name := "SESSION_KEY", role := 2, cred := 1, qlo := 4, qhi := 7, lmin := 324, lmax := 324 },
  { code := 0x0C05, name := "DEBUG_OPEN", cred := 2, qlo := 4, qhi := 7, lmin := 212, lmax := 212 },
  { code := 0x0D00, name := "IMG_BEGIN", cred := 1, qlo := 8, qhi := 11, lmin := 8, lmax := 8 },
  { code := 0x0D01, name := "IMG_BLOCK", cred := 1, qlo := 8, qhi := 11, lmin := 5, lmax := 4036 },
  { code := 0x0D02, name := "IMG_VERIFY", cred := 1, qlo := 8, qhi := 11, lmin := 0, lmax := 0 },
  { code := 0x0D03, name := "IMG_ACTIVATE", cred := 1, qlo := 4, qhi := 7, lmin := 16, lmax := 16 },
  { code := 0x0D04, name := "IMG_ABORT", cred := 1, qlo := 4, qhi := 7, lmin := 0, lmax := 0 },
  { code := 0x0D05, name := "IMG_CONFIRM", cred := 1, qlo := 4, qhi := 7, lmin := 0, lmax := 0 },
  { code := 0x0D06, name := "IMG_STATUS", cred := 1, qlo := 12, qhi := 15, lmin := 0, lmax := 0 },
  { code := 0x0E00, name := "PWR_SET", cred := 1, qlo := 4, qhi := 7, lmin := 20, lmax := 20 },
  { code := 0x0E01, name := "SLEEP_PROPOSE", cred := 1, qlo := 4, qhi := 7, lmin := 16, lmax := 16 },
  { code := 0x0E02, name := "SLEEP_COMMIT", cred := 1, qlo := 4, qhi := 7, lmin := 4, lmax := 4 },
  { code := 0x0E03, name := "SLEEP_RESUME", cred := 1, qlo := 0, qhi := 7, lmin := 4, lmax := 4 },
  { code := 0x0E04, name := "PWR_STATUS", cred := 1, qlo := 12, qhi := 15, lmin := 0, lmax := 0 },
  { code := 0x0F00, name := "EVT_READ", cred := 1, qlo := 12, qhi := 15, lmin := 8, lmax := 8 },
  { code := 0x0F01, name := "EVT_CLEAR", cred := 1, qlo := 12, qhi := 15, lmin := 4, lmax := 4 },
  { code := 0x0F02, name := "EVT_CONFIG", cred := 1, qlo := 4, qhi := 7, lmin := 132, lmax := 132 },
  { code := 0x0F03, name := "FAULT_EPOCH", role := 1, cred := 1, qlo := 4, qhi := 7, lmin := 4, lmax := 4 },
  { code := 0x0F05, name := "EVT_SUBSCRIBE", role := 1, cred := 1, qlo := 12, qhi := 15, lmin := 8, lmax := 8 }]

/-- The opcode table of R71. -/
def opRows : List OpRow := opRows0 ++ opRows1 ++ opRows2

/-- The row of an opcode, if it is defined and a request. -/
def opRow (code : Nat) : Option OpRow := opRows.find? (fun o => o.code == code)

/-- Is the payload length one the opcode takes (R49)? -/
def OpRow.lenOk (o : OpRow) (n : Nat) : Bool :=
  decide (o.lmin ≤ n) && decide (n ≤ o.lmax) && n % o.lstep == o.lmin % o.lstep

/-- DETAIL of BAD_LENGTH: the length the opcode requires where it has exactly one, otherwise 0xFFFF (R57). -/
def OpRow.lenDetail (o : OpRow) : Nat := if o.lmin = o.lmax then o.lmin else 0xFFFF

/-- Does the executing chip's role take the opcode (R2, R58 check 5)? -/
def OpRow.roleOk (o : OpRow) (s : State) : Bool := o.role == 0 || (o.role == 1 && s.isLead) || (o.role == 2 && s.isTile)

/-- Is a queue class in the opcode's range (R58 check 11; SLEEP_RESUME takes 0 or 4 to 7)? -/
def OpRow.classOk (o : OpRow) (c : Nat) : Bool :=
  if o.code = 0x0E03 then c == 0 || (decide (4 ≤ c) && decide (c ≤ 7)) else decide (o.qlo ≤ c) && decide (c ≤ o.qhi)

/-- The opcodes of the recovery responder (R455). -/
def recoveryOps : List Nat :=
  [0x0000, 0x0001, 0x0009, 0x0C00, 0x0C01, 0x0F00, 0x0D00, 0x0D01, 0x0D02, 0x0D03, 0x0D04, 0x0D06]

/-- The further opcodes of a tile's recovery responder (R455). -/
def recoveryTileOps : List Nat := [0x0100, 0x0101, 0x0102, 0x0103, 0x0104, 0x0C04]

/-- The opcodes a chip with a reserved strap answers (R479). -/
def strapOps : List Nat := [0x0000, 0x0001, 0x0C00, 0x0F00, 0x0100]

/-- What the command responder answers by the state of the boot alone: nothing in reset, a refusal outside the opcodes of the
recovery responder (R455) or of a reserved strap (R479). -/
def State.bootRefusal (s : State) (code : Nat) : Option Rsp :=
  match s.pwr.phase with
  | .recovery => if recoveryOps.contains code || (s.isTile && recoveryTileOps.contains code) then none else some (rspErr stWrongState 0x0D30)
  | .strap => if strapOps.contains code then none else some (rspErr stUnsupportedRole)
  | _ => none

/-- Opcode classes and commands that core 0 serves (R476). -/
def needsCore0 (code : Nat) : Bool :=
  code / 256 == 0x0A || code / 256 == 0x0C || code / 256 == 0x0D || code == 0x0205 || code == 0x0903 || code == 0x0904

/-- Does a management core not serve: it is faulted, or still restarting (R476, R477)? -/
def State.coreFaulted (s : State) (c : Nat) : Bool := let x := (s.pwr.cores.getD c {}).state; x == 2 || x == 3

/-- Does the payload have the length that its own fields ask for, where those decide it (R49): FLIP by its COUNT (R231), SETUP_TRANSFER by
MODE, and in a tile by the DPL of its EMS_CONFIG (R333)? -/
def State.fieldLenOk (s : State) (code : Nat) (p : List Byte) : Bool :=
  if code = 0x0401 then p.length == 12 + 4 * u8 p 1
  else if code = 0x0703 then
    if u8 p 4 ≠ 1 then p.length == 8
    else if s.isTile ∧ !s.ems.cfg.isEmpty then p.length == 8 + u16 s.ems.cfg 6
    else decide (8 < p.length)
  else true

/-- The refusals of checks 1 to 7 that a request meets again where it executes: boot state, length (R49), role (R2). -/
def State.earlyRefusal (s : State) (o : OpRow) (r : Req) : Option Rsp :=
  match s.bootRefusal o.code with
  | some a => some a
  | none =>
    if !o.lenOk r.payload.length || !s.fieldLenOk o.code r.payload then some (rspErr stBadLength o.lenDetail)
    else if !o.roleOk s then some (rspErr stUnsupportedRole)
    else none

/-- The block of R72, by bits 27:20 of its base address, that executes an opcode class. -/
def opBlock (code : Nat) : Nat :=
  if code / 256 = 0x04 then (if code = 0x0406 then 0x06 else 0x07)
  else [0x01, 0x05, 0x03, 0x04, 0x07, 0x08, 0x09, 0x0A, 0x0B, 0x0C, 0x0D, 0x0E, 0x0F, 0x0F, 0x10, 0x02].getD (code / 256) 0

/-- The refusals that come before an opcode's own parameters and state: MORE (R50), a faulted management core (R476), and a block that a FIFO fault
put on hold (R40, R57). -/
def State.lateRefusal (s : State) (o : OpRow) (r : Req) : Option Rsp :=
  if r.isMore then some (rspErr stBadParam 1)
  else if needsCore0 o.code && s.coreFaulted 0 then some (rspErr stHwFault 0x00)
  else if s.pwr.held.contains (opBlock o.code) then some (rspErr stHwFault (opBlock o.code))
  else none

/-- All of them, in the order of R58. -/
def State.preRefusal (s : State) (o : OpRow) (r : Req) : Option Rsp :=
  match s.earlyRefusal o r with
  | some a => some a
  | none => s.lateRefusal o r

/-- The request leaves the list of those waiting for execution. -/
def State.takeReq (s : State) (code : Nat) (r : Req) : State :=
  { s with cmd := { s.cmd with admitted := s.cmd.admitted.erase (code, r) } }

/-- The bytes of a request's packet without its AUTHTAG (R46). -/
def reqPacket (r : Req) (op : Nat) : List Byte :=
  packetBytes r.flags.toNat op r.dest.toNat r.src.toNat r.seq.toNat r.payload.length r.tag.toNat r.epoch.toNat r.payload

/-- The arrival port of a request. -/
def viaPort : Via → Nat
  | .chain p _ _ _ => p
  | _ => 0

/-- SRC of the cells a request came in. -/
def viaSrc : Via → Nat
  | .chain _ _ _ src => src
  | _ => 0

/-- Is a NEAREST request, as it executes, one that this tile must not answer, since it holds an address in its epoch by now (R95, R107)? -/
def State.strayNearest (s : State) (r : Req) : Bool := s.isTile && r.isNearest && !r.isBcast && !s.nearestHere r

/-- EV_100 for a NEAREST packet of a port (R108). -/
def State.raise100 (s : State) (p : Nat) : State := s.raise 100 2 (p + (s.portState s.downPort).code * 256)

/-- A NEAREST packet in a tile that holds an address in its epoch (R95): forwarded downstream unchanged, or discarded with EV_100. -/
def State.judgeNearest (s : State) (p src : Nat) (packet : List Byte) : State :=
  if s.portState p = .up ∧ s.portState s.downPort = .open_ then
    s.send { port := s.downPort, typ := 2, dest := u16 packet 4 % 4096, key := 0, cls := u16 packet 4 / 4096, src := some src, body := packet }
  else s.raise100 p

/-- A NEAREST request judged again as it executes (R107). -/
def State.judgeReq (s : State) (code : Nat) (r : Req) : State :=
  s.judgeNearest (viaPort r.via) (viaSrc r.via) (reqPacket r code ++ r.authTag)

/-- Does a tile have a command in execution whose reply it holds (R69): a PORT_OPEN that qualifies its link (R100), a change that waits for
L - guard (R293), a MEM_CONFIG or MEM_RELEASE in training (R340), an EMIT_ENABLE in its initialisation (R331), or an ALMANAC_ENABLE whose
regeneration runs (R286)? A command that waits for the memory controller (R358) has not begun. -/
def State.inExecution (s : State) : Bool :=
  s.isTile && (s.net.ports.any (fun p => p.opening.isSome) || !s.pix.heldReplies.isEmpty || s.mem.training.isSome ||
    s.ems.init.isSome || s.lpp.regen.any (fun g => g.enable.isSome))

/-- Does a request wait (R67, R69, R378)? Behind an earlier request of its class; in a tile, class 0 apart, behind one of a lower class and
behind a command in execution; in a lead behind a reply held for the mirror. A request outside the list of the admitted ones waits for
none of that list. DEDUCED (log entry 22): a command whose reply is held is in execution. -/
def State.waits (s : State) (code : Nat) (r : Req) : Bool :=
  let l := s.cmd.admitted
  let mine := l.contains (code, r)
  (mine && (l.takeWhile (fun x => !(x == (code, r)))).any (fun x => x.2.cls == r.cls)) ||
    (r.cls != 0 && (if s.isTile then s.inExecution || (mine && l.any (fun x => x.2.cls != 0 && decide (x.2.cls < r.cls)))
      else s.isLead && !s.pai.held.isEmpty))

/-- The course of a request whose reply follows at once: `f` gives the state after its effect and the answer. A refused request has
no effect but its reply. While the main side is held in reset no request is executed, and one behind a held reply waits. -/
def runReq (code : Nat) (r : Req) (s : State) (f : State → State × Rsp) : Res :=
  match opRow code with
  | none => .next s
  | some o =>
    if s.alive && !s.waits code r then
      let s1 := s.takeReq code r
      if s1.strayNearest r then .next (s1.judgeReq code r) else
      match s1.earlyRefusal o r with
      | some a => .next (s1.answerPlain code r a)
      | none =>
      match s1.lateRefusal o r with
      | some a => .next (s1.answer s1 code r a)
      | none =>
        let (s2, a) := f s1
        .next (s1.answer s2 code r a)
    else .next s

/-- The course of a request that may hold its reply (PORT_OPEN, tile broadcasts, pipeline changes): `f` gives no answer where the
reply comes later. -/
def runReqLater (code : Nat) (r : Req) (s : State) (f : State → State × Option Rsp) : Res :=
  match opRow code with
  | none => .next s
  | some o =>
    if s.alive && !s.waits code r then
      let s1 := s.takeReq code r
      if s1.strayNearest r then .next (s1.judgeReq code r) else
      match s1.earlyRefusal o r with
      | some a => .next (s1.answerPlain code r a)
      | none =>
      match s1.lateRefusal o r with
      | some a => .next (s1.answer s1 code r a)
      | none =>
        match f s1 with
        | (s2, some a) => .next (s1.answer s2 code r a)
        | (s2, none) => .next s2
    else .next s

/-- Guard: refuse where a condition fails, else go on. -/
def need (c : Bool) (a : Rsp) (s : State) (k : State × Rsp) : State × Rsp := if c then k else (s, a)

end Sys2Proof.Machine
end

