-- ==== Sys2Proof/Machine/Transport.lean ====
section
/-! DEFINITION. The command path: packets and their checks (R46 to R58), credentials and replay (R62 to R65), the lead's queues, jobs,
aggregate replies and time-outs (R60, R61, R66, R538), rings and UDP (R73 to R77). -/

namespace Sys2Proof.Machine

/-! ### Packets -/

/-- The request in the bytes of a packet whose header is whole. -/
def reqOf (via : Via) (b : List Byte) : Req :=
  let len := u16 b 12
  let flags := u8 b 1
  { via := via, flags := BitVec.ofNat 8 flags, dest := BitVec.ofNat 16 (u16 b 4), src := BitVec.ofNat 16 (u16 b 6),
    seq := BitVec.ofNat 32 (u32 b 8), tag := BitVec.ofNat 16 (u16 b 14), epoch := BitVec.ofNat 32 (u32 b 16),
    payload := slice b 24 len, authTag := if flags.testBit 6 then slice b (24 + len) 16 else [] }

/-- The case of R48 in which a packet is discarded: 2 shorter than its header, 1 major version, 0 HCRC. -/
def discardCase (b : List Byte) : Option Nat :=
  if b.length < 24 then some 2
  else if u8 b 0 / 16 ≠ 1 then some 1
  else if u32 b 20 ≠ crc32c (b.take 20) then some 0
  else none

/-- A discarded packet that a port in chain framing received: EV_16 with its case (R48, R85). -/
def State.raise16 (s : State) (p case : Nat) : State := s.raise 16 2 (8 + p + case * 256)

/-- The arrival code of EV_16. -/
def viaArrival : Via → Nat
  | .pcie _ _ _ _ _ => 0
  | .udp port _ _ => port
  | .chain port _ _ _ => 8 + port
  | .own => 0

/-- Does the AUTHTAG verify under the key of the request's slot (R62)? The bytes are those received, without the tag. -/
def authOk (key bytes tag : List Byte) : Bool := fit 16 (authTagOf key bytes) == tag

/-! ### Replay (R64, R65) -/

/-- Index of a slot and queue class. -/
def slotClass (slot cls : Nat) : Nat := slot * 16 + cls

/-- The replay state of a slot and class. -/
def State.replayOf (s : State) (k : Nat) : Replay := Map.at s.cmd.replay {} k

/-- The new floor of an S at or above the floor (R65). -/
def newFloor (sq : Nat) : Nat :=
  let f := sq / 65536 * 65536 + 65536
  if 4294967296 ≤ f then 0xFFFFFFFF else f

/-- Is S acceptable to the replay state (R64)? -/
def Replay.accepts (w : Replay) (sq : Nat) : Bool :=
  sq != 0 && w.h != 0xFFFFFFFF &&
    (decide (w.h < sq) || (decide (w.h - sq < 64) && decide (sq ≤ w.h) && !w.seen.testBit (w.h - sq)))

/-- Mark S seen and raise H (R64). -/
def Replay.mark (w : Replay) (sq : Nat) : Replay :=
  if w.h < sq then { h := sq, seen := (w.seen * 2 ^ (sq - w.h) + 1) % 2 ^ 64 }
  else { w with seen := w.seen ||| 2 ^ (w.h - sq) }

/-- Check 8 of R58: the state after it, and the refusal if any. -/
def State.checkSeq (s : State) (r : Req) : State × Option Rsp :=
  let k := slotClass r.slot r.cls
  let w := s.replayOf k
  let det := r.slot * 2 ^ 28 + r.cls * 2 ^ 24
  let sq := r.seq.toNat
  if w.h = 0xFFFFFFFF then (s.raise 28 2 det, some (rspErr stReplay r.slot))
  else if !w.accepts sq then (s.raise 18 2 (det + r.tag.toNat), some (rspErr stReplay r.slot))
  else if Map.at s.ks.floors 0 k ≤ sq then
    if s.coreFaulted 0 then (s, some (rspErr stHwFault 0x00))
    else if s.pwr.flashBad then ((s.flashFail 2).1, some (rspErr stHwFault 0x0F))
    else (({ s with ks := { s.ks with floors := Map.put s.ks.floors k (newFloor sq) },
                    cmd := { s.cmd with replay := Map.put s.cmd.replay k (w.mark sq) } }).commit 2, none)
  else ({ s with cmd := { s.cmd with replay := Map.put s.cmd.replay k (w.mark sq) } }, none)

/-! ### Credentials (R63) -/

/-- The credential an opcode needs: CRED_PROVISION of slot 15 is open while slot 15 is empty (R71). -/
def State.credOf (s : State) (o : OpRow) (r : Req) : Nat :=
  if o.code = 0x0C01 ∧ u8 r.payload 0 = 15 ∧ Map.find s.ks.creds 15 = none then 0 else o.cred

/-- Check 6 of R58. -/
def State.checkCred (s : State) (o : OpRow) (r : Req) : Option Rsp :=
  if s.credOf o r ≠ 0 ∧ !r.isAuth then some (rspErr stNotAuthorized r.slot)
  else if r.isAuth ∧ (Map.find s.ks.creds r.slot = none ∨ s.sec.gate.isSome) then some (rspErr stNotAuthorized r.slot)
  else none

/-- Check 7 of R58: the tag over the bytes received. -/
def State.checkTag (s : State) (r : Req) (bytes : List Byte) : Bool :=
  !r.isAuth || authOk (s.credKey r) bytes r.authTag

/-- Check 9 of R58: the slot's class permission; the safety slot holds every class (R441). DESIGN CHOICE (log entry 14): an O opcode sent with
AUTH = 1 needs no class permission. -/
def State.checkClass (s : State) (o : OpRow) (r : Req) : Option Rsp :=
  if s.credOf o r = 0 ∨ r.slot = 15 then none
  else if o.cred = 2 then some (rspErr stNotAuthorized r.slot)
  else if (Map.at s.ks.masks 0 r.slot).testBit (o.code / 256) then none
  else some (rspErr stNotAuthorized r.slot)

/-- Check 10 of R58: the EPOCH field (R55). -/
def State.checkEpoch (s : State) (o : OpRow) (r : Req) : Option Rsp :=
  if s.credOf o r = 0 ∨ o.code / 256 = 0x0E ∨ o.code = 0x0100 ∨ o.code = 0x0101 then
    if s.credOf o r ≠ 0 ∧ o.code / 256 = 0x0E ∧ o.code ≠ 0x0E01 ∧ o.code ≠ 0x0E02 ∧ o.code ≠ 0x0E03 ∧ r.epoch.toNat ≠ s.leadEpoch then
      some (rspErr stWrongState 0x0001) else none
  else if r.epoch.toNat = s.leadEpoch then none else some (rspErr stWrongState 0x0001)

/-! ### Addresses (R52 to R54, R90, R91, R538) -/

/-- Where a packet goes. -/
inductive Target
  /-- This chip executes it. -/
  | self
  /-- Tiles of this lead: kind, tile addresses, lanes (chain, queue address). `p7`: also forwarded over P7. -/
  | tiles (kind : Nat) (addrs : List Nat) (lanes : List (Nat × Nat)) (p7 : Bool)
  /-- Another lead over P7. -/
  | far
  /-- BAD_ADDRESS. -/
  | bad
  deriving DecidableEq, Repr

/-- The table entry of a tile address of this lead. -/
def State.topoAt (s : State) (addr : Nat) : Option TopoEntry :=
  s.net.table.find? (fun e => e.chain == addr / 64 % 4 && e.pos == addr % 64 && addr / 256 == s.leadField)

/-- The tiles the lead holds assigned on a chain, as addresses in ascending order (R61). -/
def State.chainTiles (s : State) (c : Nat) : List Nat :=
  (List.range 64).filterMap (fun p =>
    if (s.net.table.any (fun e => e.chain == c && e.pos == p)) then some (s.leadField * 256 + c * 64 + p) else none)

/-- The lowest free position of a chain (R91). -/
def State.freePos (s : State) (c : Nat) : Option Nat :=
  (List.range 64).find? (fun p => !(s.net.table.any (fun e => e.chain == c && e.pos == p)))

/-- Is the lead-to-lead link on P7 up (R93)? The far lead's number if so. -/
def State.farLead (s : State) : Option Nat :=
  let p := s.port 7
  match p.farId with
  | some (true, n, dom) =>
    if p.state = .active ∧ s.func 7 = 4 ∧ p.pcsLock ∧ dom = s.domainId ∧ n ≠ s.leadNum then some n else none
  | _ => none

/-- Is another lead, or the lead field of its tiles, at the far end of P7? -/
def State.reaches (s : State) (n : Nat) : Bool := match s.farLead with | some m => m == n || m / 2 * 2 == n | none => false

/-- A tile broadcast over some chains: addressed tiles and the chains that hold any. -/
def State.bcastTarget (s : State) (chains : List Nat) (p7 : Bool) : Target :=
  let cs := chains.filter (fun c => !(s.chainTiles c).isEmpty)
  .tiles 1 (cs.flatMap s.chainTiles) (cs.map (fun c => (c, s.leadField * 256 + c * 64))) p7

/-- The destination of a packet in a lead that sends commands to tiles. `host`: it came over a host transport, not over P7. -/
def State.targetDriving (s : State) (r : Req) (host : Bool) : Target :=
  let l := r.addr / 256
  let c := r.addr / 64 % 4
  let other := if host && s.reaches l then .far else .bad
  if r.isBcast && r.isNearest then
    if r.addr % 256 ≠ 0xFF then .bad else if l = s.leadNum then .self else other
  else if r.isBcast then
    if r.addr % 64 = 0 then if l = s.leadField then s.bcastTarget [c] false else if s.paired ∧ l = s.leadField + 1 then .bad else other
    else if r.addr % 64 = 1 then
      if l = s.leadField then s.bcastTarget [0, 1, 2, 3] false else if s.paired ∧ l = s.leadField + 1 then .bad else other
    else if r.addr % 64 = 2 then s.bcastTarget [0, 1, 2, 3] (host && s.farLead.isSome)
    else .bad
  else if r.isNearest then
    if r.addr % 64 ≠ 0 then .bad
    else if l ≠ s.leadField then (if s.paired ∧ l = s.leadField + 1 then .bad else other)
    else .tiles 2 [r.addr] [(c, r.addr)] false
  else if l ≠ s.leadField then (if s.paired ∧ l = s.leadField + 1 then .bad else other)
  else if (s.topoAt r.addr).isSome then .tiles 0 [r.addr] [(c, r.addr)] false
  else .bad

/-- Does a lead forward an ASSIGN_ADDRESS (R91): the lead field is its own, the chain that of DEST[7:6], the position the lowest free one? -/
def State.assignOk (s : State) (r : Req) : Bool :=
  let a := u16 r.payload 16 % 4096
  a / 256 == s.leadField && a / 64 % 4 == r.addr / 64 % 4 && s.freePos (a / 64 % 4) == some (a % 64)

/-- The destination of a packet in a lead: a Standby lead originates no CMD cell (R382), so it serves no tiles; an address that R91 does not
give is BAD_ADDRESS. -/
def State.targetLead (s : State) (op : Nat) (r : Req) (host : Bool) : Target :=
  match s.targetDriving r host with
  | .tiles k a l p7 => if s.pai.state = .standby ∨ (op = 0x0101 ∧ !s.assignOk r) then .bad else .tiles k a l p7
  | t => t

/-- The destination of a packet in a tile, as a chip without other tiles behind its command processor. -/
def State.targetTile (s : State) (r : Req) : Target :=
  if r.isBcast && r.isNearest then .bad
  else if r.isBcast then (if r.addr % 64 ≤ 2 then .self else .bad)
  else if r.isNearest then (if r.addr % 64 = 0 then .self else .bad)
  else if s.net.valid ∧ r.addr = s.net.addr then .self else .bad

/-! ### Jobs and queues of the lead (R60, R61, R66) -/

/-- The queue entries in use: a command once for each queue that holds it, though a relayed chain sends it both ways (R66, R381); what goes
over P7 enters no queue. -/
def State.queued (s : State) : List (Option Nat × Nat × Nat) :=
  ((s.net.tx.filter (fun m => m.job.isSome && m.typ == 2 && m.port != 7)).map (fun m => (m.job, m.dest, m.cls))).eraseDups

/-- The queued commands of a tile address and class that have cells still to send. -/
def State.queueDepth (s : State) (addr cls : Nat) : Nat :=
  (s.queued.filter (fun q => q.2.1 == addr && q.2.2 == cls)).length

/-- Pool buffers in use. -/
def State.poolUse (s : State) : Nat := s.queued.length

/-- Check 12 of R58 for the lanes of a command: the queue's depth where a queue or the pool is full. DESIGN CHOICE (log entry 15): classes 4
to 15 find the pool full once 16,128 buffers are in use, whatever classes hold them. -/
def State.checkQueue (s : State) (cls : Nat) (lanes : List (Nat × Nat)) : Option (Nat × Nat) :=
  match lanes.find? (fun l => decide (64 ≤ s.queueDepth l.2 cls)) with
  | some l => some (l.2, s.queueDepth l.2 cls)
  | none =>
    if (if cls < 4 then 16384 else 16128) < s.poolUse + lanes.length then
      match lanes with
      | l :: _ => some (l.2, s.queueDepth l.2 cls)
      | [] => none
    else none

/-- Opcodes that a tile accepts in a clear CMD message (R130). -/
def clearOk (code : Nat) : Bool :=
  code == 0x0100 || code == 0x0101 || code == 0x0C04 ||
    (match opRow code with | some o => o.cred == 0 | none => false)

/-- The key selector of a lead's unicast cells to a tile: the session key installed most recently (R442). -/
def State.tileKey (s : State) (addr : Nat) : Nat :=
  match Map.find s.key.tileLast addr with
  | some 0 => 1
  | some _ => 2
  | none => 0

/-- Is a chain in Twilight, as its lead holds it (R70)? -/
def State.chainAsleep (s : State) (c : Nat) : Bool :=
  let x := (s.pwr.sleep.getD c {}).state
  x == .twilight || x == .waking

/-- Is the way to a lane's tiles open: the chain port, or P6 for the tiles of a relayed stretch (R381)? -/
def State.laneUp (s : State) (l : Nat × Nat) : Bool :=
  s.portState l.1 == .open_ || (s.pai.relay.testBit l.1 && decide (s.relayFrom l.1 ≤ l.2 % 64) && s.portState 6 == .active)

/-- Does a command at the head of its queue find its chain port not OPEN (R60)? Twilight holds it instead (R70). DEDUCED (log entry 32): a
command for another lead whose link has gone down is treated alike. -/
def State.stalled (s : State) (j : Job) : Bool :=
  j.started == none && (j.kind == 3 && s.farLead.isNone || j.lanes.any (fun l =>
    !s.laneUp l && !s.chainAsleep l.1 &&
    (match s.net.tx.find? (fun m => m.typ == 2 && m.job.isSome && m.dest == l.2 && m.cls == j.req.cls) with
     | some m => m.job == some j.id
     | none => false)))

/-- Start TILE_TIMEOUT of the commands at the head of a queue whose chain port is not OPEN (R60). -/
def State.startStalled (s : State) : State :=
  { s with cmd := { s.cmd with jobs := s.cmd.jobs.map (fun j =>
      if s.stalled j then { j with started := some s.now, sentAll := some s.now } else j) } }

/-- Queue a packet for tiles: one queue entry per lane. -/
def State.startJob (s : State) (op : Nat) (r : Req) (kind : Nat) (addrs : List Nat) (lanes : List (Nat × Nat)) (p7 : Bool)
    (packet : List Byte) : State :=
  let id := s.cmd.nextJob
  let key (l : Nat × Nat) : Nat :=
    if kind = 1 then (if s.ks.group.isSome then 3 else 0) else if kind = 2 then 0 else s.tileKey l.2
  let ms := lanes.map (fun l =>
    { port := l.1, typ := 2, dest := l.2, bcast := kind == 1, key := key l, cls := r.cls, body := packet, job := some id : TxMsg })
  let f := if p7 then
      [{ port := 7, typ := 2, dest := leadAddr (s.farLead.getD 0), key := 3, cls := r.cls, body := packet : TxMsg }] else []
  let j : Job := { id := id, op := op, req := r, kind := kind, addrs := addrs, lanes := lanes,
                   far := if p7 then some s.now else none, farLead := s.farLead.getD 0 }
  let t := { s with cmd := { s.cmd with jobs := s.cmd.jobs ++ [j], nextJob := id + 1 } }
  ((ms ++ f).foldl State.send t).startStalled

/-- A 32-byte tile bitmap of a lead: bit i of tile (n << 8) | i lies in byte 31 - (i >> 3), bit i & 7 (R83). -/
def tileBitmap (addrs : List Nat) : List Byte :=
  (List.range 32).map (fun k => BitVec.ofNat 8 ((List.range 8).foldl (fun a b =>
    if addrs.any (fun x => x % 256 == (31 - k) * 8 + b) then a + 2 ^ b else a) 0))

/-- Leads and their two bitmaps from the data of an aggregate reply. -/
def splitBitmaps : List Nat → List Byte → List (Nat × List Byte)
  | [], _ => []
  | n :: ns, b => (n, fit 64 b) :: splitBitmaps ns (b.drop 64)

/-- The reply data of an aggregate reply (R61): own bitmaps, merged with a far lead's data (R538). -/
def aggData (own : Nat) (fails outs : List Nat) (far : Option (List Byte)) : List Byte :=
  let mine := (own, tileBitmap fails ++ tileBitmap outs)
  let theirs := match far with
    | none => []
    | some b => (splitBitmaps ((List.range 16).filter (fun n => (u16 b 0).testBit n)) (b.drop 4)).filter (fun e => e.1 != own)
  let all := mine :: theirs
  let map := all.foldl (fun a e => a + 2 ^ e.1) 0
  b2 map ++ zeros 2 ++ ((List.range 16).flatMap (fun n => (all.filter (fun e => e.1 == n)).flatMap Prod.snd))

/-- The tiles that a bitmap of lead n marks. -/
def bitmapTiles (n : Nat) (b : List Byte) : List Nat :=
  ((List.range 256).filter (fun i => (u8 b (31 - i / 8)).testBit (i % 8))).map (fun i => n * 256 + i)

/-- The lowest-addressed tile that returned a failing status, by the bitmaps of an aggregate reply. -/
def farLowest (b : List Byte) : Option Nat :=
  let parts := splitBitmaps ((List.range 16).filter (fun n => (u16 b 0).testBit n)) (b.drop 4)
  (parts.flatMap (fun e => (bitmapTiles e.1 (e.2.take 32)).filter (fun a => !(bitmapTiles e.1 (e.2.drop 32)).contains a))).head?

/-- STATUS and DETAIL of an aggregate reply (R61, R538): `farSt` is a far lead's own STATUS and DETAIL, `farLow` the tile they come from, `farOut`
its silence. A failing far lead that names no tile stands behind every tile of this one (DESIGN CHOICE, log entry 26). -/
def aggStatus (addrs : List Nat) (replies : List (Nat × Nat × Nat)) (farSt : Option (Nat × Nat)) (farLow : Option Nat) (farOut : Bool) :
    Nat × Nat :=
  let outs := addrs.filter (fun a => !(replies.any (fun r => r.1 == a)))
  let bad := replies.filter (fun r => r.2.1 != stOk && r.2.1 != stAccepted)
  let lowest := bad.foldl (fun (m : Option (Nat × Nat × Nat)) r =>
    match m with | none => some r | some x => if r.1 < x.1 then some r else some x) none
  let farFail := match farSt with
    | some (st, d) => if st = stOk ∨ st = stAccepted ∨ st = stTimeout then none else some (st, d)
    | none => none
  let farTime := farOut || (match farSt with | some (st, _) => st == stTimeout | none => false)
  let acc := replies.any (fun r => r.2.1 == stAccepted) || (match farSt with | some (st, _) => st == stAccepted | none => false)
  match lowest, farFail with
  | some x, some y => (match farLow with | some a => if a < x.1 then y else x.2 | none => x.2)
  | some x, none => x.2
  | none, some x => x
  | none, none => if outs.isEmpty ∧ !farTime then (if acc then (stAccepted, 0) else (stOk, 0)) else (stTimeout, 0)

/-- Is a broadcast at its end: every tile has answered or TILE_TIMEOUT has passed, and the far lead's reply came or is given up? -/
def Job.allIn (j : Job) : Bool :=
  (j.told || j.addrs.all (fun a => j.replies.any (fun r => r.1 == a))) && (j.far.isNone || j.farData.isSome || j.farGone)

/-- Remove a job and the cells it has not sent; the next command of its queues may now be at the head (R60). -/
def State.dropJob (s : State) (id : Nat) : State :=
  ({ s with cmd := { s.cmd with jobs := s.cmd.jobs.filter (fun j => j.id != id) },
            net := { s.net with tx := s.net.tx.filter (fun m => m.job != some id) } } : State).startStalled

/-- The aggregate answer of a broadcast job. -/
def State.aggregate (s : State) (j : Job) : Rsp :=
  let outs := j.addrs.filter (fun a => !(j.replies.any (fun r => r.1 == a)))
  let fails := outs ++ (j.replies.filter (fun r => r.2.1 != stOk && r.2.1 != stAccepted)).map Prod.fst
  let farSt := j.farData.map (fun b => (u16 b 0, u16 b 2))
  let (st, d) := aggStatus j.addrs j.replies farSt (j.farData.bind (fun b => farLowest (b.drop 4))) j.farGone
  { status := st, detail := d, data := aggData s.leadField fails outs (j.farData.map (·.drop 4)), keep := true }

/-! ### Chain sleep in the lead (R484 to R492) -/

/-- t_commit_margin before T, in 2^-16 ns. -/
def commitMargin : Nat := 1000 * rawMs 5

/-- A chain's sleep as the lead holds it; entry 0 is a tile's own. -/
def State.sleepAt (s : State) (c : Nat) : SleepS := s.pwr.sleep.getD c {}

/-- Replace it. -/
def State.setSleep (s : State) (c : Nat) (x : SleepS) : State := { s with pwr := { s.pwr with sleep := s.pwr.sleep.set c x } }

/-- Codes of the sleep states (R494). -/
def Sleep.code : Sleep → Nat
  | .awake => 0 | .proposed => 1 | .committed => 2 | .twilight => 3 | .waking => 4

/-- The time that a chain spent in Twilight and waking does not count in the TILE_TIMEOUT of its commands (R70). -/
def State.skipSleep (s : State) (c : Nat) : State :=
  let by_ (t : Nat) : Nat := t + (s.now - max t (s.sleepAt c).since)
  { s with cmd := { s.cmd with jobs := s.cmd.jobs.map (fun (j : Job) =>
      if j.lanes.any (fun l => l.1 == c) then { j with started := j.started.map by_, sentAll := j.sentAll.map by_ } else j) } }

/-- A new sleep state of a chain, or of a tile, whose chain is that of its address: EV_39. -/
def State.sleepTo (s : State) (c : Nat) (st : Sleep) : State :=
  let x := s.sleepAt c
  let n := if s.isLead then c else s.net.addr / 64 % 4
  let asleep (z : Sleep) : Bool := z == .twilight || z == .waking
  let s := if s.isLead && asleep x.state && !asleep st then s.skipSleep c else s
  let since := if asleep st && !asleep x.state then s.now else x.since
  (s.setSleep c { x with state := st, since := since }).raise 39 1 (n + st.code * 4 + x.epoch % 65536 * 65536)

/-- A sleep opcode as the lead sends it to a chain (R484): from the request `r`, or from the lead's own firmware, whose SEQ and TAG are open
and which signs under the safety slot where that holds a key. -/
def State.sleepReq (s : State) (c cls epoch : Nat) : Option Req → Req
  | some r => { r with flags := (r.flags ||| 0x20#8) &&& 0xEF#8, dest := BitVec.ofNat 16 (r.cls * 4096 + s.leadField * 256 + c * 64) }
  | none =>
    { via := .own, flags := if (Map.find s.ks.creds 15).isSome then 0x60#8 else 0x20#8,
      dest := BitVec.ofNat 16 (cls * 4096 + s.leadField * 256 + c * 64), src := BitVec.ofNat 16 (15 * 4096 + s.leadNum * 256),
      seq := BitVec.ofNat 32 s.freeVal, tag := BitVec.ofNat 16 (Config.freeValue (s.free + 1)), epoch := BitVec.ofNat 32 epoch,
      payload := b1 c ++ zeros 3 }

/-- What refuses a broadcast that the lead forms from a command of its own: a full queue or pool with EV_20 (R66), or the missing group key
(R546). -/
def State.bcastRefusal (s : State) (op cls : Nat) (lanes : List (Nat × Nat)) : State × Option Rsp :=
  match s.checkQueue cls lanes with
  | some (a, d) => (s.raise 20 1 (cls * 4096 + a), some (rspErr stQueueFull d))
  | none => (s, if s.ks.group.isNone && !clearOk op then some (rspErr stWrongState 0x0C08) else none)

/-- The aggregate reply of a broadcast that addresses no tile (R61). -/
def State.noTiles (s : State) : Rsp := { data := aggData s.leadField [] [] none }

/-- Broadcast a sleep opcode to the tiles of a chain. An answer says that nothing was sent: OK where the chain has no tiles, or a refusal. -/
def State.sleepJob (s : State) (op c cls epoch : Nat) (r : Option Req) : State × Option Rsp :=
  match s.bcastTarget [c] false with
  | .tiles _ addrs lanes _ =>
    if addrs.isEmpty then (s, some s.noTiles)
    else
      let q := s.sleepReq c cls epoch r
      match s.bcastRefusal op q.cls lanes with
      | (u, some a) => (u, some a)
      | (u, none) =>
        let p := reqPacket q op
        let p := if q.isAuth then p ++ fit 16 (authTagOf (s.credKey q) p) else p
        let t := if r.isSome then u else u.freeNext.freeNext
        (t.startJob op (r.getD q) 1 addrs lanes false p, none)
  | _ => (s, some s.noTiles)

/-- A proposal is aborted (R490): EV_41 with the first position that reported; SLEEP_RESUME of its epoch at class 0, and resume beacons from T
until every tile has answered. -/
def State.abortSleep (s : State) (c pos : Nat) : State :=
  let x := s.sleepAt c
  let s := (s.setSleep c { x with state := .awake, allOk := false, resuming := true, beaconEpoch := x.epoch % 65536,
                                  nextBeacon := s.actDom.rawOf x.at_ }).raise 41 1 (c + pos % 64 * 256)
  match s.sleepJob 0x0E03 c 0 x.epoch none with
  | (t, none) => t
  | (t, some _) => t.setSleep c { t.sleepAt c with resuming := false }

/-- An abort that no tile asked for: the position of EV_41 is open. -/
def State.abortFree (s : State) (c : Nat) : State := s.freeNext.abortSleep c s.freeVal

/-- What the lead records when a broadcast it made itself ends: sleep proposals, commits and resumes (R485, R490, R492). -/
def State.noteAggregate (s : State) (j : Job) (ok : Bool) : State :=
  let c := u8 j.req.payload 0
  let x := s.sleepAt c
  let same := x.epoch == j.req.epoch.toNat
  if j.op = 0x0E01 then (if same ∧ x.state = .proposed then s.setSleep c { x with allOk := ok } else s)
  else if j.op = 0x0E02 then
    if !same then s
    else if ok ∧ x.state = .proposed then s.sleepTo c .committed
    else if ok ∨ x.resuming then s else s.abortFree c
  else if j.op = 0x0E03 ∧ x.state = .awake then s.setSleep c { x with resuming := false, allOk := false }
  else s

/-- End a broadcast: one aggregate reply (R61). A commit acknowledged less than t_commit_margin before T fails (R485). -/
def State.endBcast (s : State) (j : Job) : State :=
  let a := s.aggregate j
  let late := j.op == 0x0E02 && decide (((s.sleepAt (u8 j.req.payload 0)).at_ : Int) < s.derivedNow + commitMargin)
  let a := if late ∧ a.status = stOk then { a with status := stTimeout } else a
  let t := (s.dropJob j.id).noteAggregate j (a.status == stOk)
  t.answer t j.op j.req a

/-! ### Admission: checks 1 to 12 of R58 -/

/-- Check 2 of R58 (R49): BAD_LENGTH with its DETAIL. -/
def State.checkLen (s : State) (op : Nat) (b : List Byte) : Option Rsp :=
  let len := u16 b 12
  let total := 24 + len + (if (u8 b 1).testBit 6 then 16 else 0)
  match opRow op with
  | none => if 4096 < len ∨ b.length ≠ total then some (rspErr stBadLength 0xFFFF) else none
  | some o => if 4096 < len ∨ b.length ≠ total ∨ !o.lenOk len ∨ !s.fieldLenOk op (slice b 24 len) then
      some (rspErr stBadLength o.lenDetail) else none

/-- The lead-local checks of addresses before a target is chosen: SRC[11:8] names the receiving lead (R53). -/
def State.srcOk (s : State) (r : Req) : Bool :=
  match r.via with
  | .chain _ _ _ _ => true
  | _ => decide (r.src.toNat / 256 % 16 = s.leadNum)

/-- Did the packet come over a host transport? -/
def viaIsHost : Via → Bool
  | .chain _ _ _ _ => false
  | _ => true

/-- A request that passed the address and opcode checks, for this chip: checks 5 to 11. -/
def State.admitSelf (s : State) (o : OpRow) (r : Req) (bytes : List Byte) : State :=
  match s.bootRefusal o.code with
  | some a => s.answerPlain o.code r a
  | none =>
  if !o.roleOk s then s.answerPlain o.code r (rspErr stUnsupportedRole)
  else match s.checkCred o r with
  | some a => s.answerPlain o.code r a
  | none =>
    if !s.checkTag r bytes then
      (s.raise 17 2 (r.slot * 2 ^ 28 + r.cls * 2 ^ 24 + r.tag.toNat)).answerPlain o.code r (rspErr stAuthFail r.slot)
    else
      let (s1, e) := if r.isAuth then s.checkSeq r else (s, none)
      match e with
      | some a => s.answer s1 o.code r a
      | none =>
        match s1.checkClass o r with
        | some a => s.answer s1 o.code r a
        | none =>
          match s1.checkEpoch o r with
          | some a => s.answer s1 o.code r a
          | none =>
            if !o.classOk r.cls then s.answer s1 o.code r (rspErr stBadParam 4)
            else { s1 with cmd := { s1.cmd with admitted := s1.cmd.admitted ++ [(o.code, r)] } }

/-- A request for tiles of this lead: checks 5 to 7, 11 and 12, then its queues (R58). -/
def State.admitTiles (s : State) (o : OpRow) (r : Req) (bytes packet : List Byte) (kind : Nat) (addrs : List Nat)
    (lanes : List (Nat × Nat)) (p7 : Bool) : State :=
  match s.bootRefusal o.code with
  | some a => s.answerPlain o.code r a
  | none =>
  if s.pwr.phase = .recovery then s.answerPlain o.code r (rspErr stWrongState 0x0D30)
  else if o.role = 1 then s.answerPlain o.code r (rspErr stUnsupportedRole)
  else match s.checkCred o r with
  | some a => s.answerPlain o.code r a
  | none =>
    if !s.checkTag r bytes then
      (s.raise 17 2 (r.slot * 2 ^ 28 + r.cls * 2 ^ 24 + r.tag.toNat)).answerPlain o.code r (rspErr stAuthFail r.slot)
    else if !o.classOk r.cls then s.answer s o.code r (rspErr stBadParam 4)
    else match s.checkQueue r.cls lanes with
    | some (a, d) => s.answer (s.raise 20 1 (r.cls * 4096 + a)) o.code r (rspErr stQueueFull d)
    | none =>
      if o.code / 256 = 0x01 ∧ !s.bit Reg.glbTopoCfg 31 then s.answer s o.code r (rspErr stWrongState 0x0101)
      else if kind = 1 ∧ s.ks.group = none ∧ !clearOk o.code then s.answer s o.code r (rspErr stWrongState 0x0C08)
      else if kind = 1 ∧ addrs.isEmpty ∧ !p7 then s.answer s o.code r s.noTiles
      else s.startJob o.code r kind addrs lanes p7 packet

/-- A request for another lead: forwarded over P7 unchanged (R54). -/
def State.admitFar (s : State) (op : Nat) (r : Req) (packet : List Byte) : State :=
  let id := s.cmd.nextJob
  let m : TxMsg := { port := 7, typ := 2, dest := leadAddr (s.farLead.getD 0), key := 3, cls := r.cls, body := packet, job := some id }
  let n := s.farLead.getD 0
  let j : Job := { id := id, op := op, req := r, kind := 3, addrs := [if r.isBcast then leadAddr n else r.addr], lanes := [], farLead := n }
  ({ s with cmd := { s.cmd with jobs := s.cmd.jobs ++ [j], nextJob := id + 1 } }).send m

/-- A packet arrives at the command processor: R48, then checks 2 to 12 of R58. -/
def State.receivePacket (s : State) (via : Via) (b : List Byte) : State :=
  match discardCase b with
  | some c => s.raise 16 2 (viaArrival via + c * 256)
  | none =>
    let op := u16 b 2
    let r := reqOf via b
    let bytes := b.take (24 + u16 b 12)
    match s.checkLen op b with
    | some a => s.answerPlain op r a
    | none =>
      let tg := if s.isLead then
          (match via with
           | .chain p _ _ _ => if p = 7 then s.targetLead op r false else .self
           | _ => s.targetLead op r true)
        else s.targetTile r
      if tg = .bad ∨ (s.isLead ∧ !s.srcOk r) then s.answerPlain op r (rspErr stBadAddress)
      else
        match opRow op with
        | none => s.answerPlain op r (rspErr stBadOpcode)
        | some o =>
          if r.isReply then s.answerPlain op r (rspErr stBadOpcode)
          else match tg with
          | .self => s.admitSelf o r bytes
          | .tiles kind addrs lanes p7 => s.admitTiles o r bytes b kind addrs lanes p7
          | .far => s.admitFar op r b
          | .bad => s

/-- COMMAND_PACKET_DISCARD (R48): a packet in one of the three cases is discarded without a reply; EV_16 gives the case. -/
def execCommandPacketDiscard (via : Via) (data : List Byte) (s : State) : Res :=
  if !s.alive then .next s else
  match discardCase data with
  | some c => .next (s.raise 16 2 (viaArrival via + c * 256))
  | none => .next s

/-- UNDEFINED_OPCODE (R71): an opcode outside the table, or EVT_NOTIFY as a request, returns BAD_OPCODE. -/
def execUndefinedOpcode (opcode : Nat) (r : Req) (s : State) : Res :=
  if !s.alive then .next s else
  match opRow opcode with
  | some _ => if r.isReply then .next (s.answerPlain opcode r (rspErr stBadOpcode)) else .next s
  | none => .next (s.answerPlain opcode r (rspErr stBadOpcode))

/-! ### PCIe rings (R73 to R76, R494) -/

/-- Ring size, 2^SIZE_LOG2. -/
def State.ringSize (s : State) (ring : Nat) : Nat := 2 ^ s.fld (Reg.cmdRingCfg + 0x20 * ring) 12 8

/-- Event ring size. -/
def State.evtRingSize (s : State) : Nat := 2 ^ s.fld Reg.evtRingCfg 12 8

/-- The host returns event ring entries by its head index (R84, R543). -/
def State.setEvtHead (s : State) (v : Nat) : State :=
  if s.evtRingSize ≤ v then s.raise 23 3 16 else { s with evt := { s.evt with ringHead := v } }

/-- DOORBELL_WRITE (R74): bytes 0 to 3 of BAR2 offset 0x1000 × c give ring c its tail; other offsets ignore writes. -/
def execDoorbellWrite (offset : Nat) (data : Word) (s : State) : Res :=
  let v := data.toNat % 65536
  let c := offset / 0x1000
  if !s.isLead || !s.alive || offset % 0x1000 != 0 then .next s
  else if c < 16 then
    if s.ringSize c ≤ v then .next (s.raise 23 3 c)
    else .next { s with cmd := { s.cmd with ringTail := Map.put s.cmd.ringTail c v } }
  else if c = 16 then .next (s.setEvtHead v)
  else .next s

/-- EVENT_RING_HEAD_WRITE (R543): BAR2 offset 0x1_0000. -/
def execEventRingHeadWrite (data : Word) (s : State) : Res :=
  if !s.isLead || !s.alive then .next s else .next (s.setEvtHead (data.toNat % 65536))

/-- Is ring c fetched now: rings and ring enabled, no HOLD, descriptors handed over, endpoint in D0 (R76, R494)? -/
def State.ringRuns (s : State) (c : Nat) : Bool :=
  s.isLead && s.alive && s.bit Reg.cmdCfg 19 && s.bit (Reg.cmdRingCfg + 0x20 * c) 0 && !s.cmd.ringHold.contains c &&
    !s.pwr.d3hot && Map.at s.cmd.ringHead 0 c != Map.at s.cmd.ringTail 0 c

/-- Host address of descriptor `i` of ring c. -/
def State.descAddr (s : State) (c i : Nat) : Nat :=
  (s.reg (Reg.cmdRingBaseHi + 0x20 * c)).toNat * 2 ^ 32 + (s.reg (Reg.cmdRingBaseLo + 0x20 * c)).toNat + 32 * i

/-- DESCRIPTOR_FETCH (R73): the next descriptor of a ring and its packet; a PCIe error sets HOLD and raises EV_23 (R76). -/
def execDescriptorFetch (ring : Nat) (descriptor packet : Option (List Byte)) (s : State) : Res :=
  if !s.ringRuns ring then .next s else
  match descriptor, packet with
  | some d, some p =>
    let i := Map.at s.cmd.ringHead 0 ring
    let via : Via := .pcie ring (u64 d 8) (u16 d 18) (s.descAddr ring i + 24) ((u8 d 20).testBit 0)
    let s1 := { s with cmd := { s.cmd with ringHead := Map.put s.cmd.ringHead ring ((i + 1) % s.ringSize ring) } }
    .next (s1.receivePacket via (p.take (u16 d 16)))
  | _, _ =>
    .next (({ s with cmd := { s.cmd with ringHold := ring :: s.cmd.ringHold } }).raise 23 3 ring)

/-- A write of CMD_RING_CFG (R76): ENABLE with SIZE_LOG2 outside 6 to 16 leaves ENABLE at 0 and raises EV_25; a write of 0 clears
HOLD and HEAD. DESIGN CHOICE (log entry 16): it also drops the tail that the doorbell gave. -/
def State.writeRingCfg (s : State) (c : Nat) (w : Word) : State :=
  let a := Reg.cmdRingCfg + 0x20 * c
  let v := w &&& 0x003F1F01#32
  let size := bitsOf v.toNat 12 8
  if v.toNat.testBit 0 then
    if 6 ≤ size ∧ size ≤ 16 then s.setReg a v else (s.setReg a (v &&& 0x003F1F00#32)).raise 25 1 a
  else
    ({ s with cmd := { s.cmd with ringHead := Map.put s.cmd.ringHead c 0, ringTail := Map.put s.cmd.ringTail c 0,
                                  ringHold := s.cmd.ringHold.filter (· != c) } }).setReg a v

/-- CMD_RING_ENABLE (R76): a write of CMD_RING_CFG through BAR0. -/
def execCmdRingEnable (ring : Nat) (cfg : Word) (s : State) : Res :=
  if !s.isLead || !s.alive || 16 ≤ ring then .next s else .next (s.writeRingCfg ring cfg)

/-! ### UDP (R77) -/

/-- The UDP_EN bit of an ingest port. -/
def State.udpOn (s : State) (p : Nat) : Bool :=
  (p == 4 && s.bit Reg.cmdCfg 16) || (p == 5 && s.bit Reg.cmdCfg 17) || (p == 7 && s.bit Reg.cmdCfg 18)

end Sys2Proof.Machine
end

