-- ==== Sys2Proof/Machine/Events.lean ====
section
/-! DEFINITION. The event unit: rings, rate release, merge windows and group events, and the class 0x0F opcodes (R79 to R84, R541 to
R543, R494). -/

namespace Sys2Proof.Machine

/-! ### PME (R494) -/

/-- 2 µs of raw time, within which a return to D0 repeats the record of a PME cause (R533). -/
def pmeWindow : Nat := rawUs 2

/-- A PME cause: bit 0 chain wake, bit 1 severity. In D3hot with PME_En set it sets PME_Status and signals PM_PME once; the record that carries it
is remembered for R533. -/
def State.pmeCauseAt (s : State) (bit : Nat) (by_ : Option EvRec) : State :=
  if s.pwr.d3hot && s.pwr.pmeEn then
    let old := s.evt.pmeMark.filter (fun m => decide (s.now ≤ m.1 + pmeWindow))
    let s := { s with evt := { s.evt with pmeMark := match by_ with | some r => (s.now, r.origin, r.rseq) :: old | none => old } }
    let c := s.pwr.pmeCause ||| 2 ^ bit
    if s.pwr.pmeStatus then { s with pwr := { s.pwr with pmeCause := c } }
    else (({ s with pwr := { s.pwr with pmeCause := c, pmeStatus := true } }).emit .pmPme).raise 46 1 c
  else s

/-- Held records with each one that `f` marks repeated in succession, a group event's two as a pair (R533). -/
def repeatRecs (f : EvRec → Bool) : List EvRec → List EvRec
  | [] => []
  | [r] => if f r then [r, r] else [r]
  | r :: b :: rest =>
    if !f r then r :: repeatRecs f (b :: rest)
    else if b.bitmap.isSome then r :: b :: r :: b :: repeatRecs f rest
    else r :: r :: repeatRecs f (b :: rest)

/-- The host returns the endpoint to D0: a record that has carried a PME cause in the last 2 µs, and still waits for the ring, goes there twice
(LMG-KL-10, R533). -/
def State.repeatCauses (s : State) : State :=
  let hit (r : EvRec) : Bool := r.bitmap.isNone &&
    s.evt.pmeMark.any (fun m => decide (s.now ≤ m.1 + pmeWindow) && m.2.1 == r.origin && m.2.2 == r.rseq)
  { s with evt := { s.evt with heldRecs := repeatRecs hit s.evt.heldRecs, pmeMark := [], pmeSeen := 0 } }

/-! ### The event ring (R84, R543) -/

/-- Free entries of the event ring. -/
def State.ringFree (s : State) : Nat :=
  let n := s.evtRingSize
  n - 1 - (s.evt.ringTail + n - s.evt.ringHead) % n

/-- Host address of the event ring's base. -/
def State.evtBase (s : State) : Nat := (s.reg Reg.evtRingBaseHi).toNat * 2 ^ 32 + (s.reg Reg.evtRingBaseLo).toNat

/-- Write one record in the next ring entry. -/
def State.putRing (s : State) (r : EvRec) : State :=
  ({ s with evt := { s.evt with ringTail := (s.evt.ringTail + 1) % s.evtRingSize } }).emit
    (.hostWrite (s.evtBase + 32 * s.evt.ringTail) r.bytes)

/-- After the held records are written, one EV_24 gives the number not delivered (R84). -/
def State.reportLost (s : State) : State :=
  if s.evt.heldRecs.isEmpty && s.evt.lost != 0 then
    ({ s with evt := { s.evt with lost := 0 } }).raise 24 2 s.evt.lost
  else s

/-- EVENT_RING_WRITE (R84): the oldest held record is written once an entry is free, a group event's two together; in D3hot records
are held, and the next one not yet looked at is a PME cause where it is severe (R494). -/
def execEventRingWrite (s : State) : Res :=
  if !s.isLead || !s.alive then .next s
  else if s.pwr.d3hot then
    match s.evt.heldRecs.drop s.evt.pmeSeen with
    | [] => .next s
    | r :: _ =>
      let t := { s with evt := { s.evt with pmeSeen := s.evt.pmeSeen + 1 } }
      .next (if s.fld Reg.pwrPmeCfg 2 0 ≤ r.sev ∧ r.bitmap.isNone then t.pmeCauseAt 1 (some r) else t)
  else if !s.bit Reg.evtRingCfg 0 then .next s
  else
    let vec (t : State) : State := t.emit (.msix (t.fld Reg.evtRingCfg 21 16))
    match s.evt.heldRecs with
    | [] => .next s
    | r :: b :: rest =>
      if b.bitmap.isSome then
        if 2 ≤ s.ringFree then
          .next (vec ((({ s with evt := { s.evt with heldRecs := rest } }).putRing r).putRing b)).reportLost
        else .next s
      else if 1 ≤ s.ringFree then
        .next (vec (({ s with evt := { s.evt with heldRecs := b :: rest } }).putRing r)).reportLost
      else .next s
    | [r] =>
      if 1 ≤ s.ringFree then .next (vec (({ s with evt := { s.evt with heldRecs := [] } }).putRing r)).reportLost
      else .next s

/-- A write of EVT_RING_CFG (R543): ENABLE from 0 to 1 empties the ring; SIZE_LOG2 outside 6 to 16 as for command rings. -/
def State.writeEvtRingCfg (s : State) (w : Word) : State :=
  let a := Reg.evtRingCfg
  let v := w &&& 0x003F1F01#32
  let old := s.reg a
  let ovf := if w.toNat.testBit 1 then 0#32 else old &&& 2#32
  let size := bitsOf v.toNat 12 8
  if v.toNat.testBit 0 then
    if 6 ≤ size ∧ size ≤ 16 then
      let t := s.setReg a (v ||| ovf)
      if old.toNat.testBit 0 then t else { t with evt := { t.evt with ringTail := 0, ringHead := 0 } }
    else (s.setReg a ((v &&& 0x003F1F00#32) ||| ovf)).raise 25 1 a
  else s.setReg a (v ||| ovf)

/-- EVT_RING_ENABLE (R543): a write of EVT_RING_CFG through BAR0. -/
def execEvtRingEnable (cfg : Word) (s : State) : Res :=
  if !s.isLead || !s.alive then .next s else .next (s.writeEvtRingCfg cfg)

/-! ### Rate limit (R80) -/

/-- RATE_LIMIT_RELEASE (R80): a source with occurrences not yet carried emits its record once its limit allows. -/
def execRateLimitRelease (source : Nat) (s : State) : Res :=
  if s.alive && (Map.at s.evt.srcs {} source).dirty then .next (s.tryRecord source) else .next s

/-- A tile learns a fault epoch: on a change it emits one record for each source with occurrences since its last record (R81). -/
def State.setFaultEpoch (s : State) (e : Nat) : State :=
  if e = s.evt.fepoch then s
  else
    let t := { s with evt := { s.evt with fepoch := e } }
    (t.evt.srcs.filter (fun x => x.2.dirty)).foldl (fun u x => u.tryRecord x.1) t

/-! ### Merge windows (R83) -/

/-- Is a record of one of the lead's own tiles merged (R83)? -/
def State.merges (s : State) (r : EvRec) : Bool :=
  s.bit Reg.evtCfg 7 && !(decide (64 ≤ r.src) && decide (r.src ≤ 127)) && r.origin / 256 == s.leadField

/-- A tile's record arrives at the lead (R83): the first of its SOURCE and DETAIL passes at once and opens a window; later ones are
held, the latest of each tile. -/
def State.mergeRec (s : State) (r : EvRec) : State :=
  if !s.merges r then s.toHost [r] else
  let same (m : Merge) : Bool := m.src == r.src && m.detail == r.detail && decide (s.now < m.close)
  if s.evt.merges.any same then
    { s with evt := { s.evt with merges := s.evt.merges.map (fun m =>
        if same m then { m with held := m.held.filter (fun h => h.origin != r.origin) ++ [r] } else m) } }
  else
    let w : Merge := { src := r.src, detail := r.detail, close := s.now + rawMs (s.fld Reg.evtCfg 6 0), opener := r }
    ({ s with evt := { s.evt with merges := s.evt.merges ++ [w] } }).toHost [r]

/-- The latest record of each tile of a window. -/
def Merge.latest (m : Merge) : List EvRec :=
  if m.held.any (fun h => h.origin == m.opener.origin) then m.held else m.opener :: m.held

/-- The head record of a group event (R83). DESIGN CHOICE (log entry 19): SEVERITY and the flags of the times are the opener's, and ARMED is set if
any merged record has it. -/
def State.groupHead (s : State) (m : Merge) : EvRec :=
  let l := m.latest
  { src := m.src, sev := m.opener.sev, origin := leadAddr s.leadNum, rseq := s.evt.rseq, detail := m.detail,
    rflags := 0x80 + m.opener.rflags % 0x80 / 0x20 * 0x20 + (if l.any (fun r => r.rflags.testBit 4) then 0x10 else 0),
    count := min 0xFFFFFFFF (l.foldl (fun a r => a + r.count) 0),
    first := l.foldl (fun a r => min a r.first) m.opener.first, last := l.foldl (fun a r => max a r.last) m.opener.last }

/-- Close a window (R83): a group event where at least two tiles reported, else the tile's held record unchanged. -/
def State.closeMerge (s : State) (m : Merge) : State :=
  if 2 ≤ m.latest.length then
    let h := s.groupHead m
    let b : EvRec := { rseq := (s.evt.rseq + 1) % 65536, src := m.src, bitmap := some (tileBitmap (m.latest.map (·.origin))) }
    let hist := s.evt.history ++ [h, b]
    ({ s with evt := { s.evt with rseq := (s.evt.rseq + 2) % 65536, history := lastOf 1024 hist } }).toHost [h, b]
  else if m.held.isEmpty then s else s.toHost m.held

/-- MERGE_WINDOW_CLOSE (R83): the first window whose time has come closes. -/
def execMergeWindowClose (s : State) : Res :=
  match s.evt.merges.find? (fun m => decide (m.close ≤ s.now)) with
  | none => .next s
  | some m => .next (({ s with evt := { s.evt with merges := s.evt.merges.erase m } }).closeMerge m)

/-! ### Class 0x0F (R541, R542) -/

/-- The records EVT_READ returns in mode 0 (R542). -/
def State.readHistory (s : State) (first count : Nat) : List EvRec :=
  let newest := (s.evt.rseq + 65535) % 65536
  if s.evt.history.isEmpty ∨ 32768 ≤ (newest + 65536 - first) % 65536 then []
  else if s.evt.history.any (fun r => r.rseq == first) then
    (s.evt.history.dropWhile (fun r => r.rseq != first)).take count
  else s.evt.history.take count

/-- The records EVT_READ forms in mode 1 (R542): the sources from FIRST upward, none beyond EV_1023. DESIGN CHOICE (log entry 20): ARMED is 0. -/
def State.readSources (s : State) (first count : Nat) : List EvRec :=
  (List.range count).filterMap (fun i =>
    if first + i ≤ 1023 then
      some (s.recordOf (first + i) { Map.at s.evt.srcs { sev := evSeverity (first + i) } (first + i) with armed := false } 0)
    else none)

/-- EVT_READ (R541, R542). -/
def execEvtRead (r : Req) (s : State) : Res :=
  runReq 0x0F00 r s fun s =>
    let mode := u8 r.payload 0
    let first := u16 r.payload 2
    let count := u16 r.payload 4
    if 1 < mode then (s, rspParam 0)
    else if mode = 1 ∧ 1023 < first then (s, rspParam 2)
    else if count < 1 ∨ 127 < count then (s, rspParam 4)
    else
      let rs := if mode = 0 then s.readHistory first count else s.readSources first count
      (s, rspOk (b2 rs.length ++ zeros 2 ++ rs.flatMap EvRec.bytes))

/-- Set the COUNT of the sources of a range to 0 (R80). DESIGN CHOICE (log entry 17): occurrences that no record has carried yet go with it. -/
def State.clearSources (s : State) (a b : Nat) : State :=
  { s with evt := { s.evt with srcs := s.evt.srcs.map (fun x =>
      if a ≤ x.1 ∧ x.1 ≤ b then (x.1, { x.2 with count := 0, dirty := false, armed := false }) else x) } }

/-- EVT_CLEAR (R541). -/
def execEvtClear (r : Req) (s : State) : Res :=
  runReq 0x0F01 r s fun s =>
    let a := u16 r.payload 0
    let b := u16 r.payload 2
    if 1023 < a then (s, rspParam 0)
    else if 1023 < b ∨ b < a then (s, rspParam 2)
    else (s.clearSources a b, rspOk)

/-- Write EVT_MASK0 onward from a list of words. -/
def State.writeMasks (s : State) (k : Nat) : List Word → State
  | [] => s
  | w :: ws => State.writeMasks (s.setReg (Reg.evtMask + 4 * k) w) (k + 1) ws

/-- EVT_CONFIG (R541): EVT_CFG and the masks, as REG_WRITE would write them. -/
def execEvtConfig (r : Req) (s : State) : Res :=
  runReq 0x0F02 r s fun s =>
    let c := u32 r.payload 0
    let rate := bitsOf c 12 8
    let win := bitsOf c 6 0
    if rate < 1 ∨ 16 < rate ∨ win < 1 ∨ 100 < win then (s, rspParam 0)
    else
      let v := if s.isLead then bitsOf c 12 0 else setBits (bitsOf c 12 0) 7 7 1
      ((s.setReg Reg.evtCfg (BitVec.ofNat 32 v)).writeMasks 0 (words32 (slice r.payload 4 128)), rspOk)

/-- FAULT_EPOCH (R541): the lead stamps it in its LNCH cells from now on (R81). -/
def execFaultEpoch (r : Req) (s : State) : Res :=
  runReq 0x0F03 r s fun s => ({ s with evt := { s.evt with fepoch := u32 r.payload 0 } }, rspOk)

/-- EVT_SUBSCRIBE (R541): address 0 ends the subscription. DESIGN CHOICE (log entry 18): notifications leave by the port the request came in on,
or by P4 where it did not come over UDP. -/
def execEvtSubscribe (r : Req) (s : State) : Res :=
  runReq 0x0F05 r s fun s =>
    let ip := u32 r.payload 0
    let port := match r.via with | .udp p _ _ => p | _ => 4
    let u : Option Subscriber := if ip = 0 then none else
      some { ip := ip, udpPort := u16 r.payload 4, port := port, src := r.src.toNat, auth := r.isAuth }
    ({ s with evt := { s.evt with sub := u } }, rspOk)

end Sys2Proof.Machine
end

