-- ==== Sys2Proof/Machine/Link.lean ====
section
/-! DEFINITION. Chain link framing: markers, superframes, cells, keys and sequence counters, slot choice, reception and transit (R109 to
R136, R546, R547), with the cell routing of lead pairs (R380, R382). -/

namespace Sys2Proof.Machine

/-! ### Markers (R111, R112) -/

/-- A marker block's eight bytes: BTYPE, KIND, ARG0, ARG1, OCODE, ARG2, ARG3, MCRC over bytes 1 to 6. -/
def markerBytes (kind a0 a1 a2 a3 : Nat) : List Byte :=
  let body := b1 kind ++ b1 a0 ++ b1 a1 ++ b1 0xA0 ++ b1 a2 ++ b1 a3
  b1 0x4B ++ body ++ b1 (crc8 body)

/-- Is a block a marker with a correct MCRC? -/
def markerOk (b : List Byte) : Bool :=
  b.length == 8 && u8 b 0 == 0x4B && u8 b 4 == 0xA0 && crc8 (slice b 1 6) == u8 b 7

/-- The SYNC marker of a chip's superframe (R112). -/
def State.syncMarker (s : State) (counter : Nat) : List Byte :=
  markerBytes 0x56 (counter / 256) (counter % 256) (if s.isLead then 0x80 + s.leadNum else 0) (if s.isLead then s.domainId else 0)

/-- The ECLIPSE marker of a hold-off or a command (R112). -/
def eclipseMarker (h : HoldOff) (hold : Bool) (origin : Nat) : List Byte :=
  markerBytes 0xEC (h.scope * 64 + bn hold * 32 + bn h.safe * 16 + origin) h.eseq h.chain h.domain

/-! ### Registers of a port -/

/-- Address of a register of port p. -/
def prt (base p : Nat) : Nat := base + 0x10000 * p

/-- MARKER_ERROR (R113): a block that is no valid marker is ignored, counted and reported; an unreadable SYNC is a bad superframe (R116). -/
def execMarkerError (port : Nat) (block : List Byte) (s : State) : Res :=
  if !s.alive || s.portState port == .off || 8 ≤ port then .next s
  else
    let k := if u8 block 0 = 0x4B then u8 block 1 else u8 block 0
    let t := if u8 block 0 = 0x4B ∧ u8 block 1 = 0x56 then s.setPort port { s.port port with sfBad := (s.port port).sfBad + 1 } else s
    .next ((t.bump (prt Reg.prtMarkErr port)).raise 69 2 (port + k * 256))

/-- PRT_CNT_CLR (R145): bit k clears the register at 0x010 + 4k. -/
def execPrtCntClr (port : Nat) (data : Word) (s : State) : Res :=
  if !s.alive || 8 ≤ port || (s.isTile && 2 ≤ port) then .next s
  else .next (s.clearCounters (prt Reg.prtC1Bad port) 9 data.toNat)

/-! ### Link states (R93, R103, R105, R116) -/

/-- EV_103 where the lead-to-lead link came up or went down (R93). -/
def State.noteLeadLink (s0 s : State) : State :=
  let mis (t : State) : Bool := match (t.port 7).farId with
    | some (true, _, d) => (t.port 7).pcsLock && t.func 7 == 4 && d != t.domainId
    | _ => false
  let far := match (s.port 7).farId with | some (_, _, d) => d | none => 0
  if s.farLead.isSome != s0.farLead.isSome || (mis s && !mis s0) then
    s.raise 103 2 (bn s.farLead.isSome + 2 * bn (mis s) + far * 256)
  else s

/-! ### Relay of a chain through the partner (R381, R383), and the lease's loss of its partner (R368) -/

/-- The path bits of BFLAGS for a message of a port (R365). -/
def beatPath (p : Nat) : Nat := if p = 6 then 1 else p * 16

/-- The content of a BEAT cell (R365). -/
def State.beatBody (s : State) (kind flags epoch bseq prev mseq n l : Nat) (rmaps : List Nat) : List Byte :=
  fit 240 (b1 1 ++ b1 kind ++ b1 flags ++ b1 s.leadNum ++ b4 epoch ++ b4 bseq ++ b4 prev ++ b4 mseq ++ b4 n ++ timeBytes l ++ rmaps.flatMap b4)

/-- RMAP_0 to RMAP_3 as TAKE and RMAP cells carry them. -/
def State.rmapWords (s : State) : List Nat := (List.range 4).map (fun c => (s.pai.rmap.getD c none).getD 0xFF)

/-- Positions held on a chain. -/
def State.chainPos (s : State) (c : Nat) : List Nat := (s.net.table.filter (fun e => e.chain == c)).map (·.pos)

/-- Position of the last tile of a chain. -/
def State.lastPos (s : State) (c : Nat) : Nat := (s.chainPos c).foldl max 0

/-- First cut-off position of a chain. -/
def State.firstCut (s : State) (c : Nat) : Option Nat :=
  ((s.net.table.filter (fun e => e.chain == c && e.cut)).map (·.pos)).foldl
    (fun m p => match m with | none => some p | some x => some (min x p)) none

/-- Set RMAP_c and the relay bit of a chain. -/
def State.setRelay (s : State) (c : Nat) (on : Bool) (w : Nat) : State :=
  let r := if on then s.pai.relay ||| 2 ^ c else s.pai.relay - (if s.pai.relay.testBit c then 2 ^ c else 0)
  { s with pai := { s.pai with relay := r, rmap := s.pai.rmap.set c (some w) } }

/-- Send RMAP over P6 into a chain (R381, R383). -/
def State.sendRmap (s : State) (c : Nat) : State :=
  s.send { port := 6, typ := 5, dest := s.leadField * 256 + 64 * c, bcast := true, dir := true, relay := true,
           body := s.beatBody 5 (beatPath 6) s.leadEpoch 0 0 0 0 0 s.rmapWords }

/-- Queued messages that have not begun follow a chain's way as it is now. -/
def State.reroute (s : State) (c : Nat) : State :=
  let back (m : TxMsg) : Bool := m.port == 6 && m.relay && m.cells.isNone && m.dest / 64 % 4 == c && m.typ != 5
  let tx := s.net.tx.flatMap (fun m =>
    if m.port = c ∧ m.cells.isNone then s.route m
    else if back m ∧ !s.pai.relay.testBit c then (if m.bcast then [] else s.route { m with port := c, dir := false, relay := false })
    else [m])
  { s with net := { s.net with tx := tx } }

/-- The relayed demand of R381, over the chains of a mask: does it exceed 86 Gb/s? -/
def State.relayOver (s : State) (mask : Nat) : Bool :=
  let c := s.lch.cfg
  let bits := (((List.range 4).filter mask.testBit).map (fun ch =>
    ((s.tileMap.filter (fun e => e.1 == ch)).map (fun e => codedPx e.2.2.1 e.2.2.2)).sum * lchSlots c * ratioBpp (s.pix.coder.getD ch (0, 0, 0)).1)).sum
  decide (86000000000 * lchSmin c < (bits + 4 * 2 ^ 20 * 8) * rawPerSec)

/-- A relay ends (R383). -/
def State.relayEnd (s : State) (c : Nat) : State :=
  let from_ := s.relayFrom c
  let t := s.setRelay c false 0xFF
  ((t.sendRmap c).reroute c).raise 774 2 (c + from_ * 256)

/-- Every relay whose condition is gone ends (R383): no position is cut off, the partner is not Standby, 0x0903 is disarmed, or this lead is not
Active. -/
def State.relayWatch (s : State) : State :=
  let keep (c : Nat) : Bool := (s.firstCut c).isSome && s.pai.partner == 3 && s.isArmed 0x0903 && s.pai.state == .active
  ((List.range 4).filter (fun c => s.pai.relay.testBit c && !keep c)).foldl State.relayEnd s

/-- The lead has marked positions of a chain cut off: with 0x0903 armed an Active head relays them through its Standby partner (R381). -/
def State.relayStart (s : State) (c : Nat) : State :=
  match s.firstCut c with
  | none => s
  | some p =>
    if !(s.isLead && s.pai.state == .active && s.pai.partner == 3 && s.isArmed 0x0903) || s.pwr.inert then s
    else if s.pai.tails.testBit c then s.raise 775 3 (c + 8)
    else if s.relayOver (s.pai.relay ||| 2 ^ c) then s.raise 775 3 (c + 4)
    else
      let t := s.setRelay c true (p + s.lastPos c * 256 + 65536)
      ((t.sendRmap c).reroute c).raiseA 774 2 (c + 4 + p * 256) true

/-- The chains of RING whose link to the partner the topology table shows LOST. -/
def State.lostPartnerLinks (s : State) : List Nat :=
  s.ringChains.filter (fun c => s.net.table.any (fun e => e.chain == c && e.pos == s.lastPos c && e.dnState == .lost))

/-- P6 carries nothing: it is not ACTIVE, or its PCS has lost lock. -/
def State.mirrorLinkDown (s : State) : Bool := !(s.portState 6 == .active && (s.port 6).pcsLock)

/-- A BOUND Active lead that lost P6 and a ring's partner link before D_a becomes unbound (R368). -/
def State.unbindCheck (s : State) : State :=
  if s.isLead && s.pai.state == .active && s.pai.bound && s.mirrorLinkDown && !s.lostPartnerLinks.isEmpty && !s.leaseOver then
    ({ s with pai := { s.pai with bound := false } }).raise 777 2 ((s.lostPartnerLinks.map (2 ^ ·)).sum)
  else s

/-- Positions of a chain at or beyond `p`, up to the next lost link. -/
def State.stretch (s : State) (c p : Nat) : List Nat :=
  let occ := (List.range 64).filter (fun q => decide (p ≤ q) && s.net.table.any (fun e => e.chain == c && e.pos == q))
  let stop := occ.find? (fun q => s.net.table.any (fun e => e.chain == c && e.pos == q && e.dnState == .lost))
  match stop with
  | some z => occ.filter (fun q => q ≤ z)
  | none => occ

/-- EV_101: first position affected and state code (R105, R108). -/
def ev101 (c p st : Nat) (none : Bool) : Nat := c * 64 + p + st * 256 + bn none * 2048

/-- The lead marks the positions of a chain from `p` on as cut off (R105); `last` names the tile before, if any. -/
def State.cutOff (s : State) (c p : Nat) (last : Option Nat) : State :=
  let t := { s with net := { s.net with table := s.net.table.map (fun (e : TopoEntry) =>
    if e.chain = c ∧ p ≤ e.pos then { e with cut := true }
    else if e.chain = c ∧ some e.pos = last then { e with dnState := .lost } else e) } }
  if s.net.table.any (fun e => e.chain == c && decide (p ≤ e.pos)) then
    let q := if p = 0 then 0 else ((s.chainPos c).filter (fun x => p ≤ x)).foldl min 64
    ((t.raise 101 1 (ev101 c q 5 false)).relayStart c).unbindCheck
  else match last with
    | some q => (t.raise 101 1 (ev101 c q 5 true)).unbindCheck
    | none => t

/-- The lead clears the marks of a stretch that PORT_OPEN made reachable again (R105). -/
def State.reachable (s : State) (c p : Nat) (opener : Option Nat) : State :=
  let t := { s with net := { s.net with table := s.net.table.map (fun (e : TopoEntry) =>
    if e.chain = c ∧ some e.pos = opener then { e with dnState := .open_ } else e) } }
  let str := t.stretch c p
  match str.find? (fun x => t.net.table.any (fun e => e.chain == c && e.cut && e.pos == x)) with
  | some q =>
    (({ t with net := { t.net with table := t.net.table.map (fun (e : TopoEntry) =>
      if e.chain = c ∧ str.contains e.pos then { e with cut := false } else e) } }).raise 101 1 (ev101 c q 3 false)).relayWatch
  | none => t

/-- A link fault on a port (R103): an OPEN or UP port becomes LOST; EV_98 for a downstream port, EV_99 for an upstream one. In
Twilight link faults are suspended (R487). -/
def State.linkFault (s : State) (p : Nat) (c1 : Bool) : State :=
  let q := s.port p
  let asleep := if s.isTile then (s.pwr.sleep.getD 0 {}).state == .twilight else decide (p < 4) && s.chainAsleep p
  if (q.state = .open_ ∨ q.state = .up) ∧ !asleep then
    let t := s.setPort p { q with state := .lost, sfLock := false, pcsLock := false, c1Run := 0, sfGood := 0, again := false, asm := [], near := [] }
    let t := { t with net := { t.net with transit := t.net.transit.filter (fun x => x.inPort != p && x.outPort != p) } }
    let up := s.isTile && p == s.net.upPort
    let t := t.raise (if up then 99 else 98) 3 (p + bn c1 * 256)
    let t := if s.isLead then t.cutOff p 0 none else t
    t.startStalled
  else if q.state = .active then
    ((State.noteLeadLink s (s.setPort p { q with
      sfLock := false, pcsLock := false, sfGood := 0, asm := [], near := [], farId := none })).unbindCheck).startStalled
  else s.setPort p { q with sfLock := false, pcsLock := false, sfGood := 0 }

/-- SYNC_MARKER_RECEIVED (R115, R116, R93): lock after four consecutive counters at the spacing of R114, skips, FILL count and link
identification. -/
def execSyncMarkerReceived (port fills : Nat) (marker : List Byte) (s : State) : Res :=
  if !s.alive || s.portState port == .off || 8 ≤ port then .next s
  else if !(markerOk marker && u8 marker 1 == 0x56) then execMarkerError port marker s
  else
    let q := s.port port
    let c := u8 marker 2 * 256 + u8 marker 3
    let follows := match q.sfRx with | some x => c == (x + 1) % 65536 | none => false
    let good := if 5 ≤ fills then 0 else if follows then q.sfGood + 1 else 1
    let id := (decide (128 ≤ u8 marker 5), u8 marker 5 % 16, u8 marker 6)
    let q' := { q with sfRx := some c, sfGood := good, sfBad := 0, sfLock := q.sfLock || decide (4 ≤ good), pcsLock := true,
                       syncAt := s.now, farId := some id }
    let t := s.setPort port q'
    let t := if q.sfLock && !follows then (t.bump (prt Reg.prtSfSkip port)).raise 71 2 (port + 512) else t
    let t := if 5 ≤ fills then t.raise 71 2 (port + 1024) else t
    .next (State.noteLeadLink s t)

/-- Have three consecutive superframes passed without a readable SYNC in its place (R116): three unreadable ones, or the time of three?
DEDUCED (log entry 27): a SYNC that is missing or misplaced shows by the 3 × 353.92 ns that pass without one. -/
def PortS.syncGone (q : PortS) (now : Nat) : Bool := decide (3 ≤ q.sfBad) || decide (q.syncAt + rawNs 1062 ≤ now)

/-- SUPERFRAME_LOCK_LOST (R116): three superframes without a good SYNC; it counts as loss of block lock. -/
def execSuperframeLockLost (port : Nat) (s : State) : Res :=
  if !s.alive || 8 ≤ port || !(s.port port).sfLock || !(s.port port).syncGone s.now then .next s
  else .next (((s.setPort port { s.port port with sfLock := false }).raise 71 2 (port + 256)).linkFault port false)

/-! ### Keys and sequence counters (R126 to R128, R547) -/

/-- The largest CSEQ of a TYPE (R128). -/
def cseqMax (typ : Nat) : Nat := if typ = 3 then 2 ^ 32 - 1 else 2 ^ 48 - 1

/-- Index of a sender's counter: peer (4096 for the group key), KEY, TYPE and DIR. -/
def seqIdx (peer key typ : Nat) (dir : Bool) : Nat := ((peer * 4 + key) * 16 + typ) * 2 + bn dir

/-- The peer whose key a message uses: the tile of a session key, 4096 for the group key. -/
def State.peerOf (s : State) (m : TxMsg) : Nat :=
  if m.key = 3 then 4096 else if s.isTile then s.net.addr else m.dest

/-- The key bytes of a selector: a tile's own session keys, a lead's session keys of a tile, or the group key (R126). -/
def State.keyBytes (s : State) (key peer : Nat) : Option (List Byte) :=
  if s.sec.gate.isSome then none
  else if key = 3 then s.ks.group
  else if key = 0 then none
  else if s.isTile then (if key = 1 then s.key.sessA else s.key.sessB)
  else Map.find s.key.tiles (peer * 2 + (key - 1))

/-- Cells of a message of n bytes: 256 each, the LAST cell up to 240 and the tag. -/
def cellCount (n : Nat) : Nat := 1 + (n - 240 + 255) / 256

/-- The header of a cell (R119), HOPS 0. -/
def cellHeader (m : TxMsg) (src cseq xt : Nat) (last : Bool) : List Byte :=
  b1 (m.typ * 16 + bn m.dir * 8 + bn m.relay * 4 + bn last * 2) ++ b1 0 ++
  b2 (bn m.bcast * 32768 + m.dest % 4096) ++ b2 (m.key * 16384 + src % 4096) ++
  (if m.typ = 3 then b4 cseq ++ zeros 6 else beBytes 6 cseq ++ b4 xt)

/-- XT of the k-th cell of a message: CELL counts in PIX, FRAG in CMD (R122, R123); in MIRR, whose XT the source leaves open, the cells count. -/
def cellXt (m : TxMsg) (k : Nat) : Nat := if m.typ = 1 ∨ m.typ = 6 then m.xt + k else if m.typ = 2 then m.xt + k * 256 else 0

/-- The IV of a message (R127). -/
def cellIv (hdr0 : List Byte) (typ : Nat) : List Byte :=
  slice hdr0 2 4 ++ b1 (u8 hdr0 0 / 8 * 8) ++ b1 0 ++
  (if typ = 3 then zeros 2 ++ slice hdr0 6 4 else slice hdr0 6 6)

/-- The sealed cells of a message (R119, R122 to R127): headers, payloads with the tag in the LAST cell, CCRC. -/
def State.sealCells (s : State) (m : TxMsg) (cseq0 : Nat) : List (List Byte) :=
  let n := cellCount m.body.length
  let hs := (List.range n).map (fun k => cellHeader m (m.src.getD s.selfAddr) (cseq0 + k) (cellXt m k) (k + 1 == n))
  let data := fit (256 * n - 16) m.body
  let iv := cellIv (hs.headD []) m.typ
  let control := m.typ == 3 || m.typ == 4 || m.typ == 5
  let key := (s.keyBytes m.key (s.peerOf m)).getD []
  let aad := hs.flatten ++ (if control then data else [])
  let body := if m.key = 0 ∨ control then data else fit (256 * n - 16) (gcmSeal key iv aad data)
  let tag := if m.key = 0 then zeros 16 else fit 16 (gcmTag key iv aad (if control then [] else data))
  let pay := body ++ tag
  (List.range n).map (fun k =>
    let c := hs.getD k [] ++ slice pay (256 * k) 256
    c ++ b4 (crc32c c))

/-- An IDLE cell: bytes 0 to 271 are 0. -/
def idleCell : List Byte := zeros 272 ++ b4 (crc32c (zeros 272))

/-- May a message not go out: a counter of its key ran out (R128), or the floor of its own counter could not be written and the flash still fails
(R547)? -/
def State.seqStopped (s : State) (m : TxMsg) : Bool :=
  m.key != 0 && (s.key.stopped.contains (s.peerOf m * 4 + m.key) ||
    ((s.pwr.flashBad || s.coreFaulted 0) && s.key.floorBad.contains (seqIdx (s.peerOf m) m.key m.typ m.dir)))

/-- Take the CSEQ values of a message: a counter that runs out stops its key (EV_74); a group-key counter records its floor first (R547). -/
def State.takeSeq (s : State) (m : TxMsg) (n : Nat) : State × Option Nat :=
  if m.key = 0 then (s, some 0)
  else
    let i := seqIdx (s.peerOf m) m.key m.typ m.dir
    let c := Map.at s.key.txSeq 1 i
    if cseqMax m.typ < c + n - 1 then
      (({ s with key := { s.key with stopped := (s.peerOf m * 4 + m.key) :: s.key.stopped } }).raise 74 3
        (m.key + m.typ * 16 + (s.peerOf m % 4096) * 65536), none)
    else
      let t := { s with key := { s.key with txSeq := Map.put s.key.txSeq i (c + n) } }
      if m.key = 3 ∧ Map.at s.ks.gfloors 0 (m.typ * 2 + bn m.dir) ≤ c + n - 1 then
        if s.coreFaulted 0 then ({ s with key := { s.key with floorBad := i :: s.key.floorBad } }, none)
        else if s.pwr.flashBad then ((({ s with key := { s.key with floorBad := i :: s.key.floorBad } }).flashFail 2).1, none)
        else
          let f := min (cseqMax m.typ) ((c + n - 1) / 1048576 * 1048576 + 1048576)
          (({ t with ks := { t.ks with gfloors := Map.put t.ks.gfloors (m.typ * 2 + bn m.dir) f },
                     key := { t.key with floorBad := t.key.floorBad.filter (· != i) } }).commit 2, some c)
      else (t, some c)

/-! ### The relay map of a tile (R380) -/

/-- The RMAP word of the tile's own chain. -/
def State.myRmap (s : State) : Nat := (s.pai.rmap.getD (s.net.addr / 64 % 4) none).getD 0xFF

/-- Is the tile in relay reception (R380)? -/
def State.relayRx (s : State) : Bool :=
  s.isTile && s.net.valid && s.myRmap % 256 != 0xFF && decide (s.myRmap % 256 ≤ s.net.addr % 64) &&
    decide (s.net.addr % 64 ≤ bitsOf s.myRmap 15 8)

/-- The relay distance NLAST - p + BASE (R380). -/
def State.relayDist (s : State) : Nat := bitsOf s.myRmap 15 8 - s.net.addr % 64 + bitsOf s.myRmap 16 16

/-- The port and DIR of a tile's own cells (R131, R380). -/
def State.ownPath (s : State) : Nat × Bool := if s.relayRx then (s.downPort, false) else (s.net.upPort, true)

/-! ### Slot transmission (R114, R118, R68) -/

/-- May the port carry cells of its own now? -/
def State.portSends (s : State) (p : Nat) : Bool :=
  match s.portState p with
  | .listen | .up | .open_ => true
  | .active => s.func p == 3 || (s.func p == 4 && s.farLead.isSome)
  | _ => false

/-- May a waiting message go out now: its instant has come, its chain is awake, its counter runs, and no other message to its destination is half sent? -/
def State.txReady (s : State) (m : TxMsg) : Bool :=
  decide (m.notBefore ≤ s.now) && !s.seqStopped m && !(s.isLead && decide (m.port < 4) && s.chainAsleep m.port) &&
  (m.cells.isSome || !(s.net.tx.any (fun x => x.typ == m.typ && x.port == m.port && x.dest == m.dest && x.cells.isSome))) &&
  (m.key == 0 || (s.keyBytes m.key (s.peerOf m)).isSome)

/-- The waiting messages of a port and TYPE that may go out, the half-sent ones first. -/
def State.txOf (s : State) (p typ : Nat) : List TxMsg :=
  let l := s.net.tx.filter (fun m => m.port == p && m.typ == typ && s.txReady m)
  l.filter (fun m => m.cells.isSome) ++ l.filter (fun m => m.cells.isNone)

/-- The message with the smallest destination of a list, the first of those that share it. -/
def lowestDest (l : List TxMsg) : Option TxMsg := l.find? (fun m => l.all (fun x => decide (m.dest ≤ x.dest)))

/-- The CMD message that R68 serves next on a port out of those ready: strict priority by class, round-robin over destinations within a class,
and one cell in 64 for classes 8 to 11. -/
def State.nextCmd (s : State) (p : Nat) (l : List TxMsg) : Option TxMsg :=
  let bulk := l.any (fun m => decide (8 ≤ m.cls) && decide (m.cls ≤ 11))
  let best := l.foldl (fun a m => min a m.cls) 16
  let cls := if bulk ∧ best ≠ 0 ∧ 63 ≤ Map.at s.cmd.share 0 p then
      (l.filter (fun m => decide (8 ≤ m.cls) && decide (m.cls ≤ 11))).foldl (fun a m => min a m.cls) 11 else best
  let c := l.filter (fun m => m.cls == cls)
  let last := Map.at s.cmd.rr 0 (p * 16 + cls)
  match lowestDest (c.filter (fun m => decide (last < m.dest))) with
  | some m => some m
  | none => lowestDest c

/-- A tile's pending records as one EVT_NOTIFY message upstream (R82, R84). -/
def State.notifyMsg (s : State) : Option (TxMsg × State) :=
  if s.isTile && s.net.valid && !s.evt.heldRecs.isEmpty then
    let body := (s.evt.heldRecs.take 127).flatMap EvRec.bytes
    let lead := leadAddr (s.net.addr / 256)
    let p := packetBytes 0x80 0x0F04 lead s.net.addr 0 body.length 0 s.evt.fepoch body
    let (port, dir) := s.ownPath
    let key := match s.key.lastId with | some 0 => 1 | some _ => 2 | none => 0
    some ({ port := port, typ := 2, dest := lead, dir := dir, key := key, cls := 12, body := p },
      { s with evt := { s.evt with heldRecs := s.evt.heldRecs.drop 127 } })
  else none

/-- The CMD messages that may take a slot of a port: those queued, and a tile's notification (class 12, R71). -/
def State.cmdReady (s : State) (p : Nat) : List TxMsg :=
  s.net.tx.filter (fun m => m.port == p && m.typ == 2 && s.txReady m) ++
    (match s.notifyMsg with | some (m, _) => if m.port = p ∧ s.txReady m then [m] else [] | none => [])

/-- The message a slot of a port takes (R118): the rows of its table in order. -/
def State.choose (s : State) (p slot : Nat) : Option TxMsg :=
  let first (typ : Nat) : Option TxMsg := (s.txOf p typ).head?
  let control : Option TxMsg :=
    match first 3 with
    | some m => some m
    | none => match first 4 with
      | some m => some m
      | none => match first 5 with
        | some m => some m
        | none => s.nextCmd p (s.cmdReady p)
  if slot = 15 then control
  else match first 1 with
    | some m => some m
    | none => match (if p = 6 then first 6 else none) with
      | some m => some m
      | none => control

/-- The body of a TIME message that carries its own egress stamp: the turnaround of a PDRESP (R163, R165). -/
def stampBody (m : TxMsg) (stamp : Nat) : List Byte :=
  if m.mark = 4 then fit 18 m.body ++ beBytes 6 (stamp - m.arg) ++ m.body.drop 24 else m.body

/-- What the egress stamp of a TIME message feeds (R163, R165, R166). -/
def State.noteEgress (s : State) (m : TxMsg) (stamp : Nat) : State :=
  let d := (u8 m.body 1).testBit 0
  let mseq := u16 m.body 2
  if m.mark = 1 then
    let t1 := ((s.dom d).at stamp).toNat
    let b := b1 2 ++ slice m.body 1 5 ++ timeBytes t1 ++ m.body.drop 18
    { s with net := { s.net with tx := { m with body := b, mark := 0, cells := none } :: s.net.tx } }
  else if m.mark = 2 then s.setDom d { s.dom d with dreq := some (mseq, some stamp) }
  else if m.mark = 3 then { s with tmu := { s.tmu with pdreq := Map.put s.tmu.pdreq (65536 * m.port + mseq) stamp } }
  else if m.mark = 5 then
    { s with tmu := { s.tmu with pathCal := s.tmu.pathCal.map (fun c =>
        { c with loops := Map.put c.loops (mseq * 2 + bn ((u8 m.body 1).testBit 3)) stamp }) } }
  else s

/-- Record that a lead's CMD cell left: the first starts TILE_TIMEOUT, the last releases the queue entry (R60, R66). -/
def State.noteCmdCell (s : State) (m : TxMsg) (left : Nat) : State :=
  let sh := if 8 ≤ m.cls ∧ m.cls ≤ 11 then 0 else Map.at s.cmd.share 0 m.port + 1
  let done (j : Job) : Bool := left == 0 && !(s.net.tx.any (fun x => x.job == some j.id && !(x.port == m.port && x.dest == m.dest)))
  let jobs := s.cmd.jobs.map (fun j => if m.job = some j.id then
      { j with started := if j.started = none then some s.now else j.started,
               sentAll := if done j then some s.now else j.sentAll } else j)
  { s with cmd := { s.cmd with jobs := jobs, share := Map.put s.cmd.share m.port sh,
                               rr := Map.put s.cmd.rr (m.port * 16 + m.cls) m.dest } }

/-- The index of a packet number: destination, broadcast and direction (R123). -/
def TxMsg.pseqIdx (m : TxMsg) : Nat := (m.dest * 2 + bn m.bcast) * 2 + bn m.dir

/-- A message that a cell of its port begins: a CMD message takes its packet number of the destination, a TIME message its stamps, each its
sequence numbers; the cells, none while its key may send no more. A message begun before goes on (R123, R126, R127). -/
def State.beginMsg (s : State) (m : TxMsg) (stamp : Nat) : State × TxMsg × Option (List (List Byte)) :=
  match m.cells with
  | some cs => (s, m, some cs)
  | none =>
    let q := Map.at s.cmd.pseq 0 m.pseqIdx
    let s := if m.typ = 2 then { s with cmd := { s.cmd with pseq := Map.put s.cmd.pseq m.pseqIdx ((q + 1) % 65536) } } else s
    let m := if m.typ = 2 then { m with xt := q * 65536 } else { m with body := stampBody m stamp }
    match s.takeSeq m (cellCount m.body.length) with
    | (t, some c) => (t, m, some (t.sealCells m c))
    | (t, none) => (t, m, none)

/-- Send one cell of a message: a message that has not begun is sealed first. -/
def State.sendCell (s : State) (m : TxMsg) (slot stamp : Nat) : State :=
  match s.beginMsg m stamp with
  | (s', m', some (c :: rest)) =>
    let tx := if rest.isEmpty then s'.net.tx.erase m else
      s'.net.tx.map (fun x => if x = m then { m' with cells := some rest } else x)
    let t := ({ s' with net := { s'.net with tx := tx } }).emit (.cell m.port slot c)
    let t := if m.typ = 2 then t.noteCmdCell m' rest.length else t
    (if m.typ = 3 ∧ rest.isEmpty then t.noteEgress { m' with cells := none } stamp else t).startStalled
  | (s', _, _) => s'.emit (.cell m.port slot idleCell)

/-- Does a port carry no cells: its chain sleeps or wakes, or it still qualifies after a resume (R486, R492)? -/
def State.laneIdle (s : State) (p : Nat) : Bool :=
  if s.isLead then decide (p < 4) && s.chainAsleep p
  else (s.pwr.sleep.getD 0 {}).state == .twilight || (Map.find s.pwr.qualifying p).isSome

/-- Does a port of a tile send the slots that arrive on the other (R131): one of the two is UP, the other OPEN? -/
def State.fed (s : State) (p : Nat) : Bool :=
  s.isTile && decide (p < 2) &&
    ((s.portState p == .up && s.portState (1 - p) == .open_) || (s.portState p == .open_ && s.portState (1 - p) == .up))

/-- A port goes on to its next slot: slot 0 is preceded by SYNC and `fills` FILL markers (R114, R115). -/
def State.nextSlot (s : State) (p fills : Nat) : State :=
  let q := s.port p
  let t := s.setPort p { q with slot := (q.slot + 1) % 16, sfTx := if q.slot = 15 then (q.sfTx + 1) % 65536 else q.sfTx }
  if q.slot = 0 then t.emits (.marker p (s.syncMarker q.sfTx) :: List.replicate fills (.marker p (markerBytes 0x1D 0 0 0 0))) else t

/-- A slot that is free for cells of the chip's own (R118): the next cell, or IDLE. -/
def State.fillSlot (s : State) (p slot stamp : Nat) : State :=
  if !s.portSends p then s.emit (.cell p slot idleCell)
  else match s.choose p slot with
    | none => s.emit (.cell p slot idleCell)
    | some m =>
      if s.net.tx.contains m then s.sendCell m slot stamp
      else match s.notifyMsg with
        | some (n, t) => (t.send n).sendCell n slot stamp
        | none => s.emit (.cell p slot idleCell)

/-- SLOT_TRANSMIT (R114, R115, R118): the next slot of a port that originates its superframes, with one FILL in each. The slots of a port that
sends on what arrives go out by TRANSIT_EGRESS (R131). -/
def execSlotTransmit (port stamp : Nat) (s : State) : Res :=
  let stamp := s.atBalls port stamp true
  if !s.alive || 8 ≤ port || s.portState port == .off || s.laneIdle port || s.fed port then .next s
  else if s.portState port == .active && !(s.func port == 3 || s.func port == 4) then .next s
  else .next ((s.nextSlot port 1).fillSlot port (s.port port).slot stamp)

/-! ### Reception (R120, R125, R128 to R132, R134, R135) -/

/-- What the CCRC of a received cell says: 0 correct, 1 stomped, 2 failed. -/
def crcState (c : List Byte) : Nat :=
  let x := crc32c (c.take 272)
  if u32 c 272 = x then 0 else if u32 c 272 = 0xFFFFFFFF - x then 1 else 2

/-- What a chip does with a received cell. -/
inductive Route
  | consume
  /-- Consume a copy and forward out of a port. -/
  | copy (out : Nat)
  | forward (out : Nat)
  /-- Discard; `ev70` where EV_70 is raised. -/
  | drop (ev70 : Bool)
  deriving DecidableEq, Repr

/-- Out of the other port, if it is OPEN or UP. -/
def State.through (s : State) (p : Nat) (r : Nat → Route) : Route :=
  let o := 1 - p
  if s.portState o = .open_ ∨ s.portState o = .up then r o else .drop false

/-- The forwarding table of a tile (R132); TAKE and RMAP come with RELAY on the downstream port in any case (R372, R380). DEDUCED (log entry 31):
a relayed broadcast is forwarded whether or not this tile may take a copy, and raises EV_70 in neither case. -/
def State.routeTile (s : State) (p typ : Nat) (dir relay bcast : Bool) (dest : Nat) (hopLocal : Bool) : Route :=
  if hopLocal then .consume else
  match s.portState p with
  | .up =>
    if dir then .drop true
    else if bcast then (match s.through p .forward with | .forward o => .copy o | _ => .consume)
    else if dest = s.net.addr then .consume
    else s.through p .forward
  | .open_ =>
    if !dir then .drop true
    else if bcast then
      if !relay then .drop true
      else match s.through p .forward, s.relayRx || typ == 5 with
        | .forward o, true => .copy o
        | _, true => .consume
        | r, false => r
    else if dest = s.net.addr then (if relay && s.relayRx then .consume else .drop true)
    else s.through p .forward
  | _ => .drop false

/-! ### NEAREST packets (R95) -/

/-- What R95 does with the NEAREST packet of an epoch at a port: 0 discards it, 1 forwards it downstream, 2 consumes it. -/
def State.nearAct (s : State) (p epoch : Nat) : Nat :=
  if !s.isTile ∨ !(s.net.valid && s.leadEpoch == epoch) then 2
  else if s.portState p = .up ∧ s.portState s.downPort = .open_ then 1
  else 0

/-- Is a cell the first of a clear CMD message with a NEAREST request? -/
def nearFirst (c : List Byte) : Bool :=
  u8 c 0 / 16 == 2 && u16 c 4 / 16384 == 0 && !(u16 c 2).testBit 15 && u32 c 12 / 256 % 256 == 0 &&
    (u8 c 17).testBit 4 && !(u8 c 17).testBit 5 && !(u8 c 17).testBit 7

/-- The action of R95 for a cell of a NEAREST packet, by its first cell or by what was done with that. -/
def State.nearCode (s : State) (p : Nat) (c : List Byte) : Option Nat :=
  if nearFirst c then some (s.nearAct p (u32 c 32))
  else if u8 c 0 / 16 = 2 ∧ u16 c 4 / 16384 = 0 ∧ u32 c 12 / 256 % 256 ≠ 0 then Map.find (s.port p).near (u16 c 4 % 4096)
  else none

/-- Does DIR fit the port for the route of a NEAREST cell (R120, R132)? -/
def State.nearDirOk (s : State) (p : Nat) (c : List Byte) : Bool :=
  match s.portState p with
  | .up => !(u8 c 0).testBit 3
  | .open_ => s.isLead || (u8 c 0).testBit 3
  | _ => true

/-- The route that R95 gives a cell, if it belongs to a NEAREST packet of a chain port. -/
def State.nearRoute (s : State) (p : Nat) (c : List Byte) : Option Route :=
  if (if s.isLead then 4 else 2) ≤ p ∨ !s.nearDirOk p c then none
  else (s.nearCode p c).map (fun k => if k = 0 then .drop false else if k = 1 then .forward s.downPort else .consume)

/-- A cell of a NEAREST packet was received: what is done with it holds to its LAST cell, and a discarded packet raises EV_100 (R95, R108). -/
def State.noteNear (s : State) (p : Nat) (c : List Byte) : State :=
  match s.nearCode p c with
  | none => s
  | some k =>
    let q := s.port p
    let src := u16 c 4 % 4096
    let t := s.setPort p { q with near := if (u8 c 0).testBit 1 then Map.del q.near src else Map.put q.near src k }
    if k = 0 ∧ nearFirst c then t.raise100 p else t

/-- Routing in a lead (R132, R382): its own number and its partner's are consumed; a Standby lead forwards relay cells between P6 and
its tail ports, and a LOOP cell into the ring of chain `lc` (R170). -/
def State.routeLead (s : State) (p typ : Nat) (relay bcast : Bool) (dest : Nat) (hopLocal loop : Bool) (loopP6 : Bool) (lc : Nat) : Route :=
  let mine := !bcast && dest == leadAddr s.leadNum
  let partner := !bcast && s.paired && dest == leadAddr (s.leadNum ^^^ 1)
  let c := dest / 64 % 4
  if hopLocal then .consume
  else if typ == 5 && p == 6 && bcast && !relay then .consume
  else if loop && mine && decide (p < 4) && !loopP6 then .forward 6
  else if loop && mine && p == 6 && loopP6 then .forward lc
  else if mine then .consume
  else if partner then
    if s.pai.state = .standby ∧ p < 4 ∧ typ ≠ 5 then .forward 6 else .consume
  else if s.pai.state = .standby ∧ p = 6 ∧ relay ∧ dest / 256 = s.leadField then .forward c
  else .drop (!s.paired && decide (p < 4))

/-- A message that arrived whole is verified: its opened data, if the tag holds (R126, R127, R129). -/
def State.openMsg (s : State) (a : Asm) (tag : List Byte) : Option (List Byte) :=
  let control := a.typ == 3 || a.typ == 4 || a.typ == 5
  let peer := if s.isTile then s.net.addr else a.src
  if a.key = 0 then (if a.typ = 2 then some a.data else none)
  else match s.keyBytes a.key peer with
    | none => none
    | some k =>
      let iv := cellIv (a.aad.take 16) a.typ
      if control then
        match gcmOpen k iv (a.aad ++ a.data) [] tag with
        | some _ => some a.data
        | none => none
      else gcmOpen k iv a.aad a.data tag

/-- The length of a packet in the data of a CMD message: the zero padding is dropped where LEN says so. -/
def cutPacket (d : List Byte) : List Byte :=
  let t := 24 + u16 d 12 + (if (u8 d 1).testBit 6 then 16 else 0)
  if 24 ≤ d.length ∧ t ≤ d.length ∧ cellCount t = cellCount d.length then d.take t else d

/-- A message of a port is dropped from assembly. -/
def State.dropAsm (s : State) (p k : Nat) : State := s.setPort p { s.port p with asm := Map.del (s.port p).asm k }

/-- DETAIL of EV_66 and EV_67. -/
def evMsg (p typ src : Nat) : Nat := p + typ * 16 + (src % 4096) * 65536

/-- A verified CMD message (R48, R95, R130, R132): a lead's replies and notifications wait for their rows; a NEAREST packet follows R95; a clear
packet is taken only for the opcodes of R130. -/
def State.takeCmd (s : State) (m : Msg) : State :=
  let b := cutPacket m.body
  match discardCase b with
  | some c => s.raise16 m.port c
  | none =>
    let via : Via := .chain m.port m.key m.relay m.src
    let r := reqOf via b
    let nearest := r.isNearest && !r.isBcast
    if s.isLead && r.isReply then { s with net := { s.net with inbox := s.net.inbox ++ [{ m with body := b }] } }
    else if s.isLead && nearest && decide (m.port < 4) then s.answerPlain (u16 b 2) r (rspErr stUnsupportedRole)
    else if nearest && s.strayNearest r then s.judgeNearest m.port m.src b
    else if s.isTile && m.key == 0 && (opRow (u16 b 2)).isSome && !clearOk (u16 b 2) then
      s.answerPlain (u16 b 2) r (rspErr stNotAuthorized r.slot)
    else s.receivePacket via b

/-- A BEAT of another lead epoch is discarded by a lead, but CLAIM, TAKE and HANDOVER (R366). -/
def State.beatStale (s : State) (m : Msg) : Bool :=
  s.isLead && m.typ == 5 && u32 m.body 4 != s.leadEpoch && !([3, 4, 6].contains (u8 m.body 1))

/-- A verified message is taken in: TIME checks of a tile (R135), BEAT epochs (R366), commands; the rest waits for its row. -/
def State.takeMsg (s : State) (m : Msg) : State :=
  if m.typ = 2 then s.takeCmd m
  else if m.typ = 3 then
    let mt := u8 m.body 0
    if mt = 0 ∨ 7 < mt then s.raise 69 2 (m.port + mt * 256)
    else if s.isTile ∧ mt ≠ 5 ∧ mt ≠ 6 then
      let want := if m.port = s.net.upPort then s.net.addr % 64 else s.relayDist
      let badH := decide (m.hops ≠ want)
      let badC := decide (m.hops * 26214 < m.corr)
      if badH || badC then
        (s.bump (prt Reg.prtCorrRej m.port)).raise 68 3 (m.port + bn badH * 16 + bn badC * 32 + m.hops * 256)
      else { s with net := { s.net with inbox := s.net.inbox ++ [m] } }
    else { s with net := { s.net with inbox := s.net.inbox ++ [m] } }
  else if s.beatStale m then s.raise 769 2 (256 + (u32 m.body 8 % 2 ^ 23) * 512)
  else { s with net := { s.net with inbox := s.net.inbox ++ [m] } }

/-- A message is whole: sequence (R128), tag (R129), then its content. -/
def State.endMsg (s : State) (p k : Nat) (a : Asm) (tag : List Byte) (hops corr stamp : Nat) : State :=
  let s := s.dropAsm p k
  if a.bad then s
  else
    let dir := a.ctrl.testBit 3
    let i := seqIdx a.src a.key a.typ dir
    if a.key ≠ 0 ∧ a.cseq0 ≤ Map.at s.key.rxSeq 0 i then
      (s.bump (prt Reg.prtCseqRej p)).raise 67 3 (evMsg p a.typ a.src)
    else match s.openMsg a tag with
      | none => (s.bump (prt Reg.prtAuthFail p)).raise 66 3 (evMsg p a.typ a.src)
      | some d =>
        let t := if a.key = 0 then s else { s with key := { s.key with rxSeq := Map.put s.key.rxSeq i a.cseq } }
        t.takeMsg { port := p, typ := a.typ, src := a.src, dest := a.dest % 4096, bcast := a.dest.testBit 15, dir := dir,
                    relay := a.ctrl.testBit 2, key := a.key, hops := hops, corr := corr, stamp := stamp, xt := a.xt, body := d }

/-- The index of the assembly a cell belongs to: PIX 0, MIRR 1, CMD by sender and broadcast, single cells 2. -/
def asmIdx (typ src : Nat) (bcast : Bool) : Nat := if typ = 1 then 0 else if typ = 6 then 1 else if typ = 2 then 4 + 2 * src + bn bcast else 2

/-- The index a cell carries within its message: CELL of PIX, FRAG of CMD (R122, R123), the whole of XT in MIRR. -/
def cellIdx (typ xt : Nat) : Nat := if typ = 1 then xt % 64 else if typ = 2 then xt / 256 % 256 else if typ = 6 then xt else 0

/-- Consume a cell with a correct CCRC (R122 to R128). -/
def State.consumeCell (s : State) (p stamp : Nat) (c : List Byte) : State :=
  let ctrl := u8 c 0
  let typ := ctrl / 16
  let src := u16 c 4 % 4096
  let key := u16 c 4 / 16384
  let cseq := if typ = 3 then u32 c 6 else fieldAt c 6 6
  let xt := u32 c 12
  let last := ctrl.testBit 1
  let k := asmIdx typ src ((u16 c 2).testBit 15)
  let hdr := b1 ctrl ++ b1 0 ++ slice c 2 8 ++ (if typ = 3 then zeros 6 else slice c 10 6)
  let rej (s : State) : State := (s.bump (prt Reg.prtCseqRej p)).raise 67 3 (evMsg p typ src)
  if typ = 1 ∧ (s.isTile ∧ (key = 0 ∨ key = 3)) then
    (s.bump (prt Reg.prtAuthFail p)).raise 66 3 (evMsg p typ src)
  else
    let idx := cellIdx typ xt
    let cont (a : Asm) (s : State) : State :=
      let a' := { a with cseq := cseq, idx := idx, aad := a.aad ++ hdr, data := a.data ++ slice c 16 (if last then 240 else 256) }
      if last then s.endMsg p k a' (slice c 256 16) (u8 c 1) (if typ = 3 then fieldAt c 10 6 else 0) a'.stamp
      else s.setPort p { s.port p with asm := Map.put (s.port p).asm k a' }
    let fresh : Asm := { typ := typ, src := src, key := key, dest := u16 c 2, ctrl := ctrl, cseq0 := cseq, cseq := cseq,
                         idx := idx, xt := xt, aad := [], data := [], stamp := stamp }
    let lost (s : State) : State := if last then s.dropAsm p k else
      s.setPort p { s.port p with asm := Map.put (s.port p).asm k { fresh with bad := true } }
    match Map.find (s.port p).asm k with
    | none => if idx = 0 then cont fresh s else rej (lost s)
    | some a =>
      if idx = a.idx + 1 ∧ (key = 0 ∨ cseq = a.cseq + 1) ∧ key = a.key ∧ src = a.src then cont a s
      else if idx = 0 then cont fresh (if a.bad then s.dropAsm p k else rej (s.dropAsm p k))
      else if a.bad then lost s
      else rej (lost s)

/-- A failed cell that the chip would consume makes the message of which it is part incomplete (R120, R125): it is known as spoilt up to its LAST
cell. A PIX run is noted for the underrun rule (R200). -/
def State.spoilAsm (s : State) (p : Nat) (c : List Byte) : State :=
  let typ := u8 c 0 / 16
  if typ ≠ 1 ∧ typ ≠ 2 ∧ typ ≠ 6 then s
  else
    let xt := u32 c 12
    let k := asmIdx typ (u16 c 4 % 4096) ((u16 c 2).testBit 15)
    let fresh : Asm := { typ := typ, src := u16 c 4 % 4096, key := u16 c 4 / 16384, dest := u16 c 2, ctrl := u8 c 0, cseq0 := fieldAt c 6 6,
                         cseq := fieldAt c 6 6, idx := cellIdx typ xt, xt := xt, aad := [], data := [] }
    let a := if cellIdx typ xt = 0 then fresh else (Map.find (s.port p).asm k).getD fresh
    let s := if typ = 1 then
        { s with lpp := { s.lpp with pixBad := (bitsOf a.xt 28 16, bitsOf a.xt 31 30, bitsOf a.xt 15 6) :: s.lpp.pixBad } }
      else s
    if (u8 c 0).testBit 1 then s.dropAsm p k
    else s.setPort p { s.port p with asm := Map.put (s.port p).asm k { a with bad := true, cseq := fieldAt c 6 6, idx := cellIdx typ xt } }

/-- DETAIL of EV_64 and EV_65. -/
def evC1 (p slot : Nat) (c : List Byte) : Nat := p + (u8 c 0 / 16) * 16 + slot * 256 + (u16 c 2 % 4096) * 65536

/-- Put a cell in transit. -/
def State.transitCell (s : State) (p out slot stamp : Nat) (bad : Bool) (c : List Byte) : State :=
  { s with net := { s.net with transit := s.net.transit ++
    [{ inPort := p, outPort := out, slot := slot, ingress := stamp, bad := bad, bytes := c }] } }

/-- The route of a received cell. -/
def State.routeOf (s : State) (p : Nat) (c : List Byte) : Route :=
  let ctrl := u8 c 0
  let typ := ctrl / 16
  let mt := u8 c 16
  let hopLocal := typ == 3 && (mt == 5 || mt == 6)
  let dest := u16 c 2
  if s.isLead then
    s.routeLead p typ (ctrl.testBit 2) (dest.testBit 15) (dest % 4096) hopLocal (typ == 3 && mt == 7 && u16 c 20 % 4096 != leadAddr s.leadNum)
      ((u8 c 17).testBit 3) (u16 c 18 / 64 % 4)
  else s.routeTile p typ (ctrl.testBit 3) (ctrl.testBit 2) (dest.testBit 15) (dest % 4096) hopLocal

/-- The route of a cell: R95 for NEAREST packets, else R132. -/
def State.routeCell (s : State) (p : Nat) (c : List Byte) : Route := (s.nearRoute p c).getD (s.routeOf p c)

/-- What a received slot leaves for the other port (R131, R132): the cell where it is forwarded; where it is not, a slot that a tile between its two
links sends as IDLE. -/
def State.passOn (s : State) (p slot stamp : Nat) (bad : Bool) (c : List Byte) (rt : Route) : State :=
  match rt with
  | .forward o => s.transitCell p o slot stamp bad c
  | .copy o => s.transitCell p o slot stamp bad c
  | _ => if s.fed p then s.transitCell p (1 - p) slot stamp false [] else s

/-- Does the chip consume a cell of a route? -/
def Route.taken : Route → Bool
  | .consume => true
  | .copy _ => true
  | _ => false

/-- Does a port carry no Volzia cells to be received: an Ethernet function, or a lead-to-lead link that is not up (R93, R545)? -/
def State.deafPort (s : State) (p : Nat) : Bool :=
  s.portState p == .active && (s.func p == 2 || (s.func p == 4 && s.farLead.isNone))

/-- CELL_RECEIVED (R95, R120, R125 to R135): CCRC, TYPE and slot, routing by R132, then consumption, transit or discard. A CLOSED port discards and
counts; a NEAREST packet of the tile's own epoch also raises EV_100 there (R107; DEDUCED, log entry 30). -/
def execCellReceived (port slot stamp : Nat) (cell : List Byte) (s : State) : Res :=
  let stamp := s.atBalls port stamp false
  let c := fit 276 cell
  let typ := u8 c 0 / 16
  if !s.alive || 8 ≤ port || s.laneIdle port || s.deafPort port then .next s
  else match s.portState port with
  | .off => .next s
  | .lost => .next s
  | .closed =>
    let t := s.bump (prt Reg.prtClosedDisc port)
    .next (if crcState c = 0 ∧ nearFirst c ∧ s.isTile ∧ s.nearAct port (u32 c 32) = 0 then t.raise100 port else t)
  | _ =>
    let st := crcState c
    let q := s.port port
    if typ = 0 ∧ st = 0 then .next ((s.setPort port { q with c1Run := 0 }).passOn port slot stamp false c .consume)
    else
      let rt := s.routeCell port c
      let spoil (t : State) : State := if rt.taken then t.spoilAsm port c else t
      if st = 1 then
        .next ((spoil ((s.bump (prt Reg.prtC1Stomp port)).raise 65 1 (evC1 port slot c))).passOn port slot stamp true c rt)
      else if st = 2 then
        let t := spoil (((s.setPort port { q with c1Run := q.c1Run + 1 }).bump (prt Reg.prtC1Bad port)).raise 64 2 (evC1 port slot c))
        if 8 ≤ q.c1Run + 1 then .next (t.linkFault port true) else .next (t.passOn port slot stamp true c rt)
      else
        let s := s.setPort port { q with c1Run := 0 }
        if 7 ≤ typ ∨ (slot = 15 ∧ (typ = 1 ∨ typ = 6)) ∨ (typ = 6 ∧ port ≠ 6) then
          .next ((s.raise 69 2 (port + typ * 256)).passOn port slot stamp false c (.drop false))
        else
          let t := (if (s.nearRoute port c).isSome then s.noteNear port c else s).passOn port slot stamp false c rt
          match rt with
          | .drop ev => .next (if ev then t.raise 70 2 (port + typ * 16 + bn ((u8 c 0).testBit 3) * 256) else t)
          | .forward _ => .next (if s.isLead then t.bump Reg.paiRelayCells else t)
          | .copy _ => .next (t.consumeCell port stamp c)
          | .consume => .next (t.consumeCell port stamp c)

/-! ### Transit (R133, R134, R136) -/

/-- The cell a transit sends: HOPS + 1, residence added to CORR of a TIME cell, CCRC recomputed, stomped where the received one
failed. -/
def transitBytes (x : Transit) (res : Nat) : List Byte :=
  let c := x.bytes
  let hops := min 255 (u8 c 1 + 1)
  let time := u8 c 0 / 16 == 3
  let corr := if time then beBytes 6 (min (2 ^ 48 - 1) (fieldAt c 10 6 + res)) else slice c 10 6
  let b := slice c 0 1 ++ b1 hops ++ slice c 2 8 ++ corr ++ slice c 16 256
  let crc := crc32c b
  b ++ b4 (if x.bad then 0xFFFFFFFF - crc else crc)

/-- The residence time of a cell in raw LSB at the nominal rate: (egress - ingress) × RATE_d / RATE_nom, rounded (R133). -/
def State.residence (s : State) (x : Transit) (stamp : Nat) : Nat :=
  let d := (u8 x.bytes 17).testBit 0
  roundDivN ((stamp - x.ingress) * (s.dom d).rate) 0x0003E80000000000

/-- The residence of a TIME cell that leaves is kept as the port's largest (R145), and reported beyond its bound (R136). -/
def State.noteResidence (s : State) (port res : Nat) : State :=
  let r := prt Reg.prtResMax port
  let t := if s.fld r 15 0 < res then s.setReg r (BitVec.ofNat 32 (min 0xFFFF res)) else s
  if 26214 < res then t.raise 75 3 (port + (min 0xFFFF res) * 65536) else t

/-- TRANSIT_EGRESS (R115, R131, R133, R134, R136): the oldest slot in transit to a port leaves. A tile keeps its slot position, with 0 to 4 FILL
markers before slot 0, and fills one that leaves as IDLE with a cell of its own. A lead sends a relayed cell in the next slot of the
port, but no PIX or MIRR in slot 15. -/
def execTransitEgress (port stamp fills : Nat) (s : State) : Res :=
  let stamp := s.atBalls port stamp true
  if !s.alive || 8 ≤ port then .next s else
  match s.net.transit.find? (fun x => x.outPort == port) with
  | none => .next s
  | some x =>
    let q := s.port port
    let slot := if s.isTile then x.slot else q.slot
    if slot = 15 ∧ s.isLead ∧ (u8 x.bytes 0 / 16 = 1 ∨ u8 x.bytes 0 / 16 = 6) then .next s
    else
      let t := { s with net := { s.net with transit := s.net.transit.erase x } }
      let t := (t.setPort port { q with slot := slot }).nextSlot port (if s.isTile then min 4 fills else 1)
      if x.bytes.isEmpty then .next (t.fillSlot port slot stamp)
      else
        let res := s.residence x stamp
        let t := if u8 x.bytes 0 / 16 = 3 then t.noteResidence port res else t
        .next (t.emit (.cell port slot (transitBytes x res)))

end Sys2Proof.Machine
end

