-- ==== Sys2Proof/Machine/Blank.lean ====
section
/-! DEFINITION. Blanking and inertness: what stops when the lamps go dark (R22, R139, R326, R327). -/

namespace Sys2Proof.Machine

/-- Stop the emission schedule, discarding the window in progress: every lamp is dark and the scale returns to ×1 (R139, R326). -/
def State.stopSchedule (s : State) : State :=
  { s.credit with ems := { s.credit.ems with
      win := none, pre := none, lit := none, scale := 0, emits := false,
                               shows := [none, none, none, none] } }

/-- Emission ends: EMIT_DISABLE, HALT, inertness or a hold of the scheduler (R326, R332). -/
def State.endEmission (s : State) (hold : Bool) : State :=
  let on := s.ems.enabled
  let t := match s.ems.init with
    | some (r, _) => s.answer s 0x0701 r (rspErr stWrongState (if hold then 0x0706 else 0x0704))
    | none => s
  let t := { t with ems := { t.ems with enabled := false, init := none, hold := t.ems.hold || hold,
                                        setups := t.ems.setups.filter (fun x => x.kind != 2) } }
  let t := t.stopSchedule
  if on then t.raise 512 0 (bn hold * 2) else t

/-- A calibration run in progress is aborted (R396); a pin of the spare channel returns to its own output (R395). -/
def State.abortRun (s : State) (which : CalRun → Bool) : State :=
  match s.cal.run with
  | some r => if which r then { s with cal := { s.cal with run := some { r with abort := true }, spare := none } } else s
  | none => s

/-- Notifications that wait for ARP are not sent by an inert lead (R22). DESIGN CHOICE (log entry 23): they are dropped; their records stay
in the history of R542. -/
def State.dropNotify (s : State) : State :=
  let ws := s.pix.arpWait.map (fun w => { w with packets := w.packets.filter (fun p => u16 p.2.2 2 != 0x0F04) })
  { s with pix := { s.pix with arpWait := ws.filter (fun w => !w.packets.isEmpty) } }

/-- A core whose armed restart is given up stays faulted. -/
def CoreS.stayFaulted (c : CoreS) : CoreS := if c.state = 3 then { c with state := 2 } else c

/-- The armed responses in progress stop as the chip becomes inert (R25): relays with EV_774, an armed domain switch that is not yet announced
with EV_135, and an armed core restart, whose core stays faulted. -/
def State.stopArmed (s : State) : State :=
  let t := ((List.range 4).filter s.pai.relay.testBit).foldl State.relayEnd s
  let t := { t with pwr := { t.pwr with cores := t.pwr.cores.map CoreS.stayFaulted } }
  match t.tmu.switch with
  | some w => if w.req.isNone && !w.decided then ({ t with tmu := { t.tmu with switch := none } }).raise 135 2 w.new else t
  | none => t

/-- The chip becomes inert (R22): its content and pair traffic that waits is dropped. A tile asleep stays inert when it wakes. -/
def State.goInert (s : State) : State :=
  (((({ s with pwr := { s.pwr with inert := true, inertAtT := true },
               net := { s.net with tx := s.net.tx.filter (fun m => !m.isContent) } }).dropNotify.stopArmed).abortRun (fun _ => true)).endEmission false)

/-- A tile's wake request (R489), cause bit 0 temperature or 1 beacon loss: EV_40 before T, once for each cause; latched in Twilight. -/
def State.wakeRequest (s : State) (bit : Nat) : State :=
  let c := s.pwr.wakeCause ||| 2 ^ bit
  if !s.isTile then s
  else match (s.pwr.sleep.getD 0 {}).state with
  | .proposed | .committed =>
    if s.pwr.wakeCause.testBit bit then s else ({ s with pwr := { s.pwr with wakeCause := c } }).raise 40 1 c
  | .twilight =>
    { s with pwr := { s.pwr with wakeLatched := true, wakeCause := c, wakePos := min s.pwr.wakePos (s.net.addr % 64) } }
  | _ => s

/-- Is a power domain in the forced-off mask (R469)? -/
def State.forced (s : State) (d : Nat) : Bool := s.pwr.domOff.testBit d

/-- The refusal of a command that would enable a block needing a forced-off domain (R469). -/
def rspForced : Rsp := rspErr stWrongState 0x0E01

/-- Is the domain that a PLL of GLB_PLL_STATUS clocks powered (R41, R467)? In Twilight the TIME PLL alone stays, with those of the lanes that carry
beacons (R486). DESIGN CHOICE (log entry 12): the spec does not say when the LAMP and HOST PLLs are powered; LAMP is in every tile and HOST in
every lead. -/
def State.pllOn (s : State) (i : Nat) : Bool :=
  let nap := s.isTile && (s.pwr.sleep.getD 0 {}).state == .twilight
  if i = 0 then !nap
  else if i = 1 then true
  else if i = 2 then s.isTile && !nap
  else if i = 3 then s.isLead
  else if i < 8 then !nap && (s.mem.chans.getD (i - 4) {}).st != .off
  else decide (i < 16) && (let st := s.portState (i - 8); if nap then st == .up || st == .open_ else st != .off)

/-- Is a PLL locked, by its bit of GLB_PLL_STATUS (R41)? The PLL of an unpowered domain reads unlocked. A powered one is locked from the boot on,
but after a loss of lock until it is regained. -/
def State.pllLock (s : State) (i : Nat) : Bool := s.alive && !s.pwr.pllLost.contains i && s.pllOn i

end Sys2Proof.Machine
end

