-- ==== Sys2Proof/Machine/Memory.lean ====
section
/-! DEFINITION. The DRAM controller: configuration and training, the address map, request queues, refresh, retraining, parity replay,
ECC and scrubbing (R338 to R362), and the byte memory its clients see. -/

namespace Sys2Proof.Machine

/-! ### Configuration (R338 to R341) -/

/-- Fields of a MEM_CONFIG payload. -/
def memNch (c : List Byte) : Nat := u8 c 0
/-- KEEP. -/
def memKeepFlag (c : List Byte) : Bool := (u8 c 1).testBit 0
/-- RANKS. -/
def memRanks (c : List Byte) : Nat := u8 c 2
/-- WIDTH. -/
def memWidth (c : List Byte) : Nat := u8 c 3
/-- STACK. -/
def memStack (c : List Byte) : Nat := u8 c 5

/-- Bytes of a channel: RANKS × STACK × (64 / WIDTH) × density / 8 (R339). -/
def chanBytes (c : List Byte) : Nat := memRanks c * memStack c * (64 / memWidth c) * u8 c 4 * 2 ^ 27

/-- Installed DRAM (R339): 0 while the controller is disabled. -/
def State.installed (s : State) : Nat := if s.mem.enabled then memNch s.mem.cfg * chanBytes s.mem.cfg else 0

/-- Bytes of the regions the chip reserves at the top of installed DRAM (R344). -/
def State.reservedBytes (s : State) : Nat := (if s.isLead then 80 else 48) * 2 ^ 20

/-- The offset of the first offending field of a MEM_CONFIG payload, if any (R33, R340, R341). -/
def State.memConfigBad (s : State) (c : List Byte) : Option Nat :=
  let nch := memNch c
  if !(if s.isLead then nch == 2 || nch == 4 else nch == 1) then some 0
  else if !(memRanks c == 1 || memRanks c == 2) then some 2
  else if !(memWidth c == 8 || memWidth c == 16) then some 3
  else if !(u8 c 4 == 4 || u8 c 4 == 8 || u8 c 4 == 16) then some 4
  else if !(memStack c == 1 || ((memStack c == 2 || memStack c == 4) && memWidth c == 8)) then some 5
  else if u8 c 6 < 20 ∨ 24 < u8 c 6 then some 6
  else if u8 c 7 ≠ 16 ∧ u8 c 7 ≠ 20 then some 7
  else if u16 c 8 < 160 ∨ 1600 < u16 c 8 then some 8
  else match (List.range 12).find? (fun i => u8 c (10 + i) == 0) with
    | some i => some (10 + i)
    | none => if 2 ^ 34 < chanBytes c then some 2 else none

/-- SIG of a configuration: the CRC-16 of R261 over its bytes with KEEP cleared (R341). -/
def memSig (c : List Byte) : Nat := crc16 (splice (slice c 0 48) 1 (b1 (u8 c 1 / 2 * 2)))

/-- Mask of the first `n` channels. -/
def chanMask (n : Nat) : Nat := 2 ^ n - 1

/-- Does a forced-off domain (DDR PHY or controller) block these channels (R469)? -/
def State.memForced (s : State) (nch : Nat) : Bool :=
  (List.range nch).any (fun n => s.forced (40 + n) || s.forced (44 + n))

/-- A channel. -/
def State.chan (s : State) (n : Nat) : Chan := s.mem.chans.getD n {}
/-- Replace a channel. -/
def State.setChan (s : State) (n : Nat) (c : Chan) : State := { s with mem := { s.mem with chans := s.mem.chans.set n c } }
/-- Address of a register of channel n. -/
def memReg (base n : Nat) : Nat := base + 0x40000 * n

/-- MEM_CONFIG (R341): checks; then the channels train and the reply follows. -/
def execMemConfig (r : Req) (s : State) : Res :=
  runReqLater 0x0800 r s fun s =>
    let c := r.payload
    let nch := memNch c
    let keep := (s.reg Reg.memKeep).toNat
    if s.mem.enabled then (s, some (rspErr stWrongState 0x0801))
    else if s.mem.training.isSome then ({ s with mem := { s.mem with waiting := s.mem.waiting ++ [(0x0800, r)] } }, none)
    else match s.memConfigBad c with
      | some o => (s, some (rspParam o))
      | none =>
        if s.memForced nch then (s, some rspForced)
        else if memKeepFlag c ∧ (keep % 16 &&& chanMask nch ≠ chanMask nch ∨ keep / 65536 ≠ memSig c) then
          (s, some (rspErr stWrongState 0x0803))
        else
          let chans := (List.range 4).map (fun n => if n < nch then { s.chan n with st := .init } else {})
          ({ s with mem := { s.mem with cfg := c, chans := chans, training := some (r, none) } }, none)

/-- tREFI in raw LSB (R349). -/
def State.trefi (s : State) : Nat := if (u8 s.mem.cfg 1).testBit 1 then rawNs 3900 else rawNs 7800

/-- A channel enters RUN. -/
def State.runChan (s : State) (n : Nat) : State :=
  let due := s.now + s.trefi
  s.setChan n { s.chan n with st := .run, debt := [0, 0], refAt := [due, due], pd := [], lastReq := [s.now, s.now],
                              trainedAt := s.now, trainDue := none, alerts := 0, since := 32 }

/-- Count a write dropped in HOLD (R354): EV_584 once per second. -/
def State.dropWrite (s : State) (n : Nat) : State :=
  let c := s.chan n
  let t := s.bump (memReg Reg.memHoldDrop n)
  if c.dropAt + rawSec 1 ≤ s.now ∨ c.drops = 0 then
    (t.setChan n { c with dropAt := s.now, drops := 1 }).raise 584 3 (n + min 0xFFFFFF (c.drops + 1) * 256)
  else t.setChan n { c with drops := c.drops + 1 }

/-- A channel enters HOLD (R354): EV_581, MEM_CHn_HOLDS; the retry buffer and the queued writes are kept. DEDUCED (log entry 41): the reads that
wait complete as uncorrectable, and the writes of clients that wait for room are dropped. -/
def State.holdChan (s : State) (n : Nat) (stacked : Bool) : State :=
  let c := s.chan n
  let t := ((s.setChan n { c with st := .hold, reads := [], flight := [], blocked := [] }).bump (memReg Reg.memHolds n)).raise 581 4
    (n + bn stacked * 256)
  (c.blocked.filter (·.write)).foldl (fun t _ => t.dropWrite n) t

/-- Commands that waited for training or for the controller are taken up again. -/
def State.resumeWaiting (s : State) : State :=
  { s with cmd := { s.cmd with admitted := s.cmd.admitted ++ s.mem.waiting }, mem := { s.mem with waiting := [] } }

/-- MEM_TRAINING_COMPLETE (R341, R355): training of MEM_CONFIG or of MEM_RELEASE ends; `failed` names a failing channel and byte lane
(0xFF for ZQ). -/
def execMemTrainingComplete (failed : Option (Nat × Nat)) (s : State) : Res :=
  if !s.alive then .next s else
  match s.mem.training with
  | none => .next s
  | some (r, some n) =>
    let t := ({ s with mem := { s.mem with training := none } } : State).resumeWaiting
    match failed with
    | some _ => .next (t.answer t 0x0802 r (rspErr stHwFault 0x0B))
    | none => let u := (t.runChan n).raise 576 0 (2 ^ n + 256); .next (u.answer u 0x0802 r rspOk)
  | some (r, none) =>
    let t := ({ s with mem := { s.mem with training := none } } : State).resumeWaiting
    let nch := memNch t.mem.cfg
    match failed with
    | some (n, lane) =>
      let n := n % max 1 nch
      let off := ({ t with mem := { t.mem with chans := [{}, {}, {}, {}] } }).setReg Reg.memKeep 0
      let u := (off.holdChan n false).raise 577 3 (n + lane % 256 * 256)
      .next (u.answer u 0x0800 r (rspErr stHwFault 0x0B))
    | none =>
      let keep := memKeepFlag t.mem.cfg
      let m := if keep then { t.mem with enabled := true } else { t.mem with enabled := true, dram := [], bad := [] }
      let u := (List.range nch).foldl State.runChan { t with mem := m }
      let u := (u.setReg Reg.memKeep 0).raise 576 0 (chanMask nch)
      let u := if keep then u.raise 585 0 (chanMask nch + 256) else u
      .next (u.answer u 0x0800 r rspOk)

/-! ### Address map (R342, R343) -/

/-- The channel of a DRAM address. -/
def State.chanOf (s : State) (a : Nat) : Nat := a / 8192 % max 1 (memNch s.mem.cfg)

/-- The channel-local address. -/
def State.localAddr (s : State) (a : Nat) : Nat := a / 8192 / max 1 (memNch s.mem.cfg) * 8192 + a % 8192

/-- The DRAM address of a channel-local one. -/
def State.globalAddr (s : State) (n a : Nat) : Nat := (a / 8192 * max 1 (memNch s.mem.cfg) + n) * 8192 + a % 8192

/-- A decoded channel-local address (R343). -/
structure DramAddr where
  group : Nat
  col : Nat
  bank : Nat
  rank : Nat
  chip : Nat
  row : Nat
  deriving DecidableEq, Repr

/-- Decode a channel-local address (R343). -/
def dramDecode (cfg : List Byte) (a : Nat) : DramAddr :=
  let gb := if memWidth cfg = 8 then 2 else 1
  let rb := if memRanks cfg = 2 then 1 else 0
  let cb := if memStack cfg = 4 then 2 else if memStack cfg = 2 then 1 else 0
  let up := a / 2 ^ (6 + gb + 9)
  { group := a / 64 % 2 ^ gb, col := a / 2 ^ (6 + gb) % 128, bank := a / 2 ^ (6 + gb + 7) % 4,
    rank := up % 2 ^ rb, chip := up / 2 ^ rb % 2 ^ cb, row := up / 2 ^ (rb + cb) }

/-! ### The bytes a client sees (R345, R348, R354, R356) -/

/-- Is a byte readable: its channel runs and its word holds no uncorrectable error? -/
def State.memOk (s : State) (a : Nat) : Bool :=
  s.mem.enabled && (s.chan (s.chanOf a)).st == .run && !s.mem.bad.contains (a / 8)

/-- Read one byte of DRAM. -/
def State.memByte (s : State) (a : Nat) : Byte := Map.at s.mem.dram 0 a

/-- Read bytes; nothing where a word is uncorrectable (the client sees an uncorrectable C3 error). -/
def State.memRead (s : State) (a n : Nat) : Option (List Byte) :=
  if (List.range n).all (fun i => s.memOk (a + i)) then some ((List.range n).map (fun i => s.memByte (a + i))) else none

/-- Write one byte of DRAM in canonical form. -/
def State.memPut (s : State) (a : Nat) (b : Byte) : State :=
  { s with mem := { s.mem with dram := Map.store (fun _ => 0) s.mem.dram a b, bad := s.mem.bad.filter (· != a / 8) } }

/-- Write one byte through its channel: stored while the channel runs, dropped in HOLD. -/
def State.memSet (s : State) (a : Nat) (b : Byte) : State :=
  match (s.chan (s.chanOf a)).st with
  | .run => s.memPut a b
  | .hold => if a % 64 = 0 then s.dropWrite (s.chanOf a) else s
  | _ => s

/-- Write bytes from an address on; a burst dropped in HOLD counts at its first byte. -/
def State.memWriteFrom (s : State) (a : Nat) : List Byte → State
  | [] => s
  | b :: bs => State.memWriteFrom (s.memSet a b) (a + 1) bs

/-- Write bytes from an address on. -/
def State.memWrite (s : State) (a : Nat) (l : List Byte) : State :=
  let part := !l.isEmpty && a % 64 != 0 && (s.chan (s.chanOf a)).st == .hold
  (if part then s.dropWrite (s.chanOf a) else s).memWriteFrom a l

/-- DETAIL of EV_578 and EV_579. -/
def State.eccDetail (s : State) (n a : Nat) (scrub : Bool) : Nat := n + bn scrub * 4 + s.localAddr a / 64 % 2 ^ 24 * 256

/-- An uncorrectable word was read at DRAM address `a` (R356): counted, its address stored, and reported. -/
def State.noteWord (s : State) (n a : Nat) (scrub : Bool) : State :=
  ((s.setChan n { s.chan n with ueAddr := a }).bump (memReg Reg.memUe n)).raise 579 3 (s.eccDetail n a scrub)

/-- The uncorrectable words among `n` bytes that a client read from `a` (R356). -/
def State.noteWords (s : State) (a n : Nat) : State :=
  ((List.range ((a % 8 + n + 7) / 8)).map (fun i => a / 8 + i)).foldl (fun t w =>
    if t.mem.bad.contains w && (t.chan (t.chanOf (8 * w))).st == .run then t.noteWord (t.chanOf (8 * w)) (8 * w) false else t) s

/-! ### Request scheduling (R43, R345 to R348, R351) -/

/-- The service class of a client (R43). -/
def clientClass : MemClient → Nat
  | .scanOut | .spill | .planeFeed => 0
  | .ingest => 1
  | .almanac | .upload | .scrub => 2
  | .bulk | .mirror | .firmware => 3

/-- Does the role have the client (R43)? -/
def State.hasClient (s : State) : MemClient → Bool
  | .scanOut | .spill | .ingest | .mirror => s.isLead
  | .planeFeed | .almanac => s.isTile
  | .upload | .scrub | .bulk | .firmware => true

/-- The service class of a request. -/
def reqClass (r : MemReq) : Nat := clientClass r.client

/-- Oldest first by promotion, then by class, then by age: does `x` go before `y`? -/
def Queued.before (x y : Queued) : Bool :=
  match x.promoted, y.promoted with
  | some a, some b => decide (a ≤ b)
  | some _, none => true
  | none, some _ => false
  | none, none => decide (reqClass x.req < reqClass y.req) || (reqClass x.req == reqClass y.req && decide (x.entry ≤ y.entry))

/-- The candidate R346 chooses. -/
def bestQueued : List Queued → Option Queued
  | [] => none
  | x :: xs => match bestQueued xs with
    | none => some x
    | some y => if x.before y then some x else some y

/-- May writes of classes 1 to 3 be issued now (R346)? -/
def Chan.batchNow (c : Chan) : Bool :=
  decide (48 ≤ c.writes.length) || c.reads.isEmpty || c.writes.any (fun w => reqClass w.req != 0 && w.promoted.isSome)

/-- The candidates of a channel. -/
def Chan.candidates (c : Chan) : List Queued :=
  c.reads ++ c.writes.filter (fun w => reqClass w.req == 0 || c.batchNow)

/-- Class 0 requests pending (Q0). -/
def Chan.q0 (c : Chan) : Nat := ((c.reads ++ c.writes).filter (fun q => reqClass q.req == 0)).length

/-- The rank of a request. -/
def State.rankOf (s : State) (a : Nat) : Nat := (dramDecode s.mem.cfg (s.localAddr a)).rank

/-- A request enters its queue, which has room (R345, R348): a write is complete for every client, and takes the place of a write-back that
waits (R356). -/
def State.enterQueue (s : State) (n : Nat) (r : MemReq) : State :=
  let c := s.chan n
  let q : Queued := { req := r, entry := s.now }
  let c := { c with lastReq := c.lastReq.set (s.rankOf r.addr) s.now,
                    recent := if reqClass r = 0 then s.now :: c.recent.filter (fun t => s.now < t + rawUs 1) else c.recent }
  if r.write then
    (s.setChan n { c with writes := c.writes.filter (fun w => !(w.req.client == .scrub && w.req.addr == r.addr)) ++ [q] }).memWrite r.addr
      (fit 64 r.data)
  else s.setChan n { c with reads := c.reads ++ [q] }

/-- Requests enter the queues of a channel; beyond 64 entries a client waits with its request (R345). -/
def State.enqueue (s : State) (n : Nat) : List MemReq → State
  | [] => s
  | r :: rs =>
    let c := s.chan n
    let full := if r.write then decide (64 ≤ c.writes.length) else decide (64 ≤ c.reads.length)
    State.enqueue (if full then s.setChan n { c with blocked := c.blocked ++ [r] } else s.enterQueue n r) n rs

/-- The requests that wait for room, then those that arrive, enter the queues of a channel. -/
def State.arrive (s : State) (n : Nat) (rs : List MemReq) : State :=
  let c := s.chan n
  (s.setChan n { c with blocked := [] }).enqueue n (c.blocked ++ rs)

/-- A command issued joins the retry buffer (R353). -/
def Chan.issued (c : Chan) (r : MemReq) : Chan :=
  { c with retry := lastOf 32 (c.retry ++ [r]), since := min 32 (c.since + 1) }

/-- Issue one chosen request. -/
def State.issue (s : State) (n : Nat) (q : Queued) : State :=
  let c := s.chan n
  let rk := s.rankOf q.req.addr
  let c := { c with pd := c.pd.filter (· != rk) }
  if q.req.write then
    s.setChan n ({ c with writes := c.writes.erase q }.issued q.req)
  else
    let c := { c with reads := c.reads.erase q }
    -- R348: a pending write to the burst answers the read
    if c.writes.any (fun w => w.req.addr == q.req.addr) then s.setChan n c
    else s.setChan n ({ c with flight := c.flight ++ [q.req] }.issued q.req)

/-- Once no class 0 request is pending, the postponed REFs are issued (R349). -/
def State.payRefresh (s : State) (n : Nat) : State :=
  let c := s.chan n
  if c.q0 = 0 then s.setChan n { c with debt := c.debt.map (fun _ => 0) } else s

/-- DRAM_REQUEST_ISSUE (R342 to R348, R354): clients' requests enter the channel's queues, and one is issued by R346. A burst outside
installed DRAM does not exist. -/
def execDramRequestIssue (ch : Nat) (arrived : List MemReq) (s : State) : Res :=
  if !s.alive ∨ 4 ≤ ch ∨ !s.mem.enabled then .next s
  else match arrived.find? (fun r => decide (s.installed < r.addr + 64)) with
  | some r => .fault (.dramAddress r.addr)
  | none =>
    let mine := arrived.filter (fun r => s.hasClient r.client && s.chanOf r.addr == ch && r.addr % 64 == 0)
    match (s.chan ch).st with
    | .run =>
      let t := s.arrive ch mine
      match bestQueued (t.chan ch).candidates with
      | none => .next t
      | some q => .next ((t.issue ch q).payRefresh ch)
    | .hold => .next ((mine.filter (·.write)).foldl (fun t _ => t.dropWrite ch) s)
    | _ => .next s

/-- The age limit of a class in raw LSB: (v + 1) × 0.25 µs (MEM_AGE). -/
def State.ageLimit (s : State) (cls : Nat) : Nat := (s.fld Reg.memAge (8 * cls + 7) (8 * cls) + 1) * 16384

/-- REQUEST_PROMOTION (R347): every request older than its class's limit is promoted and counted. -/
def execRequestPromotion (ch : Nat) (s : State) : Res :=
  if !s.alive ∨ 4 ≤ ch then .next s else
  let c := s.chan ch
  let old (q : Queued) : Bool := q.promoted.isNone && decide (q.entry + s.ageLimit (reqClass q.req) < s.now)
  let up (q : Queued) : Queued := if old q then { q with promoted := some s.now } else q
  let n := ((c.reads ++ c.writes).filter old).length
  .next ((s.setChan ch { c with reads := c.reads.map up, writes := c.writes.map up }).bumpBy (memReg Reg.memPromo ch) n)

/-- Check the words of a returned burst (R356): 0 correct, 1 corrected, otherwise uncorrectable. -/
def State.checkWords (s : State) (n : Nat) (r : MemReq) : Nat → List Nat → State
  | _, [] => s
  | i, w :: ws =>
    let a := r.addr + 8 * i
    let t :=
      if 2 ≤ w ∨ s.mem.bad.contains (a / 8) then
        ({ s with mem := { s.mem with bad := if s.mem.bad.contains (a / 8) then s.mem.bad else (a / 8) :: s.mem.bad } }).noteWord n a
          (r.client == MemClient.scrub)
      else if w = 1 then (s.bump (memReg Reg.memCe n)).raise 578 1 (s.eccDetail n a (r.client == MemClient.scrub))
      else s
    State.checkWords t n r (i + 1) ws

/-- DRAM_READ_COMPLETE (R356): the oldest read in flight returns; a corrected burst is written back in class 2 unless a write to it is
queued. -/
def execDramReadComplete (ch : Nat) (words : List Nat) (s : State) : Res :=
  if !s.alive ∨ 4 ≤ ch then .next s else
  match (s.chan ch).flight with
  | [] => .next s
  | r :: rest =>
    let ws := (words ++ List.replicate 8 0).take 8
    let t := (s.setChan ch { s.chan ch with flight := rest }).checkWords ch r 0 ws
    let bad := (List.range 8).any (fun i => t.mem.bad.contains (r.addr / 8 + i))
    let queued := (t.chan ch).writes.any (fun w => w.req.addr == r.addr)
    if ws.contains 1 && !bad && !queued && (t.chan ch).writes.length < 64 then
      let data := (List.range 64).map (fun i => t.memByte (r.addr + i))
      .next (t.enqueue ch [{ addr := r.addr, client := .scrub, write := true, data := data }])
    else .next t

/-- REFRESH_DUE (R349): a rank's REF falls due: issued with the postponed ones, postponed while class 0 requests are pending, or forced
at the ninth. -/
def execRefreshDue (ch rank : Nat) (s : State) : Res :=
  let c := s.chan ch
  if !s.alive ∨ 4 ≤ ch ∨ memRanks s.mem.cfg ≤ rank ∨ c.st ≠ .run ∨ s.now < c.refAt.getD rank 0 then .next s
  else
    let at_ := c.refAt.set rank (c.refAt.getD rank 0 + s.trefi)
    let d := c.debt.getD rank 0
    if c.q0 = 0 then .next (s.setChan ch { c with refAt := at_, debt := c.debt.map (fun _ => 0) })
    else if d < 8 then .next (s.setChan ch { c with refAt := at_, debt := c.debt.set rank (d + 1) })
    else .next (((s.setChan ch { c with refAt := at_, debt := c.debt.set rank 0 }).bump (memReg Reg.memRefForced ch)).raise 583 1
      (ch + rank * 4))

/-! ### Retraining, power-down, parity (R350, R351, R353) -/

/-- RETRAIN_DUE (R350): every 100 ms a window falls due and waits. -/
def execRetrainDue (ch : Nat) (s : State) : Res :=
  let c := s.chan ch
  if s.alive ∧ ch < 4 ∧ c.st = .run ∧ c.trainDue = none ∧ c.trainedAt + rawMs 100 ≤ s.now then
    .next (s.setChan ch { c with trainDue := some s.now, trainedAt := c.trainedAt + rawMs 100 })
  else .next s

/-- A retraining run of a channel (R350): `badLane` names a byte lane whose result is more than a quarter of a unit interval off, which
discards the run. -/
def State.retrain (s : State) (ch : Nat) (badLane : Option Nat) : State :=
  let t := (s.setChan ch { s.chan ch with trainDue := none }).bump (memReg Reg.memRetrained ch)
  match badLane with
  | some l => t.raise 582 2 (ch + 256 + l % 256 * 65536)
  | none => t

/-- The class 0 backlog of the last 1 µs (R350). DEDUCED (log entry 41): the class 0 requests that entered the channel's queues in it. -/
def State.backlog (s : State) (ch : Nat) : Nat := ((s.chan ch).recent.filter (fun t => s.now < t + rawUs 1)).length

/-- RETRAIN_WINDOW (R350): a due window runs while no class 0 request is pending and the backlog is below MEM_RETRAIN.BACKLOG. -/
def execRetrainWindow (ch : Nat) (badLane : Option Nat) (s : State) : Res :=
  let c := s.chan ch
  if s.alive ∧ ch < 4 ∧ c.st = .run ∧ c.trainDue.isSome ∧ c.q0 = 0 ∧ s.backlog ch < s.fld Reg.memRetrain 15 0 then .next (s.retrain ch badLane)
  else .next s

/-- RETRAIN_FORCED (R350): a window deferred for 1 s runs whatever the backlog, while no burst is in progress. -/
def execRetrainForced (ch : Nat) (badLane : Option Nat) (s : State) : Res :=
  let c := s.chan ch
  match c.trainDue with
  | some d =>
    if s.alive ∧ ch < 4 ∧ c.st = .run ∧ c.flight = [] ∧ d + rawSec 1 ≤ s.now then
      .next (((s.bump (memReg Reg.memRetrainForced ch)).raise 582 2 ch).retrain ch badLane)
    else .next s
  | none => .next s

/-- POWER_DOWN_ENTRY (R351): a rank without a request for PD_IDLE controller clocks of 1.25 ns. -/
def execPowerDownEntry (ch rank : Nat) (s : State) : Res :=
  let c := s.chan ch
  let idle := s.fld Reg.memCfg 15 0
  let busy := (c.reads ++ c.writes).any (fun q => s.rankOf q.req.addr == rank)
  if s.alive ∧ ch < 4 ∧ rank < memRanks s.mem.cfg ∧ c.st = .run ∧ idle ≠ 0 ∧ !busy ∧ !c.pd.contains rank ∧
      c.lastReq.getD rank 0 + roundDivN (idle * 5 * 65536) 4000 ≤ s.now then
    .next (s.setChan ch { c with pd := rank :: c.pd })
  else .next s

/-- CA_PARITY_ALERT (R353, R529): the retry buffer is reissued; a fourth alert within an episode, or the first with 3DS devices, puts
the channel into HOLD. -/
def execCaParityAlert (ch : Nat) (s : State) : Res :=
  let c := s.chan ch
  if !s.alive ∨ 4 ≤ ch ∨ c.st ≠ .run then .next s
  else if memStack s.mem.cfg ≠ 1 then .next (s.holdChan ch true)
  else
    let k := if c.since < 32 then c.alerts + 1 else 1
    if 4 ≤ k then .next ((s.setChan ch { c with alerts := k }).holdChan ch false)
    else .next (((s.setChan ch { c with alerts := k, since := 0 }).bump (memReg Reg.memReplay ch)).raise 580 2 (ch + k * 16))

/-! ### Release, scrubbing, status (R355, R357, R359, R360) -/

/-- MEM_RELEASE (R355, R359). -/
def execMemRelease (r : Req) (s : State) : Res :=
  runReqLater 0x0802 r s fun s =>
    let n := u8 r.payload 0
    if 4 ≤ n then (s, some (rspParam 0))
    else if (s.chan n).st ≠ .hold then (s, some (rspErr stWrongState 0x0802))
    else if !s.mem.enabled then (s.setChan n {}, some rspOk)
    else if s.mem.training.isSome then ({ s with mem := { s.mem with waiting := s.mem.waiting ++ [(0x0802, r)] } }, none)
    else ({ s with mem := { s.mem with training := some (r, some n) } }, none)

/-- SCRUB_CONFIG (R359): sets MEM_SCRUB. -/
def execScrubConfig (r : Req) (s : State) : Res :=
  runReq 0x0803 r s fun s =>
    let h := u8 r.payload 0
    if 48 < h then (s, rspParam 0) else (s.setReg Reg.memScrub (BitVec.ofNat 32 h), rspOk)

/-- The pace of the scrub in raw LSB: a pass of PASS_H hours spread evenly over the bursts of a channel. DESIGN CHOICE (log entry 41). -/
def State.scrubStep (s : State) : Nat := s.fld Reg.memScrub 5 0 * 3600 * rawPerSec * 64 / max 1 (chanBytes s.mem.cfg)

/-- SCRUB_READ (R357): the next burst of the channel is read in class 2; a completed pass counts and raises EV_586. -/
def execScrubRead (ch : Nat) (s : State) : Res :=
  let c := s.chan ch
  if s.alive ∧ ch < 4 ∧ s.mem.enabled ∧ c.st = .run ∧ s.fld Reg.memScrub 5 0 ≠ 0 ∧ c.reads.length < 64 ∧ c.scrubAt ≤ s.now then
    let t := s.enterQueue ch { addr := s.globalAddr ch c.scrub, client := .scrub, write := false }
    let nxt := c.scrub + 64
    let at_ := s.now + s.scrubStep
    if nxt < chanBytes s.mem.cfg then .next (t.setChan ch { t.chan ch with scrub := nxt, scrubAt := at_ })
    else .next (((t.setChan ch { t.chan ch with scrub := 0, scrubAt := at_ }).bump (memReg Reg.memScrubPass ch)).raise 586 0 ch)
  else .next s

/-- State codes of MEM_CHn_STATUS. -/
def ChSt.code : ChSt → Nat
  | .off => 0 | .init => 1 | .run => 2 | .selfRefresh => 3 | .hold => 4

/-- MEM_CHn_STATUS. -/
def State.chStatus (s : State) (n : Nat) : Nat :=
  let c := s.chan n
  let replay := memStack s.mem.cfg == 1 && (c.st == .run || c.st == .hold)
  c.st.code * 2 ^ 29 + bn (!c.pd.isEmpty) * 2 ^ 28 + (c.debt.foldl max 0) * 2 ^ 24 + bn c.trainDue.isSome * 2 ^ 23 +
    bn replay * 2 ^ 22 + min 0xFFFF c.q0

/-- MEM_CFG as read. -/
def State.memCfgWord (s : State) : Nat :=
  (s.reg Reg.memCfg).toNat +
    (if s.mem.enabled then 2 ^ 31 + chanMask (memNch s.mem.cfg) * 2 ^ 24 + bn ((u8 s.mem.cfg 1).testBit 1) * 65536 else 0)

/-- MEM_STATUS (R359): 52 bytes for each channel, 0 where it is not enabled. -/
def execMemStatus (r : Req) (s : State) : Res :=
  runReq 0x0801 r s fun s =>
    let one (n : Nat) : List Byte :=
      if s.mem.enabled ∧ n < memNch s.mem.cfg then
        b4 (s.chStatus n) ++ (List.range 10).flatMap (fun k => b4 (s.reg (memReg Reg.memCe n + 4 * k)).toNat) ++ b8 (s.chan n).ueAddr
      else zeros 52
    (s, rspOk ((List.range 4).flatMap one))

/-- MEM_CH_CNT_CLR (R360). -/
def execMemChCntClr (ch : Nat) (data : Word) (s : State) : Res :=
  if !s.alive ∨ 4 ≤ ch ∨ (s.isTile ∧ ch ≠ 0) then .next s
  else .next (s.clearCounters (memReg Reg.memCe ch) 10 data.toNat)

end Sys2Proof.Machine
end

