-- ==== Sys2Proof/Machine/Surface.lean ====
section
/-! DEFINITION. Surfaces and the surface profile of the block coder: raw layout, blocks, slots, descriptors, packing and decoding (R218 to
R220, R255 to R260). -/

namespace Sys2Proof.Machine

/-! ### Formats (R218, R255) -/

/-- Bits per pixel of a format. -/
def fmtBpp (f : Nat) : Nat := [0, 20, 30, 36, 30, 36, 48].getD f 0
/-- Sample depth D. -/
def fmtDepth (f : Nat) : Nat := if f = 1 ∨ f = 2 ∨ f = 4 then 10 else 12
/-- Slot bytes. -/
def fmtSlot (f : Nat) : Nat := [0, 160, 256, 288, 256, 288, 384].getD f 0
/-- Slots per page P. -/
def fmtPerPage (f : Nat) : Nat := [1, 49, 31, 27, 31, 27, 20].getD f 1
/-- Components. -/
def fmtComps (f : Nat) : Nat := if f = 6 then 4 else 3

/-- Bytes of a row of the raw layout: rows start on 64-bit boundaries. -/
def rowBytes (f w : Nat) : Nat := 8 * ((w * fmtBpp f + 63) / 64)
/-- Bytes of a raw frame. -/
def rawBytes (f w h : Nat) : Nat := rowBytes f w * h
/-- Blocks across (R255). -/
def surfBw (w : Nat) : Nat := (w + 15) / 16
/-- Blocks of a surface. -/
def surfBlocks (w h : Nat) : Nat := surfBw w * ((h + 3) / 4)
/-- FOOT (R256). -/
def foot (f w h : Nat) : Nat := 8192 * ((surfBlocks w h + fmtPerPage f - 1) / fmtPerPage f)

/-- Bit offset of component c of pixel (x, y) in the raw layout (R218). -/
def sampleBit (f w c x y : Nat) : Nat :=
  8 * rowBytes f w * y +
    (if f = 1 then 40 * (x / 2) + (if c = 0 then 0 else if c = 1 then 10 + 20 * (x % 2) else 20)
     else fmtBpp f * x + fmtDepth f * c)

/-- The samples of component c in a block as (x, y) inside the surface: positions outside take the nearest pixel; chroma of 4:2:2 has one
sample for each pixel pair. -/
def blockSites (f w h n c : Nat) : List (Nat × Nat) :=
  let x0 := n % surfBw w * 16
  let y0 := n / surfBw w * 4
  let step := if f = 1 ∧ c ≠ 1 then 2 else 1
  (List.range 4).flatMap (fun j => (List.range (16 / step)).map (fun i => (min (x0 + i * step) (w - 1), min (y0 + j) (h - 1))))

/-! ### Bit strings -/

/-- `n` bits at a bit offset, most significant first, through a byte reader. -/
def bitsAt (get : Nat → Byte) (o n : Nat) : Nat :=
  let k := o / 8
  let m := (o + n + 7) / 8 - k
  let v := beNat ((List.range m).map (fun i => get (k + i)))
  v / 2 ^ (8 * m - o % 8 - n) % 2 ^ n

/-- Concatenate fields of (width, value), most significant first: total width and number. -/
def packBits : List (Nat × Nat) → Nat × Nat
  | [] => (0, 0)
  | (w, v) :: fs => let (n, x) := packBits fs; (w + n, v % 2 ^ w * 2 ^ n + x)

/-- A packed bit string in `n` bytes, padded with zeros. -/
def packBytes (n : Nat) (fs : List (Nat × Nat)) : List Byte :=
  let (w, v) := packBits fs
  beBytes n (v * 2 ^ (8 * n - w))

/-- Bits that represent a number; bits(0) is 0 (R249). -/
def bitLen (x : Nat) : Nat := if x = 0 then 0 else Nat.log2 x + 1

/-- Least element of a list of samples. -/
def minOf (l : List Nat) : Nat := l.foldl min (l.headD 0)
/-- Greatest element. -/
def maxOf (l : List Nat) : Nat := l.foldl max 0

/-! ### Blocks (R257 to R259) -/

/-- The compressed form of a block's samples by component (R258): its fields. -/
def packFields (d : Nat) (cs : List (List Nat)) : List (Nat × Nat) :=
  cs.flatMap (fun l => [(d, minOf l), (4, bitLen (maxOf l - minOf l))]) ++
  cs.flatMap (fun l => l.map (fun v => (bitLen (maxOf l - minOf l), v - minOf l)))

/-- The raw form of a block: its samples in the raw layout, rows 0 to 3 (R259). -/
def rawFields (f : Nat) (cs : List (List Nat)) : List (Nat × Nat) :=
  let d := fmtDepth f
  let at_ (c i : Nat) : Nat × Nat := (d, (cs.getD c []).getD i 0)
  if f = 1 then (List.range 32).flatMap (fun p => [at_ 0 p, at_ 1 (2 * p), at_ 2 p, at_ 1 (2 * p + 1)])
  else (List.range 64).flatMap (fun i => (List.range (fmtComps f)).map (fun c => at_ c i))

/-- A packed block: RAW, and the stored bytes (R259). -/
def encodeBlock (f : Nat) (cs : List (List Nat)) : Bool × List Byte :=
  let fs := packFields (fmtDepth f) cs
  let len := ((packBits fs).1 + 255) / 256
  if len * 32 < fmtSlot f then (false, packBytes (len * 32) fs) else (true, packBytes (fmtSlot f) (rawFields f cs))

/-- The descriptor of stored bytes (R257). -/
def blockDesc (raw : Bool) (b : List Byte) : List Byte := b1 (bn raw * 128 + b.length / 32) ++ b1 0 ++ b2 (crc16 b)

/-- Samples per component of a block. -/
def compCount (f c : Nat) : Nat := if f = 1 ∧ c ≠ 1 then 32 else 64

/-- Decode the residuals of the components from a bit offset. -/
def unpackComps (f : Nat) (b : List Byte) (hdr : List (Nat × Nat)) : Nat → Nat → List (List Nat)
  | _, 0 => []
  | o, k + 1 =>
    let c := fmtComps f - (k + 1)
    let (base, wid) := hdr.getD c (0, 0)
    let n := compCount f c
    let l := (List.range n).map (fun i => base + bitsAt (fun j => b.getD j 0) (o + wid * i) wid)
    l :: unpackComps f b hdr (o + wid * n) k

/-- Decode a stored block; nothing where it is invalid (R259). -/
def decodeBlock (f : Nat) (desc b : List Byte) : Option (List (List Nat)) :=
  let raw := decide (128 ≤ u8 desc 0)
  let len := u8 desc 0 % 32
  let d := fmtDepth f
  let get : Nat → Byte := fun j => b.getD j 0
  if len < 1 ∨ 12 < len ∨ fmtSlot f / 32 < len ∨ (raw ∧ len ≠ fmtSlot f / 32) then none
  else if raw then
    some ((List.range (fmtComps f)).map (fun c => (List.range (compCount f c)).map (fun i =>
      if f = 1 then bitsAt get (if c = 1 then 40 * (i / 2) + 10 + 20 * (i % 2) else 40 * i + 20 * (c / 2)) 10
      else bitsAt get (fmtBpp f * i + d * c) d)))
  else
    let hdr := (List.range (fmtComps f)).map (fun c => (bitsAt get ((d + 4) * c) d, bitsAt get ((d + 4) * c + d) 4))
    let bits := (d + 4) * fmtComps f + ((List.range (fmtComps f)).map (fun c => (hdr.getD c (0, 0)).2 * compCount f c)).sum
    if hdr.any (fun x => decide (d < x.2)) ∨ len * 256 < bits then none
    else some (unpackComps f b hdr ((d + 4) * fmtComps f) (fmtComps f))

/-- DRAM addresses of a block's descriptor and slot (R256). -/
def Surf.descAddr (u : Surf) (buf n : Nat) : Nat :=
  u.addr + buf * foot u.fmt u.w u.h + 8192 * (n / fmtPerPage u.fmt) + 4 * (n % fmtPerPage u.fmt)
/-- Address of the slot. -/
def Surf.slotAddr (u : Surf) (buf n : Nat) : Nat :=
  u.addr + buf * foot u.fmt u.w u.h + 8192 * (n / fmtPerPage u.fmt) + 256 + fmtSlot u.fmt * (n % fmtPerPage u.fmt)

/-- Write a block: slot before descriptor; a raw block is counted (R259). -/
def State.writeBlock (s : State) (u : Surf) (buf n : Nat) (cs : List (List Nat)) : State :=
  let (raw, b) := encodeBlock u.fmt cs
  let t := (s.memWrite (u.slotAddr buf n) b).memWrite (u.descAddr buf n) (blockDesc raw b)
  if raw then t.bump Reg.bcdRaw else t

/-- What reading a surface block gives. -/
inductive BlockRead
  | ok (cs : List (List Nat))
  /-- An uncorrectable C3 error. -/
  | c3
  /-- BCRC does not match. -/
  | c2
  /-- An invalid block (R259). -/
  | invalid
  deriving DecidableEq, Repr

/-- Read and decode a block (R257, R259). -/
def State.readBlock (s : State) (u : Surf) (buf n : Nat) : BlockRead :=
  match s.memRead (u.descAddr buf n) 4 with
  | none => .c3
  | some d =>
    let len := u8 d 0 % 32
    if len < 1 ∨ fmtSlot u.fmt / 32 < len then .invalid
    else match s.memRead (u.slotAddr buf n) (32 * len) with
      | none => .c3
      | some b =>
        if crc16 b ≠ u16 d 2 then .c2
        else match decodeBlock u.fmt d b with
          | some cs => .ok cs
          | none => .invalid

/-- Count and report a block that did not decode (R259, R262, R264), and the words behind it that the DRAM could not correct (R356). -/
def State.noteBlock (s : State) (surf buf n : Nat) : BlockRead → State
  | .ok _ => s
  | .c3 =>
    match Map.find s.pix.surfs surf with
    | none => s
    | some u =>
      match s.memRead (u.descAddr buf n) 4 with
      | none => s.noteWords (u.descAddr buf n) 4
      | some d => s.noteWords (u.slotAddr buf n) (32 * (u8 d 0 % 32))
  | .c2 => (s.bump Reg.bcdC2Surf).raise 385 3 (surf % 256 + n % 2 ^ 20 * 256 + buf * 2 ^ 28)
  | .invalid =>
    let t := (s.bump Reg.bcdInvalid).raise 388 3 (surf % 256 + n % 8192 * 1024 + 2 ^ 23)
    (t.bump Reg.bcdC2Surf).raise 385 3 (surf % 256 + n % 2 ^ 20 * 256 + buf * 2 ^ 28)

/-- One component of pixel (x, y) of a decoded block. -/
def blockSample (f : Nat) (cs : List (List Nat)) (c x y : Nat) : Nat :=
  let i := if f = 1 ∧ c ≠ 1 then y % 4 * 8 + x % 16 / 2 else y % 4 * 16 + x % 16
  (cs.getD c []).getD i 0

/-! ### Ranges of bytes -/

/-- Add a range of bytes, joining it to one that ends where it starts. -/
def addRange (a b : Nat) : List (Nat × Nat) → List (Nat × Nat)
  | [] => [(a, b)]
  | (x, y) :: l => if y = a ∧ x ≤ a then (x, b) :: l else (x, y) :: addRange a b l

/-- Do the ranges reach from `p` to `n`? `k` bounds the ranges looked at. -/
def reachTo (l : List (Nat × Nat)) (n : Nat) : Nat → Nat → Bool
  | 0, p => decide (n ≤ p)
  | k + 1, p =>
    if n ≤ p then true
    else match l.find? (fun r => decide (r.1 ≤ p) && decide (p < r.2)) with
      | some r => reachTo l n k r.2
      | none => false

/-- Do the ranges cover bytes 0 to n - 1? -/
def covers (l : List (Nat × Nat)) (n : Nat) : Bool := reachTo l n l.length 0

/-! ### Surface state -/

/-- A surface. -/
def State.surf (s : State) (n : Nat) : Option Surf := Map.find s.pix.surfs n
/-- Replace a surface. -/
def State.setSurf (s : State) (n : Nat) (u : Surf) : State := { s with pix := { s.pix with surfs := Map.put s.pix.surfs n u } }

/-- The layer number and the surface of a LAYER_CONFIG payload. -/
def layerNo (p : List Byte) : Nat := u8 p 0
/-- SURFACE. -/
def layerSurf (p : List Byte) : Nat := u16 p 4

/-- The surface a layer shows now. -/
def State.shownSurf (s : State) (l : Nat) : Option Nat := (Map.find s.pix.layers l).map layerSurf

/-- Is a stream enabled with this target surface? -/
def State.streamTarget (s : State) (n : Nat) : Bool :=
  (List.range 4).any (fun m => s.bit (Reg.ingStrCtl + 0x100 * m) 31 && s.fld (Reg.ingStrCtl + 0x100 * m) 7 0 == n)

/-- Is a surface current on a layer, named by a pending flip group or a staged LAYER_CONFIG, or shown by the protected layer (R219,
R220, R238)? -/
def State.surfShown (s : State) (n : Nat) : Bool :=
  s.pix.layers.any (fun x => layerSurf x.2 == n) ||
  s.pix.flips.any (fun x => x.2.entries.any (fun e => e.2 == n)) ||
  s.pix.staged.any (fun c => match c.change with
    | .layer p => layerSurf p == n
    | .prot p => !p.isEmpty && u8 p 0 < 2 && 14 + u8 p 0 == n
    | _ => false) ||
  (!s.pix.prot.isEmpty && u8 s.pix.prot 0 < 2 && 14 + u8 s.pix.prot 0 == n)

/-- Does a region of DRAM overlap another surface than n or a reserved region, or leave installed DRAM (R219, R283, R344)? -/
def State.regionBad (s : State) (n a len : Nat) : Bool :=
  decide (s.installed < a + len + s.reservedBytes) ||
  s.pix.surfs.any (fun x => x.1 != n && decide (a < x.2.addr + x.2.bufs * foot x.2.fmt x.2.w x.2.h) && decide (x.2.addr < a + len))

/-- Does a COLOUR meet R213 for the format? P3 is RGB only; a tile takes BT.2020, PQ and full range only. -/
def colourOk (tile : Bool) (f c : Nat) : Bool :=
  if tile then c % 16 == 9 else c % 4 != 3 && (c % 4 != 2 || f == 4 || f == 5 || f == 6)

/-- SURFACE_ALLOC (R219, R238). -/
def execSurfaceAlloc (r : Req) (s : State) : Res :=
  runReq 0x0403 r s fun s =>
    let p := r.payload
    let n := u16 p 0
    let f := u8 p 2
    let w := u16 p 4
    let h := u16 p 6
    let bufs := u8 p 8
    let a := u64 p 12
    let lo := if s.isTile then 1 else 16
    let hi := if s.isTile then 512 else 8192
    if (if s.isTile then 15 else 255) < n then (s, rspParam 0)
    else if s.isTile ∧ 14 ≤ n ∧ !r.isSafety then (s, rspErr stNotAuthorized r.slot)
    else if w = 0 ∧ h = 0 then
      if s.surfShown n || s.streamTarget n then (s, rspErr stWrongState 0x0402)
      else ({ s with pix := { s.pix with surfs := Map.del s.pix.surfs n } }, rspOk)
    else if !(if s.isTile then f == 5 || f == 6 else decide (1 ≤ f) && decide (f ≤ 6)) then (s, rspParam 2)
    else if !colourOk s.isTile f (u8 p 3) then (s, rspParam 3)
    else if w < lo ∨ hi < w ∨ (f = 1 ∧ w % 2 = 1) then (s, rspParam 4)
    else if h < lo ∨ hi < h then (s, rspParam 6)
    else if bufs < 1 ∨ 3 < bufs then (s, rspParam 8)
    else if a % 256 ≠ 0 ∨ s.regionBad n a (bufs * foot f w h) then (s, rspParam 12)
    else if (s.surf n).isSome ∧ (s.surfShown n || s.streamTarget n) then (s, rspErr stWrongState 0x0402)
    else (s.setSurf n { fmt := f, colour := u8 p 3 % 16, w := w, h := h, bufs := bufs, addr := a }, rspOk)

/-! ### SURFACE_WRITE (R220, R260) -/

/-- The blocks that bytes `o` to `o + n - 1` of the raw layout touch. -/
def touched (u : Surf) (o n : Nat) : List Nat :=
  ((List.range n).filterMap (fun i =>
    let k := o + i
    let rb := rowBytes u.fmt u.w
    let x := 8 * (k % rb) / fmtBpp u.fmt
    let x2 := (8 * (k % rb) + 7) / fmtBpp u.fmt
    if u.w ≤ x then none
    else some [k / rb / 4 * surfBw u.w + x / 16, k / rb / 4 * surfBw u.w + min x2 (u.w - 1) / 16])).flatten.eraseDups

/-- Has the host or a stream written a byte of block n of buffer 0 since allocation? -/
def Surf.blockWritten (u : Surf) (n : Nat) : Bool :=
  let rb := rowBytes u.fmt u.w
  let x0 := n % surfBw u.w * 16 * fmtBpp u.fmt / 8
  let x1 := ((n % surfBw u.w * 16 + 16) * fmtBpp u.fmt + 7) / 8
  u.streamed.contains n || (List.range 4).any (fun j =>
    let row := (n / surfBw u.w * 4 + j) * rb
    u.written.any (fun r => decide (r.1 < row + x1) && decide (row + x0 < r.2)))

/-- A sample with the written bytes merged in, bit by bit. -/
def mergeSample (u : Surf) (o : Nat) (data : List Byte) (c : Nat) (xy : Nat × Nat) (old : Nat) : Nat :=
  let p := sampleBit u.fmt u.w c xy.1 xy.2
  let d := fmtDepth u.fmt
  (List.range d).foldl (fun v i =>
    let k := (p + i) / 8
    let b := if o ≤ k ∧ k < o + data.length then (data.getD (k - o) 0).toNat.testBit (7 - (p + i) % 8) else old.testBit (d - 1 - i)
    v * 2 + bn b) 0

/-- Merge bytes into one block of buffer 0; nothing where the block cannot be decoded. -/
def State.mergeBlock (s : State) (u : Surf) (o : Nat) (data : List Byte) (n : Nat) : Option State :=
  let old := if u.blockWritten n then s.readBlock u 0 n else .ok []
  match old with
  | .ok cs =>
    let new := (List.range (fmtComps u.fmt)).map (fun c =>
      List.zipWith (fun xy i => mergeSample u o data c xy ((cs.getD c []).getD i 0)) (blockSites u.fmt u.w u.h n c)
        (List.range (compCount u.fmt c)))
    some (s.writeBlock u 0 n new)
  | _ => none

/-- Merge bytes into every touched block; the outcome of the first that fails. -/
def State.mergeBlocks (s : State) (u : Surf) (o : Nat) (data : List Byte) : List Nat → Except Nat State
  | [] => .ok s
  | n :: ns => match s.mergeBlock u o data n with
    | some t => State.mergeBlocks t u o data ns
    | none => .error n

/-- SURFACE_WRITE (R220, R238, R260). -/
def execSurfaceWrite (r : Req) (s : State) : Res :=
  runReq 0x0404 r s fun s =>
    let n := u16 r.payload 0
    let o := u32 r.payload 4
    let data := r.payload.drop 8
    if s.isTile ∧ (n = 14 ∨ n = 15) ∧ !r.isSafety then (s, rspErr stNotAuthorized r.slot)
    else match s.surf n with
    | none => (s, rspErr stWrongState 0x0409)
    | some u =>
      let total := rawBytes u.fmt u.w u.h
      if s.streamTarget n then (s, rspErr stWrongState 0x0405)
      else if s.surfShown n then (s, rspErr stWrongState 0x0402)
      else if o % 8 ≠ 0 ∨ total < o + data.length ∨ (data.length % 8 ≠ 0 ∧ o + data.length ≠ total) then (s, rspParam 4)
      else match s.mergeBlocks u o data (touched u o data.length) with
        | .error k =>
          let b := s.readBlock u 0 k
          (s.noteBlock n 0 k b, rspErr stIntegrity (if b = .c3 then 3 else 2))
        | .ok t =>
          let w := addRange o (o + data.length) u.written
          (t.setSurf n { u with written := w, cur := if covers w total then some 0 else u.cur }, rspOk)

/-- SURFACE_BLOCK_DECODE (R257, R259, R264, R525): a decoder slice reads and decodes one block, reporting what fails. -/
def execSurfaceBlockDecode (surface buffer block : Nat) (s : State) : Res :=
  match s.surf surface with
  | some u =>
    if s.alive ∧ buffer < u.bufs ∧ block < surfBlocks u.w u.h then .next (s.noteBlock surface buffer block (s.readBlock u buffer block))
    else .next s
  | none => .next s

end Sys2Proof.Machine
end

