-- ==== Sys2Proof/Machine/Fit.lean ====
section
/-! DEFINITION. The fields of EMS_CONFIG payloads, the unit schedule of a window, and the checks of fit (R184, R202, R289, R290, R303 to
R312). -/

namespace Sys2Proof.Machine

/-! ### EMS_CONFIG (R330) and units (R303, R304, R307) -/

/-- NCW. -/
def emsNcw (c : List Byte) : Nat := u8 c 0
/-- NSEG. -/
def emsNseg (c : List Byte) : Nat := 2 ^ u8 c 1
/-- SPLIT_K. -/
def emsSplit (c : List Byte) : Nat := u8 c 2
/-- QDEPTH. -/
def emsQdepth (c : List Byte) : Nat := u8 c 3
/-- t_LSB in LAMP cycles. -/
def emsTlsb (c : List Byte) : Nat := u16 c 4
/-- DPL. -/
def emsDpl (c : List Byte) : Nat := u16 c 6
/-- BANK_EN. -/
def emsBanks (c : List Byte) : Nat := u8 c 8 % 16
/-- DIV_b. -/
def emsDiv (c : List Byte) (b : Nat) : Nat := u8 c (12 + b)
/-- FILL enable. -/
def emsFill (c : List Byte) : Bool := (u8 c 10).testBit 0
/-- FILL_SLOT. -/
def emsFillSlot (c : List Byte) : Nat := bitsOf (u8 c 10) 2 1
/-- NFILL. -/
def emsNfill (c : List Byte) : Nat := bitsOf (u8 c 10) 5 4 + 1
/-- STAT_MS. -/
def emsStat (c : List Byte) : Nat := u16 c 16
/-- The largest LCLK divisor of the enabled banks (R308). -/
def emsD (c : List Byte) : Nat := (List.range 4).foldl (fun m b => if (emsBanks c).testBit b then max m (emsDiv c b) else m) 1
/-- Units of a window (R304). -/
def emsUwin (c : List Byte) : Nat := 16 + emsNcw c + (16 - emsSplit c) * (emsNseg c - 1)

/-- A unit: plane word, lit time in LAMP cycles, reference scale c for 2^-c (R303). -/
structure LampUnit where
  word : Nat
  lit : Nat
  scale : Nat
  deriving DecidableEq, Repr

/-- Time planes from k = hi - 1 down to lo, each divided by `seg`. -/
def timeUnits (t seg lo hi : Nat) : List LampUnit :=
  ((List.range (hi - lo)).map (fun i => { word := hi - 1 - i + 4, lit := 2 ^ (hi - 1 - i) * t / seg, scale := 0 }))

/-- The units of a window in show order (R307); a fill pass has no current-weighted planes. -/
def unitsOf (c : List Byte) (fill : Bool) : List LampUnit :=
  let t := emsTlsb c
  let cw := if fill then [] else (List.range (emsNcw c)).map (fun i => { word := 4 - (emsNcw c - i), lit := t, scale := emsNcw c - i : LampUnit })
  let ns := emsNseg c
  cw ++ (List.range ns).flatMap (fun r =>
    timeUnits t ns (emsSplit c) 16 ++ (if r = (ns + 1) / 2 - 1 then timeUnits t 1 0 (emsSplit c) else []))

/-! ### Window schedule (R308) -/

/-- A scheduled unit, in LAMP cycles after the window's start. -/
structure Shown where
  u : LampUnit
  show_ : Nat
  ready : Nat
  stop : Nat
  /-- A dark latch stands before it. -/
  dark : Bool
  deriving DecidableEq, Repr

/-- T_sh. -/
def emsTsh (c : List Byte) : Nat := 72 * emsDpl c * emsD c
/-- T_u. -/
def emsTu (c : List Byte) : Nat := (72 * emsDpl c + 4) * emsD c
/-- G. -/
def emsG (c : List Byte) : Nat := max (2 * emsD c) (u8 c 9)

/-- Schedule the units after those in `done` (latest first). -/
def scheduleFrom (c : List Byte) (done : List Shown) : List LampUnit → List Shown
  | [] => done.reverse
  | u :: us =>
    match done with
    | [] => scheduleFrom c [{ u := u, show_ := 0, ready := 0, stop := u.lit, dark := false }] us
    | p :: _ =>
      let j := done.length + 1
      let r0 := p.ready + emsTu c
      -- show(j - QDEPTH) is element QDEPTH - 1 of the units done, latest first
      let r := if emsQdepth c + 2 ≤ j then max r0 ((done.getD (emsQdepth c - 1) p).show_) else r0
      let back := decide (r ≤ p.stop) && u.scale == p.u.scale
      let sh := if back then p.stop else max r (p.stop + emsG c)
      scheduleFrom c ({ u := u, show_ := sh, ready := r, stop := sh + u.lit, dark := !back } :: done) us

/-- The schedule of a window. -/
def windowPlan (c : List Byte) : List Shown := scheduleFrom c [] (unitsOf c false)

/-- The schedule of the fill passes, from the first unit of pass 1 (R312). -/
def fillPlan (c : List Byte) : List Shown :=
  scheduleFrom c [] ((List.range (emsNfill c)).flatMap (fun _ => unitsOf c true))

/-- The last scheduled unit. -/
def lastShown (l : List Shown) : Shown := l.getLastD { u := { word := 0, lit := 0, scale := 0 }, show_ := 0, ready := 0, stop := 0, dark := false }

/-- When fill starts, in LAMP cycles after the last window's start (R312). -/
def fillStart (c : List Byte) : Nat :=
  let z := lastShown (windowPlan c)
  max (z.stop + emsG c) (z.ready + emsTsh c)

/-- Are n LAMP cycles of 8 ns within a raw duration? A cycle is 524.288 raw LSB. -/
def cyclesFit (n raw : Nat) : Bool := decide (n * 524288 ≤ raw * 1000)

/-- n LAMP cycles of raw time (R39), in 1/1,000 raw LSB: a cycle is 8 ns. -/
def cycleTime (n : Nat) : Nat := n * 524288

/-! ### Fit checks (R290, R311) -/

/-- U_total (R311). -/
def unitTotal (lch c : List Byte) : Nat :=
  lchSlots lch * emsUwin c + (if emsFill c then emsNfill c * (emsUwin c - emsNcw c) else 0)

/-- Shift budget. -/
def shiftFits (lch c : List Byte) : Bool :=
  decide (unitTotal lch c * emsDpl c * 72 * rawPerSec * emsD c ≤ 115000000 * lchSmin lch)

/-- EMS_SHIFT_USE: the shift budget in 1/1,024 of its limit. -/
def shiftUse (lch c : List Byte) : Nat :=
  unitTotal lch c * emsDpl c * 72 * rawPerSec * emsD c * 1024 / max 1 (115000000 * lchSmin lch)

/-- From window w's start to the start of the next window (raw LSB), with the next launch at S_min. -/
def windowGap (lch : List Byte) (w : Nat) : Nat :=
  if w + 1 < lchSlots lch then lchStart lch (w + 1) - lchStart lch w else lchSmin lch + lchStart lch 0 - lchStart lch w

/-- The first window that does not fit (R311), the last one's fill included. -/
def windowBad (lch c : List Byte) : Option Nat :=
  let z := lastShown (windowPlan c)
  (List.range (lchSlots lch)).find? (fun w =>
    let gap := windowGap lch w
    !(cyclesFit z.stop (lchLen lch w) && cyclesFit (z.stop + emsG c) gap && cyclesFit (z.ready + emsTsh c) gap &&
      (!(emsFill c && w + 1 == lchSlots lch) ||
        (let f := lastShown (fillPlan c)
         cyclesFit (fillStart c + f.stop + emsG c) gap && cyclesFit (fillStart c + f.ready + emsTsh c) gap))))

/-- Regions of plane memory (R289). -/
def nRegions (dpl : Nat) : Nat := if dpl = 0 then 0 else min 8 (13107200 / (64 * dpl * 160))

/-- R184 for an emit delay: the last window ends within S_min. -/
def windowsEnd (lch : List Byte) (delay : Nat) : Bool :=
  let w := lchSlots lch - 1
  decide (delay + lchStart lch w + lchLen lch w ≤ lchSmin lch)

/-- R184 and R202 for an emit delay: the last window ends within S_min, and the first shift begins no earlier than L - GUARD + 5 µs. -/
def delayFits (lch c : List Byte) (delay : Nat) : Bool :=
  windowsEnd lch delay &&
    decide ((emsTsh c * 524288 + 1000 * rawUs 5) ≤ (delay + lchStart lch 0 + lchGuard lch) * 1000)

end Sys2Proof.Machine
end

