-- ==== Sys2Proof/Machine/Change.lean ====
section
/-! DEFINITION. Changes at a launch: staging, the configuration a launch uses, taking effect, and the held replies of a tile (R37, R38, R233,
R293). -/

namespace Sys2Proof.Machine

/-! ### What a change does -/

/-- A layer payload with SURFACE 0xFFFF replaced by the layer's surface. -/
def State.resolveLayer (s : State) (p : List Byte) : List Byte :=
  if layerSurf p = 0xFFFF then splice p 4 (b2 ((s.shownSurf (layerNo p)).getD 0xFFFF)) else p

/-- Set a layer's surface, as a flip does. -/
def State.flipLayer (s : State) (e : Nat × Nat) : State :=
  { s with pix := { s.pix with layers := Map.put s.pix.layers e.1 (splice (Map.at s.pix.layers (zeros 40) e.1) 4 (b2 e.2)) } }

/-- Where the current and the pending mesh of a layer stand in DRAM (R225). DESIGN CHOICE (log entry 38): from the bottom of the regions that
R344 reserves, 34,816 bytes each. -/
def State.meshAddr (s : State) (l : Nat) (pending : Bool) : Nat := s.installed - s.reservedBytes + 34816 * (2 * l + bn pending)

/-- The pending mesh becomes current and stays a copy of it (R225); a word that cannot be read stays so in the copy. -/
def State.swapMesh (s : State) (l : Nat) : State :=
  let a := s.meshAddr l true
  let b := s.meshAddr l false
  let t := s.memWrite b ((List.range 33800).map (fun i => s.memByte (a + i)))
  let bad := (s.mem.bad.filter (fun w => decide (a / 8 ≤ w) && decide (w < (a + 33800) / 8))).map (fun w => w - a / 8 + b / 8)
  { t with mem := { t.mem with bad := bad ++ t.mem.bad } }

/-- The Almanac sets all become not LOADED (R284). -/
def State.dropSets (s : State) : State :=
  { s with lpp := { s.lpp with sets := s.lpp.sets.map (fun x => { x with loaded := false, written := [] }) } }

/-- The effect of a staged change. -/
def State.applyChange (s : State) : Change → State
  | .layer p =>
    let t := { s with pix := { s.pix with layers := Map.put s.pix.layers (layerNo p) (s.resolveLayer p) } }
    if (u8 p 1).testBit 1 then t.swapMesh (layerNo p) else t
  | .prot p => { s with pix := { s.pix with prot := p } }
  | .bg a w => s.setReg a w
  | .coder c r m f => { s with pix := { s.pix with coder := s.pix.coder.set c (r, m, f) } }
  | .lpp p =>
    let same := lppW p == lppW s.lpp.cfg && lppH p == lppH s.lpp.cfg && lppPrims p == lppPrims s.lpp.cfg
    let t := { s with lpp := { s.lpp with cfg := p } }
    if same then t else t.dropSets
  | .lut c => { s with lpp := { s.lpp with lut := s.lpp.lut.set c (s.lpp.lutPend.getD c []) } }
  | .mask m => { s with lpp := { s.lpp with mask := m, active := if m = 0 then s.lpp.active else 1 - s.lpp.active, fresh := false,
                                            regenAt := s.now } }
  | .trim _ a w => s.setReg a w
  | .irefSet i x => { s with cal := { s.cal with sets := s.cal.sets.set i x } }
  | .gain i c g t =>
    let x := s.cal.sets.getD i {}
    let y : CalSet := { t := if x.valid = 0 then t else x.t, valid := x.valid ||| 2 ^ c, g := x.g.set c g }
    { s with cal := { s.cal with sets := s.cal.sets.set i y } }

/-- The event of a change that takes effect for launch n (R238, R251, R293, R402). -/
def State.changeEvent (s : State) (n : Nat) : Change → State
  | .prot p => s.raise 326 1 (bn (!p.isEmpty) + (if p.isEmpty then 0 else u8 p 0 % 4 * 2))
  | .coder c r m f => s.raise 389 0 (c + r * 4 + m * 16 + f * 256 + n % 8192 * 65536)
  | .lpp _ => s.raise 455 1 (n % 8192 + 65536)
  | .lut c => s.raise 455 1 (n % 8192 + 2 * 65536 + c * 2 ^ 20)
  | .mask _ => s.raise 455 1 (n % 8192 + 3 * 65536)
  | .trim k _ _ => s.raise 709 1 (n % 8192 + k * 8192)
  | .irefSet _ _ => s.raise 709 1 (n % 8192)
  | .gain _ _ _ _ => s.raise 709 1 (n % 8192)
  | _ => s

/-- Does a change with this first launch bear on launch n? -/
def firstOk (first : Option Nat) (n : Nat) : Bool :=
  match first with | none => true | some m => n == m || isAfter n m

/-- The configuration that launch n of a tile is computed with: the staged changes that bear on it and the ready flip groups applied
(R293). -/
def State.viewFor (s : State) (n : Nat) : State :=
  let t := (s.pix.staged.filter (fun p => firstOk p.first n)).foldl (fun u p => u.applyChange p.change) s
  (s.pix.flips.filter (fun f => f.2.ready && firstOk f.2.first n)).foldl (fun u f => f.2.entries.foldl State.flipLayer u) t

/-- The configuration as it will stand once every staged change has taken effect (R251). -/
def State.viewAll (s : State) : State := s.pix.staged.foldl (fun u p => u.applyChange p.change) s

/-! ### Taking effect -/

/-- A ready flip group takes effect for launch n (R233): surfaces, EV_320, CMP_FLIP_CNT, and the FLIP's EV_19. -/
def State.takeFlip (s : State) (n : Nat) (g : Nat × Flip) : State :=
  let t := g.2.entries.foldl State.flipLayer s
  let t := { t with pix := { t.pix with flips := Map.del t.pix.flips g.1 } }
  ((t.bump Reg.cmpFlipCnt).raise 320 0 (g.1 + n % 8192 * 16)).complete g.2.req stOk

/-- Is a flip group ready in time for a cut-off (R233): before L - guard in a tile; in a lead in a row before the announcement at A(L)? -/
def State.flipInTime (s : State) (cutoff : Nat) (f : Flip) : Bool :=
  f.ready && (if s.isTile then decide (f.readyAt < cutoff) else decide (f.readyAt ≤ cutoff))

/-- The changes answered OK by the cut-off, and the groups ready by it, take effect together for launch n (R37, R233). -/
def State.takeEffect (s : State) (n cutoff : Nat) : State :=
  let due (p : Pending) : Bool := decide (p.okAt ≤ cutoff) && firstOk p.first n
  let now_ := s.pix.staged.filter due
  let t := { s with pix := { s.pix with staged := s.pix.staged.filter (fun p => !due p) } }
  let t := now_.foldl (fun u p => (u.applyChange p.change).changeEvent n p.change) t
  (t.pix.flips.filter (fun f => s.flipInTime cutoff f.2 && firstOk f.2.first n)).foldl (fun u f => u.takeFlip n f) t

/-- EV_322 where a visible layer's surface begins to lack a complete frame (R223). -/
def State.noteBare (s : State) : State :=
  let lacks (x : Nat × List Byte) : Bool := (u8 x.2 1).testBit 0 &&
    (match s.surf (layerSurf x.2) with | some u => u.cur.isNone | none => true)
  let bare := (s.pix.layers.filter lacks).map Prod.fst
  let new := s.pix.layers.filter (fun x => lacks x && !s.pix.bare.contains x.1)
  new.foldl (fun t x => t.raise 322 2 (x.1 % 32 + layerSurf x.2 % 256 * 256)) { s with pix := { s.pix with bare := bare } }

/-! ### Staging with the reply rule (R37, R293) -/

/-- L - guard of a launch, in the active domain. -/
def State.guardOf (s : State) (l : Launch) : Nat := (s.inActive l - (lchGuard s.lch.cfg * 1000 : Nat)).toNat

/-- The launches the pipeline has begun that the tile still holds. -/
def State.begunHeld (s : State) : List Launch := s.lch.table.filter (fun l => s.lpp.begun.any (fun b => b.1 == l.n))

/-- The latest of the launches begun. -/
def State.lastBegun (s : State) : Option Nat :=
  s.lpp.begun.foldl (fun m b => match m with | none => some b.1 | some x => if isAfter b.1 x then some b.1 else some x) none

/-- The first launch whose first sub-frame the pipeline has not begun (R293); none in a lead, or where none was begun. -/
def State.firstUnbegun (s : State) : Option Nat := if s.isTile then s.lastBegun.map (fun n => (n + 1) % 2 ^ 32) else none

/-- The derived instant until which a tile holds the reply (R293): L - guard of every launch begun; 0 for none. -/
def State.holdUntil (s : State) : Nat := if s.isTile then (s.begunHeld.map s.guardOf).foldl max 0 else 0

/-- Derived time now as a natural number. -/
def State.derived (s : State) : Nat := s.derivedNow.toNat

/-- Add a staged change; an earlier one to the same field is replaced by the later at the launch. -/
def State.addChange (s : State) (c : Change) (okAt : Nat) (first : Option Nat) : State :=
  { s with pix := { s.pix with staged := s.pix.staged ++ [{ change := c, okAt := okAt, first := first }] } }

/-- Stage a change of R293 and answer, or hold the reply in a tile. -/
def State.stageReply (s : State) (op : Nat) (r : Req) (c : Change) : State × Option Rsp :=
  let u := s.holdUntil
  if s.derived < u then
    let t := s.addChange c u s.firstUnbegun
    ({ t with pix := { t.pix with heldReplies := t.pix.heldReplies ++ [{ op := op, req := r, status := stOk, until_ := u }] } }, none)
  else (s.addChange c s.derived s.firstUnbegun, some rspOk)

/-- DEFERRED_CHANGE_REPLY (R293): the first held reply whose time has come is sent; a FLIP is accepted at that instant. -/
def execDeferredChangeReply (s : State) : Res :=
  match s.pix.heldReplies.find? (fun h => decide (h.until_ ≤ s.derived)) with
  | none => .next s
  | some h =>
    if !s.alive then .next s
    else
      let t := { s with pix := { s.pix with heldReplies := s.pix.heldReplies.erase h } }
      .next (t.answer t h.op h.req { status := h.status })

end Sys2Proof.Machine
end

