-- ==== Sys2Proof/Machine/Colour.lean ====
section
/-! DEFINITION. Conversion and blending of colours (R224, R226 to R228, R237): the transfer functions of ST 2084 and BT.2100, the primaries,
the blend and the tolerance of its output. Real numbers are fixed-point numbers with 80 fraction bits, light in units of 10,000 cd/m²; the
series below are exact to some 70 bits, so that a rounded code is the code of exact arithmetic but for exact halves (DEDUCED, log entry 5). -/

namespace Sys2Proof.Machine

/-! ### Powers -/

/-- 1.0. -/
def fxOne : Nat := 2 ^ 80

/-- ln 2. -/
def fxLn2 : Nat := 837963523372001241319907

/-- log10 2. -/
def fxLog10Of2 : Nat := 363922934236666733021124

/-- The next bits of log2 of m, 1 ≤ m < 2: squaring doubles the logarithm. -/
def lgBits : Nat → Nat → Nat → Nat
  | 0, _, acc => acc
  | k + 1, m, acc =>
    let q := m * m / fxOne
    if 2 * fxOne ≤ q then lgBits k (q / 2) (2 * acc + 1) else lgBits k q (2 * acc)

/-- log2 of a positive number. -/
def fxLog2 (x : Nat) : Int := ((Nat.log2 x : Int) - 80) * fxOne + lgBits 80 (x * fxOne / 2 ^ Nat.log2 x) 0

/-- The sum of the terms t^n / n! from one of them on. -/
def expTerms : Nat → Nat → Nat → Nat → Nat
  | 0, _, _, _ => 0
  | k + 1, n, t, term => term + expTerms k (n + 1) t (term * t / fxOne / n)

/-- 2 to the power of y. -/
def fxExp2 (y : Int) : Nat :=
  let k := y / fxOne
  let v := expTerms 32 1 ((y % fxOne).toNat * fxLn2 / fxOne) fxOne
  if 0 ≤ k then v * 2 ^ k.toNat else v / 2 ^ (-k).toNat

/-- x to the power of p / q, p and q positive. -/
def fxPow (x p q : Nat) : Nat := if x = 0 then 0 else fxExp2 (fxLog2 x * p / q)

/-! ### Transfer functions (R226, R227) -/

/-- The PQ EOTF of ST 2084 at 0 to 1. -/
def pqEotf (e : Nat) : Nat :=
  let v := fxPow e 32 2523
  fxPow ((v - 107 * fxOne / 128) * fxOne / ((2413 * fxOne - 2392 * v) / 128)) 8192 1305

/-- The PQ inverse EOTF. -/
def pqInverse (y : Nat) : Nat :=
  let v := fxPow y 1305 8192
  fxPow ((107 * fxOne + 2413 * v) / 128 * fxOne / (fxOne + 2392 * v / 128)) 2523 32

/-- A 12-bit full-range PQ code as light, and light as the nearest such code (R536). -/
def pqDecode (code : Nat) : Nat := pqEotf (code * fxOne / 4095)
/-- The code. -/
def pqEncode (y : Nat) : Nat := min 4095 (roundDivN (pqInverse y * 4095) fxOne)

/-- Entry e of the linearisation tables after main-side reset (R276). -/
def pqLut (e : Nat) : Nat := roundDivN (16777215 * pqDecode e) fxOne

/-- The HLG inverse OETF of BT.2100 at 0 to 1: scene light. -/
def hlgScene (e : Nat) : Nat :=
  if 2 * e ≤ fxOne then e * e / fxOne / 3
  else (fxExp2 (((e : Int) * 100000000 - 55991073 * fxOne) * fxOne / (17883277 * fxLn2 : Nat)) + 28466892 * fxOne / 100000000) / 12

/-- The system gamma less 1 at L_W: 0.2 + 0.42 × log10(L_W / 1,000). -/
def hlgGamma (lw : Nat) : Int := fxOne / 5 + 42 * (fxLog2 (lw * fxOne / 1000) * fxLog10Of2 / fxOne) / 100

/-- The HLG OOTF of BT.2100 with L_B = 0: display light of scene light r, g, b. -/
def hlgOotf (lw : Nat) (c : List Nat) : List Nat :=
  let ys := (2627 * c.getD 0 0 + 6780 * c.getD 1 0 + 593 * c.getD 2 0) / 10000
  let k := if ys = 0 then 0 else fxExp2 (fxLog2 ys * hlgGamma lw / fxOne)
  c.map (fun e => lw * (k * e / fxOne) / 10000)

/-! ### One layer's sample (R224, R226) -/

/-- A filtered component of a sample, in 2^-26 of a code: the separable filter over the 8 × 8 taps. -/
def filtered (l : Config.LayerIn) (c : Nat) : Int :=
  ((List.range 8).map (fun j => l.coefY.getD j 0 *
    ((List.range 8).map (fun i => l.coefX.getD i 0 * (l.taps.getD (8 * j + i) []).getD c 0)).sum)).sum

/-- Step 1: a component normalised by depth and range, onto 0 to 1, or −0.5 to 0.5 for chroma. -/
def normalised (l : Config.LayerIn) (chroma : Bool) (v : Int) : Int :=
  let deep := !(l.fmt == 1 || l.fmt == 2 || l.fmt == 4)
  let m : Int := if deep then 4 else 1
  if l.colour / 8 % 2 = 1 then v * 2 ^ 54 / (if deep then 4095 else 1023) - (if chroma then 2 ^ 79 else 0)
  else if chroma then (v * 2 ^ 54 - 512 * m * fxOne) / (896 * m)
  else (v * 2 ^ 54 - 64 * m * fxOne) / (876 * m)

/-- K_r and K_b of the YCbCr matrix of R213, in 1/10,000: BT.2020 non-constant luminance, or BT.709. -/
def yuvWeights (colour : Nat) : Int × Int := if colour % 4 = 1 then (2627, 593) else (2126, 722)

/-- Step 2: R′G′B′. -/
def primed (l : Config.LayerIn) : List Int :=
  if l.fmt ≤ 3 then
    let cb := normalised l true (filtered l 0)
    let y := normalised l false (filtered l 1)
    let cr := normalised l true (filtered l 2)
    let (kr, kb) := yuvWeights l.colour
    let r := y + 2 * (10000 - kr) * cr / 10000
    let b := y + 2 * (10000 - kb) * cb / 10000
    [r, (10000 * y - kr * r - kb * b) / (10000 - kr - kb), b]
  else [0, 1, 2].map (fun c => normalised l false (filtered l c))

/-- Step 3: light. Outside 0 to 1 the transfer functions are not stated, nor is L_W outside 100 to 10,000: free values (log entry 5). -/
def lightOf (l : Config.LayerIn) : List Nat :=
  let hlg := (l.colour / 4 % 2 == 1)
  let lw := if 100 ≤ l.lw ∧ l.lw ≤ 10000 then l.lw else Config.hlgPeak l.lw
  let one (e : Int) : Nat :=
    if e < 0 ∨ (fxOne : Int) < e then Config.beyondCurve hlg e
    else if hlg then hlgScene e.toNat else pqEotf e.toNat
  let c := (primed l).map one
  if hlg then hlgOotf lw c else c

/-- The matrix from a layer's primaries to BT.2020, from the chromaticities of the three and of D65: its denominator and its rows. -/
def primaries (colour : Nat) : Int × List (List Int) :=
  if colour % 4 = 0 then
    (14976266648612615003700,
      [[9396168041896453638840, 4931430585612527315930, 648668021103634048930],
       [1034819430125226421830, 13771282150820660494385, 170165067666728087485],
       [245482559348685406272, 1318110767395770031264, 13412673321868159566164]])
  else if colour % 4 = 2 then
    (10157931863405254264000,
      [[7657384599430401990990, 2017338543088023707720, 483208720886828565290],
       [464662900960010854255, 9566508829354415979040, 126760133090827430705],
       [-12294554852726899368, 178797045023392571076, 9991429373234588592292]])
  else (1, [[1, 0, 0], [0, 1, 0], [0, 0, 1]])

/-- Coverage A of a sample: the fourth component of format 0x06, else 1. -/
def coverage (l : Config.LayerIn) : Nat :=
  if l.fmt = 6 then (clampInt 0 fxOne (filtered l 3 * 2 ^ 54 / 4095)).toNat else fxOne

/-- α of a layer at a pixel: A × ALPHA / 4,095. -/
def alphaOf (l : Config.LayerIn) : Nat := coverage l * l.alpha / 4095

/-- Steps 4 to 6: what a layer adds, in BT.2020 light; the colour of format 0x06 is premultiplied already. -/
def layerLight (l : Config.LayerIn) : List Nat :=
  let v := lightOf l
  let (den, rows) := primaries l.colour
  rows.map (fun row =>
    let x : Int := (List.zipWith (fun (m : Int) (e : Nat) => m * e) row v).sum / den
    let x := x * l.gain / 4096 * (if l.fmt = 6 then fxOne else coverage l) / fxOne * l.alpha / 4095
    (clampInt 0 fxOne x).toNat)

/-! ### Blending (R227, R228) -/

/-- C := C_layer + (1 − α) C. -/
def blendOver (c : List Nat) (l : Config.LayerIn) : List Nat :=
  List.zipWith (fun x y => x + (fxOne - alphaOf l) * y / fxOne) (layerLight l) c

/-- The codes of exact arithmetic for layers over a base. -/
def exactCodes (base : Nat × Nat × Nat) (ls : List Config.LayerIn) : List Nat :=
  (ls.foldl blendOver [pqDecode base.1, pqDecode base.2.1, pqDecode base.2.2]).map pqEncode

/-- The tolerance of an output code (R228): 1 for a single opaque layer with GAIN 1.0, unscaled and without a mesh; with blending or filtering 1
more. -/
def codeTolerance : List Config.LayerIn → Nat
  | [] => 0
  | [l] => if l.plain && l.fmt != 6 && l.gain == 0x1000 && l.alpha == 0xFFF then 1 else 2
  | _ => 2

/-- A code off by at most a tolerance; which of these codes comes out is left open. -/
def withinCode (tol free code : Nat) : Nat := min 4095 (code + free % (2 * tol + 1) - tol)

/-- A pixel composed of layers, bottom to top, over a base in 12-bit PQ codes (R226 to R228, R237). -/
def composePixel (base : Nat × Nat × Nat) (ls : List Config.LayerIn) : Nat × Nat × Nat :=
  let one (c : Nat) : Nat := withinCode (codeTolerance ls) (Config.codeError base ls c) ((exactCodes base ls).getD c 0)
  if ls.isEmpty then base else (one 0, one 1, one 2)

end Sys2Proof.Machine
end

