-- ==== Sys2Proof/Machine/Compositor.lean ====
section
/-! DEFINITION. The compositor: layers, meshes, flip groups and fences, the protected layer, the tile map and the composition of a tile
(R221 to R234, R237 to R240). -/

namespace Sys2Proof.Machine

/-! ### Layers (R222, R223) -/

/-- Layers of the role: 32 in a lead, 2 in a tile. -/
def State.nLayers (s : State) : Nat := if s.isTile then 2 else 32

/-- The latest payload of a layer: staged, or current. -/
def State.layerNext (s : State) (l : Nat) : Option (List Byte) :=
  Map.find (s.viewAll).pix.layers l

/-- Every layer's payload as it will stand, with one replaced. -/
def State.layersWith (s : State) (l : Nat) (p : List Byte) : List (List Byte) :=
  (Map.put s.viewAll.pix.layers l p).map Prod.snd

/-- Does a coefficient bank have a phase whose coefficients do not sum to 512 (R223)? Those of the built-in filter do (DEDUCED). -/
def State.bankBad (s : State) (b : Nat) : Bool :=
  let tap (ph k : Nat) : Nat := Reg.cmpCoef0 + 0x800 * b + 0x20 * ph + 4 * k
  (List.range 64).any (fun ph =>
    (List.range 8).any (fun k => (Map.find s.regs (tap ph k)).isSome) &&
      ((List.range 8).map (fun k => signed 10 (s.fld (tap ph k) 9 0))).sum != 512)

/-- Is a layer in a pending flip group? -/
def State.layerFlipping (s : State) (l : Nat) : Bool := s.pix.flips.any (fun f => f.2.entries.any (fun e => e.1 == l))

/-- The accepted STREAM_CONFIG of a locked stream; empty for DRAM surfaces (R235). -/
def Strm.lock (x : Strm) : List Byte := if (u8 x.conf 1).testBit 0 then x.conf else []

/-- Does a locked stream show on the layer (R235)? -/
def State.lockedLayer (s : State) (l : Nat) : Option Nat :=
  (List.range 4).find? (fun m => match s.pix.streams[m]? with
    | some x => !x.lock.isEmpty && u8 x.lock 2 == l
    | none => false)

/-- Two bits or more of a slot mask set? -/
def manySlots (m : Nat) : Bool := decide (1 < popCount 4 m)

/-- Rotation code of a layer's LFLAGS. -/
def layerRot (p : List Byte) : Nat := bitsOf (u8 p 1) 5 4

/-- Source width and height after rotation. -/
def rotSize (p : List Byte) : Nat × Nat :=
  if layerRot p % 2 = 1 then (u16 p 14, u16 p 12) else (u16 p 12, u16 p 14)

/-- Is a scale within 1/4 to 16? -/
def scaleOk (dst src : Nat) : Bool := decide (256 * src ≤ 4 * dst) && decide (dst ≤ 16 * 256 * src)

/-- The refusal of a LAYER_CONFIG payload (R222, R223, R230, R235, R266), if any. -/
def State.layerRefusal (s : State) (r : Req) : Option Rsp :=
  let p := r.payload
  let l := layerNo p
  let fl := u8 p 1
  let n := if layerSurf p = 0xFFFF then ((s.layerNext l).map layerSurf).getD 0xFFFF else layerSurf p
  let mesh := fl.testBit 2
  if s.nLayers ≤ l then some (rspParam 0)
  else if s.isTile ∧ (n = 14 ∨ n = 15) then some (rspErr stNotAuthorized r.slot)
  else if s.isTile ∧ (fl.testBit 1 ∨ mesh ∨ bitsOf fl 6 4 ≠ 0) then some (rspParam 1)
  else if mesh ∧ bitsOf fl 6 4 ≠ 0 then some (rspParam 1)
  else if (s.lockedLayer l).isSome ∧ (mesh ∨ bitsOf fl 6 4 ≠ 0) then some (rspParam 1)
  else if (s.lockedLayer l).isSome ∧ manySlots (u8 p 2) then some (rspParam 2)
  else if s.bankBad (u8 p 3 % 4) then some (rspParam 3)
  else match s.surf n with
  | none => some (rspParam 4)
  | some u =>
    if u16 p 12 = 0 ∨ u.w < u16 p 8 + u16 p 12 then some (rspParam 8)
    else if u16 p 14 = 0 ∨ u.h < u16 p 10 + u16 p 14 then some (rspParam 10)
    else if s.isTile ∧ u32 p 16 % 256 ≠ 0 then some (rspParam 16)
    else if s.isTile ∧ u32 p 20 % 256 ≠ 0 then some (rspParam 20)
    else if s.isTile ∧ u32 p 24 ≠ 256 * u16 p 12 then some (rspParam 24)
    else if s.isTile ∧ u32 p 28 ≠ 256 * u16 p 14 then some (rspParam 28)
    else if !mesh ∧ !scaleOk (u32 p 24) (rotSize p).1 then some (rspParam 24)
    else if !mesh ∧ !scaleOk (u32 p 28) (rotSize p).2 then some (rspParam 28)
    else if u.colour.testBit 2 ∧ (u16 p 36 < 100 ∨ 10000 < u16 p 36) then some (rspParam 36)
    else if layerSurf p ≠ 0xFFFF ∧ s.layerFlipping l then some (rspErr stBusy 0x0401)
    else if fl.testBit 1 ∧ !covers (Map.at s.pix.meshes [] l) 33800 then some (rspErr stWrongState 0x0404)
    else if s.isLead ∧ decodeOver s.lch.cfg (s.layersWith l p) then some (rspErr stBadParam 0x8003)
    else if s.isTile ∧ tileOver s.lch.cfg s.viewAll.lpp.cfg (s.layersWith l p) s.viewAll.pix.prot then some (rspErr stBadParam 0x8006)
    else none

/-- LAYER_CONFIG (R222, R223). -/
def execLayerConfig (r : Req) (s : State) : Res :=
  runReqLater 0x0400 r s fun s =>
    match s.layerRefusal r with
    | some a => (s, some a)
    | none => s.stageReply 0x0400 r (.layer r.payload)

/-! ### Meshes (R225) -/

/-- MESH_LOAD (R225). -/
def execMeshLoad (r : Req) (s : State) : Res :=
  runReq 0x0405 r s fun s =>
    let l := u8 r.payload 0
    let o := u16 r.payload 2
    let data := r.payload.drop 4
    if 32 ≤ l then (s, rspParam 0)
    else if o % 8 ≠ 0 ∨ 33800 < o + data.length then (s, rspParam 2)
    else if s.pix.staged.any (fun p => match p.change with
        | .layer q => layerNo q == l && (u8 q 1).testBit 1
        | _ => false) then (s, rspErr stWrongState 0x0408)
    else
      let t := s.memWrite (s.meshAddr l true + o) data
      ({ t with pix := { t.pix with meshes := Map.put t.pix.meshes l (addRange o (o + data.length) (Map.at t.pix.meshes [] l)) } }, rspOk)

/-! ### Flip groups and fences (R231 to R234) -/

/-- Does a fence value satisfy WAIT (R232)? -/
def fenceOk (v wait : Nat) : Bool := decide ((v + 2 ^ 32 - wait) % 2 ^ 32 < 2 ^ 31)

/-- Entries of a FLIP payload: layers and surfaces. -/
def flipEntries (p : List Byte) : List (Nat × Nat) :=
  (List.range (u8 p 1)).map (fun e => (u8 p (12 + 4 * e), u16 p (14 + 4 * e)))

/-- The first entry of a FLIP that is refused, with the offset in it (R231). -/
def State.flipEntryBad (s : State) (es : List (Nat × Nat)) : Option Nat :=
  ((List.range es.length).filterMap (fun i =>
    let (l, n) := es.getD i (0, 0)
    if s.nLayers ≤ l ∨ (es.take i).any (fun x => x.1 == l) then some (12 + 4 * i)
    else match s.surf n with
      | none => some (14 + 4 * i)
      | some u =>
        let p := (s.layerNext l).getD (zeros 40)
        if u.w < u16 p 8 + u16 p 12 ∨ u.h < u16 p 10 + u16 p 14 then some (14 + 4 * i) else none)).head?

/-- FLIP (R231, R233, R293). -/
def execFlip (r : Req) (s : State) : Res :=
  runReqLater 0x0401 r s fun s =>
    let p := r.payload
    let g := u8 p 0
    let es := flipEntries p
    let fence := u16 p 4
    let wait := u32 p 8
    let expiry := u16 p 2
    if 16 ≤ g then (s, some (rspParam 0))
    else if u8 p 1 = 0 ∨ s.nLayers < u8 p 1 then (s, some (rspParam 1))
    else if s.isTile ∧ expiry ≠ 0 then (s, some (rspParam 2))
    else if (s.isTile ∧ fence ≠ 0) ∨ 1023 < fence then (s, some (rspParam 4))
    else match s.flipEntryBad es with
    | some o => (s, some (rspParam o))
    | none =>
      if (Map.find s.pix.flips g).isSome ∨ es.any (fun e => s.layerFlipping e.1) then (s, some (rspErr stBusy 0x0401))
      else if s.isLead ∧ decodeOver s.lch.cfg (s.viewAll.pix.layers.map Prod.snd) then (s, some (rspErr stBadParam 0x8003))
      else
        let u := s.holdUntil
        let held := decide (s.derived < u)
        let ready := fence = 0 ∨ fenceOk (Map.at s.pix.fences 0 fence) wait
        let f : Flip := { req := r, entries := es, fence := fence, wait := wait, ready := decide ready,
                          deadline := if expiry = 0 then none else some (s.now + rawMs expiry),
                          readyAt := if held then u else s.derived, first := s.firstUnbegun }
        let t := { s with pix := { s.pix with flips := Map.put s.pix.flips g f } }
        if held then
          ({ t with pix := { t.pix with heldReplies := t.pix.heldReplies ++
              [{ op := 0x0401, req := r, status := stAccepted, until_ := u, group := some g }] } }, none)
        else (t, some rspAccepted)

/-- Groups that a fence value makes ready. -/
def State.readyGroups (s : State) (fence v : Nat) : State :=
  { s with pix := { s.pix with flips := s.pix.flips.map (fun f =>
      if f.2.fence = fence ∧ !f.2.ready ∧ fenceOk v f.2.wait then (f.1, { f.2 with ready := true, readyAt := s.derived }) else f) } }

/-- FENCE_SIGNAL (R232, R233). -/
def execFenceSignal (r : Req) (s : State) : Res :=
  runReq 0x0402 r s fun s =>
    let f := u16 r.payload 0
    let v := u32 r.payload 4
    let cur := Map.at s.pix.fences 0 f
    if f = 0 ∨ 1023 < f then (s, rspParam 0)
    else if v = cur then (s, rspOk)
    else if !fenceOk v cur then (s, rspParam 4)
    else (({ s with pix := { s.pix with fences := Map.put s.pix.fences f v } }).readyGroups f v, rspOk)

/-- FENCE_TIMEOUT (R234): a group past its time-out is discarded, or made ready where 0x0401 is armed; a signal at the instant of the time-out
comes before it. -/
def execFenceTimeout (s : State) : Res :=
  match s.pix.flips.find? (fun f => !f.2.ready && (match f.2.deadline with | some d => decide (d < s.now) | none => false)) with
  | none => .next s
  | some (g, f) =>
    if !s.alive then .next s
    else
      let armed := s.isArmed 0x0401
      let t := (s.bump Reg.cmpFenceToCnt).raiseA 321 2 (g + bn armed * 16 + f.fence * 32) armed
      if armed then
        .next { t with pix := { t.pix with flips := Map.put t.pix.flips g { f with ready := true, readyAt := s.derived } } }
      else
        let t := { t with pix := { t.pix with flips := Map.del t.pix.flips g } }
        .next (t.complete f.req stWrongState)

/-! ### The protected layer (R238, R239) -/

/-- PROT_LAYER_SET (R238). -/
def execProtLayerSet (r : Req) (s : State) : Res :=
  runReqLater 0x0407 r s fun s =>
    let p := r.payload
    let c := u8 p 0
    let v := s.viewAll
    if 2 < c then (s, some (rspParam 0))
    else if lppW v.lpp.cfg < u16 p 4 + u16 p 8 then (s, some (rspParam 4))
    else if lppH v.lpp.cfg < u16 p 6 + u16 p 10 then (s, some (rspParam 6))
    else
      let bad : Option Nat := if c = 2 then none else match s.surf (14 + c) with
        | none => some 0
        | some u => if u.cur.isNone then some 0 else if u.w ≠ u16 p 8 then some 8 else if u.h ≠ u16 p 10 then some 10 else none
      match bad with
      | some o => (s, some (rspParam o))
      | none => s.stageReply 0x0407 r (.prot p)

/-- PROT_LAYER_CLEAR (R238). -/
def execProtLayerClear (r : Req) (s : State) : Res :=
  runReqLater 0x0408 r s fun s => s.stageReply 0x0408 r (.prot [])

/-! ### Enable (R230, R266, R468) -/

/-- The region of a tile on the canvas: width and height swap in orientations 1 and 3 (R221). -/
def regionSize (orient w h : Nat) : Nat × Nat := if orient % 2 = 1 then (h, w) else (w, h)

/-- Does a VALID region leave the canvas? -/
def State.regionOff (s : State) : Bool :=
  s.tileMap.any (fun e =>
    let i := 64 * e.1 + e.2.1
    let w0 := (s.reg (Reg.cmpTmap0 + 8 * i)).toNat
    let (w, h) := regionSize (s.fld (Reg.cmpTmap1 + 8 * i) 21 20) e.2.2.1 e.2.2.2
    decide (s.fld Reg.cmpCanvas 15 0 < w0 % 65536 + w) || decide (s.fld Reg.cmpCanvas 31 16 < w0 / 65536 + h))

/-- What refuses ENABLE: 0 none, 1 the canvas, 2 a forced-off domain, else a DETAIL of R44. -/
def State.cmpRefusal (s : State) : Nat :=
  let pipes := if s.isTile then 1 else 8
  if (List.range pipes).any (fun i => s.forced (48 + i) || (s.isLead && s.forced (56 + i))) || (List.range 8).any (fun i => s.forced (64 + i))
  then 2
  else if s.regionOff then 1
  else if s.lch.cfg.isEmpty then 0
  else if s.outputOver s.lch.cfg then 0x8001
  else if s.encodeOver s.lch.cfg then 0x8002
  else if s.chainOver s.lch.cfg (fun c => (s.viewAll.pix.coder.getD c (0, 0, 0)).1) then 0x8004
  else 0

/-- CMP_ENABLE (R230): a write of CMP_CFG through BAR0; a refused ENABLE stays 0 and raises EV_25. -/
def execCmpEnable (cfg : Word) (s : State) : Res :=
  if !s.alive then .next s
  else if !cfg.toNat.testBit 0 then .next (s.setFld Reg.cmpCfg 0 0 0)
  else if s.cmpRefusal ≠ 0 then .next ((s.setFld Reg.cmpCfg 0 0 0).raise 25 1 Reg.cmpCfg)
  else .next (s.setFld Reg.cmpCfg 0 0 1)

/-- CMP_CNT_CLR. -/
def execCmpCntClr (data : Word) (s : State) : Res :=
  if !s.alive then .next s else .next (s.clearCounters Reg.cmpFlipCnt 3 data.toNat)

/-! ### Composition of a pixel (R224 to R227) -/

/-- A read of a layer's content that failed its checks (R229): a block of a surface, or a mesh of a layer; with the stage, 2 or 3. -/
inductive BadRead
  | block (surf n stage : Nat)
  /-- A node of a mesh, at its DRAM address. -/
  | mesh (layer addr : Nat)
  deriving DecidableEq, Repr

/-- The stage that failed. -/
def BadRead.stage : BadRead → Nat
  | .block _ _ k => k
  | .mesh _ _ => 3

/-- The surface or layer number, and whether it is a mesh (EV_325). -/
def BadRead.source : BadRead → Nat
  | .block n _ _ => n % 256 * 256
  | .mesh l _ => l % 256 * 256 + 65536

/-- Offsets of a canvas position's centre from a layer's destination, and the destination's size, in 1/256 pixel; nothing where the layer does
not cover it (R224). -/
def layerAt (p : List Byte) (cx cy : Nat) : Option (Int × Int × Int × Int) :=
  let dx := 256 * (cx : Int) + 128 - signed 32 (u32 p 16)
  let dy := 256 * (cy : Int) + 128 - signed 32 (u32 p 20)
  let dw : Int := u32 p 24
  let dh : Int := u32 p 28
  if dx < 0 ∨ dw ≤ dx ∨ dy < 0 ∨ dh ≤ dy then none else some (dx, dy, dw, dh)

/-- Where a layer without a mesh samples for canvas position (cx, cy), in 1/64 pixel of the surface, sample centres at whole pixels: rotation,
then mirror undone (R224). -/
def layerPos (p : List Byte) (cx cy : Nat) : Option (Int × Int) :=
  (layerAt p cx cy).map (fun (dx, dy, dw, dh) =>
    let rot := layerRot p
    let (nx, wx, ny, wy) :=
      if rot = 0 then (dx, dw, dy, dh)
      else if rot = 1 then (dy, dh, dw - dx, dw)
      else if rot = 2 then (dw - dx, dw, dh - dy, dh)
      else (dh - dy, dh, dx, dw)
    let nx := if (u8 p 1).testBit 6 then wx - nx else nx
    ((u16 p 8 : Int) * 64 + roundDiv (nx * 64 * u16 p 12) wx.toNat - 32,
     (u16 p 10 : Int) * 64 + roundDiv (ny * 64 * u16 p 14) wy.toNat - 32))

/-- Is a sample position outside the source rectangle? -/
def offSource (p : List Byte) (px py : Int) : Bool :=
  decide (px + 32 < u16 p 8 * 64) || decide (((u16 p 8 : Int) + u16 p 12) * 64 < px + 32) || decide (py + 32 < u16 p 10 * 64) ||
    decide (((u16 p 10 : Int) + u16 p 14) * 64 < py + 32)

/-- Node (i, j) of a layer's current mesh. -/
def State.meshNode (s : State) (l i j : Nat) : Except BadRead (List Byte) :=
  let a := s.meshAddr l false + 8 * (65 * j + i)
  match s.memRead a 8 with
  | some d => .ok d
  | none => .error (.mesh l a)

/-- Where a layer with a mesh samples: bilinear between the four surrounding nodes, which are read from DRAM; nothing outside the source
rectangle (R225). -/
def State.meshPos (s : State) (l : Nat) (p : List Byte) (cx cy : Nat) : Except BadRead (Option (Int × Int)) :=
  match layerAt p cx cy with
  | none => .ok none
  | some (dx, dy, dw, dh) =>
    let i := (dx * 64 / dw).toNat
    let j := (dy * 64 / dh).toNat
    let fx := dx * 64 % dw
    let fy := dy * 64 % dh
    match s.meshNode l i j, s.meshNode l (i + 1) j, s.meshNode l i (j + 1), s.meshNode l (i + 1) (j + 1) with
    | .ok a, .ok b, .ok c, .ok d =>
      let mix (o : Nat) : Int :=
        let v (x : List Byte) : Int := signed 32 (u32 x o)
        roundDiv (((v a * (dw - fx) + v b * fx) * (dh - fy) + (v c * (dw - fx) + v d * fx) * fy) * 64) (65536 * (dw * dh).toNat) - 32
      if offSource p (mix 0) (mix 4) then .ok none else .ok (some (mix 0, mix 4))
    | .error e, _, _, _ => .error e
    | _, .error e, _, _ => .error e
    | _, _, .error e, _ => .error e
    | _, _, _, .error e => .error e

/-- Where a layer samples for a canvas position. -/
def State.samplePos (s : State) (l : Nat) (p : List Byte) (cx cy : Nat) : Except BadRead (Option (Int × Int)) :=
  if (u8 p 1).testBit 2 then s.meshPos l p cx cy else .ok (layerPos p cx cy)

/-- The frame of a surface that composition reads: in a lead the one held since A(L), in a tile the newest complete one. -/
def State.frameOf (s : State) (u : Surf) : Option Nat := if s.isLead then u.held else u.cur

/-- The block of a surface with pixel (x, y). -/
def Surf.blockOf (u : Surf) (x y : Nat) : Nat := y / 4 * surfBw u.w + x / 16

/-- A component of a pixel of what a layer shows: its surface's newest frame, or the line buffers of a locked stream. -/
def State.codeAt (s : State) (l n : Nat) (u : Surf) (c x y : Nat) : Except BadRead Int :=
  match s.lockedLayer l with
  | some m =>
    let st := s.pix.streams.getD m {}
    .ok (bitsAt (fun k => Map.at st.raw 0 k) (sampleBit u.fmt u.w c x (st.useNo * u.h + y)) (fmtDepth u.fmt))
  | none =>
    match s.readBlock u ((s.frameOf u).getD 0) (u.blockOf x y) with
    | .ok cs => .ok (blockSample u.fmt cs c x y)
    | .c3 => .error (.block n (u.blockOf x y) 3)
    | _ => .error (.block n (u.blockOf x y) 2)

/-- All of a list of results, or the first error. -/
def allOk {ε α : Type} : List (Except ε α) → Except ε (List α)
  | [] => .ok []
  | .error e :: _ => .error e
  | .ok x :: xs => match allOk xs with
    | .error e => .error e
    | .ok l => .ok (x :: l)

/-- Pixels that the chroma of pixel x takes its codes from (R224): its own site, or the four around a pixel between sites, kept in columns
x0 to x1. -/
def chromaSites (x0 x1 x : Nat) : List Nat :=
  if x % 2 = 0 then [x] else (List.range 4).map (fun (k : Nat) => (clampInt x0 x1 (2 * ((x / 2 : Nat) + (k : Int) - 1))).toNat)

/-- A component of a pixel at 4:4:4, in 1/256 of a code (R224). -/
def State.fullAt (s : State) (l n : Nat) (u : Surf) (x0 x1 c x y : Nat) : Except BadRead Int :=
  if u.fmt = 1 ∧ c ≠ 1 then
    let sites := chromaSites x0 x1 x
    match allOk (sites.map (fun k => s.codeAt l n u c k y)) with
    | .error e => .error e
    | .ok [v] => .ok (256 * v)
    | .ok vs => .ok (List.zipWith (fun v k => v * Config.chromaTap k) vs (List.range 4)).sum
  else match s.codeAt l n u c x y with
    | .error e => .error e
    | .ok v => .ok (256 * v)

/-- The coefficients of a bank and phase. -/
def State.coefs (s : State) (b ph : Nat) : List Int :=
  (List.range 8).map (fun k => signed 10 (s.fld (Reg.cmpCoef0 + 0x800 * b + 0x20 * ph + 4 * k) 9 0))

/-- The coefficients that take the pixel itself: tiles do not scale (R237). -/
def coefUnit : List Int := [0, 0, 0, 512, 0, 0, 0, 0]

/-- Is a layer unscaled and without a mesh (R228)? -/
def layerPlain (p : List Byte) : Bool :=
  !(u8 p 1).testBit 2 && u32 p 24 == 256 * (rotSize p).1 && u32 p 28 == 256 * (rotSize p).2

/-- The pixels of the 8 × 8 taps around a sample position, kept in the source rectangle (R224). -/
def tapSites (p : List Byte) (px py : Int) : List (Nat × Nat) :=
  let x0 : Int := u16 p 8
  let y0 : Int := u16 p 10
  (List.range 8).flatMap (fun (j : Nat) => (List.range 8).map (fun (i : Nat) =>
    ((clampInt x0 (x0 + u16 p 12 - 1) (px / 64 + (i : Int) - 3)).toNat, (clampInt y0 (y0 + u16 p 14 - 1) (py / 64 + (j : Int) - 3)).toNat)))

/-- The surface that a layer shows in a slot: nothing where the layer is not visible there or its surface has no complete frame (R223). -/
def State.layerShows (s : State) (l : Nat) (p : List Byte) (slot : Nat) : Option Surf :=
  if !((u8 p 1).testBit 0 && (u8 p 2).testBit slot) then none
  else match s.surf (layerSurf p) with
    | some u => if (s.frameOf u).isNone ∧ (s.lockedLayer l).isNone then none else some u
    | none => none

/-- What a layer gives at a position: nothing, a failed read, or the input of the blend. -/
def State.layerIn (s : State) (l : Nat) (p : List Byte) (slot cx cy : Nat) : Except BadRead (Option Config.LayerIn) :=
  match s.layerShows l p slot with
  | none => .ok none
  | some u =>
    match s.samplePos l p cx cy with
    | .error e => .error e
    | .ok none => .ok none
    | .ok (some (px, py)) =>
      match allOk ((tapSites p px py).map (fun xy => allOk ((List.range (fmtComps u.fmt)).map (fun c =>
          s.fullAt l (layerSurf p) u (u16 p 8) (u16 p 8 + u16 p 12 - 1) c xy.1 xy.2)))) with
      | .error e => .error e
      | .ok taps =>
        let co (v : Int) : List Int := if s.isTile then coefUnit else s.coefs (u8 p 3 % 4) (v % 64).toNat
        .ok (some { plain := layerPlain p, fmt := u.fmt, colour := u.colour, alpha := u16 p 32 % 4096, gain := u16 p 34, lw := u16 p 36,
                    coefX := co px, coefY := co py, taps := taps })

/-- Blend the layers, and what lies over them, over a base pixel, in ascending layer order (R227, R237). -/
def State.blendAt (s : State) (base : Nat × Nat × Nat) (slot cx cy : Nat) (top : Except BadRead (Option Config.LayerIn)) :
    Except BadRead (Nat × Nat × Nat) :=
  match allOk (s.pix.layers.map (fun x => s.layerIn x.1 x.2 slot cx cy) ++ [top]) with
  | .error e => .error e
  | .ok ls => .ok (composePixel base (ls.filterMap id))

/-- The canvas pixel of a tile pixel (R221). -/
def canvasOf (orient w h x0 y0 x y : Nat) : Nat × Nat :=
  if orient = 0 then (x0 + x, y0 + y)
  else if orient = 1 then (x0 + (h - 1 - y), y0 + x)
  else if orient = 2 then (x0 + (w - 1 - x), y0 + (h - 1 - y))
  else (x0 + y, y0 + (w - 1 - x))

/-- The canvas pixels of a tile, in the tile's raster order. -/
def State.tileSites (s : State) (chain pos : Nat) : List (Nat × Nat) :=
  let i := 64 * chain + pos
  let w0 := (s.reg (Reg.cmpTmap0 + 8 * i)).toNat
  let a := Reg.cmpTmap1 + 8 * i
  let w := s.fld a 9 0
  let h := s.fld a 19 10
  (List.range (w * h)).map (fun k => canvasOf (s.fld a 21 20) w h (w0 % 65536) (w0 / 65536) (k % w) (k / w))

/-- Does a tile's region in a slot take content from the block or the mesh whose read failed (R229)? -/
def State.feeds (s : State) (bad : BadRead) (slot chain pos : Nat) : Bool :=
  (s.tileSites chain pos).any (fun c => s.pix.layers.any (fun x =>
    match s.layerShows x.1 x.2 slot, s.samplePos x.1 x.2 c.1 c.2 with
    | none, _ => false
    | some _, .error e => e.source == bad.source
    | some _, .ok none => false
    | some u, .ok (some (px, py)) =>
      match bad with
      | .block n k _ => layerSurf x.2 == n && (s.lockedLayer x.1).isNone && (tapSites x.2 px py).any (fun xy =>
          (chromaSites (u16 x.2 8) (u16 x.2 8 + u16 x.2 12 - 1) xy.1).any (fun q => u.blockOf q xy.2 == k) || u.blockOf xy.1 xy.2 == k)
      | .mesh _ _ => false))

/-- The background (CMP_BG). -/
def State.background (s : State) : Nat × Nat × Nat :=
  (s.fld Reg.cmpBg0 27 16, s.fld Reg.cmpBg0 11 0, s.fld Reg.cmpBg1 11 0)

/-- The pixels of a tile in raster order for a slot (R227, R229). -/
def State.tilePixels (s : State) (slot chain pos : Nat) : Except BadRead (List (Nat × Nat × Nat)) :=
  allOk ((s.tileSites chain pos).map (fun c => s.blendAt s.background slot c.1 c.2 (.ok none)))

/-- The tile address of a chain position. -/
def State.tileAddr (s : State) (chain pos : Nat) : Nat := s.leadField * 256 + chain * 64 + pos

/-- Was a sub-frame cut? -/
def State.isCut (s : State) (n slot addr : Nat) : Bool := s.pix.cut.contains (n, slot, addr)

/-- Nothing more of a tile's sub-frame is sent (R193, R229, R236, R263): its PIX messages and its image leave the lead. -/
def State.cutSub (s : State) (n slot chain pos : Nat) : State :=
  let a := s.tileAddr chain pos
  { s with
    pix := { s.pix with cut := (n, slot, a) :: s.pix.cut,
                        composed := s.pix.composed.filter (fun c => !(c.n == n && c.slot == slot && c.chain == chain && c.pos == pos)) },
    net := { s.net with tx := s.net.tx.filter (fun m =>
      !(m.typ == 1 && m.dest == a && bitsOf m.xt 31 30 == slot && bitsOf m.xt 28 16 == n % 8192)) } }

/-- Does the lead compose for launch n: it is announced and not past, composition is enabled, and the chip is not inert (R22, R229)? -/
def State.composes (s : State) (n slot : Nat) : Bool :=
  s.alive && s.isLead && s.bit Reg.cmpCfg 0 && !s.pwr.inert && s.lch.table.any (fun l => l.n == n && decide (s.derivedNow < s.inActive l)) &&
    decide (slot < lchSlots s.lch.cfg)

/-! ### Locked streams (R235, R236) -/

/-- W_PRE and W_POST of a STREAM_CONFIG, in 2^-16 ns. -/
def lockPre (p : List Byte) : Nat := u32 p 8 * 65536000
/-- W_POST. -/
def lockPost (p : List Byte) : Nat := u32 p 12 * 65536000
/-- LINES. -/
def lockLines (p : List Byte) : Nat := u16 p 4

/-- A(L) in 2^-16 ns. -/
def State.annOf (s : State) (l : Launch) : Int := s.inActive l - (lchAnn s.lch.cfg * 1000 : Nat)

/-- Does a frame begin in the lock window of a launch (R236)? -/
def State.inWindow (s : State) (p : List Byte) (l : Launch) (f : Frame) : Bool :=
  let t := s.actDom.at f.began
  decide (s.annOf l - (lockPre p : Int) ≤ t) && decide (t ≤ s.annOf l + (lockPost p : Int))

/-- The frame of a locked stream that a launch uses. -/
def State.lockFrame (s : State) (x : Strm) (l : Launch) : Option Frame :=
  ((x.prev.toList ++ x.frame.toList).filter (s.inWindow x.lock l)).head?

/-- The source lines of a layer that a tile needs: the lines its region samples, 3 above and 4 below, clamped to the source
rectangle; none where the layer does not cover the region. -/
def State.linesNeeded (s : State) (l chain pos : Nat) : Option (Nat × Nat) :=
  let p := Map.at s.pix.layers (zeros 40) l
  let i := 64 * chain + pos
  let w0 := (s.reg (Reg.cmpTmap0 + 8 * i)).toNat
  let a := Reg.cmpTmap1 + 8 * i
  let (w, h) := regionSize (s.fld a 21 20) (s.fld a 9 0) (s.fld a 19 10)
  let xs := (List.range w).filterMap (fun x => (List.range h).findSome? (fun y => layerPos p (w0 % 65536 + x) (w0 / 65536 + y)))
  let ys := (List.range h).filterMap (fun y => (xs.head?).bind (fun _ =>
    (List.range w).findSome? (fun x => layerPos p (w0 % 65536 + x) (w0 / 65536 + y))))
  match ys.head?, ys.getLast? with
  | some a, some b =>
    let y0 : Int := u16 p 10
    let y1 : Int := y0 + u16 p 14 - 1
    some ((clampInt y0 y1 (a.2 / 64 - 3)).toNat, (clampInt y0 y1 (b.2 / 64 + 4)).toNat)
  | _, _ => none

/-- Is row y of a frame complete? Ranges are in bits from the start of the frame's raw layout. -/
def rowDone (u : Surf) (f : Frame) (y : Nat) : Bool :=
  let r := 8 * rowBytes u.fmt u.w * y
  reachTo f.have_ (r + u.w * fmtBpp u.fmt) f.have_.length r

/-- The tiles of a slot that a layer covers, with the lines they need. -/
def State.coveredTiles (s : State) (l : Nat) : List (Nat × Nat × Nat × Nat) :=
  s.tileMap.filterMap (fun e => (s.linesNeeded l e.1 e.2.1).map (fun r => (e.1, e.2.1, r.1, r.2)))

/-- Slots of a layer's mask. -/
def layerSlots (p : List Byte) : List Nat := (List.range 4).filter (fun k => (u8 p 2).testBit k)

/-- Cut every tile of the slots of a layer that needs one of the lines, for a launch. -/
def State.cutLines (s : State) (n l : Nat) (bad : Nat → Nat → Bool) : State :=
  let hit := (s.coveredTiles l).filter (fun e => bad e.2.2.1 e.2.2.2)
  (layerSlots (Map.at s.pix.layers (zeros 40) l)).foldl (fun t k => hit.foldl (fun u e =>
    if u.pix.made.contains (n, k, u.tileAddr e.1 e.2.1) || u.isCut n k (u.tileAddr e.1 e.2.1) then u
    else u.cutSub n k e.1 e.2.1) t) s

/-- What the locked layers of a slot leave a tile: nothing in the way, lines still to come, or a cut. -/
inductive LockState | ready | wait | cut
  deriving DecidableEq, Repr

/-- The locked layers' lines for a tile of a launch (R236). -/
def State.lockState (s : State) (l : Launch) (slot chain pos : Nat) : LockState :=
  let one (k : Nat × List Byte) : LockState :=
    match s.lockedLayer k.1 with
    | none => .ready
    | some m =>
      if !((u8 k.2 1).testBit 0 && (u8 k.2 2).testBit slot) then .ready
      else match s.linesNeeded k.1 chain pos, s.surf (layerSurf k.2) with
      | some (lo, hi), some u =>
        let x := s.pix.streams.getD m {}
        match s.lockFrame x l with
        | none => .wait
        | some f =>
          let ys := (List.range (hi + 1)).drop lo
          if ys.any (fun y => f.bad.contains y) then .cut
          else if ys.all (rowDone u f) then .ready else .wait
      | _, _ => .ready
  let all := s.pix.layers.map one
  if all.contains .cut then .cut else if all.contains .wait then .wait else .ready

/-- The frames of the locked streams that a launch uses are selected in their line buffers. -/
def State.useFrames (s : State) (l : Launch) : State :=
  { s with pix := { s.pix with streams := s.pix.streams.map (fun x =>
      match s.lockFrame x l with | some f => { x with useNo := f.no } | none => x) } }

/-- Does a slot hold a locked layer? -/
def State.slotLocked (s : State) (slot : Nat) : Bool :=
  s.pix.layers.any (fun x => (s.lockedLayer x.1).isSome && (u8 x.2 1).testBit 0 && (u8 x.2 2).testBit slot)

/-- Does tile x come before tile y in a slot (R229): by position, then chain; with a locked layer by the region's top edge, then its left
edge? -/
def State.tileBefore (s : State) (locked : Bool) (x y : Nat × Nat) : Bool :=
  let key (t : Nat × Nat) : Nat :=
    let w := (s.reg (Reg.cmpTmap0 + 8 * (64 * t.1 + t.2))).toNat
    (if locked then w / 65536 * 65536 + w % 65536 else 0) * 256 + 4 * t.2 + t.1
  decide (key x < key y)

/-- The sub-frame of a launch that composition comes to next (R229): slot by slot, and in a slot in the order of its tiles. -/
def State.composeNext (s : State) (n : Nat) : Option (Nat × Nat × Nat) :=
  (List.range (lchSlots s.lch.cfg)).findSome? (fun k =>
    let left := (s.tileMap.map (fun e => (e.1, e.2.1))).filter (fun e =>
      !s.isCut n k (s.tileAddr e.1 e.2) && !s.pix.made.contains (n, k, s.tileAddr e.1 e.2))
    (left.find? (fun x => left.all (fun y => x == y || s.tileBefore (s.slotLocked k) x y))).map (fun x => (k, x.1, x.2)))

/-- The reports behind a read that failed: of the decoder (R259, R262, R264) or of the DRAM controller (R356). -/
def State.noteBad (s : State) : BadRead → State
  | .block n k _ =>
    match s.surf n with
    | some u => let b := (s.frameOf u).getD 0; s.noteBlock n b k (s.readBlock u b k)
    | none => s
  | .mesh _ a => s.noteWords a 8

/-- A read that failed cuts the sub-frame of every tile that the block or the mesh feeds (R229): CMP_CUT_CNT and EV_325. -/
def State.cutFed (s : State) (n slot chain pos : Nat) (bad : BadRead) : State :=
  let fed := (s.tileMap.map (fun e => (e.1, e.2.1))).filter (fun e => e != (chain, pos) && s.feeds bad slot e.1 e.2)
  let t := fed.foldl (fun t e => t.cutSub n slot e.1 e.2) ((s.noteBad bad).cutSub n slot chain pos)
  (t.bump Reg.cmpCutCnt).raise 325 3 (bad.stage + min 63 (fed.length + 1) * 4 + bad.source)

/-- COMPOSE_TILE (R229, R236): the tile that composition of an announced launch comes to next, once its locked source lines are there. -/
def execComposeTile (n slot chain pos : Nat) (s : State) : Res :=
  if !(s.composes n slot && s.composeNext n == some (slot, chain, pos)) then .next s
  else match s.lch.table.find? (fun l => l.n == n) with
  | none => .next s
  | some l =>
    match s.lockState l slot chain pos with
    | .wait => .next s
    | .cut => .next (s.cutSub n slot chain pos)
    | .ready =>
      match (s.useFrames l).tilePixels slot chain pos with
      | .ok px =>
        .next { s with pix := { s.pix with composed := s.pix.composed ++ [{ n := n, slot := slot, chain := chain, pos := pos, pixels := px }],
                                           made := (n, slot, s.tileAddr chain pos) :: s.pix.made } }
      | .error bad => .next (s.cutFed n slot chain pos bad)

end Sys2Proof.Machine
end

