-- ==== Sys2Proof/Machine/Coder.lean ====
section
/-! DEFINITION. The transport profile of the block coder: sub-frames, blocks, the encoder of the lead and its configuration (R242 to R254,
R261, R263 to R270). -/

namespace Sys2Proof.Machine

/-- A 12-bit RGB pixel. -/
abbrev Rgb := Nat × Nat × Nat

/-- A component of a pixel. -/
def Rgb.comp (p : Rgb) (c : Nat) : Nat := if c = 0 then p.1 else if c = 1 then p.2.1 else p.2.2

/-! ### Blocks (R243, R246 to R250) -/

/-- W_max of a ratio code. -/
def wMax (ratio : Nat) : Nat := [36, 16, 10, 7].getD ratio 36
/-- s_max of a ratio code. -/
def sMax (ratio : Nat) : Nat := [0, 7, 9, 10].getD ratio 0

/-- The smallest shift at which the residual widths fit (R249). -/
def sNeed (wmax : Nat) (rs : List Nat) : Nat → Nat → Nat
  | 0, k => k
  | f + 1, k => if (rs.map (fun r => bitLen (r / 2 ^ k))).sum ≤ wmax then k else sNeed wmax rs f (k + 1)

/-- The three components of a block's 32 pixels. -/
def blkComps (px : List Rgb) : List (List Nat) := (List.range 3).map (fun c => px.map (fun p => Rgb.comp p c))

/-- The shift a block is coded with (R249): 0 at 1:1. -/
def blkShift (ratio mode floor : Nat) (px : List Rgb) : Nat :=
  if ratio = 0 then 0
  else
    let k := sNeed (wMax ratio) ((blkComps px).map (fun l => maxOf l - minOf l)) 11 0
    if mode = 0 then k else max floor k

/-- A coded block (R246, R247, R249). -/
def encodeBlk (ratio mode floor : Nat) (px : List Rgb) : List Byte :=
  if ratio = 0 then packBytes 144 (px.flatMap (fun p => [(12, p.1), (12, p.2.1), (12, p.2.2)]))
  else
    let k := blkShift ratio mode floor px
    let cs := blkComps px
    let wid (l : List Nat) : Nat := bitLen ((maxOf l - minOf l) / 2 ^ k)
    packBytes (blkBytes ratio) ((4, k) :: cs.flatMap (fun l => [(12, minOf l), (4, wid l)]) ++
      (List.range 32).flatMap (fun i => cs.map (fun l => (wid l, (l.getD i 0 - minOf l) / 2 ^ k))))

/-- Reconstruction of one component value (R248). -/
def rebuild (k base r : Nat) : Nat := if k = 0 then min (base + r) 4095 else min (base + r * 2 ^ k + 2 ^ (k - 1)) 4095

/-- Decode a block (R246 to R248); nothing where it is invalid (R250). -/
def decodeBlk (ratio : Nat) (b : List Byte) : Option (List Rgb) :=
  let get : Nat → Byte := fun j => b.getD j 0
  if ratio = 0 then some ((List.range 32).map (fun i => (bitsAt get (36 * i) 12, bitsAt get (36 * i + 12) 12, bitsAt get (36 * i + 24) 12)))
  else
    let k := bitsAt get 0 4
    let base (c : Nat) : Nat := bitsAt get (4 + 16 * c) 12
    let wid (c : Nat) : Nat := bitsAt get (16 + 16 * c) 4
    let sum := wid 0 + wid 1 + wid 2
    if 11 < k ∨ 12 < wid 0 ∨ 12 < wid 1 ∨ 12 < wid 2 ∨ wMax ratio < sum then none
    else
      let off (i c : Nat) : Nat := 52 + sum * i + (if c = 0 then 0 else if c = 1 then wid 0 else wid 0 + wid 1)
      let v (i c : Nat) : Nat := rebuild k (base c) (bitsAt get (off i c) (wid c))
      some ((List.range 32).map (fun i => (v i 0, v i 1, v i 2)))

/-! ### Sub-frames (R242, R244, R245) -/

/-- The 32 pixels of transport block k: positions outside the tile take the nearest pixel inside (R242). -/
def blkPixels (w h : Nat) (px : List Rgb) (k : Nat) : List Rgb :=
  let bw := (w + 7) / 8
  (List.range 32).map (fun i => px.getD (min (k / bw * 4 + i / 8) (h - 1) * w + min (k % bw * 8 + i % 8) (w - 1)) (0, 0, 0))

/-- The sub-frame header (R245). -/
def subHeader (ratio mode floor slot w h n : Nat) : List Byte :=
  b1 1 ++ b1 (ratio + mode * 4) ++ b1 floor ++ b1 slot ++ b2 w ++ b2 h ++ b4 n ++ zeros 4

/-- Byte offset of block k (R244). -/
def blkOffset (ratio k : Nat) : Nat := 16 + k * blkBytes ratio + 2 * (k / 32)
/-- Sub-frame bytes S (R244). -/
def subBytes (ratio w h : Nat) : Nat := 16 + nBlk w h * blkBytes ratio + 2 * ((nBlk w h + 31) / 32)

/-- The bytes of block group g with its CRC, from the coded blocks (R244, R261). -/
def groupBytes (hdr : List Byte) (blks : List (List Byte)) (g : Nat) : List Byte :=
  let b := (if g = 0 then hdr else []) ++ ((blks.drop (32 * g)).take 32).flatten
  b ++ b2 (crc16 b)

/-- A coded sub-frame (R244). -/
def encodeSub (ratio mode floor slot w h n : Nat) (px : List Rgb) : List Byte :=
  let blks := (List.range (nBlk w h)).map (fun k => encodeBlk ratio mode floor (blkPixels w h px k))
  (List.range ((nBlk w h + 31) / 32)).flatMap (groupBytes (subHeader ratio mode floor slot w h n) blks)

/-- The PIX runs of a sub-frame (R122): 16,368 bytes each. -/
def pixRuns (b : List Byte) : List (List Byte) :=
  (List.range ((b.length + 16367) / 16368)).map (fun r => slice b (16368 * r) 16368)

/-- XT of a PIX run's first cell (R122). -/
def pixXt (slot n run : Nat) (last : Bool) : Nat := slot * 2 ^ 30 + bn last * 2 ^ 29 + n % 8192 * 65536 + run * 64

/-- ENCODE_SUBFRAME (R263, R265): the oldest composed image is coded by a slice, checked by its own decoder, and queued as PIX runs under
the tile's session key; a mismatch cuts the sub-frame with EV_386. -/
def execEncodeSubframe (slice : Nat) (mismatch : Bool) (s : State) : Res :=
  match s.pix.composed with
  | [] => .next s
  | c :: rest =>
    if !s.alive ∨ !s.isLead ∨ 8 ≤ slice then .next s
    else
      let s1 := { s with pix := { s.pix with composed := rest } }
      let a := s.tileAddr c.chain c.pos
      if mismatch then
        .next (((s1.cutSub c.n c.slot c.chain c.pos).bump Reg.bcdEncMismatch).raise 386 3 (slice + c.slot * 8 + a * 65536))
      else
        let reg := Reg.cmpTmap1 + 8 * (64 * c.chain + c.pos)
        let w := s.fld reg 9 0
        let h := s.fld reg 19 10
        let (ratio, mode, floor) := s.pix.coder.getD c.chain (0, 0, 0)
        let ks := (List.range (nBlk w h)).map (fun k => blkShift ratio mode floor (blkPixels w h c.pixels k))
        let runs := pixRuns (encodeSub ratio mode floor c.slot w h c.n c.pixels)
        let key := s.tileKey a
        let ms := (List.range runs.length).map (fun i =>
          { port := c.chain, typ := 1, dest := a, key := key, xt := pixXt c.slot c.n i (i + 1 == runs.length), body := runs.getD i [] : TxMsg })
        let t := (if key = 0 then [] else ms).foldl State.send s1
        let t := t.bumpBy Reg.bcdLossy (ks.filter (· != 0)).length
        .next (t.setFld Reg.bcdSmax (4 * c.chain + 3) (4 * c.chain) (max (t.fld Reg.bcdSmax (4 * c.chain + 3) (4 * c.chain)) (maxOf ks)))

/-! ### Configuration and status (R251, R268, R269) -/

/-- CODER_CONFIG (R251). -/
def execCoderConfig (r : Req) (s : State) : Res :=
  runReq 0x0500 r s fun s =>
    let c := u8 r.payload 0
    let ratio := u8 r.payload 1
    let mode := u8 r.payload 2
    let floor := u8 r.payload 3
    if 4 ≤ c then (s, rspParam 0)
    else if 4 ≤ ratio then (s, rspParam 1)
    else if 2 ≤ mode ∨ (ratio = 0 ∧ mode ≠ 0) then (s, rspParam 2)
    else if (ratio = 0 ∨ mode = 0) ∧ floor ≠ 0 then (s, rspParam 3)
    else if mode = 1 ∧ (floor < 1 ∨ sMax ratio < floor) then (s, rspParam 3)
    else
      let v := s.viewAll.pix.coder.set c (ratio, mode, floor)
      if !s.lch.cfg.isEmpty ∧ s.chainOver s.lch.cfg (fun k => (v.getD k (0, 0, 0)).1) then (s, rspErr stBadParam 0x8004)
      else (s.addChange (.coder c ratio mode floor) s.derived none, rspOk)

/-- BCD_CHAINc. -/
def State.chainWord (s : State) (c : Nat) : Nat :=
  if s.isTile then 0
  else
    let (ratio, mode, floor) := s.pix.coder.getD c (0, 0, 0)
    let st := s.pix.staged.any (fun p => match p.change with | .coder k _ _ _ => k == c | _ => false)
    bn st * 2 ^ 31 + floor * 256 + mode * 16 + ratio

/-- BCD_ENC_BUSY and BCD_DEC_BUSY: measured loads, which nothing constrains but the role. -/
def State.busyWord (s : State) (enc : Bool) : Nat := if enc && s.isTile then 0 else s.freeVal % 2 ^ 32

/-- CODER_STATUS (R269). -/
def execCoderStatus (r : Req) (s : State) : Res :=
  runReq 0x0501 r s fun s =>
    let w (a : Nat) : List Byte := b4 (s.reg a).toNat
    let d := (List.range 4).flatMap (fun c => b4 (s.chainWord c)) ++ b4 (s.busyWord true) ++ b4 (s.freeNext.busyWord false) ++
      (List.range 7).flatMap (fun k => w (Reg.bcdC2Trn + 4 * k)) ++ w Reg.bcdSmax
    (s.freeNext.freeNext, rspOk d)

/-- BCD_CNT_CLR (R268): bit 7 clears BCD_SMAX. -/
def execBcdCntClr (data : Word) (s : State) : Res :=
  if !s.alive then .next s
  else
    let t := s.clearCounters Reg.bcdC2Trn 7 data.toNat
    .next (if data.toNat.testBit 7 then t.setReg Reg.bcdSmax 0 else t)

end Sys2Proof.Machine
end

