-- ==== Sys2Proof/Machine/Topology.lean ====
section
/-! DEFINITION. Wall topology: the class 0x01 opcodes, port states, enumeration, and the lead's record of replies (R86 to R108, R544,
R545). -/

namespace Sys2Proof.Machine

/-- A lead refuses class 0x01 opcodes until GLB_TOPO_CFG.LOCK is 1 (R87). -/
def State.topoLocked (s : State) : Bool := !s.isLead || s.bit Reg.glbTopoCfg 31

/-- DETAIL of EV_97. -/
def ev97 (p : Nat) (st : PortState) (again : Bool) : Nat := st.code + bn again * 256 + p * 512

/-! ### Domains of a port (R467, R469) -/

/-- Does the forced-off mask hold a domain that port p needs: its four SerDes lanes or its PCS? -/
def State.portForcedOff (s : State) (p : Nat) : Bool :=
  bitsOf s.pwr.domOff (4 * p + 3) (4 * p) != 0 || s.pwr.domOff.testBit (32 + p)

/-! ### PRT_CFG (R32, R110, R545) -/

/-- The functions R32 permits on a port, by role. -/
def funcOk (lead : Bool) (p f : Nat) : Bool :=
  if lead then
    if p < 4 then f == 0 || f == 1
    else if p < 6 then f == 0 || f == 2
    else if p = 6 then f == 0 || f == 3
    else f == 0 || f == 2 || f == 4
  else decide (p < 2) && (f == 0 || f == 1)

/-- The state a write of FUNC gives a port (R545). -/
def State.funcState (s : State) (f : Nat) : PortState :=
  if f = 0 then .off else if f = 1 then (if s.isTile && !s.net.valid then .listen else .closed) else .active

/-- Write FUNC of a port: an unchanged FUNC leaves the state; a change sets the state at once, whatever it held (R545). -/
def State.setFunc (s : State) (p f : Nat) : State :=
  if s.func p = f then s
  else
    let t := s.setFld (prt Reg.prtCfg p) 11 8 f
    let t := t.setPort p { state := s.funcState f, opening := ((s.port p).opening).map (fun o => { o with dead := true }) }
    { t with net := { t.net with transit := t.net.transit.filter (fun x => x.inPort != p && x.outPort != p) } }

/-- What refuses a write of FUNC: 0 nothing, 1 the value (R32; P7 as ingest while a domain takes its time from it, R524), 2 a forced-off
domain (R469). -/
def State.funcRefusal (s : State) (p f : Nat) : Nat :=
  if !funcOk s.isLead p f then 1
  else if p = 7 ∧ f = 2 ∧ (s.fld Reg.tmuDomCfg 31 29 = 3 ∨ s.fld (Reg.tmuDomCfg + 0x40) 31 29 = 3) then 1
  else if f ≠ 0 ∧ s.func p = 0 ∧ s.portForcedOff p then 2
  else 0

/-- PRT_CFG_FUNC_WRITE (R545): through BAR0; a refused function is ignored with EV_25. -/
def execPrtCfgFuncWrite (port func : Nat) (s : State) : Res :=
  if !s.alive || 8 ≤ port || (s.isTile && 2 ≤ port) then .next s
  else if s.funcRefusal port func ≠ 0 then .next (s.raise 25 1 (prt Reg.prtCfg port))
  else .next (State.noteLeadLink s (s.setFunc port func))

/-- Is FEC_EN fixed now (R110)? -/
def State.fecFixed (s : State) (p : Nat) : Bool :=
  match s.portState p with | .up => true | .open_ => true | .active => true | _ => false

/-- PRT_CFG_FEC_EN_WRITE (R110): stored, or ignored with EV_25 while the port is UP, OPEN or ACTIVE. -/
def execPrtCfgFecEnWrite (port : Nat) (enable : Bool) (s : State) : Res :=
  if !s.alive || 8 ≤ port || (s.isTile && 2 ≤ port) then .next s
  else if s.fecFixed port then .next (s.raise 25 1 (prt Reg.prtCfg port))
  else .next (s.setFld (prt Reg.prtCfg port) 0 0 (bn enable))

/-! ### The lead epoch (R92) -/

/-- Is a write of GLB_TOPO_EPOCH ignored: 0, the current value, or a chain port OPEN? -/
def State.epochIgnored (s : State) (w : Word) : Bool :=
  w == 0 || w == s.reg Reg.glbTopoEpoch || (List.range 4).any (fun p => s.portState p == .open_)

/-- A new lead epoch makes every earlier assignment stale and clears the end codes (R92, R98); the lead that enumerates is the head of
its chains (R89). -/
def State.newEpoch (s : State) (w : Word) : State :=
  let t := s.setReg Reg.glbTopoEpoch w
  { t with net := { t.net with table := [], ends := [] },
           pai := { t.pai with tails := 0, relay := 0, rmap := [none, none, none, none] } }

/-- GLB_TOPO_EPOCH_WRITE (R92): in a lead; an ignored write raises EV_25; in a tile the register is read-only. -/
def execGlbTopoEpochWrite (data : Word) (s : State) : Res :=
  if !s.alive || !s.isLead then .next s
  else if s.epochIgnored data then .next (s.raise 25 1 Reg.glbTopoEpoch)
  else .next (s.newEpoch data)

/-! ### Opcodes -/

/-- PROBE_NEAREST (R95, R98, R544). -/
def execProbeNearest (r : Req) (s : State) : Res :=
  runReq 0x0100 r s fun s =>
    if !r.isNearest then (s, rspErr stWrongState 0x0108)
    else (s, rspOk (unitIdBytes ++ b4 0x947200A1 ++ b1 (viaPort r.via) ++ b1 (bn s.net.had) ++ b2 s.net.addr ++ b4 s.leadEpoch))

/-- A tile takes an address (R99, R443): arrival port UP, the other CLOSED, session keys cleared, EV_96. -/
def State.takeAddress (s : State) (p addr : Nat) (epoch : Word) : State :=
  let t := s.setReg Reg.glbTopoEpoch epoch
  let t := { t with net := { t.net with valid := true, had := true, upPort := p, addr := addr, transit := [] },
                    pai := { t.pai with rmap := [none, none, none, none] },
                    key := { t.key with sessA := none, sessB := none, lastId := none } }
  let t := (t.setPortState p .up).setPortState (1 - p) .closed
  t.raise 96 0 (p * 4096 + addr)

/-- ASSIGN_ADDRESS (R95, R97, R99): the tile with the unit ID named stores the address and the epoch. -/
def execAssignAddress (r : Req) (s : State) : Res :=
  runReq 0x0101 r s fun s =>
    let epoch := u32 r.payload 20
    if epoch = 0 ∨ epoch ≠ r.epoch.toNat then (s, rspParam 20)
    else if slice r.payload 0 16 ≠ unitIdBytes then (s, rspErr stWrongState 0x0106)
    else (s.takeAddress (viaPort r.via % 2) (u16 r.payload 16 % 4096) (BitVec.ofNat 32 epoch), rspOk)

/-- The chain ports a chip's PORT_OPEN and PORT_CLOSE may name (R100). -/
def State.chainPortOk (s : State) (p : Nat) : Bool := if s.isLead then decide (p < 4) else decide (p < 2)

/-- PORT_OPEN (R100, R104): qualifies the link of a CLOSED or LOST port, or of a lead's chain port; the reply follows. -/
def execPortOpen (r : Req) (s : State) : Res :=
  runReqLater 0x0102 r s fun s =>
    let p := u8 r.payload 0
    let q := s.port p
    if !s.chainPortOk p ∨ q.state = .up then (s, some (rspParam 0))
    else if !s.topoLocked then (s, some (rspErr stWrongState 0x0101))
    else if s.isTile ∧ !s.net.valid then (s, some (rspErr stWrongState 0x0109))
    else if q.state = .open_ then (s, some rspOk)
    else if q.opening.isSome then (s, some (rspErr stBusy 0x0102))
    else if q.state = .off ∧ s.portForcedOff p then (s, some (rspErr stWrongState 0x0E01))
    else
      let t := if q.state = .off then s.setFunc p 1 else s
      let t := t.setPort p { t.port p with
        opening := some { op := 0x0102, req := r, start := s.now, prev := (t.port p).state,
                          wasUp := s.isTile && p == s.net.upPort && q.state == .lost } }
      (t, none)

/-- The hold-off markers a chip sends on a port that becomes OPEN, before its first cell (R141). -/
def State.replayHolds (s : State) (p : Nat) : State :=
  s.emits (s.net.ecl.holds.map (fun x => Out.marker p (eclipseMarker x.2 true x.1)))

/-- LINK_QUALIFIES_AGAIN (R104): EV_97 with bit 8; the port stays LOST. -/
def execLinkQualifiesAgain (port : Nat) (s : State) : Res :=
  let q := s.port port
  if s.alive ∧ q.state = .lost ∧ q.again = false then
    .next ((s.setPort port { q with again := true, pcsLock := true }).raise 97 1 (ev97 port .lost true))
  else .next s

/-- PORT_CLOSE (R100, R106). -/
def execPortClose (r : Req) (s : State) : Res :=
  runReq 0x0103 r s fun s =>
    let p := u8 r.payload 0
    let q := s.port p
    if !s.chainPortOk p then (s, rspParam 0)
    else if !s.topoLocked then (s, rspErr stWrongState 0x0101)
    else if s.isTile ∧ !s.net.valid then (s, rspErr stWrongState 0x0109)
    else match q.state with
    | .open_ | .lost =>
      let t := s.setPort p { q with state := .closed, asm := [], near := [], opening := q.opening.map (fun o => { o with dead := true }) }
      let t := { t with net := { t.net with transit := t.net.transit.filter (fun x => x.inPort != p && x.outPort != p) } }
      ((t.raise 97 1 (ev97 p .closed false)).startStalled, rspOk)
    | .up => (s, rspErr stWrongState 0x0105)
    | .listen => (s, rspErr stWrongState 0x0109)
    | _ => (s, rspOk)

/-- RELEASE_ADDRESS (R106): the reply first; then the tile is inert, VALID clears and both ports return to LISTEN. -/
def execReleaseAddress (r : Req) (s : State) : Res :=
  runReqLater 0x0104 r s fun s =>
    if s.portState s.downPort = .open_ then (s, some (rspErr stWrongState 0x0107))
    else
      let t := s.answer s 0x0104 r rspOk
      let t := t.goInert
      let t := { t with net := { t.net with valid := false } }
      let lis (u : State) (p : Nat) : State := if u.func p = 1 then u.setPort p { u.port p with
        state := .listen, opening := (u.port p).opening.map (fun o => { o with dead := true }) } else u
      (lis (lis t 0) 1, none)

/-- The flags byte of a TOPO_READ entry (R98). -/
def TopoEntry.flags (e : TopoEntry) : Nat := 1 + e.upPort * 2 + e.dnState.code * 4

/-- TOPO_READ (R98): positions of a chain, with the end code. -/
def execTopoRead (r : Req) (s : State) : Res :=
  runReq 0x0105 r s fun s =>
    let c := u8 r.payload 0
    if 4 ≤ c then (s, rspParam 0)
    else if !s.topoLocked then (s, rspErr stWrongState 0x0101)
    else
      let es := (List.range 64).filterMap (fun p => s.net.table.find? (fun e => e.chain == c && e.pos == p))
      (s, rspOk (b1 c ++ b1 es.length ++ b1 (Map.at s.net.ends 0 c) ++ zeros 1 ++
        es.flatMap (fun e => fit 16 e.unit ++ b2 (s.leadField * 256 + c * 64 + e.pos) ++ b1 e.flags ++ zeros 1)))

/-! ### What the lead learns from replies (R91, R98, R99, R104, R442) -/

/-- Set the end code of a chain (R98): 1 no link, 2 partner lead, 3 time-out, 4 limit reached. -/
def State.setEnd (s : State) (c code : Nat) : State := { s with net := { s.net with ends := Map.put s.net.ends c code } }

/-- A tile's new downstream state in the topology table. -/
def State.setDown (s : State) (c pos : Nat) (st : PortState) : State :=
  { s with net := { s.net with table := s.net.table.map (fun (e : TopoEntry) =>
    if e.chain = c ∧ e.pos = pos then { e with dnState := st } else e) } }

/-- A probe of a chain was answered: end code 3 is gone, and any other code stands (R98). -/
def State.probeAnswered (s : State) (c : Nat) : State := if Map.at s.net.ends 0 c = 3 then s.setEnd c 0 else s

/-- A PORT_OPEN found no link (R98, R101); end code 3 stays until a later probe is answered. -/
def State.noLink (s : State) (c : Nat) : State := if Map.at s.net.ends 0 c = 3 then s else s.setEnd c 1

/-- Is a port the downstream port of the tile at a position, as the table holds it? -/
def State.isDown (s : State) (c pos p : Nat) : Bool :=
  s.net.table.any (fun e => e.chain == c && e.pos == pos && e.upPort + p == 1)

/-- Record the effect that the answer of a tile at address `a` has on the lead's own tables; the answers of another lead's tiles have none. -/
def State.noteReply (s : State) (j : Job) (a status detail : Nat) (data : List Byte) : State :=
  let c := a / 64 % 4
  let pos := a % 64
  let port := u8 j.req.payload 0
  if j.kind = 3 then s
  else if j.op = 0x0100 then
    if status = stOk then
      let u := slice data 0 16
      let t := { s with net := { s.net with table := s.net.table.filter (fun e => !(e.chain == c && e.unit == u)) } }
      let t := { t with net := { t.net with probed := Map.put t.net.probed c (u8 data 20) } }
      t.setEnd c (if (t.freePos c).isSome then 0 else 4)
    else if status = stUnsupportedRole then s.setEnd c 2
    else s.probeAnswered c
  else if j.op = 0x0101 ∧ status = stOk then
    let n := u16 j.req.payload 16 % 4096
    let e : TopoEntry := { chain := n / 64 % 4, pos := n % 64, unit := slice j.req.payload 0 16,
                           upPort := Map.at s.net.probed 0 (n / 64 % 4) }
    { s with net := { s.net with table := s.net.table.filter (fun x => !(x.chain == e.chain && x.pos == e.pos)) ++ [e] },
             key := { s.key with tileLast := Map.del s.key.tileLast n } }
  else if j.op = 0x0102 ∧ status = stOk then (if s.isDown c pos port then s.reachable c (pos + 1) (some pos) else s)
  else if j.op = 0x0102 ∧ status = stWrongState ∧ detail = 0x0103 then (if s.isDown c pos port then s.noLink c else s)
  else if j.op = 0x0103 ∧ status = stOk then (if s.isDown c pos port then s.setDown c pos .closed else s)
  else if j.op = 0x0104 ∧ status = stOk then
    { s with net := { s.net with table := s.net.table.filter (fun e => !(e.chain == c && e.pos == pos)) } }
  else s

end Sys2Proof.Machine
end

