-- ==== Sys2Proof/Machine/Wall.lean ====
section
/-! DEFINITION. What comes back from the wall to a lead: tile replies, aggregates, time-outs (R51, R60, R61, R442, R538), and Eclipse
(R137 to R143). -/

namespace Sys2Proof.Machine

/-- The gate generation G = DBG_OPEN + DBG_CLOSE (R437). -/
def State.gateGen (s : State) : Nat := s.otp.dbgOpen + s.otp.dbgClose

/-! ### Tile replies -/

/-- The lead relays a SESSION_KEY's OK (R442): it unseals LEAD_KEY and installs it for the tile, or replaces the OK by BAD_PARAM with
DETAIL 188 and raises EV_651. -/
def State.noteSessionKey (s : State) (j : Job) : State × Option Rsp :=
  let a := j.addrs.headD 0
  let id := u8 j.req.payload 0
  match unsealKey 3 id s.gateGen (slice j.req.payload 164 160) with
  | some k =>
    let i := a * 4 + 1 + id
    ({ s with key := { s.key with tiles := Map.put s.key.tiles (a * 2 + id) k, tileLast := Map.put s.key.tileLast a id,
                                  txSeq := s.key.txSeq.filter (fun x => x.1 / 32 != i),
                                  rxSeq := s.key.rxSeq.filter (fun x => x.1 / 32 != i),
                                  stopped := s.key.stopped.filter (· != i) } }, none)
  | none => (s.raise 651 2 id, some (rspErr stBadParam 188))

/-- The first message of the list leaves the inbox. -/
def State.takeMsgRow (s : State) (m : Msg) : State := { s with net := { s.net with inbox := s.net.inbox.erase m } }

/-- A unicast reply is passed to the host with the lead's own records updated (R51, R61). -/
def State.passReply (s : State) (j : Job) (packet : List Byte) : State :=
  let st := u16 packet 24
  let det := u16 packet 26
  let s1 := s.dropJob j.id
  let s2 := s1.noteReply j (if j.kind = 0 then j.addrs.headD 0 else if j.kind = 2 then j.req.addr else u16 packet 6 % 4096) st det (packet.drop 28)
  if j.op = 0x0C04 ∧ st = stOk then
    match s2.noteSessionKey j with
    | (t, some a) => t.answer t j.op j.req a
    | (t, none) => t.deliver j.op j.req st packet
  else s2.deliver j.op j.req st packet

/-- The job a reply belongs to: SEQ and TAG, and for a tile command the tile that answers (R96). -/
def Job.matches (j : Job) (packet : List Byte) (src : Nat) : Bool :=
  j.req.seq.toNat == u32 packet 8 && j.req.tag.toNat == u16 packet 14 && j.op == u16 packet 2 &&
    (j.kind == 2 || j.kind == 3 || j.addrs.contains src || (j.far.isSome && src % 256 == 0xFF))

/-- Replace a job by its next state. -/
def State.setJob (s : State) (j : Job) : State :=
  { s with cmd := { s.cmd with jobs := s.cmd.jobs.map (fun (x : Job) => if x.id = j.id then j else x) } }

/-- Is a reply to a job too late: a tile's after TILE_TIMEOUT of its broadcast, a far lead's after it was given up (R60, R538)? -/
def Job.tooLate (j : Job) (port : Nat) : Bool := j.kind == 1 && (if port = 7 then j.farGone else j.told)

/-- A reply after TIMEOUT is discarded with EV_22 (R60); one that belongs to no command is dropped. -/
def State.lateReply (s : State) (b : List Byte) (src : Nat) : State :=
  match s.cmd.late.find? (fun x => x.1 == u32 b 8 && x.2.1 == u16 b 14 && (x.2.2 == src || x.2.2 == 4096)) with
  | some x => ({ s with cmd := { s.cmd with late := s.cmd.late.erase x } }).raise 22 1 (src * 65536 + u16 b 14)
  | none => s

/-- TILE_REPLY_RECEIVED (R48, R61): a tile's reply is passed on or folded into an aggregate; one after TIMEOUT raises EV_22. -/
def execTileReplyReceived (m : Msg) (s : State) : Res :=
  if !s.alive || !s.isLead then .next s else
  let s := s.takeMsgRow m
  let b := m.body
  let src := u16 b 6 % 4096
  match discardCase b with
  | some c => .next (s.raise16 m.port c)
  | none =>
  match s.cmd.jobs.find? (fun j => j.matches b src && !j.tooLate m.port) with
  | some j =>
    if j.kind = 1 then
      if m.port = 7 then
        let j' := { j with farData := some (b.drop 24) }
        let t := s.setJob j'
        if j'.allIn then .next (t.endBcast j') else .next t
      else
        let j' := { j with replies := j.replies.filter (fun r => r.1 != src) ++ [(src, u16 b 24, u16 b 26)] }
        let t := (s.setJob j').noteReply j src (u16 b 24) (u16 b 26) (b.drop 28)
        if j'.allIn then .next (t.endBcast j') else .next t
    else .next (s.passReply j b)
  | none => .next (s.lateReply b src)

/-- TILE_TIMEOUT in raw LSB. -/
def State.tileTimeout (s : State) : Nat := rawMs (s.fld Reg.cmdCfg 27 20)

/-- Has a job's TILE_TIMEOUT passed (R60, R61)? Twilight holds it (R70). -/
def State.timedOut (s : State) (j : Job) : Bool :=
  !(j.lanes.any (fun l => s.chainAsleep l.1)) &&
  (match (if j.kind = 1 then j.sentAll else j.started) with
   | some t => decide (t + s.tileTimeout ≤ s.now)
   | none => false)

/-- The tiles of a job that have not answered. -/
def Job.missing (j : Job) : List Nat := j.addrs.filter (fun a => !(j.replies.any (fun r => r.1 == a)))

/-- Lowest of a list of addresses. -/
def lowestAddr (l : List Nat) : Nat := l.foldl min 4096

/-- The late replies to look for after a command's TIMEOUT: of each silent tile, or of any sender where the tile has no address (R96). -/
def Job.lateKeys (j : Job) : List (Nat × Nat × Nat) :=
  j.missing.map (fun a => (j.req.seq.toNat, j.req.tag.toNat, if j.kind = 2 then 4096 else a))

/-- TILE_TIMEOUT (R60, R98): the first command whose time has passed is answered TIMEOUT, with EV_21 once; a broadcast by its aggregate, once a
far lead's reply is in too (R538). A command for another lead was not authenticated here, so its answer carries no AUTHTAG (R56). -/
def execTileTimeout (s : State) : Res :=
  if !s.alive || !s.isLead then .next s else
  match s.cmd.jobs.find? (fun j => s.timedOut j && !j.told && !(j.kind == 1 && j.missing.isEmpty)) with
  | none => .next s
  | some j =>
    let t := { s with cmd := { s.cmd with late := s.cmd.late ++ j.lateKeys } }
    let t := if j.farGone then t else t.raise 21 2 (lowestAddr j.missing % 4096 * 65536 + j.req.tag.toNat)
    if j.kind = 1 then
      let j' := { j with told := true }
      if j'.allIn then .next ((t.setJob j').endBcast j') else .next (t.setJob j')
    else
      let t := t.dropJob j.id
      if j.kind = 3 then .next (t.answerPlain j.op j.req (rspErr stTimeout))
      else
        let t := if j.op = 0x0100 ∧ j.kind = 2 then t.setEnd (j.req.addr / 64 % 4) 3 else t
        .next (t.answer t j.op j.req (rspErr stTimeout))

/-- FAR_LEAD_REPLY_TIMEOUT (R538): twice TILE_TIMEOUT after the forwarding, the far lead is left out and counted as a time-out; EV_21 names it,
unless this command has raised EV_21 before (R60, R85). -/
def execFarLeadReplyTimeout (s : State) : Res :=
  if !s.alive || !s.isLead then .next s else
  match s.cmd.jobs.find? (fun j => j.farData.isNone && !j.farGone &&
      (match j.far with | some t => decide (t + 2 * s.tileTimeout ≤ s.now) | none => false)) with
  | none => .next s
  | some j =>
    let j' := { j with farGone := true }
    let a := leadAddr j.farLead
    let t := s.setJob j'
    let t := { t with cmd := { t.cmd with late := t.cmd.late ++ [(j.req.seq.toNat, j.req.tag.toNat, a)] } }
    let t := if j.told then t else t.raise 21 2 (a * 65536 + j.req.tag.toNat)
    if j'.allIn then .next (t.endBcast j') else .next t

/-! ### Eclipse (R137 to R143) -/

/-- Every port a marker goes out of: OPEN, UP or ACTIVE in a Volzia function, but the arrival port. -/
def State.markerPorts (s : State) (skip : Option Nat) : List Nat :=
  (List.range 8).filter (fun p => some p != skip &&
    (match s.portState p with
     | .up => true
     | .open_ => true
     | .active => s.func p == 3 || s.func p == 4
     | _ => false))

/-- Three consecutive copies of a marker on each port. -/
def State.sendMarkers (s : State) (ports : List Nat) (b : List Byte) : State :=
  s.emits (ports.flatMap (fun p => [Out.marker p b, Out.marker p b, Out.marker p b]))

/-- 100 ms of raw time (R137, R138). -/
def eclipseWindow : Nat := rawMs 100

/-- ECLIPSE_SEND (R137, R142): the next ESEQ, SAFE under slot 15, three markers on every port of the scope; with HOLD the lead keeps
its own record. -/
def execEclipseSend (r : Req) (s : State) : Res :=
  runReq 0x0705 r s fun s =>
    let scope := u8 r.payload 0
    let c := u8 r.payload 1
    let hold := (u8 r.payload 2).testBit 0
    let e := s.net.ecl.nextEseq
    if scope ≠ 0 ∧ scope ≠ 2 then (s, rspParam 0)
    else if scope = 0 ∧ 4 ≤ c then (s, rspParam 1)
    else if s.net.ecl.sentAt.any (fun x => x.1 == e && decide (s.now < x.2 + eclipseWindow)) then (s, rspErr stBusy 0x0705)
    else
      let chain := if scope = 0 then c else 0
      let h : HoldOff := { eseq := e, safe := r.isSafety, scope := scope, chain := chain, domain := s.domainId }
      let ports := if scope = 0 then
          [c].filter (fun p => s.portState p == .open_) ++ (if s.paired ∧ s.portState 6 = .active then [6] else [])
        else (List.range 4).filter (fun p => s.portState p == .open_) ++ (if s.portState 6 = .active then [6] else []) ++
          (if s.farLead.isSome then [7] else [])
      let ecl := { s.net.ecl with
        nextEseq := (e + 1) % 256,
        sentAt := (e, s.now) :: s.net.ecl.sentAt.filter (fun x => s.now < x.2 + eclipseWindow),
        acted := (s.leadNum, e, s.now) :: s.net.ecl.acted.filter (fun x => s.now < x.2.2 + eclipseWindow),
        holds := if hold then Map.put s.net.ecl.holds s.leadNum h else s.net.ecl.holds }
      (({ s with net := { s.net with ecl := ecl } }).sendMarkers ports (eclipseMarker h hold s.leadNum), rspOk)

/-- A tile acts on a marker (R139, R140): dark at once, schedule stopped, EV_72; HOLD records a hold-off. -/
def State.eclipseTile (s : State) (origin : Nat) (h : HoldOff) (hold : Bool) : State :=
  let ecl := { s.net.ecl with dark := true,
                              markAt := if hold then s.net.ecl.markAt else s.now,
                              holds := if hold then Map.put s.net.ecl.holds origin h else s.net.ecl.holds }
  (({ s with net := { s.net with ecl := ecl } }).abortRun (fun r => decide (0x30 ≤ r.target) && decide (r.target ≤ 0x37))).stopSchedule

/-- ECLIPSE_MARKER_RECEIVED (R138 to R140, R143). -/
def execEclipseMarkerReceived (port : Nat) (marker : List Byte) (s : State) : Res :=
  if !s.alive || 8 ≤ port then .next s
  else if !(markerOk marker && u8 marker 1 == 0xEC && (u8 marker 2 / 64 == 0 || u8 marker 2 / 64 == 2)) then
    execMarkerError port marker s
  else
    let a0 := u8 marker 2
    let origin := a0 % 16
    let hold := a0.testBit 5
    let h : HoldOff := { eseq := u8 marker 3, safe := a0.testBit 4, scope := a0 / 64, chain := u8 marker 5 % 4, domain := u8 marker 6 }
    let live := match s.portState port with | .closed => false | .lost => false | .off => false | _ => true
    if !live then .next s
    else if s.isLead && h.domain != s.domainId then .next (s.raise 69 2 (port + 0xEC * 256))
    else if s.net.ecl.acted.any (fun x => x.1 == origin && x.2.1 == h.eseq && decide (s.now < x.2.2 + eclipseWindow)) then .next s
    else
      let ecl := { s.net.ecl with
        acted := (origin, h.eseq, s.now) :: s.net.ecl.acted.filter (fun x => s.now < x.2.2 + eclipseWindow),
        last := (h.scope, origin, h.chain, h.eseq) }
      let s1 := { s with net := { s.net with ecl := ecl } }
      let ports := if s.portState port = .listen then []
        else if s.isLead then
          if h.scope = 0 then (if port = 6 ∧ s.portState h.chain = .open_ then [h.chain] else [])
          else s.markerPorts (some port)
        else s.markerPorts (some port)
      let s2 := s1.sendMarkers ports marker
      let s3 := if s.isLead then s2 else s2.eclipseTile origin h hold
      .next (s3.raise 72 2 (origin + bn h.safe * 16 + bn hold * 32 + h.scope * 64 + h.eseq * 256 + port * 65536))

/-- ECLIPSE_CLEAR in a tile (R140, R142): the hold-off of the named origin and ESEQ is removed; the last one raises EV_73. -/
def State.clearHold (s : State) (origin eseq : Nat) (safety : Bool) (slot : Nat) : State × Rsp :=
  match Map.find s.net.ecl.holds origin with
  | none => (s, rspErr stWrongState 0x0701)
  | some h =>
    if h.eseq ≠ eseq then (s, rspErr stWrongState 0x0701)
    else if h.safe && !safety then (s, rspErr stNotAuthorized slot)
    else
      let holds := Map.del s.net.ecl.holds origin
      let t := { s with net := { s.net with ecl := { s.net.ecl with holds := holds, markAt := s.now } } }
      if holds.isEmpty then (t.raise 73 1 (origin + bn h.safe * 16 + eseq * 256), rspOk) else (t, rspOk)

/-- ECLIPSE_CLEAR (R142): in a tile as clearHold; in a lead its own record, then a class 0 broadcast to the tiles of the scope with one
aggregate reply. -/
def execEclipseClear (r : Req) (s : State) : Res :=
  runReqLater 0x0706 r s fun s =>
    let scope := u8 r.payload 0
    let c := u8 r.payload 1
    let origin := u8 r.payload 2
    let eseq := u8 r.payload 3
    if scope ≠ 0 ∧ scope ≠ 2 then (s, some (rspParam 0))
    else if scope = 0 ∧ 4 ≤ c then (s, some (rspParam 1))
    else if 16 ≤ origin then (s, some (rspParam 2))
    else if s.isTile then
      let (t, a) := s.clearHold origin eseq r.isSafety r.slot
      (t, some a)
    else
      match Map.find s.net.ecl.holds origin with
      | none => (s, some (rspErr stWrongState 0x0701))
      | some h =>
        if origin ≠ s.leadNum ∨ h.eseq ≠ eseq ∨ h.scope ≠ scope ∨ (scope = 0 ∧ h.chain ≠ c) then (s, some (rspErr stWrongState 0x0701))
        else if h.safe && !r.isSafety then (s, some (rspErr stNotAuthorized r.slot))
        else
          let t := { s with net := { s.net with ecl := { s.net.ecl with holds := Map.del s.net.ecl.holds origin } } }
          let chains := if scope = 0 then [c] else [0, 1, 2, 3]
          match t.bcastTarget chains (scope == 2 && t.farLead.isSome) with
          | .tiles _ addrs lanes p7 =>
            if addrs.isEmpty ∧ !p7 then (t, some t.noTiles)
            else match s.bcastRefusal 0x0706 r.cls lanes with
            | (u, some a) => (u, some a)
            | (_, none) =>
              let dest := (if scope = 0 then t.leadField * 256 + c * 64 else t.leadField * 256 + 2) + r.cls * 4096
              let q := { r with flags := (r.flags ||| 0x20#8) &&& 0xEF#8, dest := BitVec.ofNat 16 dest }
              let p := reqPacket q 0x0706
              let p := if r.isAuth then p ++ fit 16 (authTagOf (t.credKey r) p) else p
              (t.startJob 0x0706 r 1 addrs lanes p7 p, none)
          | _ => (t, some rspOk)

end Sys2Proof.Machine
end

