-- ==== Sys2Proof/Machine/Meridian.lean ====
section
/-! DEFINITION. The Meridian time unit: derived domains, staged writes, snapshots, captures, TIME messages, servos, calibration, PTP and
domain switching (R147 to R180). -/

namespace Sys2Proof.Machine

/-! ### Helpers -/

/-- Address of a domain's configuration register. -/
def domReg (base : Nat) (d : Bool) : Nat := base + 0x40 * bn d
/-- SRC of a domain (R161). -/
def State.domSrc (s : State) (d : Bool) : Nat := s.fld (domReg Reg.tmuDomCfg d) 31 29
/-- TMU_CFG.ENABLE. -/
def State.tmuOn (s : State) : Bool := s.bit Reg.tmuCfg 0

/-- Does Ephemeris hold an announced launch that has not yet passed (R157, R174)? -/
def State.holdsLaunch (s : State) : Bool := s.lch.table.any (fun l => decide (s.derivedNow < s.inActive l))

/-- The nominal rate (R151). -/
def rateNominal : Nat := 0x0003E80000000000

/-- Is a rate from nominal × (1 - 10^-3) to nominal × (1 + 10^-3) (R151)? -/
def rateOk (r : Nat) : Bool := decide (rateNominal * 999 ≤ r * 1000) && decide (r * 1000 ≤ rateNominal * 1001)

/-- The next TIME edge at or after a raw instant (R156). -/
def timeEdge (a : Nat) : Nat := (a + 63) / 64 * 64

/-- A value's offset in 2^-56 ns. -/
def fracUnits : Int := 1099511627776

/-! ### Staged writes (R156 to R158) -/

/-- Apply a staged write at its instant (R156): a rate keeps derived time at A; a value sets it. -/
def Dom.apply (d : Dom) (w : Staged) : Dom :=
  let d1 := match w.rate with
    | some r => { d with offset := d.offset + ((d.rate : Int) - r) * w.at_, rate := r }
    | none => d
  match w.value with
  | some v => { d1 with offset := (v : Int) * fracUnits - (d1.rate : Int) * w.at_, valid := true }
  | none => d1

/-- The instant of a write applied at once (R156): the first TIME edge after execution. -/
def State.nextEdge (s : State) : Nat := (s.now / 64 + 1) * 64

/-- Why a staged write is refused (R151, R157): 1 rate, 2 instant, 3 value, else a WRONG_STATE DETAIL. -/
def State.stageRefusal (s : State) (d : Bool) (value rate : Option Nat) (at_ : Nat) (once : Bool) : Option Nat :=
  let a := if once then s.nextEdge else timeEdge at_
  let r := rate.getD (s.dom d).rate
  if !(match rate with | some x => rateOk x | none => true) then some 1
  else if !once ∧ at_ < s.now + rawUs 2 then some 2
  else if (match value with | some v => decide ((v : Int) * fracUnits < (r : Int) * a) | none => false) then some 3
  else if s.domSrc d ≠ 0 then some 0x0206
  else if value.isSome ∧ d = s.tmu.active ∧ s.holdsLaunch then some 0x0201
  else none

/-- Put a write in a domain's pending slot (R156). -/
def State.stage (s : State) (d : Bool) (value rate : Option Nat) (at_ : Nat) (once : Bool) : State :=
  s.setDom d { s.dom d with pend := some { value := value, rate := rate, atOnce := once,
                                           at_ := if once then s.nextEdge else timeEdge at_ } }

/-- A staged write applied (R156, R158): EV_131, TMU_STG_CTL.APPLIED, and the mark of LMG-KL-05. -/
def State.applyStaged (s : State) (d : Bool) : State :=
  match (s.dom d).pend with
  | none => s
  | some w =>
    let t := s.setDom d { (s.dom d).apply w with pend := none }
    let t := if w.value.isSome && !d then { t with tmu := { t.tmu with kl05 := some w.at_ } } else t
    (t.setFld Reg.tmuStgCtl 9 9 1).raise 131 1 (bn d + bn w.value.isSome * 2 + bn w.rate.isSome * 4 + bn w.atOnce * 8)

/-- The pending write of a domain applied, if its instant has come (R155, R156). -/
def State.settleDom (s : State) (d : Bool) : State :=
  match (s.dom d).pend with
  | none => s
  | some w => if w.at_ ≤ s.now then s.applyStaged d else s

/-- Both domains as a snapshot must show them: with every write whose instant has come (R155). -/
def State.settle (s : State) : State := (s.settleDom false).settleDom true

/-- STAGED_WRITE_APPLY (R155, R156): at its instant the domain's pending write changes OFFSET and RATE. -/
def execStagedWriteApply (d : Bool) (s : State) : Res :=
  if s.alive then .next (s.settleDom d) else .next s

/-- The staging registers' value, if NS is in range. -/
def State.stgValue (s : State) : Option Nat :=
  timeAt (b2 (s.fld Reg.tmuStgValHi 15 0) ++ b4 (s.reg Reg.tmuStgValLo).toNat ++ b4 (s.reg (Reg.tmuStgValLo + 4)).toNat ++
    b2 (s.fld Reg.tmuStgFrac 15 0)) 0

/-- The staging registers' rate. -/
def State.stgRate (s : State) : Nat := (s.reg Reg.tmuStgRate).toNat * 2 ^ 32 + (s.reg (Reg.tmuStgRate + 4)).toNat

/-- The staging registers' instant. -/
def State.stgAt (s : State) : Nat :=
  (s.reg Reg.tmuStgAtHi).toNat * 2 ^ 64 + (s.reg Reg.tmuStgAtLo).toNat * 2 ^ 32 + (s.reg (Reg.tmuStgAtLo + 4)).toNat

/-- Store the RW and W1C bits of TMU_STG_CTL. -/
def State.storeStgCtl (s : State) (w : Word) : State :=
  let old := s.reg Reg.tmuStgCtl
  s.setReg Reg.tmuStgCtl ((w &&& 0x33#32) ||| (old &&& 0x600#32 &&& ~~~w))

/-- Why a GO of TMU_STG_CTL is refused (R150, R151, R157): 1 to 3 for a value refused, else a WRONG_STATE DETAIL. -/
def State.goRefusal (s : State) (w : Nat) : Option Nat :=
  if !w.testBit 31 ∨ w % 4 = 0 then none
  else if w.testBit 0 ∧ s.stgValue.isNone then some 3
  else s.stageRefusal (w.testBit 4) (if w.testBit 0 then s.stgValue else none) (if w.testBit 1 then some s.stgRate else none) s.stgAt
    (w.testBit 5)

/-- A GO refused for a reason of `goRefusal`: REFUSED, and EV_132 with the low byte of TIME_SET's DETAIL (R157, R180). -/
def State.noteGoRefused (s : State) (d : Bool) (c : Nat) : State :=
  (s.setFld Reg.tmuStgCtl 10 10 1).raise 132 2 (bn d + (if c = 2 then 40 else if c < 4 then 28 else c % 256) * 256)

/-- GO (R150, R157, R158): copy the staging registers into the pending slot of DOMAIN, cancel with KIND 0b00, or refuse with REFUSED and
EV_132. -/
def State.stgGo (s : State) (w : Word) : State :=
  let s := s.storeStgCtl w
  let d := w.toNat.testBit 4
  if !w.toNat.testBit 31 then s
  else if w.toNat % 4 = 0 then s.setDom d { s.dom d with pend := none }
  else match s.goRefusal w.toNat with
    | some c => s.noteGoRefused d c
    | none =>
      s.stage d (if w.toNat.testBit 0 then s.stgValue else none) (if w.toNat.testBit 1 then some s.stgRate else none) s.stgAt (w.toNat.testBit 5)

/-- TMU_STG_GO (R158). -/
def execTmuStgGo (ctl : Word) (s : State) : Res :=
  if s.alive then .next (s.stgGo (ctl ||| 0x80000000#32)) else .next s

/-- TMU_STG_CANCEL (R158): GO with KIND 0b00 cancels the pending write of DOMAIN. -/
def execTmuStgCancel (ctl : Word) (s : State) : Res :=
  if s.alive then .next (s.stgGo ((ctl &&& 0xFFFFFFFC#32) ||| 0x80000000#32)) else .next s

/-- The answer to TIME_SET and TIME_RATE: the offsets of the rate, value and instant fields. -/
def State.stageCmd (s : State) (d : Bool) (value rate : Option Nat) (at_ : Nat) (once : Bool) (oR oV oA : Nat) : State × Rsp :=
  match s.stageRefusal d value rate at_ once with
  | none => (s.stage d value rate at_ once, rspOk)
  | some c =>
    if c = 1 then (s, rspParam oR)
    else
      let a := if c = 2 then rspParam oA else if c = 3 then rspParam oV else rspErr stWrongState c
      (s.raise 132 2 (bn d + a.detail % 256 * 256), a)

/-- TIME_SET (R150, R156, R157, R177). Bits 95:72 of an instant it uses are zero (R7, R177). -/
def execTimeSet (r : Req) (s : State) : Res :=
  runReq 0x0201 r s fun s =>
    let d := u8 r.payload 0
    let mode := u8 r.payload 1
    if 1 < d then (s, rspParam 0)
    else if 1 < mode then (s, rspParam 1)
    else match timeAt r.payload 4 with
      | none => (s.raise 132 2 (d + 28 * 256), rspParam 4)
      | some v =>
        if mode = 0 ∧ fieldAt r.payload 16 3 ≠ 0 then (s, rspParam 16)
        else s.stageCmd (d == 1) (some v) none (fieldAt r.payload 16 12) (mode == 1) 4 4 16

/-- TIME_RATE (R151, R156, R157, R177). Bits 95:72 of an instant it uses are zero (R7, R177). -/
def execTimeRate (r : Req) (s : State) : Res :=
  runReq 0x0202 r s fun s =>
    let d := u8 r.payload 0
    let mode := u8 r.payload 1
    if 1 < d then (s, rspParam 0)
    else if 1 < mode then (s, rspParam 1)
    else if mode = 0 ∧ rateOk (u64 r.payload 4) ∧ fieldAt r.payload 12 3 ≠ 0 then (s, rspParam 12)
    else s.stageCmd (d == 1) none (some (u64 r.payload 4)) (fieldAt r.payload 12 12) (mode == 1) 4 4 12

/-! ### Reads (R153 to R155) -/

/-- Derived time of a domain now as a time value's number of 2^-16 ns. -/
def State.timeOf (s : State) (d : Bool) : Nat := ((s.dom d).at s.now).toNat

/-- A snapshot taken now; bits 5:0 of the running counter are zero (R148). -/
def State.snapNow (s : State) (sq : Nat) : Snap :=
  { seq := sq, raw := s.now / 64 * 64, m0 := s.timeOf false, m1 := s.timeOf true, v0 := s.tmu.d0.valid, v1 := s.tmu.d1.valid,
    read := [], fresh := true }

/-- Word k of TMU_NOW from a snapshot (R153). -/
def Snap.word (n : Snap) (k : Nat) : Nat :=
  let tw (t : Nat) (v : Bool) (i : Nat) : Nat :=
    if i = 0 then t / unitsPerSec / 2 ^ 32 % 65536 + bn v * 2 ^ 31
    else if i = 1 then t / unitsPerSec % 2 ^ 32
    else if i = 2 then t / 65536 % 1000000000
    else t % 65536
  if k = 0 then n.seq % 2 ^ 32
  else if k = 1 then n.raw / 2 ^ 64
  else if k = 2 then n.raw / 2 ^ 32 % 2 ^ 32
  else if k = 3 then n.raw % 2 ^ 32
  else if k < 8 then tw n.m0 n.v0 (k - 4)
  else tw n.m1 n.v1 (k - 8)

/-- A read of TMU_NOW word `k` through BAR0 (R154): the snapshot it returns the word of. It latches a new one where that word was already read
or the snapshot is over 100 µs old; a read of TMU_NOW_SEQ never does. -/
def State.latchNow (s : State) (k : Nat) : State :=
  if k = 0 then s
  else
    let n := s.tmu.snap
    let stale := !n.fresh || n.read.contains k || decide (n.raw + rawUs 100 < s.now)
    let t := if stale then s.settle else s
    let n' := if stale then t.snapNow ((n.seq + 1) % 2 ^ 32) else n
    { t with tmu := { t.tmu with snap := { n' with read := k :: n'.read } } }

/-- TMU_NOW_READ (R154): a BAR0 read of a TMU_NOW word. -/
def execTmuNowRead (offset : Nat) (s : State) : Res :=
  let k := offset / 4
  if !s.alive || 12 ≤ k || offset % 4 != 0 then .next s
  else
    let t := s.latchNow k
    .next (t.emit (.readData (Reg.tmuNow + offset) (t.tmu.snap.word k)))

/-- The snapshot that a command takes when it executes (R154). DEDUCED (log entry 35): commands are executed by the management firmware, so
their snapshots count in its sequence. -/
def State.takeSnap (s : State) : State :=
  let t := s.settle
  { t with tmu := { t.tmu with fw := t.snapNow ((s.tmu.fw.seq + 1) % 2 ^ 32) } }

/-- TIME_READ (R154, R177): a snapshot of its own. -/
def execTimeRead (r : Req) (s : State) : Res :=
  runReq 0x0200 r s fun s =>
    let t := s.takeSnap
    let n := t.tmu.fw
    (t, rspOk (b4 n.seq ++ beBytes 12 n.raw ++ timeBytes n.m0 ++ timeBytes n.m1 ++
      b4 (bn s.tmu.active + bn n.v0 * 2 + bn n.v1 * 4)))

/-- ρ falls toward 0 by at most SLEW per second of raw time (R173). -/
def State.bridgeNow (s : State) : Int :=
  match s.tmu.bridge with
  | none => 0
  | some (rho, t0) =>
    let slew := s.fld Reg.tmuBridge 23 16 * 10 * 65536
    let dec : Int := ((s.now - t0) * slew / rawSec 1 : Nat)
    if 0 ≤ rho then max 0 (rho - dec) else min 0 (rho + dec)

/-- The 64-bit two's complement of a signed value. -/
def s64 (v : Int) : Nat := unsigned 64 v

/-- Servo state codes (TMU_DOMd_STATUS). -/
def Servo.code : Servo → Nat
  | .free => 0 | .acquire => 1 | .locked => 2 | .holdover => 3

/-- TIME_STATUS (R177). -/
def execTimeStatus (r : Req) (s : State) : Res :=
  runReq 0x0206 r s fun s =>
    let one (d : Bool) : List Byte :=
      let x := s.dom d
      b1 x.servo.code ++ b1 (s.domSrc d) ++ b1 x.lhops ++ zeros 1 ++ b8 (s64 x.theta) ++ b8 (s64 x.mpd) ++ b8 x.rate ++
        b2 (unsigned 16 x.utcOffset) ++ zeros 2
    (s, rspOk (one false ++ one true ++ b1 (bn s.tmu.active) ++ b1 (bn s.tmu.bridge.isSome) ++ zeros 2 ++ b8 (s64 s.bridgeNow)))

/-! ### Captures (R160) -/

/-- Replace a capture FIFO. -/
def State.setCap (s : State) (n : Nat) (c : CapFifo) : State := { s with tmu := { s.tmu with caps := s.tmu.caps.set n c } }

/-- Put a capture in its FIFO, or discard it with EV_139 where the FIFO is full. -/
def State.capture (s : State) (n stamp : Nat) : State :=
  let c := s.tmu.caps.getD n {}
  if c.entries.length < 16 then s.setCap n { c with entries := c.entries ++ [(stamp, (s.actDom.at stamp).toNat)] }
  else (s.setCap n { c with discards := min 0xFFFF (c.discards + 1) }).raise 139 2 n

/-- TMU_CAP_POP (R160): a read of TMU_CAPn_RAW_HI pops the head entry into the registers. -/
def execTmuCapPop (input : Nat) (s : State) : Res :=
  if !s.alive || 4 ≤ input then .next s
  else
    let c := s.tmu.caps.getD input {}
    match c.entries with
    | [] => .next (s.emit (.readData (Reg.tmuCapRawHi + 0x20 * input) (c.shown.1 / 2 ^ 64)))
    | e :: rest => .next ((s.setCap input { c with entries := rest, shown := e }).emit (.readData (Reg.tmuCapRawHi + 0x20 * input) (e.1 / 2 ^ 64)))

/-! ### TIME messages (R162 to R167) -/

/-- The content of a TIME cell (R163). -/
def timeBody (mtype mflags mseq req ta creq asym utc lhops : Nat) : List Byte :=
  fit 240 (b1 mtype ++ b1 mflags ++ b2 mseq ++ b2 req ++ timeBytes ta ++ beBytes 6 creq ++ b4 asym ++ b2 utc ++ b1 lhops)

/-- MFLAGS of a domain (R163). -/
def State.mflags (s : State) (d : Bool) : Nat := bn d + bn (s.dom d).valid * 2 + bn ((s.dom d).servo == .locked) * 4

/-- The broadcast destination of a chain's cells from a lead, or the far lead on P6 and P7. -/
def State.timeDest (s : State) (p : Nat) : Nat × Bool :=
  if p < 4 then (s.leadField * 256 + p * 64, true)
  else if p = 6 then (leadAddr (s.leadNum ^^^ 1), false)
  else (leadAddr (s.farLead.getD 0), false)

/-- TIME_SYNC_SEND (R162): the lead sends SYNC, and its FOLLOW with the egress stamp, for a VALID domain on a distributing port. -/
def execTimeSyncSend (port : Nat) (d : Bool) (s : State) : Res :=
  let runs := s.alive && s.isLead && s.tmuOn && decide (port < 8) && s.bit Reg.tmuCfg (24 + port) && (s.dom d).valid &&
    (s.portState port == .open_ || s.pai.relay.testBit port || (s.portState port == .active && (s.func port == 3 || s.func port == 4)))
  if !runs then .next s
  else
    let x := s.dom d
    let (dest, bc) := s.timeDest port
    let body := timeBody 1 (s.mflags d) x.mseq (leadAddr s.leadNum) 0 0 0 (unsigned 16 x.utcOffset) x.lhops
    .next ((s.setDom d { x with mseq := (x.mseq + 1) % 65536 }).send
      { port := port, typ := 3, dest := dest, bcast := bc, key := 3, body := body, mark := 1 })

/-- 0x0nFF of the source lead of a chip's domain (R163): in a tile the one that its SYNC cells name, before any the lead of its address. -/
def State.sourceLead (s : State) (d : Bool) : Nat :=
  if s.isLead then leadAddr s.leadNum
  else if (s.dom d).src ≠ 0 then (s.dom d).src
  else leadAddr (s.net.addr / 256 % 16)

/-- DREQ_SEND (R166): a tile whose domain has SRC 0b100 asks its time source lead. -/
def execDreqSend (d : Bool) (s : State) : Res :=
  if !(s.alive && s.isTile && s.tmuOn && s.net.valid && s.domSrc d == 4) then .next s
  else
    let x := s.dom d
    let (port, dir) := s.ownPath
    let body := timeBody 3 (s.mflags d) x.dseq s.net.addr 0 0 0 0 0
    .next ((s.setDom d { x with dseq := (x.dseq + 1) % 65536, dreq := some (x.dseq, none) }).send
      { port := port, typ := 3, dest := s.sourceLead d, dir := dir, relay := false, key := 3, body := body, mark := 2 })

/-- Is a port UP, OPEN or ACTIVE in a Volzia function? -/
def State.volziaPort (s : State) (p : Nat) : Bool :=
  match s.portState p with
  | .up => true
  | .open_ => true
  | .active => s.func p == 3 || s.func p == 4
  | _ => false

/-- Send one PDREQ on a port (R163 to R165): hop-local, in the active domain. -/
def State.sendPdreq (s : State) (port : Nat) : State :=
  let d := s.tmu.active
  ({ s with tmu := { s.tmu with pseq := (s.tmu.pseq + 1) % 65536 } }).send
    { port := port, typ := 3, dest := 0, dir := s.isTile && port == s.net.upPort, key := 3,
      body := timeBody 5 (s.mflags d) s.tmu.pseq (s.sourceLead d) 0 0 0 0 0, mark := 3 }

/-- PDREQ_SEND (R165). -/
def execPdreqSend (port : Nat) (s : State) : Res :=
  if s.alive && s.tmuOn && decide (port < 8) && s.volziaPort port then .next (s.sendPdreq port) else .next s

/-- PDREQ_RECEIVED (R165): answered with a PDRESP that carries its turnaround. -/
def execPdreqReceived (m : Msg) (s : State) : Res :=
  let t := s.takeMsgRow m
  if !(s.alive && u8 m.body 0 == 5) then .next t
  else
    let d := (u8 m.body 1).testBit 0
    let body := timeBody 6 (s.mflags d) (u16 m.body 2) (s.sourceLead d) 0 0 0 0 0
    .next (t.send { port := m.port, typ := 3, dest := 0, dir := s.isTile && m.port == s.net.upPort, key := 3, body := body,
                    mark := 4, arg := m.stamp })

/-- The average of halves, each given doubled, times `k`: rounded once (R536). -/
def avgHalves (k : Nat) (l : List Int) : Int := if l.isEmpty then 0 else roundDiv (l.sum * k) (2 * l.length)

/-- PDRESP_RECEIVED (R165): the link mean delay (rx - tx - TURN) / 2, averaged over the last 16 exchanges; a PATH_CAL counts 64 of them. A
faulted core 1 averages nothing (R476). -/
def execPdrespReceived (m : Msg) (s : State) : Res :=
  let t := s.takeMsgRow m
  let k := 65536 * m.port + u16 m.body 2
  match Map.find s.tmu.pdreq k with
  | some tx =>
    if !(s.alive && u8 m.body 0 == 6) || s.coreFaulted 1 then .next t
    else
      let v : Int := (m.stamp : Int) - tx - fieldAt m.body 18 6
      let l := (v :: Map.at s.tmu.pdelay [] m.port).take 16
      let pc := match t.tmu.pathCal with
        | some c => if c.port = m.port ∧ !c.ring then some { c with cw := v :: c.cw } else some c
        | none => none
      let t := { t with tmu := { t.tmu with pdelay := Map.put t.tmu.pdelay m.port l, pdreq := Map.del t.tmu.pdreq k, pathCal := pc } }
      .next (t.setReg (Reg.tmuPortDly + 0x10 * m.port) (BitVec.ofInt 32 (avgHalves 1 l)))
  | none => .next t

/-- TIME_SYNC_RECEIVED (R163, R166): the ingress stamp and CORR of a SYNC wait for its FOLLOW; REQ names the source lead. -/
def execTimeSyncReceived (m : Msg) (s : State) : Res :=
  let t := s.takeMsgRow m
  let d := (u8 m.body 1).testBit 0
  if !(s.alive && s.tmuOn && u8 m.body 0 == 1) then .next t
  else .next (t.setDom d { t.dom d with sync := some (u16 m.body 2, m.stamp, m.corr), src := u16 m.body 4 % 4096 })

/-! ### Servo (R168, R169) -/

/-- A servo state change raises EV_128, entry into HOLDOVER EV_129 (R169), and in a tile whose launches run, the active domain's leaving LOCKED
EV_201 (R199). -/
def State.setServo (s : State) (d : Bool) (v : Servo) (cause : Nat) : State :=
  let x := s.dom d
  if x.servo = v then s
  else
    let t := (s.setDom d { x with servo := v, inRun := 0, outRun := 0 }).raise 128 0 (bn d + x.servo.code * 16 + v.code * 64)
    let t := if v = .holdover then t.raise 129 2 (bn d + cause * 2) else t
    if s.isTile && d == s.tmu.active && x.valid && x.servo == .locked && (s.lch.state == .tRun || s.lch.state == .tCoast) then
      t.raise 201 2 (bn d + v.code * 4)
    else t

/-- Clamp a rate to nominal ± SLEW_MAX ppm (R168). -/
def State.slewClamp (s : State) (d : Bool) (r : Int) : Nat :=
  let lim : Int := (rateNominal * s.fld (domReg Reg.tmuDomCfg d) 23 16 / 1000000 : Nat)
  (clampInt ((rateNominal : Int) - lim) ((rateNominal : Int) + lim) r).toNat

/-- The nominal interval between a domain's samples, in raw LSB (R162, R169, R172): 2^-SYNC_LOG s, or that of the PTP master's Syncs. -/
def State.sampleInterval (s : State) (d : Bool) : Nat :=
  if s.domSrc d = 1 then
    let e := (if d then s.tmu.ptp1 else s.tmu.ptp0).syncLog
    if 0 ≤ e then rawSec (2 ^ e.toNat) else rawSec 1 / 2 ^ (-e).toNat
  else rawSec 1 / 2 ^ s.fld Reg.tmuCfg 23 20

/-- A write that the servo stages for itself, at the next edge (R156, R168). -/
def Dom.servoWrite (x : Dom) (value rate : Option Nat) (edge : Nat) : Dom :=
  { x with pend := some { value := value, rate := rate, at_ := edge, atOnce := true } }

/-- The servo steps its domain (R168): derived time moves by -θ at the next edge; both runs begin anew (R169). -/
def State.servoStepDom (s : State) (d : Bool) (theta : Int) : State :=
  let x := s.dom d
  let v := x.at s.nextEdge - theta
  (s.setDom d (({ x with sampleAt := s.now, theta := 0, integ := 0, excursion := false, inRun := 0, outRun := 0 } : Dom).servoWrite
    (some v.toNat) none s.nextEdge)).setServo d .acquire 0

/-- One usable offset sample θ (2^-16 ns) of a domain's servo (R149, R168, R169): it steps, slews or steers the rate. DEDUCED (log entry 36),
since the rule names the gains and not the filter: the filtered offset moves by 2^-KP_SHIFT of its distance from θ, the integral grows by
2^-KI_SHIFT of θ, and the rate corrects both over one sample interval. -/
def State.servoSample (s : State) (d : Bool) (theta : Int) : State :=
  let x := s.dom d
  let cfg := domReg Reg.tmuDomCfg d
  let kp := s.fld cfg 15 12
  let big := decide (((2 ^ s.fld cfg 28 24 * 65536 : Nat) : Int) < theta.natAbs)
  if !x.valid && s.pwr.pllLost.contains 1 then s
  else if !x.valid || (big && !(d == s.tmu.active && s.holdsLaunch)) then s.servoStepDom d theta
  else
    let f := x.theta + (theta - x.theta) / (2 ^ kp : Nat)
    let integ := if big then x.integ else x.integ + theta / (2 ^ s.fld cfg 11 8 : Nat)
    let corr : Int := (integ + theta / (2 ^ kp : Nat)) * fracUnits / (max 1 (s.sampleInterval d) : Nat)
    let r := if big then (if 0 < theta then 0 else 2 * (rateNominal : Int)) else (rateNominal : Int) - corr
    let within := decide (f.natAbs ≤ s.fld cfg 7 0 * 65536)
    let y : Dom := { x with sampleAt := s.now, theta := f, integ := integ, excursion := big, inRun := if within then x.inRun + 1 else 0,
                            outRun := if within then 0 else x.outRun + 1 }
    let t := s.setDom d (y.servoWrite none (some (s.slewClamp d r)) s.nextEdge)
    let t := if big && !x.excursion then t.raise 130 3 (bn d + (unsigned 24 (clampInt (-8388608) 8388607 (theta / 65536))) * 256) else t
    match x.servo with
    | .free | .holdover => t.setServo d .acquire 0
    | .acquire => if 16 ≤ y.inRun then t.setServo d .locked 0 else t
    | .locked => if 4 ≤ y.outRun then t.setServo d .acquire 0 else t

/-- Does a domain of this chip take its time from the port of a TIME cell (R161)? -/
def State.takesTime (s : State) (d : Bool) (port : Nat) : Bool :=
  if s.isTile then s.domSrc d == 4 else (s.domSrc d == 2 && port == 6) || (s.domSrc d == 3 && port == 7)

/-- The one-way delay of a chip's time path in 2^-16 ns, if it has been measured: m + ASYM in a tile (R166); in a lead its link's mean delay and
TMU_PORTp_ASYM (R165, R171). -/
def State.pathDelay (s : State) (d : Bool) (port : Nat) : Option Int :=
  let x := s.dom d
  let l := Map.at s.tmu.pdelay [] port
  if s.isTile then (if x.mpds.isEmpty then none else some (x.mpd + x.asym * 1000))
  else if l.isEmpty then none
  else some (avgHalves 1000 l + signed 32 (s.reg (Reg.tmuPortAsym + 0x10 * port)).toNat * 1000)

/-- FOLLOW_RECEIVED (R166): t1 for its SYNC, within the SYNC interval that follows it, completes an offset sample
θ = t2 - t1 - c_s - (m + ASYM). -/
def execFollowReceived (m : Msg) (s : State) : Res :=
  let t := s.takeMsgRow m
  let d := (u8 m.body 1).testBit 0
  let x := t.dom d
  match x.sync, timeAt m.body 6 with
  | some (sq, stamp, cs), some t1 =>
    if !(s.alive && s.tmuOn && u8 m.body 0 == 2 && sq == u16 m.body 2 && s.takesTime d m.port &&
        decide (m.stamp ≤ stamp + s.sampleInterval d)) then .next t
    else
      let t := t.setDom d { x with sync := none, lastSync := some (t1, stamp, cs), utcOffset := signed 16 (u16 m.body 28),
                                   lhops := if s.isTile then u8 m.body 30 else u8 m.body 30 + 1 }
      match s.pathDelay d m.port with
      | some delay =>
        if s.coreFaulted 1 || !(u8 m.body 1).testBit 1 then .next t
        else .next (t.servoSample d (x.at stamp - t1 - (cs : Int) * 1000 - delay))
      | none => .next t
  | _, _ => .next t

/-- The asymmetry a lead sends in a DRESP (R171): ASYM_DN, or ASYM_UP with -Q/2 when the path includes P6 and the partner, rounded under
R536. -/
def State.asymFor (s : State) (addr : Nat) (relayed p6 : Bool) : Int :=
  let a := Reg.tmuAsymTab + 8 * (64 * (addr / 64 % 4) + addr % 64)
  if relayed then
    roundDiv (2 * signed 32 (s.reg (a + 4)).toNat - (if p6 then signed 32 (s.reg (Reg.tmuPortAsym + 0x60)).toNat else 0)) 2
  else signed 32 (s.reg a).toNat

/-- Is this lead the source lead to which a DREQ is addressed (R166, R167)? A Standby distributes no time to the chains. -/
def State.isSourceFor (s : State) (m : Msg) : Bool :=
  m.dest % 4096 == leadAddr s.leadNum && u16 m.body 4 / 256 % 16 == s.leadField && s.tmuOn &&
    !(s.paired && s.pai.state == .standby)

/-- DREQ_RECEIVED (R167): answered with a DRESP where HOPS, CORR and the source lead fit; otherwise EV_68. -/
def execDreqReceived (m : Msg) (s : State) : Res :=
  let t := s.takeMsgRow m
  if !(s.alive && s.isLead && u8 m.body 0 == 3) then .next t
  else
    let d := (u8 m.body 1).testBit 0
    let req := u16 m.body 4 % 4096
    let relayed := m.port == 6 || s.pai.tails.testBit (req / 64 % 4)
    let rm := (s.pai.rmap.getD (req / 64 % 4) none).getD 0xFF
    let want := if relayed then bitsOf rm 15 8 - req % 64 + bitsOf rm 16 16 else req % 64
    let badH := decide (m.hops ≠ want)
    let badC := decide (m.hops * 26214 < m.corr)
    if badH || badC || !s.isSourceFor m then
      .next (t.raise 68 3 (m.port + bn badH * 16 + bn badC * 32 + m.hops * 256))
    else
      let t4 := ((s.dom d).at m.stamp).toNat
      let asym := unsigned 32 (s.asymFor req relayed (m.port == 6))
      let body := timeBody 4 (s.mflags d) (u16 m.body 2) req t4 m.corr asym (unsigned 16 (s.dom d).utcOffset) (s.dom d).lhops
      .next (t.send { port := m.port, typ := 3, dest := req, dir := relayed, relay := relayed, key := 3, body := body })

/-- A domain's path delay after an exchange, given twice its value (R166): averaged over the last 16. -/
def Dom.addDelay (x : Dom) (m2 : Int) : Dom :=
  let l := (m2 :: x.mpds).take 16
  { x with mpds := l, mpd := avgHalves 1 l }

/-- DRESP_RECEIVED (R166): the exchange's m = ((t2 - t3) + (t4 - t1) - c_s - c_q) / 2, averaged over the last 16; one more than 10 ns
off the average is discarded with EV_137. -/
def execDrespReceived (m : Msg) (s : State) : Res :=
  let t := s.takeMsgRow m
  let d := (u8 m.body 1).testBit 0
  let x := t.dom d
  match x.dreq, x.lastSync, timeAt m.body 6 with
  | some (sq, some st3), some (t1, st2, cs), some t4 =>
    if !(s.alive && s.isTile && u8 m.body 0 == 4 && sq == u16 m.body 2) || s.coreFaulted 1 then .next t
    else
      let m2 : Int := (x.at st2 - x.at st3) + ((t4 : Int) - t1) - (cs : Int) * 1000 - (fieldAt m.body 18 6 : Int) * 1000
      let dev := m2 - 2 * x.mpd
      if !x.mpds.isEmpty ∧ 2 * 655360 < dev.natAbs then
        .next ((t.setDom d { x with dreq := none, rej := min 255 (x.rej + 1) }).raise 137 1
          (bn d + (min 0xFFFFFF (dev.natAbs / 131072)) * 256))
      else
        let asym := signed 32 (u32 m.body 24)
        let t := t.setDom d (({ x with dreq := none, asym := asym } : Dom).addDelay m2)
        .next (t.setReg Reg.tmuPathAsym (BitVec.ofInt 32 asym))
  | _, _, _ => .next t

/-! ### Domain switching (R173 to R175) -/

/-- Was a value applied to MTD0 less than 1 s of raw time ago (LMG-KL-05)? -/
def State.kl05Blocks (s : State) (new at_ : Nat) : Bool :=
  new == 1 && (match s.tmu.kl05 with | some t => decide (at_ < t + rawSec 1) | none => false)

/-- A lead that holds no announced launch changes its active domain at once (R174): the state, and the final STATUS and DETAIL; `armed` where
the armed response 0x0201 runs (R20). -/
def State.switchAtOnce (s : State) (new : Nat) (armed : Bool) : State × Nat × Nat :=
  if !(s.dom (new == 1)).valid then (s.raise 135 2 (new + 0x09 * 256), stWrongState, 0x0209)
  else if s.kl05Blocks new s.now then (s.raise 135 2 (new + 0x05 * 256), stWrongState, 0x0205)
  else
    let t := { s with tmu := { s.tmu with active := new == 1, bridge := none, switch := none },
                      lch := { s.lch with sw := some ((s.lch.count + 1) % 2 ^ 32, 0, new == 1, true) } }
    (t.raiseA 133 1 (new + 2) armed, stOk, 0)

/-- Does a lead wait for a launch before it changes domains: it announces, or holds an announced launch (R173, R174)? -/
def State.waitsForLaunch (s : State) : Bool := s.holdsLaunch || s.lch.state == .run || s.lch.state == .stopping

/-- A domain switch that waits is made at once where the lead no longer waits for a launch (R174): a TIME_SELECT completes, an armed switch that
LMG-KL-05 defers stays and is tried again. -/
def State.runSwitch (s : State) : State :=
  match s.tmu.switch with
  | none => s
  | some w =>
    if w.decided || !s.isLead || s.waitsForLaunch then s
    else match w.req with
    | some r =>
      let (t, st, _) := s.switchAtOnce w.new false
      ({ t with tmu := { t.tmu with switch := none } }).complete r st
    | none =>
      if s.kl05Blocks w.new s.now then
        if w.deferred then s
        else ({ s with tmu := { s.tmu with switch := some { w with deferred := true } } }).raise 135 2 (w.new + 0x05 * 256)
      else
        let t := (s.switchAtOnce w.new true).1
        { t with tmu := { t.tmu with switch := none } }

/-- One TIME clock edge (R147): the raw counter advances by 64; while the main side is held in cold reset it stands at 0. An armed switch that
LMG-KL-05 deferred is tried again (R174). -/
def State.tick (s : State) : State :=
  if s.alive then
    let t := { s with tmu := { s.tmu with raw := s.tmu.raw + 64 } }
    if (match s.tmu.switch with | some w => w.deferred | none => false) then t.runSwitch else t
  else s

/-- The servo enters HOLDOVER; in a lead with 0x0201 armed that is not inert this may start a domain switch (R25, R169, R173, R174). -/
def State.toHoldover (s : State) (d : Bool) (cause : Nat) : State :=
  let t := s.setServo d .holdover cause
  if s.isLead && !s.pwr.inert && s.isArmed 0x0201 && d == s.tmu.active && (s.dom (!d)).servo == .locked && t.tmu.switch.isNone then
    ({ t with tmu := { t.tmu with switch := some { new := bn (!d), stepOk := s.isArmed 0x0202 } } }).runSwitch
  else t

/-- Is the port lost from which a domain takes its time (R161, R180)? -/
def State.sourceLost (s : State) (d : Bool) : Bool :=
  match s.domSrc d with
  | 1 => match (if d then s.tmu.ptp1 else s.tmu.ptp0).best with
    | some p => s.portState p != .active
    | none => false
  | 2 => s.portState 6 != .active
  | 3 => s.portState 7 != .active
  | 4 => s.portState s.net.upPort == .lost && s.portState s.downPort != .open_
  | _ => false

/-- SERVO_HOLDOVER_TIMEOUT (R169, R180): no usable sample for 16 nominal sample intervals; the cause is the loss of the source port where
that port is lost. -/
def execServoHoldoverTimeout (d : Bool) (s : State) : Res :=
  let x := s.dom d
  if s.alive ∧ (x.servo = .acquire ∨ x.servo = .locked) ∧ x.sampleAt + 16 * s.sampleInterval d ≤ s.now then
    .next (s.toHoldover d (if s.sourceLost d then 2 else 0))
  else .next s

/-- TIME_SELECT (R173 to R175, R177). DEDUCED (log entry 37): one that finds another domain switch waiting is BUSY, as one that finds a bridge. -/
def execTimeSelect (r : Req) (s : State) : Res :=
  runReq 0x0203 r s fun s =>
    let d := u8 r.payload 0
    let st := u8 r.payload 1
    if 1 < d then (s, rspParam 0)
    else if 1 < st then (s, rspParam 1)
    else if (d == 1) = s.tmu.active then (s, rspOk)
    else if s.tmu.bridge.isSome ∨ s.tmu.switch.isSome then (s, rspErr stBusy 0x0203)
    else if s.isTile then
      if s.lch.table.isEmpty ∧ s.kl05Blocks d s.now then (s.raise 135 2 (d + 5 * 256), rspErr stWrongState 0x0205)
      else if s.lch.table.isEmpty then ({ s with tmu := { s.tmu with active := d == 1 } }, rspOk)
      else (s, rspErr stWrongState 0x0207)
    else if s.waitsForLaunch then
      ({ s with tmu := { s.tmu with switch := some { new := d, stepOk := st == 1, req := some r } } }, rspAccepted)
    else
      let (t, fs, _) := s.switchAtOnce d false
      (t.complete r fs, rspAccepted)

/-- BRIDGE_COMPLETE (R173): ρ has reached 0; EV_134. -/
def execBridgeComplete (s : State) : Res :=
  if s.alive ∧ s.tmu.bridge.isSome ∧ s.bridgeNow = 0 then
    .next (({ s with tmu := { s.tmu with bridge := none } }).raise 134 0 (bn s.tmu.active))
  else .next s

/-! ### PTP (R172) -/

/-- A PTP instance. -/
def State.ptp (s : State) (d : Bool) : Ptp := if d then s.tmu.ptp1 else s.tmu.ptp0
/-- Replace a PTP instance. -/
def State.setPtp (s : State) (d : Bool) (x : Ptp) : State :=
  { s with tmu := if d then { s.tmu with ptp1 := x } else { s.tmu with ptp0 := x } }
/-- An ingest port of an instance. -/
def Ptp.port (x : Ptp) (p : Nat) : PtpPort := x.ports.getD (ingIdx p) {}
/-- Is the instance enabled on some port? -/
def Ptp.enabled (x : Ptp) : Bool := x.ports.any (·.enabled)

/-- PTP_CONFIG (R172, R177): one port of an instance, and the instance's domain number. A port disabled is chosen no more. -/
def execPtpConfig (r : Req) (s : State) : Res :=
  runReq 0x0204 r s fun s =>
    let p := u8 r.payload 0
    let d := u8 r.payload 1
    let n := u8 r.payload 2
    let fl := u8 r.payload 3
    let late := u8 r.payload 4
    let x := s.ptp (d == 1)
    if p ≠ 4 ∧ p ≠ 5 ∧ p ≠ 7 then (s, rspParam 0)
    else if 1 < d then (s, rspParam 1)
    else if 127 < n ∨ (fl.testBit 0 ∧ (s.ptp (d == 0)).enabled ∧ (s.ptp (d == 0)).domain = n) then (s, rspParam 2)
    else if late < 2 ∨ 10 < late then (s, rspParam 4)
    else
      let y : PtpPort := { enabled := fl.testBit 0, unicast := fl.testBit 1, timeout := late }
      (s.setPtp (d == 1) { x with domain := n, ports := x.ports.set (ingIdx p) y, best := if x.best = some p then none else x.best }, rspOk)

/-- The announce receipt time-out of a port's master has passed (R172): so many announce intervals since its latest Announce. -/
def PtpPort.expired (y : PtpPort) (now : Nat) : Bool :=
  match y.master with
  | none => true
  | some m => decide (m.at_ + y.timeout * (if 0 ≤ m.annLog then rawSec (2 ^ m.annLog.toNat) else rawSec 1 / 2 ^ (-m.annLog).toNat) ≤ now)

/-- The port that the best master clock algorithm chooses among those with a live master: the least rank, ties to the lower port (R172). -/
def Ptp.choose (x : Ptp) (now : Nat) : Option Nat :=
  [4, 5, 7].foldl (fun b p =>
    match (x.port p).master with
    | none => b
    | some m =>
      if !(x.port p).enabled || (x.port p).expired now then b
      else match b.bind (fun q => (x.port q).master) with
        | none => some p
        | some c => if m.rank < c.rank then some p else b) none

/-- The instance after its masters changed (R172): the chosen port; EV_136 where the grandmaster is another than before. -/
def State.rechoose (s : State) (d : Bool) : State :=
  let x := s.ptp d
  let b := x.choose s.now
  let m := b.bind (fun q => (x.port q).master)
  let y := if b = x.best then x else { x with best := b, sync := none, dreq := none, lastSync := none }
  match b, m with
  | some q, some c =>
    let t := s.setPtp d { y with gm := some c.gm }
    let t := t.setDom d { t.dom d with utcOffset := c.utcOffset }
    if x.gm.isSome && x.gm != some c.gm then t.raise 136 2 (q + bn d * 16) else t
  | _, _ => s.setPtp d y

/-- An Announce (R172): the port's master is the better of the one it has and the sender. -/
def State.takeAnnounce (s : State) (d : Bool) (port : Nat) (p : PtpMsg) : State :=
  let x := s.ptp d
  let y := x.port port
  let m : PtpMaster := { rank := p.rank, gm := p.gm, sender := p.sender, ip := p.ip, utcOffset := p.utcOffset, annLog := p.logInterval, at_ := s.now }
  let takes : Bool := y.expired s.now || (match y.master with | some c => c.sender == m.sender || decide (m.rank < c.rank) | none => true)
  if takes then (s.setPtp d { x with ports := x.ports.set (ingIdx port) { y with master := some m } }).rechoose d else s

/-- The 44 bytes of a Delay_Req of IEEE 1588-2019. Its source port identity is the unit's own. -/
def delayReq (domain seq : Nat) (unicast : Bool) : List Byte :=
  b1 0x01 ++ b1 0x12 ++ b2 44 ++ b1 domain ++ zeros 1 ++ b2 (if unicast then 0x0400 else 0) ++ zeros 12 ++ Config.ptpIdentity ++ b2 seq ++
    b1 1 ++ b1 0x7F ++ zeros 10

/-- After a Sync of its master the instance sends a Delay_Req from the chosen port (R172): to 224.0.1.129, or to the master in hybrid mode. -/
def State.sendDelayReq (s : State) (d : Bool) : State :=
  let x := s.ptp d
  match x.best.bind (fun q => (x.port q).master.map (fun m => (q, m))) with
  | none => s
  | some (q, m) =>
    let t := s.setPtp d { x with seq := (x.seq + 1) % 65536, dreq := some x.seq }
    let b := delayReq x.domain x.seq (x.port q).unicast
    if (x.port q).unicast then t.sendIp q m.ip 319 b else t.emit (.udp q (s.txTag q) 0x01005E000181 0xE0000181 319 b)

/-- One offset sample of a PTP instance: t1 with its corrections, the raw ingress stamp; then the next Delay_Req (R172). -/
def State.ptpSample (s : State) (d : Bool) (t1 : Int) (stamp : Nat) : State :=
  let x := s.dom d
  let t := s.setPtp d { s.ptp d with sync := none, lastSync := some (t1, stamp) }
  let t := if x.mpds.isEmpty then t else t.servoSample d (x.at stamp - t1 - x.mpd)
  t.sendDelayReq d

/-- PTP_MESSAGE_RECEIVED (R172): Announce for the best master choice; Sync and Follow_Up of the chosen master for the offset, its Delay_Resp for
the path. -/
def execPtpMessageReceived (port : Nat) (p : PtpMsg) (s : State) : Res :=
  let d := s.tmu.ptp1.enabled && s.tmu.ptp1.domain == p.domain
  let x := s.ptp d
  let mine := x.best == some port && (match (x.port port).master with | some m => m.sender == p.sender | none => false)
  if !(s.alive && s.isLead && s.func port == 2 && (x.port port).enabled && x.domain == p.domain) then .next s
  else if p.kind = 3 then .next (s.takeAnnounce d port p)
  else if !mine ∨ s.domSrc d ≠ 1 ∨ !s.tmuOn ∨ s.coreFaulted 1 then .next s
  else if p.kind = 0 then
    let stamp := s.atBalls port p.stamp false
    let t := s.setPtp d { x with syncLog := p.logInterval }
    if p.twoStep then .next (t.setPtp d { t.ptp d with sync := some (p.seq, stamp, p.corr) })
    else .next (t.ptpSample d ((p.time : Int) + p.corr) stamp)
  else if p.kind = 1 then
    match x.sync with
    | some (sq, st, c) => if sq = p.seq then .next (s.ptpSample d ((p.time : Int) + p.corr + c) st) else .next s
    | none => .next s
  else
    match x.lastSync with
    | some (t1, st2) =>
      if x.dreq ≠ some p.seq then .next s
      else
        let dm := s.dom d
        let m2 := (dm.at st2 - dm.at (s.atBalls port p.stamp true)) + ((p.time : Int) - p.corr - t1)
        .next ((s.setPtp d { x with dreq := none }).setDom d (dm.addDelay m2))
    | none => .next s

/-- ANNOUNCE_RECEIPT_TIMEOUT (R169, R172): the chosen master has not announced itself in time: EV_136, the domain's servo enters HOLDOVER, and
another port's master, if one is live, is chosen. -/
def execAnnounceReceiptTimeout (d : Bool) (s : State) : Res :=
  let x := s.ptp d
  match x.best with
  | none => .next s
  | some q =>
    if !(s.alive && s.isLead && (x.port q).enabled && (x.port q).expired s.now) then .next s
    else
      let t := (s.setPtp d { x with best := none, sync := none, dreq := none, lastSync := none,
                                    ports := x.ports.set (ingIdx q) { x.port q with master := none } }).raise 136 2 (q + bn d * 16 + 32)
      let t := if s.domSrc d = 1 ∧ (s.dom d).servo ≠ .holdover ∧ (s.dom d).servo ≠ .free then t.toHoldover d 1 else t
      .next (t.rechoose d)

/-! ### Path calibration (R165, R170, R171) -/

/-- Does PATH_CAL on a lead's chain port calibrate the ring (R170)? -/
def State.ringCal (s : State) (p : Nat) : Bool :=
  s.isLead && decide (p < 4) && s.paired && s.pai.state == .active && s.portState 6 == .active && s.portState p == .open_ &&
    !(s.chainTiles p).isEmpty && !(s.net.table.any (fun e => e.chain == p && (e.cut || e.dnState != .open_)))

/-- The 64 LOOP cells of one direction (R170): MSEQ carries the chain in bits 7:6. -/
def State.loopCells (s : State) (p : Nat) (viaP6 : Bool) : List TxMsg :=
  (List.range 64).map (fun i =>
    { port := if viaP6 then 6 else p, typ := 3, dest := leadAddr (s.leadNum ^^^ 1), dir := viaP6, relay := viaP6, key := 3,
      body := timeBody 7 (s.mflags s.tmu.active + bn viaP6 * 8) (64 * p + i) (leadAddr s.leadNum) 0 0 0 0 0, mark := 5 })

/-- PATH_CAL (R165, R170, R177): the run starts: a ring calibration sends the LOOP cells of step 1, any other the 64 exchanges of the link. -/
def execPathCal (r : Req) (s : State) : Res :=
  runReq 0x0205 r s fun s =>
    let p := u8 r.payload 0
    if 8 ≤ p ∨ (s.isTile ∧ 2 ≤ p) then (s, rspParam 0)
    else if !s.volziaPort p then (s, rspErr stWrongState 0x0203)
    else if s.tmu.pathCal.isSome then (s, rspErr stBusy 0x0205)
    else
      let ring := s.ringCal p
      let t := { s with tmu := { s.tmu with pathCal := some { req := r, port := p, ring := ring } } }
      (if ring then (s.loopCells p false).foldl State.send t else (List.range 64).foldl (fun t _ => t.sendPdreq p) t, rspAccepted)

/-- LOOP_CELL_RETURN (R170): the loop time less the returned CORR is one sample of Tcw or Tccw. After the 64th Tcw the cells of step 2 go
out. -/
def execLoopCellReturn (m : Msg) (s : State) : Res :=
  let t := s.takeMsgRow m
  let p6 := (u8 m.body 1).testBit 3
  let k := u16 m.body 2 * 2 + bn p6
  match s.tmu.pathCal with
  | some c =>
    match Map.find c.loops k with
    | some sent =>
      if !(s.alive && u8 m.body 0 == 7 && c.ring) then .next t
      else
        let v : Int := (m.stamp : Int) - sent - m.corr
        let c1 := { c with loops := Map.del c.loops k }
        let c2 := if p6 then { c1 with ccw := v :: c.ccw } else { c1 with cw := v :: c.cw }
        let u := { t with tmu := { t.tmu with pathCal := some c2 } }
        .next ((if !p6 ∧ c2.cw.length = 64 then s.loopCells c.port true else []).foldl State.send u)
    | none => .next t
  | none => .next t

/-- Sum of (x - mean)^2 times n^2, for the standard deviation of a run. -/
def spread (l : List Int) : Int := let n : Int := l.length; (l.map (fun x => (n * x - l.sum) * (n * x - l.sum))).sum

/-- Write the ASYM_DN and ASYM_UP words of a chain from the link round trips (R170 steps 5 and 6). -/
def State.writeAsym (s : State) (c : Nat) (a2n : Int) (n : Nat) (rts : List Int) : State :=
  -- a2n / (2n) is A in raw LSB; a_i = A * RT_i / sum RT
  let tot : Int := rts.sum
  let word (num : Int) : Word := BitVec.ofInt 32 (if 0 < tot then roundDiv (a2n * num) (2 * n * tot.toNat) else 0)
  (List.range (rts.length - 1)).foldl (fun t p =>
    let dn := (rts.take (p + 1)).sum
    let up := (rts.drop (p + 1)).sum
    let adr := Reg.tmuAsymTab + 8 * (64 * c + p)
    (t.setReg adr (word dn)).setReg (adr + 4) (word (-up))) s

/-- PATH_CAL_COMPLETE (R165, R170): a run with its 64 exchanges of the link, or 64 samples each way round the ring, is complete. A ring run is
rejected over 40 ps of standard deviation, or writes the asymmetry table; EV_138 and EV_19.
`tileDelays` are the link round trips read from the tiles and the partner. -/
def execPathCalComplete (tileDelays : List Int) (s : State) : Res :=
  match s.tmu.pathCal with
  | none => .next s
  | some c =>
    if !s.alive || s.coreFaulted 0 || decide (c.cw.length < 64) || (c.ring && decide (c.ccw.length < 64)) then .next s
    else
      let t := { s with tmu := { s.tmu with pathCal := none } }
      if !c.ring then .next (t.complete c.req stOk)
      else
        let n := 64
        let diff := List.zipWith (· - ·) (c.cw.take n) (c.ccw.take n)
        -- 40 ps is 2.62144 raw LSB; the square of n * deviation sums to n^3 * variance
        if ((n * n * n : Nat) : Int) * 687195 < spread diff * 100000 then
          .next ((t.raise 138 1 (c.port + 16)).complete c.req stWrongState)
        else
          let q := signed 32 (s.reg (Reg.tmuPortAsym + 0x60)).toNat
          let a2n := diff.sum - q * n
          let t := t.writeAsym c.port a2n n tileDelays
          let ps : Int := a2n * 1000000 / (65536 * 2 * n)
          .next ((t.raise 138 1 (c.port + unsigned 24 (clampInt (-8388608) 8388607 ps) * 256)).complete c.req stOk)

/-- The TIME PLL has lost lock (R149): both domains invalid, servos FREE, staged writes cancelled, EV_140. -/
def State.timeLost (s : State) : State :=
  let f (d : Bool) (s : State) : State := (s.setDom d { s.dom d with valid := false, pend := none }).setServo d .free 0
  (f true (f false s)).raise 140 4 0

end Sys2Proof.Machine
end

