-- ==== Sys2Proof/Machine/Ingest.lean ====
section
/-! DEFINITION. The ingest unit of a lead: ports, ARP and IGMP, streams with their merge and de-packetiser, locked streams, and UDP commands
(R77, R211 to R217, R235, R236, R260, R535). -/

namespace Sys2Proof.Machine

/-! ### Stream registers (R213, R214) -/

/-- A register of a stream. -/
def strReg (base m : Nat) : Nat := base + 0x100 * m
/-- A stream. -/
def State.strm (s : State) (m : Nat) : Strm := s.pix.streams.getD m {}
/-- Replace a stream. -/
def State.setStrm (s : State) (m : Nat) (x : Strm) : State := { s with pix := { s.pix with streams := s.pix.streams.set m x } }
/-- ENABLE of a stream. -/
def State.strOn (s : State) (m : Nat) : Bool := s.bit (strReg Reg.ingStrCtl m) 31
/-- The port of a leg by the CTL word; 0 for the reserved code. -/
def legPort (ctl leg : Nat) : Nat := [4, 5, 7, 0].getD (if leg = 0 then bitsOf ctl 25 24 else bitsOf ctl 23 22) 0
/-- Legs used by a CTL word. -/
def legsOf (ctl : Nat) : List Nat := if ctl.testBit 30 then [0, 1] else [0]
/-- The CTL word of a stream. -/
def State.strCtl (s : State) (m : Nat) : Nat := (s.reg (strReg Reg.ingStrCtl m)).toNat
/-- The FMT word. -/
def State.strFmt (s : State) (m : Nat) : Nat := (s.reg (strReg Reg.ingStrFmt m)).toNat
/-- The group or address of a leg. -/
def State.strGrp (s : State) (m leg : Nat) : Nat := (s.reg (strReg Reg.ingStrGrp0 m + 4 * leg)).toNat
/-- The source filter of a leg. -/
def State.strSrc (s : State) (m leg : Nat) : Nat := (s.reg (strReg Reg.ingStrSrc0 m + 4 * leg)).toNat
/-- Width and height. -/
def State.strSize (s : State) (m : Nat) : Nat × Nat := (s.fld (strReg Reg.ingStrSize m) 15 0, s.fld (strReg Reg.ingStrSize m) 31 16)
/-- Is an IPv4 address a multicast group? -/
def isGroup (ip : Nat) : Bool := ip / 2 ^ 28 == 14
/-- The surface format of SAMPLING and DEPTH; 0 where R213 has none. -/
def strSurfFmt (f : Nat) : Nat :=
  let d := bitsOf f 29 29
  match bitsOf f 31 30 with
  | 0 => if d = 0 then 1 else 0
  | 1 => 2 + d
  | 2 => 4 + d
  | _ => 0
/-- COLOUR of a FMT word: primaries, transfer, range. -/
def strColour (f : Nat) : Nat := bitsOf f 28 27 + bitsOf f 26 26 * 4 + bitsOf f 25 25 * 8
/-- The video rate as a fraction, bits per second (R214). -/
def State.strRate (s : State) (m : Nat) : Nat × Nat :=
  let (w, h) := s.strSize m
  (w * h * s.fld (strReg Reg.ingStrRate m) 31 16 * fmtBpp (strSurfFmt (s.strFmt m)), s.fld (strReg Reg.ingStrRate m) 15 0)
/-- A sum of fractions. -/
def sumRates (l : List (Nat × Nat)) : Nat × Nat := l.foldl (fun a x => (a.1 * x.2 + x.1 * a.2, a.2 * x.2)) (0, 1)
/-- Is a fraction above a limit? -/
def rateOver (x : Nat × Nat) (lim : Nat) : Bool := decide (lim * x.2 < x.1)

/-- Do a stream's fields meet R213? -/
def State.strFieldsOk (s : State) (m : Nat) : Bool :=
  let f := s.strFmt m
  let (w, h) := s.strSize m
  let num := s.fld (strReg Reg.ingStrRate m) 31 16
  let den := s.fld (strReg Reg.ingStrRate m) 15 0
  let pt := bitsOf f 23 16
  strSurfFmt f != 0 && bitsOf f 28 27 != 3 && (bitsOf f 28 27 != 2 || bitsOf f 31 30 == 2) && decide (96 ≤ pt) && decide (pt ≤ 127) &&
    decide (64 ≤ w) && decide (w ≤ 7680) && (bitsOf f 31 30 != 0 || w % 2 == 0) && decide (64 ≤ h) && decide (h ≤ 4320) && den != 0 &&
    decide (24000 * den ≤ 1001 * num) && decide (num ≤ 240 * den) && decide (w * h * num ≤ 1990656000 * den)

/-- The check of a write that sets ENABLE (R214): 0 accepted, 0x8005 for the aggregate, 1 for anything else. -/
def State.strRefusal (s : State) (m ctl : Nat) : Nat :=
  let legs := legsOf ctl
  let legOk (leg : Nat) : Bool :=
    let p := legPort ctl leg
    p != 0 && s.func p == 2 && s.ingIp p != 0 && (isGroup (s.strGrp m leg) || s.strGrp m leg == s.ingIp p)
  let others := (List.range 4).filter (fun k => k != m && s.strOn k)
  let onPort (p : Nat) : List (Nat × Nat) :=
    s.strRate m :: others.flatMap (fun k => ((legsOf (s.strCtl k)).filter (fun l => legPort (s.strCtl k) l == p)).map (fun _ => s.strRate k))
  let surfOk := match s.surf (ctl % 256) with
    | some u => u.fmt == strSurfFmt (s.strFmt m) && u.colour == strColour (s.strFmt m) && (u.w, u.h) == s.strSize m &&
        (decide (2 ≤ u.bufs) || !(s.strm m).lock.isEmpty)
    | none => false
  if !(s.strFieldsOk m && legs.all legOk && surfOk && (legs.length == 1 || legPort ctl 0 != legPort ctl 1)) then 1
  else if legs.any (fun l => rateOver (sumRates (onPort (legPort ctl l))) 90000000000) then 1
  else if rateOver (sumRates (s.strRate m :: others.map s.strRate)) 120000000000 then 0x8005
  else 0

/-! ### IGMP (R212) -/

/-- Membership messages of a stream's legs on a port (or on all): a report in INCLUDE mode with a source filter, in EXCLUDE mode with
none, or a leave. -/
def State.igmp (s : State) (m : Nat) (leave : Bool) (want : Nat → Nat → Bool) : State :=
  (legsOf (s.strCtl m)).foldl (fun t leg =>
    let p := legPort (s.strCtl m) leg
    let g := s.strGrp m leg
    let src := s.strSrc m leg
    if isGroup g && want p g && !t.pwr.inert then 
      t.emit (.eth p (if leave then 4 else if src = 0 then 3 else 2) (s.txTag p) 0x01005E000016 g src) else t) s

/-- A stream stops at once (R214): a leave report for its groups (R212) and EV_256; its last complete frame stays current. -/
def State.stopStream (s : State) (m : Nat) : State :=
  if s.strOn m then
    let x := s.strm m
    ((s.igmp m true (fun _ _ => true)).setStrm m { conf := x.conf, curBuf := x.curBuf }).raise 256 0 (m + 2 * 256)
  else s

/-- A write of ING_STRm_CTL (R214): the state and the class of a refusal, 2 for a forced-off domain (R469). A stream that starts begins without
packets; one that runs is stopped first, and stays so where the write is refused. -/
def State.writeStrCtl (s : State) (m : Nat) (ctl : Word) : State × Nat :=
  let v := ctl &&& 0xC3C000FF#32
  let a := strReg Reg.ingStrCtl m
  if v.toNat.testBit 31 then
    let why := if s.forced (144 + m / 2) then 2 else s.strRefusal m v.toNat
    let s := s.stopStream m
    if why ≠ 0 then (s.setReg a (v &&& 0x7FFFFFFF#32), why)
    else
      let x := s.strm m
      let legs := legsOf v.toNat
      let t := (s.setReg a v).setStrm m { conf := x.conf, since := s.now, curBuf := x.curBuf,
                                          legOk := [true, legs.length == 2] }
      ((t.igmp m false (fun _ _ => true)).raise 256 0 m, 0)
  else ((s.stopStream m).setReg a v, 0)

/-- A write of ING_STRm_CTL through BAR0: a reserved port code leaves its field as it is (R8); that, or a refusal, raises EV_25. -/
def State.busStrCtl (s : State) (m : Nat) (ctl : Word) : State :=
  let (v, out) := s.keepRanges (strReg Reg.ingStrCtl m) ctl.toNat
  let (t, why) := s.writeStrCtl m (BitVec.ofNat 32 v)
  if why = 0 ∧ !out then t else t.raise 25 1 (strReg Reg.ingStrCtl m)

/-- STREAM_ENABLE (R214): a write of ING_STRm_CTL through BAR0 that sets ENABLE. -/
def execStreamEnable (m : Nat) (ctl : Word) (s : State) : Res :=
  if !s.alive || !s.isLead || 4 ≤ m || !ctl.toNat.testBit 31 then .next s else .next (s.busStrCtl m ctl)

/-- STREAM_DISABLE (R214): ENABLE = 0 stops the stream at once. -/
def execStreamDisable (m : Nat) (ctl : Word) (s : State) : Res :=
  if !s.alive || !s.isLead || 4 ≤ m || ctl.toNat.testBit 31 then .next s else .next (s.busStrCtl m ctl)

/-- ING_STR_CNT_CLR: while the stream is enabled the write is ignored with EV_25 (R214). -/
def execIngStrCntClr (m : Nat) (data : Word) (s : State) : Res :=
  if !s.alive || !s.isLead || 4 ≤ m then .next s
  else if s.strOn m then .next (s.raise 25 1 (strReg Reg.ingStrCntClr m))
  else .next (s.clearCounters (strReg Reg.ingStrPkt0 m) 8 data.toNat)

/-! ### Frames (R217, R236, R260) -/

/-- The target surface of a stream. -/
def State.strSurf (s : State) (m : Nat) : Option Surf := s.surf (s.strCtl m % 256)

/-- Pack one block of the frame in progress into the buffer being written. -/
def State.packBlock (s : State) (m : Nat) (u : Surf) (n : Nat) : State :=
  let x := s.strm m
  let cs := (List.range (fmtComps u.fmt)).map (fun c => (blockSites u.fmt u.w u.h n c).map (fun xy =>
    bitsAt (fun k => Map.at x.raw 0 k) (sampleBit u.fmt u.w c xy.1 xy.2) (fmtDepth u.fmt)))
  let t := s.writeBlock u x.writeBuf n cs
  let k := s.strCtl m % 256
  let y := (t.surf k).getD u
  if x.writeBuf = 0 then t.setSurf k { y with streamed := n :: y.streamed.filter (· != n) } else t

/-- Change the frame in progress. -/
def State.updFrame (s : State) (m : Nat) (f : Frame → Frame) : State :=
  s.setStrm m { s.strm m with frame := (s.strm m).frame.map f }

/-- SURFACE_BLOCK_PACK (R260): a block of the frame in progress is written once its last row inside the surface is complete. -/
def execSurfaceBlockPack (m block : Nat) (s : State) : Res :=
  match (s.strm m).frame, s.strSurf m with
  | some f, some u =>
    let rows := ((List.range 4).map (fun j => block / surfBw u.w * 4 + j)).filter (fun y => decide (y < u.h))
    if s.alive && s.isLead && s.strOn m && (s.strm m).lock.isEmpty && !f.drop && !f.done && decide (block < surfBlocks u.w u.h) &&
        !f.packed.contains block && rows.all (rowDone u f) then
      .next ((s.packBlock m u block).updFrame m (fun f => { f with packed := block :: f.packed }))
    else .next s
  | _, _ => .next s

/-- Cut the tiles whose lines of a locked frame are bad, in the launches that use it. -/
def State.cutBad (s : State) (m : Nat) (f : Frame) : State :=
  let x := s.strm m
  let l := u8 x.lock 2
  (s.lch.table.filter (fun a => (s.lockFrame x a).any (fun g => g.no == f.no))).foldl (fun t a =>
    t.cutLines a.n l (fun lo hi => f.bad.any (fun y => decide (lo ≤ y) && decide (y ≤ hi)))) s

/-- Mark lines of the frame in progress as bad and cut their tiles. -/
def State.badLines (s : State) (m : Nat) (ys : List Nat) : State :=
  let t := s.updFrame m (fun f => { f with bad := (ys ++ f.bad).eraseDups })
  match (t.strm m).frame with
  | some f => if ys.isEmpty then t else t.cutBad m f
  | none => t

/-- The frame in progress is incomplete (R217, R236): counted, EV_261, once. -/
def State.failFrame (s : State) (m : Nat) : State :=
  match (s.strm m).frame with
  | some f =>
    if f.done || f.failed || f.drop then s
    else (((s.updFrame m (fun f => { f with failed := true })).bump (strReg Reg.ingStrFrmInc m)).raise 261 3
      (m + bn (!(s.strm m).lock.isEmpty) * 4))
  | none => s

/-- The frame in progress ends: the losses within it are reported (R215), and it is incomplete unless it was completed. -/
def State.endFrame (s : State) (m : Nat) : State :=
  match (s.strm m).frame, s.strSurf m with
  | some f, some u =>
    let t := if f.lost = 0 then s else s.raise 257 2 (m + min f.lost (2 ^ 24 - 1) * 256)
    if f.done then t
    else
      let t := t.failFrame m
      if (s.strm m).lock.isEmpty then t else t.badLines m ((List.range u.h).filter (fun y => !rowDone u f y))
  | _, _ => s

/-- A frame begins at its first packet (R217), which arrived at a raw instant: the frame before it ends, and a buffer is chosen that is neither
CUR_BUF nor held. -/
def State.beginFrame (s : State) (m ts arrived : Nat) (u : Surf) : State :=
  let s := s.endFrame m
  let x := s.strm m
  let locked := !x.lock.isEmpty
  let buf := (List.range u.bufs).find? (fun b => some b != u.cur && some b != u.held)
  let f : Frame := { no := x.frames, ts := ts, began := arrived, drop := !locked && buf.isNone }
  let lo := (x.frame.map Frame.no).getD x.frames * u.h * rowBytes u.fmt u.w
  let y := { x with frame := some f, prev := x.frame, frames := x.frames + 1,
                    raw := if locked then x.raw.filter (fun e => decide (lo ≤ e.1)) else [],
                    writeBuf := if locked then x.writeBuf else buf.getD x.writeBuf,
                    locked := x.locked || (locked && s.lch.table.any (fun l => s.inWindow x.lock l f)) }
  let t := s.setStrm m y
  if f.drop then (t.bump (strReg Reg.ingStrFrmDrop m)).raise 262 1 m else t

/-- Would a line overwrite one that a tile still needs (R236)? The line buffer holds LINES lines. -/
def State.lineNeeded (s : State) (m : Nat) (u : Surf) (line : Nat) : Bool :=
  let x := s.strm m
  let l := u8 x.lock 2
  let slots := layerSlots (Map.at s.pix.layers (zeros 40) l)
  decide (lockLines x.lock ≤ line) && s.bit Reg.cmpCfg 0 && !s.pwr.inert &&
    s.lch.table.any (fun a => decide (s.derivedNow < s.inActive a) &&
      (match s.lockFrame x a with
       | some f => (s.coveredTiles l).any (fun e =>
           decide (f.no * u.h + e.2.2.1 ≤ line - lockLines x.lock) && decide (line - lockLines x.lock ≤ f.no * u.h + e.2.2.2) &&
             slots.any (fun k => !s.isCut a.n k (s.tileAddr e.1 e.2.1) && !s.pix.made.contains (a.n, k, s.tileAddr e.1 e.2.1)))
       | none => false))

/-- Store one sample row data segment of the frame in progress. -/
def State.storeSrd (s : State) (m : Nat) (u : Surf) (d : Srd) : State :=
  let x := s.strm m
  match x.frame with
  | none => s
  | some f =>
    let locked := !x.lock.isEmpty
    let line := (if locked then f.no * u.h else 0) + d.row
    if locked && f.bad.contains d.row then s
    else if locked && s.lineNeeded m u line then (s.badLines m [d.row]).raise 265 3 (m + min d.row 8191 * 65536)
    else
      let o := d.offset * fmtBpp u.fmt
      let len := min d.data.length (rowBytes u.fmt u.w - o / 8)
      let a := line * rowBytes u.fmt u.w + o / 8
      let raw := ((d.data.take len).zip (List.range len)).foldl (fun r e => Map.put r (a + e.2) e.1) x.raw
      let b := 8 * rowBytes u.fmt u.w * d.row + o
      s.setStrm m { x with raw := raw, frame := some { f with have_ := addRange b (b + 8 * d.data.length) f.have_ } }

/-- The frame completes when every sample of every row and the marker packet have arrived (R217). -/
def State.tryComplete (s : State) (m : Nat) (u : Surf) : State :=
  let x := s.strm m
  match x.frame with
  | none => s
  | some f =>
    if f.done || f.failed || f.drop || !f.marker || !(List.range u.h).all (rowDone u f) then s
    else
      let t := if x.lock.isEmpty then
          let t := ((List.range (surfBlocks u.w u.h)).filter (fun n => !f.packed.contains n)).foldl (fun t n => t.packBlock m u n) s
          (t.setSurf (s.strCtl m % 256) { (t.surf (s.strCtl m % 256)).getD u with cur := some x.writeBuf }).setStrm m { t.strm m with curBuf := x.writeBuf }
        else s
      let t := (t.updFrame m (fun f => { f with done := true })).bump (strReg Reg.ingStrFrmOk m)
      if x.first then t else (t.setStrm m { t.strm m with first := true }).raise 256 0 (m + 256)

/-- The format error of a packet (R217): 0 none, 1 payload type, 2 row beyond the size, 3 sample beyond the width. -/
def State.fmtError (s : State) (m : Nat) (u : Surf) (p : RtpPkt) : Nat :=
  let grp := [1, 2, 4, 2, 4, 2].getD u.fmt 1
  let wide := (u.w + grp - 1) / grp * grp
  if p.pt ≠ bitsOf (s.strFmt m) 23 16 then 1
  else if p.srds.any (fun d => decide (u.h ≤ d.row)) then 2
  else if p.srds.any (fun d => decide (wide * fmtBpp u.fmt < d.offset * fmtBpp u.fmt + 8 * d.data.length)) then 3
  else 0

/-- De-packetise a packet that arrived at a raw instant (R217). A packet of an earlier frame is discarded. -/
def State.depacketise (s : State) (m : Nat) (p : RtpPkt) (arrived : Nat) : State :=
  match s.strSurf m with
  | none => s
  | some u =>
    let e := s.fmtError m u p
    if e ≠ 0 then
      let t := s.bump (strReg Reg.ingStrFmtErr m)
      if (t.strm m).fmtTs = some p.ts then t
      else (t.setStrm m { t.strm m with fmtTs := some p.ts }).raise 263 2 (m + e * 256)
    else
      let cur := (s.strm m).frame
      let old := match cur with | some f => f.ts != p.ts && !isAfter p.ts f.ts | none => false
      if old then s
      else
        let same := match cur with | some f => f.ts == p.ts | none => false
        let s := if same then s else s.beginFrame m p.ts arrived u
        let skip := match (s.strm m).frame with | some f => f.drop || f.done | none => true
        if skip then s
        else
          let t := p.srds.foldl (fun t d => t.storeSrd m u d) s
          (t.updFrame m (fun f => { f with marker := f.marker || p.marker })).tryComplete m u

/-! ### Merge (R215, R216) -/

/-- DIFF_MAX in raw LSB. -/
def State.diffMax (s : State) : Nat := rawUs (100 * s.fld Reg.ingCfg 4 0)

/-- A number is kept while it lies within 65,536 of the highest. -/
def nearSeq (high q : Nat) : Bool := decide ((high + 2 ^ 32 - q) % 2 ^ 32 < 65536)

/-- The first packet in number that waits to be de-packetised. -/
def Strm.first? (x : Strm) : Option (RtpPkt × Nat) :=
  x.queue.find? (fun a => x.queue.all (fun b => a.1.seq == b.1.seq || isAfter b.1.seq a.1.seq))

/-- Packets leave the merge in the order of their numbers, up to the first that is still missing: the source's order, which R215 restores. -/
def State.unqueue (s : State) (m : Nat) : Nat → State
  | 0 => s
  | k + 1 =>
    let x := s.strm m
    match x.first? with
    | none => s
    | some a =>
      if x.missing.any (fun e => isAfter a.1.seq e.1) then s
      else State.unqueue ((s.setStrm m { x with queue := x.queue.erase a }).depacketise m a.1 a.2) m k

/-- Release what the stream's queue holds. -/
def State.releaseAll (s : State) (m : Nat) : State := s.unqueue m (s.strm m).queue.length

/-- A packet of a leg arrives: its leg counts it and is restored (R216), and the merge uses its first copy (R215). -/
def State.streamPacket (s : State) (m leg : Nat) (p : RtpPkt) : State :=
  let x := s.strm m
  let s := s.bump (strReg Reg.ingStrPkt0 m + 4 * leg)
  let was := x.legOk.getD leg false
  let s := s.setStrm m { x with legAt := x.legAt.set leg (some s.now), legOk := x.legOk.set leg true }
  let s := if was then s else s.raise 259 1 (m + leg * 4)
  let x := s.strm m
  if x.lost.contains p.seq then
    let t := s.bump (strReg Reg.ingStrLate m)
    let quiet := match x.lateAt with | some a => decide (s.now < a + rawSec 1) | none => false
    if quiet then t else (t.setStrm m { t.strm m with lateAt := some s.now }).raise 260 2 (m + leg * 4)
  else if x.got.contains p.seq then s
  else
    let ahead := match x.high with | some h => isAfter p.seq h | none => true
    let gap := match x.high with
      | some h => if ahead then ((List.range ((p.seq + 2 ^ 32 - h) % 2 ^ 32)).drop 1).map (fun i => ((h + i) % 2 ^ 32, s.now + s.diffMax)) else []
      | none => []
    let high := if ahead then p.seq else x.high.getD p.seq
    let y := { x with high := some high, missing := x.missing.filter (fun e => e.1 != p.seq) ++ gap,
                      got := (p.seq :: x.got).filter (nearSeq high), lost := x.lost.filter (nearSeq high), queue := x.queue ++ [(p, s.now)] }
    (s.setStrm m y).releaseAll m

/-- STREAM_PACKET_RECEIVED (R215 to R217): a packet of an enabled stream on a leg it uses. -/
def execStreamPacketReceived (m leg : Nat) (p : RtpPkt) (s : State) : Res :=
  if s.alive && s.isLead && decide (m < 4) && s.strOn m && (legsOf (s.strCtl m)).contains leg then .next (s.streamPacket m leg p)
  else .next s

/-- The lines of the frame in progress that a loss leaves with samples missing: those before the furthest sample received. -/
def gapLines (u : Surf) (f : Frame) : List Nat :=
  let e := f.have_.foldl (fun a r => max a r.2) 0
  let row := 8 * rowBytes u.fmt u.w
  let top := (e - 1) / row
  (List.range (top + 1)).filter (fun y =>
    if y < top then !rowDone u f y else !reachTo f.have_ e f.have_.length (row * y))

/-- A number is lost (R215): it counts for the frame in progress, or for the next where that is complete; the packets behind it are released,
and a locked frame loses its lines (R236). -/
def State.loseNumber (s : State) (m q : Nat) : State :=
  let x := s.strm m
  let t := (s.setStrm m { x with missing := x.missing.filter (fun e => e.1 != q), lost := q :: x.lost }).bump (strReg Reg.ingStrLost m)
  let add (t : State) : State := t.updFrame m (fun f => { f with lost := f.lost + 1 })
  let here := match x.frame with | some f => !f.done | none => false
  let t := if here then (add t).releaseAll m else add (t.releaseAll m)
  match (t.strm m).frame, t.strSurf m with
  | some f, some u =>
    if x.lock.isEmpty || f.done || (gapLines u f).isEmpty then t else (t.failFrame m).badLines m (gapLines u f)
  | _, _ => t

/-- PACKET_LOSS_DECLARED (R215, R236): the numbers missing DIFF_MAX after a higher one are lost. -/
def execPacketLossDeclared (m : Nat) (s : State) : Res :=
  let due := (s.strm m).missing.filter (fun e => decide (e.2 ≤ s.now))
  if !s.alive || !s.isLead || 4 ≤ m || !s.strOn m || due.isEmpty then .next s
  else .next (due.foldl (fun t e => t.loseNumber m e.1) s)

/-- LEG_LOSS (R216): no packet of a leg for 10 ms. -/
def execLegLoss (m leg : Nat) (s : State) : Res :=
  let x := s.strm m
  let last := ((x.legAt.getD leg none).getD x.since)
  if s.alive && s.isLead && decide (m < 4) && s.strOn m && (legsOf (s.strCtl m)).contains leg && x.legOk.getD leg false &&
      decide (last + rawMs 10 ≤ s.now) then
    .next ((s.setStrm m { x with legOk := x.legOk.set leg false }).raise 258 2 (m + leg * 4))
  else .next s

/-! ### Locked streams (R235, R236) -/

/-- Line buffer banks that a locked stream takes (R235). -/
def State.lockBanks (s : State) (m lines : Nat) : Nat :=
  (lines * rowBytes (strSurfFmt (s.strFmt m)) (s.strSize m).1 + 262143) / 262144

/-- STREAM_CONFIG (R235). -/
def execStreamConfig (r : Req) (s : State) : Res :=
  runReq 0x0406 r s fun s =>
    let p := r.payload
    let m := u8 p 0
    let l := u8 p 2
    let c := s.lch.cfg
    let num := s.fld (strReg Reg.ingStrRate m) 31 16
    let den := s.fld (strReg Reg.ingStrRate m) 15 0
    let range := if lchMode c = 0 then 0 else lchRange c
    let frame := roundDivN (rawPerSec * den) num
    let off := (frame - lchPeriod c) + (lchPeriod c - frame)
    let lay := (s.layerNext l).getD (zeros 40)
    let others := (List.range 4).filter (fun k => k != m && !(s.strm k).lock.isEmpty)
    let set (x : List Byte) : State := s.setStrm m { s.strm m with conf := x, locked := false, frame := none, prev := none, raw := [], noFrame := [] }
    if 4 ≤ m then (s, rspParam 0)
    else if s.lch.state = .run ∨ s.lch.state = .stopping then (s, rspErr stWrongState 0x0406)
    else if !(u8 p 1).testBit 0 then (set p, rspOk)
    else if 32 ≤ l then (s, rspParam 2)
    else if lockLines p < 64 ∨ 4096 < lockLines p then (s, rspParam 4)
    else if c.isEmpty ∨ lchMode c = 2 ∨ num = 0 ∨ range * lchPeriod c < off * 1000000 then (s, rspParam 0)
    else if bitsOf (u8 lay 1) 6 4 ≠ 0 ∨ (u8 lay 1).testBit 2 ∨ manySlots (u8 lay 2) then (s, rspParam 2)
    else if 2 ≤ others.length then (s, rspParam 1)
    else if lchSmin c ≤ rawUs (u32 p 8) + rawUs (u32 p 12) then (s, rspParam 8)
    else if 24 < s.lockBanks m (lockLines p) + (others.map (fun k => s.lockBanks k (lockLines (s.strm k).lock))).sum then (s, rspParam 4)
    else (set p, rspOk)

/-- LOCK_WINDOW_END (R236): no frame began in the window of an announced launch; the tiles the layer covers are cut. -/
def execLockWindowEnd (m : Nat) (s : State) : Res :=
  let x := s.strm m
  let due (l : Launch) : Bool := decide (s.annOf l + (lockPost x.lock : Int) < s.derivedNow) && (s.lockFrame x l).isNone && !x.noFrame.contains l.n
  if !s.alive || !s.isLead || 4 ≤ m || x.lock.isEmpty then .next s
  else match s.lch.table.find? due with
  | none => .next s
  | some l =>
    let t := s.cutLines l.n (u8 x.lock 2) (fun _ _ => true)
    let quiet := match x.noLockAt with | some a => decide (s.now < a + rawSec 1) | none => false
    let keep := x.noFrame.filter (fun n => s.lch.table.any (fun a => a.n == n))
    let t := t.setStrm m { x with locked := false, noFrame := l.n :: keep, noLockAt := if quiet then x.noLockAt else some s.now }
    .next (if quiet then t else t.raise 264 2 (m + l.n % 8192 * 256))

/-! ### Frames on the wire (R77, R211, R212) -/

/-- A UDP command datagram at a port (R77): handled, or nothing where the port takes none. -/
def State.takesUdp (s : State) (port dstIp dstPort : Nat) : Bool :=
  s.isLead && (port == 4 || port == 5 || port == 7) && s.func port == 2 && s.udpOn port && s.ingIp port != 0 && s.ingIp port == dstIp && s.fld Reg.cmdCfg 15 0 == dstPort

/-- Handle a UDP command datagram; a fragment is discarded with EV_26. -/
def State.udpCommand (s : State) (port srcIp srcPort : Nat) (fragment : Bool) (data : List Byte) : State :=
  if fragment then s.raise 26 1 port else s.receivePacket (.udp port srcIp srcPort) data

/-- UDP_COMMAND_DATAGRAM (R77). -/
def execUdpCommandDatagram (port srcIp srcPort dstIp dstPort : Nat) (fragment : Bool) (data : List Byte) (s : State) : Res :=
  if s.alive && s.takesUdp port dstIp dstPort then .next (s.udpCommand port srcIp srcPort fragment data) else .next s

/-- The SRD headers of an ST 2110-20 payload from an offset: row, pixel offset, length. -/
def srdHeaders (b : List Byte) : Nat → Nat → List (Nat × Nat × Nat)
  | _, 0 => []
  | o, k + 1 =>
    let h := (u16 b (o + 2) % 32768, u16 b (o + 4) % 32768, u16 b o)
    if 32768 ≤ u16 b (o + 4) then h :: srdHeaders b (o + 6) k else [h]

/-- The data segments of the headers. -/
def srdData (b : List Byte) : Nat → List (Nat × Nat × Nat) → List Srd
  | _, [] => []
  | o, (row, off, len) :: hs => { row := row, offset := off, data := slice b o len } :: srdData b (o + len) hs

/-- An RTP packet with an ST 2110-20 payload; nothing where the bytes are no such packet with 1 to 3 headers. -/
def rtpOf (b : List Byte) : Option RtpPkt :=
  let o := 12 + 4 * (u8 b 0 % 16)
  let o := if (u8 b 0).testBit 4 then o + 4 + 4 * u16 b (o + 2) else o
  let hs := srdHeaders b (o + 2) 4
  let d := o + 2 + 6 * hs.length
  if u8 b 0 / 64 ≠ 2 ∨ 3 < hs.length ∨ b.length < d + (hs.map (fun h => h.2.2)).sum then none
  else some { pt := u8 b 1 % 128, seq := u16 b o * 65536 + u16 b 2, ts := u32 b 4, marker := decide (128 ≤ u8 b 1), srds := srdData b d hs }

/-- The enabled stream and leg that a datagram belongs to. -/
def State.streamFor (s : State) (port srcIp dstIp dstPort : Nat) : Option (Nat × Nat) :=
  ((List.range 4).flatMap (fun m => (legsOf (s.strCtl m)).map (fun l => (m, l)))).find? (fun x =>
    let m := x.1
    let l := x.2
    s.strOn m && legPort (s.strCtl m) l == port && s.strGrp m l == dstIp && (s.strSrc m l == 0 || s.strSrc m l == srcIp) &&
      dstPort == bitsOf (s.reg (strReg Reg.ingStrUdp m)).toNat (15 + 16 * l) (16 * l))

/-- Is an IPv4 group joined on a port? -/
def State.joined (s : State) (port g : Nat) : Bool :=
  (List.range 4).any (fun m => s.strOn m && (legsOf (s.strCtl m)).any (fun l => legPort (s.strCtl m) l == port && s.strGrp m l == g && isGroup g))

/-- Does the frame filter of R211 take a frame? A PTP message or an IGMP query may come to its own multicast address. -/
def State.ethFilter (s : State) (port : Nat) (f : EthFrame) : Bool :=
  let own := s.fld (ingReg Reg.ingMacHi port) 15 0 * 2 ^ 32 + (s.reg (ingReg Reg.ingMacLo port)).toNat
  let group := decide (f.dstMac / 2 ^ 40 % 2 = 1)
  let tagOk := match f.vlan with
    | none => true
    | some v => s.bit (ingReg Reg.ingVlan port) 31 && s.fld (ingReg Reg.ingVlan port) 11 0 == v
  let toOk := f.dstMac == own || f.dstMac == 0xFFFFFFFFFFFF ||
    (match f.kind with
     | .ptp _ => group
     | .igmpQuery _ => group
     | .udp _ dst _ _ _ _ _ => f.dstMac == 0x01005E000000 + dst % 2 ^ 23 && s.joined port dst
     | _ => false)
  tagOk && toOk && decide (f.len ≤ 9216)

/-- Does the lead answer an ARP request: not while inert, but where UDP replies need it (R22)? -/
def State.arpAnswers (s : State) : Bool := !s.pwr.inert || s.fld Reg.cmdCfg 18 16 != 0

/-- What an accepted frame does; the second component is false where the frame is discarded and counted. -/
def State.takeFrame (s : State) (port : Nat) (f : EthFrame) : Res × Bool :=
  let ip := s.ingIp port
  match f.kind with
  | .pause => (.next s, false)
  | .other => (.next s, false)
  | .ptp p => if ip = 0 ∧ f.dstMac / 2 ^ 40 % 2 = 0 then (.next s, false) else (execPtpMessageReceived port p s, true)
  | .arpRequest target sender mac =>
    if ip = 0 then (.next s, false)
    else (.next (if target = ip ∧ s.arpAnswers then s.emit (.eth port 1 (s.txTag port) mac sender 0) else s), true)
  | .arpReply sender mac =>
    if ip = 0 then (.next s, false)
    else match s.pix.arpWait.find? (fun w => w.port == port && w.ip == sender) with
      | none => (.next s, true)
      | some w =>
        let t := { s with pix := { s.pix with arpWait := s.pix.arpWait.erase w,
                                              arp := s.pix.arp ++ [({ port := port, ip := sender, mac := mac, at_ := s.now } : ArpEntry)] } }
        (.next (t.emits (w.packets.map (fun p => .udp port (s.txTag port) mac p.1 p.2.1 p.2.2))), true)
  | .igmpQuery g =>
    if ip = 0 then (.next s, false)
    else (.next (((List.range 4).filter s.strOn).foldl (fun t m => t.igmp m false (fun p x => p == port && (g == 0 || g == x))) s), true)
  | .udp srcIp dstIp srcPort dstPort options fragment data =>
    if ip = 0 then (.next s, false)
    else if s.takesUdp port dstIp dstPort then (.next (s.udpCommand port srcIp srcPort fragment data), true)
    else match s.streamFor port srcIp dstIp dstPort with
      | none => (.next s, false)
      | some (m, leg) =>
        if options || fragment then (.next s, false)
        else match rtpOf data with
          | some p => (.next (s.streamPacket m leg p), true)
          | none => (.next s, false)

/-- INGEST_FRAME_RECEIVED (R211, R212): filter, then ARP, IGMP, PTP, UDP commands or a stream; everything else is discarded and counted. -/
def execIngestFrameReceived (port : Nat) (f : EthFrame) (s : State) : Res :=
  if !(s.alive && s.isLead && (port == 4 || port == 5 || port == 7) && s.func port == 2) then .next s
  else if !f.fcsOk then .next (s.bump (ingReg Reg.ingRxBad port))
  else if !s.ethFilter port f then .next (s.bump (ingReg Reg.ingRxDisc port))
  else match s.takeFrame port f with
    | (x, true) => x
    | (_, false) => .next (s.bump (ingReg Reg.ingRxDisc port))

/-- ARP_REQUEST_RETRY (R212): an unanswered request is repeated after 1 s; after the third, the waiting packets are dropped with EV_266. -/
def execArpRequestRetry (s : State) : Res :=
  match s.pix.arpWait.find? (fun w => decide (w.last + rawSec 1 ≤ s.now)) with
  | none => .next s
  | some w =>
    if !s.alive then .next s
    else if w.tries < 3 then
      .next ({ s with pix := { s.pix with arpWait := s.pix.arpWait.map (fun x => if x = w then { w with tries := w.tries + 1, last := s.now } else x) } }.emit
        (.eth w.port 0 (s.txTag w.port) macAll w.ip 0))
    else .next (({ s with pix := { s.pix with arpWait := s.pix.arpWait.erase w } }).raise 266 1 (ingIdx w.port))

/-- ARP_ENTRY_EXPIRY (R212): entries leave 60 s after their resolution. -/
def execArpEntryExpiry (s : State) : Res :=
  if !s.alive then .next s
  else .next { s with pix := { s.pix with arp := s.pix.arp.filter (fun e => decide (s.now < e.at_ + rawSec 60)) } }

end Sys2Proof.Machine
end

