-- ==== Sys2Proof/Machine/Trim.lean ====
section
/-! DEFINITION. Temperatures, trim sets and reference-current codes (R390 to R393). -/

namespace Sys2Proof.Machine

/-! ### Temperatures (R390, R391, R471) -/

/-- The mean of the on-die sensors without FAULT, if one has none, in 1/16 °C. -/
def onDieMean (temps : List Int) (faults : List Bool) : Option Int :=
  let l := (List.range 8).filterMap (fun k => if faults.getD k false then none else some (temps.getD k 0))
  if l.isEmpty then none else some (roundDiv l.sum l.length)

/-- One sensor's reading (R390): nothing for an open or shorted sensor. A fault is reported when it begins. -/
def State.readSensor (s : State) (k : Nat) (v : Option Int) : State :=
  let ofs : Int := if 8 ≤ k then signed 16 (s.fld (Reg.calRdCfg + 4 * (k - 8)) 15 0) else 0
  let set (t : State) (f : Bool) : State := { t with cal := { t.cal with faults := t.cal.faults.set k f } }
  let fail (open_ : Bool) : State :=
    if s.cal.faults.getD k false then s else (set s true).raise 707 2 (k + (if open_ then 16 else 32))
  match v with
  | none => fail true
  | some x =>
    let y := x + ofs
    if y < -880 ∨ 2400 < y then fail false
    else set { s with cal := { s.cal with temps := s.cal.temps.set k y } } false

/-- The highest on-die sensor without FAULT: its number and value (R471). -/
def State.hottest (s : State) : Option (Nat × Int) :=
  (List.range 8).foldl (fun m k =>
    if s.cal.faults.getD k false then m
    else match m with
      | none => some (k, s.cal.temps.getD k 0)
      | some (j, v) => if v < s.cal.temps.getD k 0 then some (k, s.cal.temps.getD k 0) else some (j, v)) none

/-- The critical junction temperature (R23, R471). -/
def State.checkHot (s : State) : State :=
  match s.hottest with
  | none => s
  | some (k, v) =>
    if !s.pwr.critical ∧ 2000 ≤ v then
      (({ s with pwr := { s.pwr with critical := true } }).goInert).raise 36 4 k
    else if s.pwr.critical ∧ v ≤ 1840 then
      ({ s with pwr := { s.pwr with critical := false } }).raise 36 4 (k + 256)
    else s

/-- Does a sensor or remote diode without FAULT exceed WAKE_TEMP (R489)? -/
def State.overWake (s : State) : Bool :=
  (List.range 12).any (fun k => !s.cal.faults.getD k false && decide (signed 16 (s.fld Reg.pwrTwiCfg 15 0) < s.cal.temps.getD k 0))

/-- TEMPERATURE_MEASUREMENT (R390, R489): on-die sensors 0 to 7 and remote diodes 8 to 11, in 1/16 °C. -/
def execTemperatureMeasurement (sensors : List (Option Int)) (s : State) : Res :=
  if !s.alive then .next s
  else
    let t := (List.range 12).foldl (fun t k => t.readSensor k (sensors.getD k none)) s
    let t := { t with cal := { t.cal with onDie := (onDieMean t.cal.temps t.cal.faults).getD t.cal.onDie } }
    let t := t.checkHot
    .next (if t.overWake then t.wakeRequest 0 else t)

/-- The bank temperature T_b (R391). -/
def State.bankTemp (s : State) (b : Nat) : Int :=
  match s.fld Reg.calBankTsel (4 * b + 2) (4 * b) with
  | 0 => s.cal.onDie
  | d => s.cal.temps.getD (7 + d) 0

/-! ### Codes (R388, R392, R393) -/

/-- Insert by temperature. -/
def insertByT (x : Int × Int) : List (Int × Int) → List (Int × Int)
  | [] => [x]
  | y :: l => if x.1 ≤ y.1 then x :: y :: l else y :: insertByT x l

/-- The valid sets of a bank for a colour, (T, G) in ascending T. -/
def State.calPoints (s : State) (b c : Nat) : List (Int × Int) :=
  ((List.range 4).filterMap (fun k =>
    let x := s.cal.sets.getD (4 * b + k) {}
    if x.valid.testBit c then some (x.t, x.g.getD c 0) else none)).foldr insertByT []

/-- Interpolation between the points from the one at or below T. -/
def gainFrom (t : Int) : List (Int × Int) → Int
  | [] => 0
  | [(_, g)] => g
  | (t0, g0) :: (t1, g1) :: l =>
    if t < t1 then
      let w := 65536 * (t - t0) / (t1 - t0)
      g0 + (w * (g1 - g0) + 32768) / 65536
    else gainFrom t ((t1, g1) :: l)

/-- The interpolated gain (R392). -/
def gainAt (t : Int) (pts : List (Int × Int)) : Int :=
  match pts with
  | [] => 0
  | (t0, g0) :: _ => if t ≤ t0 then g0 else gainFrom t pts

/-- Does T lie outside the span of the points? -/
def outOfSpan (t : Int) (pts : List (Int × Int)) : Bool :=
  match pts.head?, pts.getLast? with
  | some a, some b => decide (t < a.1) || decide (b.1 < t)
  | _, _ => false

/-- The code of a target and gain before the clamp (R392). -/
def rawCode (target : Nat) (g : Int) : Nat := (((target : Int) * (2 ^ 20 + g) + 2 ^ 19) / 2 ^ 20).toNat

/-- The code that output n would have from a bank temperature, before the clamp. -/
def State.codeOf (s : State) (n : Nat) : Nat :=
  rawCode (s.fld (Reg.calIrefTgt + 4 * n) 15 0) (gainAt (s.bankTemp (n / 4)) (s.calPoints (n / 4) (n % 4)))

/-- The events of one output's new code: EV_706 and EV_710, once per excursion (R392). -/
def State.noteCode (s : State) (n : Nat) : State :=
  let high := decide (65535 < s.codeOf n)
  let out := outOfSpan (s.bankTemp (n / 4)) (s.calPoints (n / 4) (n % 4))
  let s1 := if high && !s.cal.clamped.contains n then s.raise 706 2 n else s
  let s2 := if out != s.cal.outSpan.contains n then s1.raise 710 2 (n / 4 + n % 4 * 4 + bn (!out) * 16) else s1
  { s2 with cal := { s2.cal with clamped := if high then n :: s2.cal.clamped.erase n else s2.cal.clamped.erase n,
                                 outSpan := if out then n :: s2.cal.outSpan.erase n else s2.cal.outSpan.erase n } }

/-- Sample the bank temperatures and compute the sixteen codes (R393). -/
def State.sampleCodes (s : State) : State :=
  let t := (List.range 16).foldl State.noteCode s
  { t with cal := { t.cal with next := some ((List.range 16).map (fun n => min 65535 (s.codeOf n))), updAt := t.now } }

/-- The codes sampled take effect. -/
def State.applyCodes (s : State) : State :=
  match s.cal.next with
  | some l => { s with cal := { s.cal with codes := l, next := none } }
  | none => s

/-- Does the tile hold no launch, or emit nothing (R393, R402)? -/
def State.calIdle (s : State) : Bool := !s.ems.enabled || s.lch.state == .idle || s.lch.state == .tWait

/-- IREF_CODE_UPDATE (R393): every 100 ms while idle, the codes are sampled and applied at once. -/
def execIrefCodeUpdate (s : State) : Res :=
  if s.alive ∧ s.isTile ∧ s.calIdle ∧ s.cal.updAt + rawMs 100 ≤ s.now then .next s.sampleCodes.applyCodes else .next s

end Sys2Proof.Machine
end

