-- ==== Sys2Proof/Machine/Lamp.lean ====
section
/-! DEFINITION. The lamp pipeline and the Almanac engine of a tile (R252, R262, R271 to R300). -/

namespace Sys2Proof

/-- Is a message a PIX run of a sub-frame (R122)? -/
def Msg.isPix (m : Msg) (slot frame : Nat) : Bool :=
  m.typ == 1 && Machine.bitsOf m.xt 31 30 == slot && Machine.bitsOf m.xt 28 16 == frame

end Sys2Proof

namespace Sys2Proof.Machine

/-! ### Launch numbers in the pipeline (R185, R272) -/

/-- FRAME of a launch number (R122). -/
def frameOfN (n : Nat) : Nat := n % 8192

/-- The tile's latest launch number, once it has launched or coasted. -/
def State.latestN (s : State) : Option Nat := s.lch.past.head?.map Launch.n

/-- May the pipeline begin a sub-frame of launch n: it is 1 to 3 launches after the latest (R272)? Before a first launch every number is
in range. -/
def State.nInRange (s : State) (n : Nat) : Bool :=
  match s.latestN with
  | none => true
  | some m => isAfter n m && decide ((n + 2 ^ 32 - m) % 2 ^ 32 ≤ 3)

/-! ### PIX runs (R122, R244, R252, R262) -/

/-- The bytes of a run, if it was received and authenticated. -/
def State.pixRun (s : State) (slot frame run : Nat) : Option (List Byte) :=
  (s.net.inbox.find? (fun m => m.isPix slot frame && bitsOf m.xt 15 6 == run)).map Msg.body

/-- The number of runs, once the run with END was received. -/
def State.pixEnd (s : State) (slot frame : Nat) : Option Nat :=
  (s.net.inbox.find? (fun m => m.isPix slot frame && m.xt.testBit 29)).map (fun m => bitsOf m.xt 15 6 + 1)

/-- Have all runs up to the one with END been received (R200)? -/
def State.pixWhole (s : State) (slot frame : Nat) : Bool :=
  match s.pixEnd slot frame with
  | some k => (List.range k).all (fun r => (s.pixRun slot frame r).isSome)
  | none => false

/-- Bytes `o` to `o + n - 1` of a sub-frame, if the runs that hold them were received. -/
def State.pixBytes (s : State) (slot frame o n : Nat) : Option (List Byte) :=
  let runs := (List.range ((o + n - 1) / 16368 + 1)).drop (o / 16368)
  if runs.all (fun r => (s.pixRun slot frame r).isSome) then
    let b := runs.flatMap (fun r => fit 16368 ((s.pixRun slot frame r).getD []))
    some (slice b (o - o / 16368 * 16368) n)
  else none

/-- The sub-frame header. -/
def State.pixHeader (s : State) (slot frame : Nat) : Option (List Byte) := s.pixBytes slot frame 0 16

/-- Forget the PIX runs of a sub-frame. -/
def State.dropPix (s : State) (slot frame : Nat) : State :=
  { s with net := { s.net with inbox := s.net.inbox.filter (fun m => !m.isPix slot frame) } }

/-- Why a header is refused (R252): 0 accepted, 1 HVER, 2 size, 3 slot, 4 launch number, 5 reserved field. -/
def State.headerFault (s : State) (slot frame : Nat) (h : List Byte) : Nat :=
  let v := s.viewFor (u32 h 8)
  if u8 h 0 ≠ 1 then 1
  else if u16 h 4 ≠ lppW v.lpp.cfg ∨ u16 h 6 ≠ lppH v.lpp.cfg then 2
  else if u8 h 3 % 4 ≠ slot then 3
  else if u32 h 8 % 8192 ≠ frame then 4
  else if u8 h 1 / 8 ≠ 0 ∨ u8 h 2 / 16 ≠ 0 ∨ u8 h 3 / 4 ≠ 0 ∨ u32 h 12 ≠ 0 then 5
  else 0

/-! ### Sub-frames -/

/-- A sub-frame of the pipeline. -/
def State.subOf (s : State) (slot frame : Nat) : Option SubF := s.lpp.subs.find? (fun x => x.slot == slot && x.frame == frame)

/-- Replace a sub-frame, or add it. -/
def State.setSub (s : State) (x : SubF) : State :=
  let same (y : SubF) : Bool := y.slot == x.slot && y.frame == x.frame
  let l := if s.lpp.subs.any same then s.lpp.subs.map (fun y => if same y then x else y) else s.lpp.subs ++ [x]
  { s with lpp := { s.lpp with subs := l } }

/-- Set a region. -/
def State.setRegion (s : State) (r : Nat) (x : Region) : State := { s with lpp := { s.lpp with regions := s.lpp.regions.set r x } }

/-- Did a sub-frame fail, and why (R200)? -/
def State.failReason (s : State) (slot frame : Nat) : Option Nat :=
  (s.lpp.failed.find? (fun f => f.1 == frame && f.2.1 == slot)).map (fun f => f.2.2)

/-- A sub-frame is incomplete for a reason of R200: its region becomes FREE and its data are released. -/
def State.failSub (s : State) (slot frame reason : Nat) : State :=
  let t := match (s.subOf slot frame).bind SubF.begun with
    | some (_, r) => s.setRegion r {}
    | none => s
  let t := { t with lpp := { t.lpp with subs := t.lpp.subs.filter (fun x => !(x.slot == slot && x.frame == frame)),
                                        failed := t.lpp.failed ++ [(frame, slot, reason)] } }
  t.dropPix slot frame

/-- A refused header: counted, EV_387, incomplete with reason 0x01 (R252). -/
def State.refuseHeader (s : State) (slot frame why : Nat) : State :=
  ((s.bump Reg.bcdHdrErr).raise 387 2 (frame + why * 8192)).failSub slot frame 1

/-- Does the pipeline run: an LPP_CONFIG has been accepted (R272)? -/
def State.pipeRuns (s : State) : Bool := s.alive && s.isTile && !s.viewAll.lpp.cfg.isEmpty

/-! ### Regions of plane memory and decoded block buffers (R289, R291, R292) -/

/-- Has window w of the latest launch ended? -/
def State.windowEnded (s : State) (w : Nat) : Bool :=
  match s.lch.past.head? with
  | none => true
  | some l =>
    let e := l.at_ + 1000 * ((s.reg Reg.emsEmitDelay).toNat + lchStart s.lch.cfg w + lchLen s.lch.cfg w)
    s.ems.ended.contains w || decide ((e : Int) ≤ s.derivedNow)

/-- Number of regions of plane memory (R289). -/
def State.nReg (s : State) : Nat := nRegions (emsDpl s.ems.cfg)

/-- The lowest-numbered FREE region. -/
def State.freeRegion (s : State) : Option Nat := (List.range s.nReg).find? (fun r => (s.lpp.regions.getD r {}).st == .free)

/-- The slot whose CURRENT region may be released (R292): it has a PENDING region for a later launch and its window has ended. -/
def State.releasable (s : State) : Option (Nat × Nat) :=
  (List.range 4).findSome? (fun k =>
    if s.windowEnded k && s.lpp.regions.any (fun x => x.st == .pending && x.slot == k) then
      ((List.range s.nReg).find? (fun r => (s.lpp.regions.getD r {}).st == .current && (s.lpp.regions.getD r {}).slot == k)).map (fun r => (k, r))
    else none)

/-- Bytes of the decoded block buffers, OCM banks 54 to 57 (R42), and of a block decoded in them: 32 pixels of 36 bits. DESIGN CHOICE (log
entry 40): the spec gives no layout of the buffers. -/
def decodedBuffer : Nat := 1048576
/-- Bytes of a decoded block. -/
def decodedBlock : Nat := 144

/-- Would a further block group fill the decoded block buffers with sub-frames that wait for a region (R292)? -/
def State.buffersFull (s : State) (blocks : Nat) : Bool :=
  let waiting := ((s.lpp.subs.filter (fun x => x.begun.isNone)).map (fun x => x.blocks.length)).sum
  decide (decodedBuffer < (waiting + blocks) * decodedBlock)

/-- TRANSPORT_GROUP_DECODE (R250, R252, R262, R292): once the runs that hold a block group are authenticated, the tile decodes it; its words are
released after C2 matches. Where the decoded block buffers fill while no region can be freed, the sub-frame's data are discarded. -/
def execTransportGroupDecode (slot frame group : Nat) (s : State) : Res :=
  let x := (s.subOf slot frame).getD { slot := slot, frame := frame }
  if !s.pipeRuns || (s.failReason slot frame).isSome || x.groups.contains group then .next s
  else match s.pixHeader slot frame with
  | none => .next s
  | some h =>
    let why := s.headerFault slot frame h
    if why ≠ 0 then .next (s.refuseHeader slot frame why)
    else
      let ratio := u8 h 1 % 4
      let n := nBlk (u16 h 4) (u16 h 6)
      let first := 32 * group
      let count := min 32 (n - first)
      let o := if group = 0 then 0 else blkOffset ratio first
      let len := (if group = 0 then 16 else 0) + count * blkBytes ratio
      if n ≤ first then .next s
      else match s.pixBytes slot frame o (len + 2) with
      | none => .next s
      | some b =>
        if x.begun.isNone && s.buffersFull count then
          if s.freeRegion.isSome || s.releasable.isSome then .next s
          else .next (((s.bump Reg.lppSfDisc).raise 454 2 (frame + slot * 8192 + 0x20000)).failSub slot frame 1)
        else if crc16 (b.take len) ≠ u16 b len then
          .next (((s.bump Reg.bcdC2Trn).raise 384 3 (group % 256 + slot * 256 + frame * 1024)).failSub slot frame 0x12)
        else
          let body := b.drop (if group = 0 then 16 else 0)
          let blks := (List.range count).map (fun i => decodeBlk ratio (slice body (i * blkBytes ratio) (blkBytes ratio)))
          let bad := (blks.filter Option.isNone).length
          if bad ≠ 0 then
            .next (((s.bumpBy Reg.bcdInvalid bad).raise 388 3 (group % 256 + slot * 256 + frame * 1024)).failSub slot frame 1)
          else
            let put := (List.range count).foldl (fun m i => Map.put m (first + i) ((blks.getD i none).getD [])) x.blocks
            .next (s.setSub { x with blocks := put, groups := x.groups ++ [group] })

/-! ### The Almanac (R283 to R288) -/

/-- Bytes of a set image (R283). -/
def setBytes (c : List Byte) : Nat := 48 + 24 * lppW c * lppH c

/-- The mask staged by ALMANAC_ENABLE, if one is. -/
def State.stagedMask (s : State) : Option Nat :=
  s.pix.staged.findSome? (fun p => match p.change with | .mask m => some m | _ => none)

/-- Is a set in use: named in the mask in effect, in a staged mask, or by a regeneration that an ALMANAC_ENABLE waits for (R284)? -/
def State.setInUse (s : State) (k : Nat) : Bool :=
  s.lpp.mask.testBit k || (s.stagedMask.getD 0).testBit k ||
    (match s.lpp.regen with | some g => g.enable.isSome && g.buf.mask.testBit k | none => false)

/-- Insert by temperature. -/
def insertSet (sets : List AlmSet) (k : Nat) : List Nat → List Nat
  | [] => [k]
  | j :: l => if (sets.getD k {}).temp ≤ (sets.getD j {}).temp then k :: j :: l else j :: insertSet sets k l

/-- The sets of a mask in ascending temperature. -/
def State.maskSets (s : State) (m : Nat) : List Nat := ((List.range 4).filter m.testBit).foldr (insertSet s.lpp.sets) []

/-- lo, hi and w for a temperature from the set at or below it (R287). -/
def lohiFrom (temp : Nat → Int) (t : Int) : List Nat → Nat × Nat × Nat
  | [] => (0, 0, 0)
  | [u] => (u, u, 0)
  | [u, v] => if temp v ≤ t then (u, v, 65536) else (u, v, (65536 * (t - temp u) / (temp v - temp u)).toNat)
  | u :: v :: w :: l =>
    if temp v ≤ t then lohiFrom temp t (v :: w :: l) else (u, v, (65536 * (t - temp u) / (temp v - temp u)).toNat)

/-- lo, hi and w of a zone (R287). -/
def lohi (temp : Nat → Int) (t : Int) (us : List Nat) : Nat × Nat × Nat :=
  match us with
  | [] => (0, 0, 0)
  | u :: _ => if us.length = 1 ∨ t ≤ temp u then (u, us.getD 1 u, 0) else lohiFrom temp t us

/-- interp(a, b, w) (R287). -/
def interp (a b : Int) (w : Nat) : Int := a + ((w : Int) * (b - a) + 32768) / 65536

/-- Where a set image stands in DRAM (R283). DESIGN CHOICE (log entry 38): from the bottom of the 40 MiB that the pipeline reserves at the top
of installed DRAM, 6,291,520 bytes each. -/
def State.almAddr (s : State) (k : Nat) : Nat := s.installed - 41943040 + 6291520 * k

/-- The image of a set as it stands in DRAM. -/
def State.almImage (s : State) (k : Nat) : Map Byte :=
  let a := s.almAddr k
  (s.mem.dram.filter (fun x => decide (a ≤ x.1) && decide (x.1 < a + 6291520))).map (fun x => (x.1 - a, x.2))

/-- Does a read of a set image meet an uncorrectable C3 error? -/
def State.almBad (s : State) (k : Nat) : Bool :=
  let a := s.almAddr k
  (s.chan 0).st != .run || s.mem.bad.any (fun w => decide (a ≤ 8 * w + 7) && decide (8 * w < a + setBytes s.lpp.cfg))

/-- NOM_k of a set image, signed 2.16. -/
def imgNom (m : Map Byte) (k : Nat) : Int := signed 18 (beNat ((List.range 4).map (fun i => Map.at m 0 (4 * k + i))) % 2 ^ 18)
/-- DEV_k of pixel p of a set image. -/
def imgDev (m : Map Byte) (p k : Nat) : Int := signed 16 (beNat ((List.range 2).map (fun i => Map.at m 0 (48 + 24 * p + 2 * k + i))))

/-- Coefficient k of a pixel from an active set (R278, R287), or the fixed matrix while the mask is 0. -/
def State.coefAt (v : State) (b : AlmBuf) (x y k : Nat) : Int :=
  if v.lpp.mask = 0 then (if k = 0 ∨ k = 4 ∨ k = 8 then 65536 else 0)
  else
    let w := lppW v.lpp.cfg
    let (lo, hi, wt) := b.zones.getD (zoneOf w (lppH v.lpp.cfg) x y) (0, 0, 0)
    let a := b.imgs.getD lo []
    let c := b.imgs.getD hi []
    clampInt (-131072) 131071 (interp (imgNom a k) (imgNom c k) wt + interp (imgDev a (w * y + x) k) (imgDev c (w * y + x) k) wt)

/-! ### Zone temperatures (R281, R282) -/

/-- The driver's zone: that of its origin pixel; nothing for an entry that is not VALID. -/
def State.driverZone (s : State) (i : Nat) : Option Nat :=
  let w := (s.reg (Reg.lppDmap + 4 * i)).toNat
  if w.testBit 31 then some (zoneOf (lppW s.lpp.cfg) (lppH s.lpp.cfg) (bitsOf w 8 0) (bitsOf w 17 9)) else none

/-- Temperature in a stored status word (R321). -/
def drvTemp (w : Nat) : Int := signed 16 (w / 2 ^ 48)

/-- The reports of a zone's drivers: raw instant and temperature. -/
def State.zoneReports (s : State) (z : Nat) : List (Nat × Int) :=
  (s.lpp.reports.filter (fun r => s.driverZone r.1 == some z)).map (fun r => (r.2, drvTemp (Map.at s.ems.drv 0 r.1)))

/-- Fresh reports of a zone: 2 s. -/
def State.freshReports (s : State) (z : Nat) : List (Nat × Int) :=
  (s.zoneReports z).filter (fun r => decide (s.now < r.1 + rawSec 2))

/-- Rounded mean of temperatures. -/
def meanOf (l : List Int) : Int := if l.isEmpty then 400 else roundDiv l.sum l.length

/-- The zone's temperature without OFS from its drivers: the mean of the fresh reports, or of the last ones that were fresh, or 25 °C. -/
def State.driverTemp (s : State) (z : Nat) : Int :=
  let f := s.freshReports z
  if f.isEmpty then
    let l := s.zoneReports z
    let last := l.foldl (fun m r => max m r.1) 0
    meanOf ((l.filter (fun r => r.1 == last)).map Prod.snd)
  else meanOf (f.map Prod.snd)

/-- ZONE_CFG fields: SRC, SEL, OFS. -/
def State.zoneSrc (s : State) (z : Nat) : Nat := s.fld (Reg.lppZoneCfg + 4 * z) 31 30
/-- SEL. -/
def State.zoneSel (s : State) (z : Nat) : Nat := s.fld (Reg.lppZoneCfg + 4 * z) 26 24
/-- OFS. -/
def State.zoneOfs (s : State) (z : Nat) : Int := signed 16 (s.fld (Reg.lppZoneCfg + 4 * z) 15 0)

/-- The zone temperature. -/
def State.zoneTemp (s : State) (z : Nat) : Int :=
  let f := s.lpp.zones.getD z {}
  s.zoneOfs z + (match s.zoneSrc z with
    | 0 => if f.fallback then s.cal.onDie else s.driverTemp z
    | 1 => s.cal.temps.getD (s.zoneSel z) 0
    | 2 => s.cal.temps.getD (8 + s.zoneSel z % 4) 0
    | _ => 0)

/-- ZONE_STALE (R282): a zone on its drivers without a fresh report. -/
def execZoneStale (zone : Nat) (s : State) : Res :=
  let f := s.lpp.zones.getD zone {}
  if s.alive && s.isTile && decide (zone < 64) && s.zoneSrc zone == 0 && !f.stale && (s.freshReports zone).isEmpty then
    let armed := s.isArmed 0x0601
    .next (({ s with lpp := { s.lpp with zones := s.lpp.zones.set zone { stale := true, fallback := armed } } }).raiseA 450 2
      (zone + bn armed * 64) armed)
  else .next s

/-- A driver's report makes its zone fresh again (R282). -/
def State.freshen (s : State) (i : Nat) : State :=
  let t := { s with lpp := { s.lpp with reports := Map.put s.lpp.reports i s.now } }
  match t.driverZone i with
  | some z =>
    if (t.lpp.zones.getD z {}).stale then
      ({ t with lpp := { t.lpp with zones := t.lpp.zones.set z {} } }).raise 451 1 z
    else t
  | none => t

/-! ### Regeneration (R285, R286) -/

/-- A regeneration of a mask from the zone temperatures now. -/
def State.regenOf (s : State) (m : Nat) (r : Option Req) : Regen :=
  { buf := { mask := m, seq := (s.lpp.almSeq + 1) % 2 ^ 32, imgs := (List.range 4).map s.almImage,
             zones := (List.range 64).map (fun z => lohi (fun k => (s.lpp.sets.getD k {}).temp) (s.zoneTemp z) (s.maskSets m)) },
    start := s.now, enable := r }

/-- ALMANAC_REGENERATION_START (R286): every REGEN × 100 ms while a mask is in effect and no ALMANAC_ENABLE is under way. -/
def execAlmanacRegenerationStart (s : State) : Res :=
  if s.alive && s.isTile && s.lpp.mask != 0 && s.lpp.regen.isNone && s.stagedMask.isNone &&
      decide (s.lpp.regenAt + rawMs (100 * u8 s.lpp.cfg 7) ≤ s.now) then
    .next { s with lpp := { s.lpp with regen := some (s.regenOf s.lpp.mask none), regenAt := s.now } }
  else .next s

/-- ALMANAC_REGENERATION_COMPLETE (R285, R286): the buffer is offered or staged, or an uncorrectable C3 error, in `c3` or known, stopped it at a
set. -/
def execAlmanacRegenerationComplete (c3 : Option Nat) (s : State) : Res :=
  match s.lpp.regen with
  | none => .next s
  | some g =>
    if !s.alive then .next s
    else
      let s1 := { s with lpp := { s.lpp with regen := none } }
      match c3.or ((s.maskSets g.buf.mask).find? s.almBad) with
      | some k =>
        let t := (s1.bump Reg.lppRegenFail).raise 449 2 (1 + k % 4 * 16)
        (match g.enable with
         | some r => .next (t.answer t 0x0603 r (rspErr stIntegrity 3))
         | none => .next t)
      | none =>
        let late := g.enable.isNone && decide (g.start + rawMs (100 * u8 s.lpp.cfg 7) ≤ s.now) && s.lpp.mask != 0
        let t := { s1 with lpp := { s1.lpp with bufs := s1.lpp.bufs.set (1 - s1.lpp.active) g.buf, almSeq := g.buf.seq,
                                                fresh := g.enable.isNone } }
        let t := if late then t.raise 449 2 2 else t
        (match g.enable with
         | some r =>
           let (u, a) := t.stageReply 0x0603 r (.mask g.buf.mask)
           .next (match a with | some a => u.answer u 0x0603 r a | none => u)
         | none => .next t)

/-- ALMANAC_ENABLE (R285). -/
def execAlmanacEnable (r : Req) (s : State) : Res :=
  runReqLater 0x0603 r s fun s =>
    let m := u8 r.payload 0 % 16
    let us := s.maskSets m
    let twice := us.any (fun a => us.any (fun b => a != b && (s.lpp.sets.getD a {}).temp == (s.lpp.sets.getD b {}).temp))
    let busy := s.stagedMask.isSome || (match s.lpp.regen with | some g => g.enable.isSome | none => false)
    if us.any (fun k => !(s.lpp.sets.getD k {}).loaded) then (s, some (rspErr stWrongState 0x0604))
    else if twice then (s, some (rspParam 0))
    else if busy then (s, some (rspErr stBusy 0x0603))
    else if m = 0 then ({ s with lpp := { s.lpp with regen := none } }).stageReply 0x0603 r (.mask 0)
    else ({ s with lpp := { s.lpp with regen := some (s.regenOf m (some r)), regenAt := s.now } }, none)

/-- ALMANAC_LOAD (R284); it waits while the memory controller is disabled (R358). -/
def execAlmanacLoad (r : Req) (s : State) : Res :=
  runReqLater 0x0602 r s fun s =>
    let k := u8 r.payload 0
    let t := signed 16 (u16 r.payload 2)
    let o := u32 r.payload 4
    let data := r.payload.drop 8
    let z := setBytes s.viewAll.lpp.cfg
    let x := s.lpp.sets.getD k {}
    if 3 < k then (s, some (rspParam 0))
    else if t < -160 ∨ 1280 < t then (s, some (rspParam 2))
    else if o % 64 ≠ 0 ∨ z < o + data.length ∨ (data.length % 64 ≠ 0 ∧ o + data.length ≠ z) then (s, some (rspParam 4))
    else if s.setInUse k then (s, some (rspErr stWrongState 0x0601))
    else if !s.mem.enabled then ({ s with mem := { s.mem with waiting := s.mem.waiting ++ [(0x0602, r)] } }, none)
    else
      let w := addRange o (o + data.length) x.written
      let y : AlmSet := { temp := t, written := w, loaded := x.loaded || covers w z }
      let u := s.memWrite (s.almAddr k + o) data
      ({ u with lpp := { u.lpp with sets := u.lpp.sets.set k y } }, some rspOk)

/-- ZONE_READ (R298). -/
def execZoneRead (r : Req) (s : State) : Res :=
  runReq 0x0604 r s fun s =>
    let b := s.lpp.bufs.getD s.lpp.active {}
    let rec_ (z : Nat) : List Byte :=
      let f := s.lpp.zones.getD z {}
      let (lo, _, w) := b.zones.getD z (0xFF, 0, 0)
      b2 (unsigned 16 (s.zoneTemp z)) ++ b1 (bn f.stale + bn f.fallback * 2) ++ b1 lo ++ b4 w
    (s, rspOk (b4 b.seq ++ zeros 4 ++ (List.range 64).flatMap rec_))

/-! ### Configuration (R293, R296, R297) -/

/-- LPP_CONFIG (R296). -/
def execLppConfig (r : Req) (s : State) : Res :=
  runReqLater 0x0600 r s fun s =>
    let p := r.payload
    let v := s.viewAll
    let c := v.lpp.cfg
    let change := !c.isEmpty && (lppPrims c != lppPrims p || lppW c != lppW p || lppH c != lppH p)
    let badRef := (List.range 16).find? (fun k => decide (u16 p (8 + 2 * k) < 0x4000))
    if lppPrims p ≠ 3 ∧ lppPrims p ≠ 4 then (s, some (rspParam 0))
    else if 4 < u8 p 1 ∨ (lppPrims p = 3 ∧ u8 p 1 ≠ 0) then (s, some (rspParam 1))
    else if lppW p < 1 ∨ 512 < lppW p then (s, some (rspParam 2))
    else if lppH p < 1 ∨ 512 < lppH p then (s, some (rspParam 4))
    else if u8 p 7 < 1 ∨ 10 < u8 p 7 then (s, some (rspParam 7))
    else match badRef with
    | some k => (s, some (rspParam (8 + 2 * k)))
    | none =>
      if (List.range (lppPrims p)).any (fun k => s.forced (72 + k)) then (s, some rspForced)
      else if tileOver s.lch.cfg p (v.pix.layers.map Prod.snd) v.pix.prot then (s, some (rspErr stBadParam 0x8006))
      else if change ∧ s.ems.enabled then (s, some (rspErr stWrongState 0x0602))
      else if change ∧ (s.lpp.mask ≠ 0 ∨ s.stagedMask.getD 0 ≠ 0) then (s, some (rspErr stWrongState 0x0603))
      else s.stageReply 0x0600 r (.lpp p)

/-- Store an entry of a table: entries equal to the table's content at reset leave none, unless that content was lost. -/
def State.lutStore (s : State) (m : Map Nat) (code v : Nat) : Map Nat :=
  if s.lpp.lutLost.isSome then Map.put m code v else Map.store pqLut m code v

/-- LUT_LOAD (R276, R297). -/
def execLutLoad (r : Req) (s : State) : Res :=
  runReqLater 0x0601 r s fun s =>
    let p := r.payload
    let c := u8 p 0
    let first := u16 p 2
    let count := (p.length - 4) / 3
    let commit := (u8 p 1).testBit 0
    let staged := s.pix.staged.any (fun q => match q.change with | .lut k => k == c | _ => false)
    if 2 < c then (s, some (rspParam 0))
    else if count = 0 ∧ !commit then (s, some (rspParam 1))
    else if 4096 < first + count ∨ 4095 < first then (s, some (rspParam 2))
    else if staged then (s, some (rspErr stBusy 0x0601))
    else
      let m := (List.range count).foldl (fun m e => s.lutStore m (first + e) (u24 p (4 + 3 * e))) (s.lpp.lutPend.getD c [])
      let t := { s with lpp := { s.lpp with lutPend := s.lpp.lutPend.set c m } }
      if commit then t.stageReply 0x0601 r (.lut c) else (t, some rspOk)

/-- LPP_CNT_CLR (R300). -/
def execLppCntClr (data : Word) (s : State) : Res :=
  if !s.alive || !s.isTile then .next s else .next (s.clearCounters Reg.lppSfDone 5 data.toNat)

/-! ### Processing (R272, R288 to R292) -/

/-- A region released while it holds FILL_SLOT's frame before or during fill makes the rest of the fill dark (R312). -/
def State.cutFill (s : State) (slot : Nat) : State :=
  match s.ems.launch with
  | some (n, _) =>
    if s.ems.enabled && s.ems.emits && emsFill s.ems.cfg && emsFillSlot s.ems.cfg == slot && !s.ems.fillDone && !s.ems.fillCut then
      let lit := match s.ems.win with | some w => if w.fill then none else s.ems.lit | none => s.ems.lit
      ({ s.credit with ems := { s.credit.ems with fillCut := true, lit := lit } }).raise 518 1 (n % 8192 + slot * 8192)
    else s
  | none => s

/-- Begin a launch in the pipeline: the active set it uses is fixed, a new buffer is reported with EV_448 (R288). -/
def State.beginLaunch (s : State) (n : Nat) : State :=
  if s.lpp.begun.any (fun b => b.1 == n) then s
  else
    let t := if s.lpp.fresh && s.stagedMask.isNone then
        { s with lpp := { s.lpp with active := 1 - s.lpp.active, fresh := false } }
      else s
    let v := t.viewFor n
    let b := t.lpp.bufs.getD v.lpp.active {}
    let u := { t with lpp := { t.lpp with begun := t.lpp.begun ++ [(n, b)], lastBuf := v.lpp.active } }
    if v.lpp.active = t.lpp.lastBuf then u
    else u.raise 448 0 (n % 8192 + v.lpp.mask * 2 ^ 16 + b.seq % 4096 * 2 ^ 20)

/-- Is a sub-frame the next to begin: no other that arrived before it can begin? -/
def State.firstToBegin (s : State) (slot frame : Nat) : Bool :=
  match s.net.inbox.find? (fun m => m.typ == 1 &&
      (let k := bitsOf m.xt 31 30
       let f := bitsOf m.xt 28 16
       ((s.subOf k f).bind SubF.begun).isNone && (s.failReason k f).isNone && (s.pixHeader k f).isSome)) with
  | some m => m.isPix slot frame
  | none => false

/-- SUBFRAME_PROCESS_BEGIN (R272, R288, R291, R292): the pipeline begins the next sub-frame in a region, or discards it. -/
def execSubframeProcessBegin (slot frame : Nat) (s : State) : Res :=
  if !(s.pipeRuns && s.firstToBegin slot frame) then .next s
  else match s.pixHeader slot frame with
  | none => .next s
  | some h =>
    let n := u32 h 8
    let why := s.headerFault slot frame h
    if why ≠ 0 then .next (s.refuseHeader slot frame why)
    else if !s.nInRange n then
      .next (((s.bump Reg.lppSfDisc).raise 454 2 (frame + slot * 8192 + 0x10000)).failSub slot frame 1)
    else
      let start (t : State) (r : Nat) : State :=
        let u := t.setRegion r { st := .filling, slot := slot, n := n }
        (u.setSub { (u.subOf slot frame).getD { slot := slot, frame := frame } with begun := some (n, r) }).beginLaunch n
      match s.freeRegion with
      | some r => .next (start s r)
      | none =>
        match s.releasable with
        | some (k, r) =>
          let t := { s with ems := { s.ems with shows := s.ems.shows.map (fun x => if x = some r then none else x) } }
          .next (start ((t.setRegion r {}).cutFill k) r)
        | none => .next s

/-! ### Stages 2 to 7 (R271 to R280, R289) -/

/-- The input of the protected layer at a tile pixel (R237, R238): a surface pixel or the solid colour, unscaled. -/
def State.protIn (s : State) (slot x y : Nat) : Except BadRead (Option Config.LayerIn) :=
  let p := s.pix.prot
  let dx := x - u16 p 4
  let dy := y - u16 p 6
  if p.isEmpty ∨ !(u8 p 1).testBit slot ∨ x < u16 p 4 ∨ y < u16 p 6 ∨ u16 p 8 ≤ dx ∨ u16 p 10 ≤ dy then .ok none
  else
    let one (fmt : Nat) (v : List Nat) : Config.LayerIn :=
      { plain := true, fmt := fmt, colour := 9, alpha := u16 p 12 % 4096, gain := 0x1000, lw := 0, coefX := coefUnit, coefY := coefUnit,
        taps := List.replicate 64 (v.map (fun (x : Nat) => (256 * x : Int))) }
    if u8 p 0 = 2 then .ok (some (one 5 [u16 p 14 % 4096, u16 p 16 % 4096, u16 p 18 % 4096]))
    else match s.surf (14 + u8 p 0) with
    | none => .ok none
    | some u =>
      match s.readBlock u (u.cur.getD 0) (u.blockOf dx dy) with
      | .ok cs => .ok (some (one u.fmt ((List.range (fmtComps u.fmt)).map (fun c => blockSample u.fmt cs c dx dy))))
      | .c3 => .error (.block (14 + u8 p 0) (u.blockOf dx dy) 3)
      | _ => .error (.block (14 + u8 p 0) (u.blockOf dx dy) 2)

/-- Stage 2: the decoded pixel, the local layers, then the protected layer (R237). -/
def State.tilePixel (v : State) (base : Rgb) (slot x y : Nat) : Except BadRead Rgb :=
  v.blendAt base slot x y (v.protIn slot x y)

/-- Stage 3: the linear value of a component code (R276). -/
def State.linear (v : State) (c code : Nat) : Nat :=
  let rest := match v.lpp.lutLost with
    | some k => Config.freeValue (k + c * 4096 + code)
    | none => pqLut code
  ((Map.find (v.lpp.lut.getD c []) code).getD rest) % 2 ^ 24

/-- Stage 4: the matrix (R277). -/
def matrixOut (m0 m1 m2 : Int) (v0 v1 v2 : Nat) : Nat :=
  (clampInt 0 0xFFFFFF ((m0 * v0 + m1 * v1 + m2 * v2 + 2 ^ 15) / 2 ^ 16)).toNat

/-- Stage 5: reference compensation (R279). -/
def refComp (v f : Nat) : Nat := min 0xFFFFFF ((v * f + 2 ^ 14) / 2 ^ 15)

/-- The dither value (R280). -/
def ditherOf (on : Bool) (n x y : Nat) : Nat :=
  if on then [0, 2, 1, 3].getD ((n + x % 2 + 2 * (y % 2)) % 4) 0 else 2

/-- Stage 6: the 20-bit code (R280). -/
def codeFor (ncw v d : Nat) : Nat :=
  let w := 16 + ncw
  let vd := v / 2 ^ (22 - w)
  min ((vd + d) / 4) (2 ^ w - 1) * 2 ^ (20 - w)

/-- Stages 3 to 6 for one lamp. -/
def State.lampCode (v : State) (b : AlmBuf) (n bank : Nat) (px : Rgb) (x y p : Nat) : Nat :=
  let m (i : Nat) : Int := v.coefAt b x y (3 * p + i)
  let o := matrixOut (m 0) (m 1) (m 2) (v.linear 0 px.1) (v.linear 1 px.2.1) (v.linear 2 px.2.2)
  codeFor (emsNcw v.ems.cfg) (refComp o (lppRef v.lpp.cfg bank p)) (ditherOf ((u8 v.lpp.cfg 6).testBit 0) n x y)

/-- The decoded pixel (x, y) of a sub-frame. -/
def SubF.pixel (f : SubF) (w x y : Nat) : Rgb :=
  (Map.at f.blocks [] (y / 4 * ((w + 7) / 8) + x / 8)).getD (y % 4 * 8 + x % 8) (0, 0, 0)

/-- The codes of every mapped driver of a sub-frame, or what a layer surface's read failed with. -/
def State.subCodes (s : State) (f : SubF) (n : Nat) : Except BadRead (Map (List Nat)) :=
  let v := s.viewFor n
  let w := lppW v.lpp.cfg
  let h := lppH v.lpp.cfg
  let b := ((s.lpp.begun.find? (fun b => b.1 == n)).map Prod.snd).getD {}
  match allOk ((List.range (w * h)).map (fun k => v.tilePixel (f.pixel w (k % w) (k / w)) f.slot (k % w) (k / w))) with
  | .error e => .error e
  | .ok img =>
    let dpl := emsDpl v.ems.cfg
    let drivers := (List.range 64).flatMap (fun l => (List.range dpl).map (fun d => 256 * l + d))
    .ok ((drivers.filter (fun i => v.bit (Reg.lppDmap + 4 * i) 31)).map (fun i =>
      (i, (List.range 64).map (fun bit => match v.lampOf i bit with
        | some (x, y, p) => v.lampCode b n (i / 256 / 16) (img.getD (y * w + x) (0, 0, 0)) x y p
        | none => 0))))

/-- A pipeline failure (R295): counted, EV_453, the region is FREE, reason 0x13. -/
def State.pipeFail (s : State) (slot n source : Nat) (disagree : Bool) : State :=
  ((s.bump Reg.lppCheckFail).raise 453 3 (n % 8192 + slot * 8192 + bn disagree * 32768 + source % 4 * 65536)).failSub slot (frameOfN n) 0x13

/-- SUBFRAME_WRITE_COMPLETE (R271, R289, R291, R294): the last plane word of a sub-frame in FILLING is written, after so many corrected C3 errors
in its reads, and its region becomes PENDING. A layer's surface block that fails C2 or C3 makes the sub-frame incomplete instead (R262, R295). -/
def execSubframeWriteComplete (slot n corrected : Nat) (s : State) : Res :=
  match s.subOf slot (frameOfN n) with
  | none => .next s
  | some f =>
    let v := s.viewFor n
    let groups := (nBlk (lppW v.lpp.cfg) (lppH v.lpp.cfg) + 31) / 32
    match f.begun with
    | none => .next s
    | some (m, r) =>
      if !s.pipeRuns || m != n || !(List.range groups).all f.groups.contains || !s.pixWhole slot (frameOfN n) then .next s
      else
      let s := s.bumpBy Reg.lppC3Corr corrected
      match s.subCodes f n with
      | .error e => .next (if e.stage = 3 then (s.noteBad e).pipeFail slot n 0 false else (s.noteBad e).failSub slot (frameOfN n) 0x12)
      | .ok codes =>
        let t := (s.setRegion r { st := .pending, slot := slot, n := n, codes := codes }).dropPix slot (frameOfN n)
        .next (({ t with lpp := { t.lpp with subs := t.lpp.subs.erase f } }).bump Reg.lppSfDone)

/-- PIPELINE_CHECK_FAILURE (R294, R295). -/
def execPipelineCheckFailure (slot n source : Nat) (disagree : Bool) (s : State) : Res :=
  match (s.subOf slot (frameOfN n)).bind SubF.begun with
  | some (m, _) => if s.pipeRuns && m == n then .next (s.pipeFail slot n source disagree) else .next s
  | none => .next s

/-! ### What the check of R200 asks -/

/-- The first reason why the sub-frame of launch n is incomplete; nothing where it is complete (R200). -/
def State.incomplete (s : State) (n slot : Nat) : Option Nat :=
  let f := frameOfN n
  if s.lpp.regions.any (fun x => x.st == .pending && x.slot == slot && x.n == n) then none
  else match s.failReason slot f with
  | some w => some w
  | none =>
    if s.pixWhole slot f then some 3
    else
      let runs := (s.pixEnd slot f).getD 1
      let gaps := (List.range runs).filter (fun r => (s.pixRun slot f r).isNone)
      if s.lpp.pixBad.any (fun b => b.1 == f && b.2.1 == slot) ∧ gaps.all (fun r => s.lpp.pixBad.contains (f, slot, r)) then some 0x11
      else some 1

/-- Everything of the launches up to n leaves the pipeline: they are launched, coasted, skipped or passed (R272, R291). Regions that are
kept are the CURRENT ones. -/
def State.passLaunch (s : State) (n : Nat) : State :=
  let old (m : Nat) : Bool := m == n || isAfter n m
  let oldF (f : Nat) : Bool := decide ((n % 8192 + 8192 - f) % 8192 < 4096)
  { s with
    lpp := { s.lpp with
      regions := s.lpp.regions.map (fun x => if (x.st == .filling || x.st == .pending) && old x.n then {} else x),
      subs := s.lpp.subs.filter (fun f => match f.begun with | some (m, _) => !old m | none => !oldF f.frame),
      begun := s.lpp.begun.filter (fun b => !old b.1),
      failed := s.lpp.failed.filter (fun f => !oldF f.1),
      pixBad := s.lpp.pixBad.filter (fun f => !oldF f.1) },
    net := { s.net with inbox := s.net.inbox.filter (fun m => !(m.typ == 1 && oldF (bitsOf m.xt 28 16))) } }

end Sys2Proof.Machine
end

