-- ==== Sys2Proof/Machine/Emission.lean ====
section
/-! DEFINITION. The emission scheduler and the lamp port (R275, R303 to R335, R534). -/

namespace Sys2Proof.Machine

/-! ### Words on the lamp port (R315 to R317, R321) -/

/-- WCRC with an initial value (R317). -/
def wcrc (init : Nat) (bs : List Byte) : Nat := bs.foldl (crcByte 8 0x2F) init ^^^ 0xFF

/-- Plane word p of 64 codes (R289). -/
def planeWord (codes : List Nat) (p : Nat) : Nat :=
  (List.range 64).foldl (fun a b => a + bn ((codes.getD b 0).testBit p) * 2 ^ b) 0

/-- A drive word for the driver at position d (R315). -/
def driveWord (lamps d : Nat) : Nat := lamps * 256 + wcrc (0xFF ^^^ d) (b8 lamps)

/-- A setup word (R316). -/
def setupWord (op addr data : Nat) : Nat :=
  let c := op * 2 ^ 56 + addr * 2 ^ 48 + data * 2 ^ 40
  c * 256 + wcrc 0xFF (b8 c)

/-- The lanes of a bank mask. -/
def lanesOf (banks : Nat) : List Nat := (List.range 64).filter (fun l => banks.testBit (l / 16))

/-- The shift of a unit on every lane of the enabled banks: the word of the last driver first (R315). -/
def unitShift (c : List Byte) (codes : Option (Map (List Nat))) (word : Nat) : List Out :=
  (lanesOf (emsBanks c)).map (fun l => .shift l ((List.range (emsDpl c)).map (fun k =>
    let d := emsDpl c - 1 - k
    driveWord (match codes with | some m => planeWord (Map.at m [] (256 * l + d)) word | none => 0) d)))

/-! ### Pins (R310, R326, R329) -/

/-- LBLANK_N is low (R326). -/
def State.blankLow (s : State) : Bool :=
  !s.ems.enabled || s.pwr.inert || s.net.ecl.dark || s.ems.hold || s.pwr.jtagHold || (match s.ems.win with | some w => w.cut | none => false)

/-- LCLK runs on bank b (R314). -/
def State.lclkRuns (s : State) (b : Nat) : Bool :=
  (emsBanks s.ems.cfg).testBit b && (s.ems.enabled || !s.ems.setups.isEmpty) && !s.ems.hold && !s.pwr.inert

/-- EMARK is high (R329). -/
def State.emark (s : State) : Bool :=
  match s.fld Reg.emsEmark 1 0 with
  | 1 => match s.ems.win with
    | some w => !w.fill && decide (0 < w.next) && s.bit Reg.emsEmark (4 + w.slot)
    | none => false
  | 2 => match s.ems.launch with
    | some (_, l) =>
      let t := s.actDom.rawOf (l + 1000 * (s.reg Reg.emsEmitDelay).toNat)
      s.isTile && decide (t ≤ s.now) && decide (s.now < t + rawUs 1)
    | none => false
  | _ => false

/-! ### Windows (R308 to R312) -/

/-- F_w of a launch (R184). -/
def State.winAt (s : State) (l w : Nat) : Nat := l + 1000 * ((s.reg Reg.emsEmitDelay).toNat + lchStart s.lch.cfg w)

/-- The LAMP cycle of raw time in which F_w lies, and φ_w: its raw time modulo 8 ns, to the nearest raw LSB (R39, R310). -/
def State.gridOf (s : State) (f : Nat) : Nat × Nat :=
  let r := s.actDom.rawOf f * 1000
  (r / 524288, roundDivN (r % 524288) 1000)

/-- The raw instant of the edge `n` LAMP cycles after the start of a window on its grid, in 1/1,000 raw LSB (R39, R310). -/
def gridEdge (g : Nat × Nat) (n : Nat) : Nat := cycleTime (g.1 + n) + 1000 * g.2

/-- The edge `n` LAMP cycles after a window's start. -/
def Win.edge (w : Win) (n : Nat) : Nat := gridEdge (w.start, w.phase) n

/-- The edge at which a window whose F_w is `f` starts. -/
def State.edgeOf (s : State) (f : Nat) : Nat := gridEdge (s.gridOf f) 0

/-- Raw time now in 1/1,000 raw LSB. -/
def State.nowFine (s : State) : Nat := s.now * 1000

/-- The CURRENT region of a slot. -/
def State.currentRegion (s : State) (slot : Nat) : Option Nat :=
  (List.range 8).find? (fun r => (s.lpp.regions.getD r {}).st == .current && (s.lpp.regions.getD r {}).slot == slot)

/-- The PENDING region of a slot and launch. -/
def State.pendingRegion (s : State) (slot n : Nat) : Option Nat :=
  (List.range 8).find? (fun r =>
    let x := s.lpp.regions.getD r {}
    x.st == .pending && x.slot == slot && x.n == n)

/-- The codes of a region. -/
def State.regionCodes (s : State) (r : Option Nat) : Option (Map (List Nat)) := r.map (fun k => (s.lpp.regions.getD k {}).codes)

/-- The windows of the latest launch that are still to come. -/
def State.windowsLeft (s : State) : List Nat :=
  (List.range (lchSlots s.lch.cfg)).filter (fun w => !s.ems.ended.contains w && (match s.ems.win with | some x => x.fill || x.slot != w | none => true))

/-- Does a launch begin its emission after the enable (R331)? -/
def State.afterEnable (s : State) (l : Nat) : Bool := decide (s.ems.since * 1000 + cycleTime (emsTsh s.ems.cfg) ≤ s.edgeOf (s.winAt l 0))

/-- The window whose first unit is shifted next: launch, slot, F_w, and what it shows. A launch that has been checked, or a coast that
has been decided, is shifted ahead of its instant (R202). -/
def State.nextWindow (s : State) : Option (Nat × Nat × Nat × Option (Map (List Nat))) :=
  match (if s.ems.emits then s.windowsLeft.head? else none), s.ems.launch with
  | some w, some (n, l) => some (n, w, s.winAt l w, s.regionCodes (s.ems.shows.getD w none))
  | _, _ =>
    match s.lch.checked.head? with
    | some (n, nx) =>
      match s.lch.table.find? (fun a => a.n == n) with
      | some a =>
        let r := match nx.getD 0 .dark with
          | .frame => s.pendingRegion 0 n
          | .previous => s.currentRegion 0
          | .dark => none
        if s.afterEnable (s.inActive a).toNat then some (n, 0, s.winAt (s.inActive a).toNat 0, s.regionCodes r) else none
      | none => none
    | none =>
      match s.lch.coastNext with
      | some (n, l, rep) =>
        if s.afterEnable l then some (n, 0, s.winAt l 0, s.regionCodes (if rep then s.currentRegion 0 else none)) else none
      | none => none

/-- May the first shift of window w of a launch begin: not before L - GUARD + 5 µs (R202)? -/
def State.shiftAllowed (s : State) (w f : Nat) : Bool :=
  let l : Int := f - 1000 * ((s.reg Reg.emsEmitDelay).toNat + lchStart s.lch.cfg w)
  decide (l - 1000 * lchGuard s.lch.cfg + 1000 * rawUs 5 ≤ s.derivedNow)

/-- WINDOW_PRESHIFT (R202, R309, R328): the first unit of the next window is shifted so that its shift ends at F_w; C3 corrects `corrected`
of its plane words. -/
def execWindowPreshift (corrected : Nat) (s : State) : Res :=
  if !(s.alive && s.isTile && s.ems.enabled && !s.ems.hold) then .next s
  else match s.nextWindow with
  | none => .next s
  | some (n, w, f, codes) =>
    if s.ems.pre = some (n, w) ∨ s.nowFine + cycleTime (emsTsh s.ems.cfg) < s.edgeOf f ∨ !s.shiftAllowed w f then .next s
    else
      let u := (unitsOf s.ems.cfg false).headD { word := 0, lit := 0, scale := 0 }
      .next ((({ s with ems := { s.ems with pre := some (n, w) } }).emits (unitShift s.ems.cfg codes u.word)).bumpBy Reg.lppC3Corr corrected)

/-- The plan of a window in progress. -/
def State.planOf (s : State) (w : Win) : List Shown := if w.fill then fillPlan s.ems.cfg else windowPlan s.ems.cfg

/-- The window that begins now: its first unit was shifted and F_w has come. -/
def State.opensNow (s : State) : Option Win :=
  match s.ems.win, s.ems.pre, s.ems.launch with
  | none, some (n, w), some (m, l) =>
    let g := s.gridOf (s.winAt l w)
    if n = m ∧ s.ems.emits ∧ s.windowsLeft.contains w ∧ gridEdge g 0 ≤ s.nowFine then
      some { slot := w, n := n, start := g.1, phase := g.2, codes := s.regionCodes (s.ems.shows.getD w none) }
    else none
  | _, _, _ => none

/-- The LLAT skew of a bank in a window of phase `phase`, in 1/1,000,000 raw LSB (R309, R526): open, within one LCLK period of the largest divisor,
where the enabled banks do not all have one divisor. -/
def llatSkewOf (c : List Byte) (b phase : Nat) : Int :=
  if (List.range 4).all (fun k => !(emsBanks c).testBit k || emsDiv c k == emsD c) then 0
  else clampInt (-(524288000 * (emsD c : Int))) (524288000 * (emsD c : Int)) (Config.llatSkew b phase)

/-- The LLAT falling edges for an instant of the schedule in 1/1,000 raw LSB (R310, R398): each bank's is placed 1.536 ns ahead of it and delayed
by LLAT_TRIM_b × 12 ps, which is 0.786432 raw LSB. -/
def State.llatEdges (s : State) (t phase : Nat) : List (Nat × Int) :=
  ((List.range 4).filter (emsBanks s.ems.cfg).testBit).map (fun b =>
    (b, 1000 * (t : Int) + 786432 * ((s.fld Reg.calLlat (8 * b + 7) (8 * b) : Int) - 128) + llatSkewOf s.ems.cfg b phase))

/-- Show the next unit of a window: a unit after the first is shifted and loaded before its show (R308, R318). -/
def State.showUnit (s : State) (w : Win) (u : Shown) : State :=
  let c := s.ems.cfg
  let lead := if w.next = 0 then [] else unitShift c w.codes u.u.word ++ [Out.latch (emsBanks c) 2]
  let t := s.credit.emits (lead ++ [Out.latch (emsBanks c) 1 (s.llatEdges (w.edge u.show_) w.phase)])
  let t := { t with ems := { t.ems with win := some { w with next := w.next + 1, open_ := true }, scale := u.u.scale,
                                        grid := if w.fill then t.ems.grid else (w.start, w.phase) } }
  { t with ems := { t.ems with lit := if t.blankLow || w.codes.isNone then none else some u.u.word, litFrom := t.now } }

/-- Show a unit after the first, of whose plane words C3 corrected `corrected` (R328). -/
def State.showNext (s : State) (w : Win) (u : Shown) (corrected : Nat) : State :=
  (s.showUnit w u).bumpBy Reg.lppC3Corr (if w.next = 0 then 0 else corrected)

/-- UNIT_SHOW (R39, R305, R308, R310): at show(j) the next unit appears on the drivers' outputs. -/
def execUnitShow (corrected : Nat) (s : State) : Res :=
  if !(s.alive && s.isTile && s.ems.enabled && !s.ems.hold) then .next s
  else match s.ems.win with
  | none =>
    match s.opensNow with
    | none => .next s
    | some w =>
      match (s.planOf w).head? with
      | none => .next s
      | some u => .next (s.showUnit w u)
  | some w =>
    match (s.planOf w)[w.next]? with
    | none => .next s
    | some u =>
      if w.edge u.show_ ≤ s.nowFine ∧ (w.open_ = (!u.dark && decide (0 < w.next))) then .next (s.showNext w u corrected)
      else .next s

/-- A window or fill ends: LBLANK_N rises again after a cut (R326). -/
def State.endWindow (s : State) (w : Win) : State :=
  let t := s.credit
  { t with ems := { t.ems with win := none, lit := none, ended := if w.fill then t.ems.ended else w.slot :: t.ems.ended,
                               fillDone := t.ems.fillDone || w.fill } }

/-- DARK_LATCH (R305, R308, R393): at a unit's lit end without a back-to-back show every shunt closes; the scale of the next unit and the codes
waiting for darkness take effect. -/
def execDarkLatch (s : State) : Res :=
  match s.ems.win with
  | none => .next s
  | some w =>
    let plan := s.planOf w
    match plan[w.next - 1]? with
    | none => .next s
    | some u =>
      let nx := plan[w.next]?
      let back := match nx with | some v => !v.dark | none => false
      if !(s.alive && s.ems.enabled && !s.ems.hold && w.open_ && !back && decide (w.edge u.stop ≤ s.nowFine)) then .next s
      else
        let t := (s.credit.emit (.latch (emsBanks s.ems.cfg) 3 (s.llatEdges (w.edge u.stop) w.phase))).applyCodes
        let t := { t with ems := { t.ems with lit := none, win := some { w with open_ := false },
                                              scale := match nx with | some v => v.u.scale | none => 0 } }
        .next (if nx.isNone then t.endWindow w else t)

/-- FILL_START (R312, R328): after the last window, the fill passes begin; C3 corrects `corrected` plane words of the first unit. -/
def execFillStart (corrected : Nat) (s : State) : Res :=
  match s.ems.launch with
  | none => .next s
  | some (n, _) =>
    let c := s.ems.cfg
    let g := (s.ems.grid.1 + fillStart c, s.ems.grid.2)
    if !(s.alive && s.isTile && s.ems.enabled && !s.ems.hold && s.ems.emits && emsFill c && !s.ems.fillDone && s.ems.win.isNone && s.windowsLeft.isEmpty &&
        decide (gridEdge g 0 ≤ s.nowFine + cycleTime (emsTsh c))) then .next s
    else
      let codes := if s.ems.fillCut then none else s.regionCodes (s.ems.shows.getD (emsFillSlot c) none)
      let u := (unitsOf c true).headD { word := 0, lit := 0, scale := 0 }
      .next ((({ s with ems := { s.ems with win := some { slot := emsFillSlot c, n := n, start := g.1, phase := g.2, fill := true,
                                                          codes := codes } } }).emits (unitShift c codes u.word)).bumpBy Reg.lppC3Corr corrected)

/-- Slots aborted (R200, R201): counted, and EV_193 once for each launch. -/
def State.noteAborted (s : State) (n mask reason : Nat) (repeated : Nat) : State :=
  let t := s.bumpBy Reg.lchAbortCnt (popCount 4 mask)
  let t := t.bumpBy Reg.lchRepeatCnt repeated
  if t.lch.told.contains n then t
  else
    let armed := decide (0 < repeated)
    ({ t with lch := { t.lch with told := (n :: t.lch.told).take 16 } }).raiseA 193 3 (n % 8192 + bn armed * 2 ^ 19 + mask % 16 * 2 ^ 20 + reason * 2 ^ 24) armed

/-- WINDOW_CUT (R202, R326, R328): an uncorrectable plane word (C3) or a loopback mismatch (C4) blanks the rest of the window, whose slot
counts as aborted. -/
def execWindowCut (c4 : Bool) (lane : Nat) (s : State) : Res :=
  match s.ems.win with
  | none => .next s
  | some w =>
    if !s.alive || !s.ems.enabled then .next s
    else
      let t := if c4 then s.bump Reg.emsC4Pad else s
      if w.fill ∨ w.cut then .next t
      else
        let t := (t.credit.bump Reg.emsWinCut).raise 513 3 (w.n % 8192 + w.slot * 8192 + bn c4 * 32768 + lane % 64 * 65536)
        let t := { t with ems := { t.ems with win := some { w with cut := true }, lit := none } }
        .next (t.noteAborted w.n (2 ^ w.slot) (if c4 then 0x14 else 0x06) 0)

/-! ### Setup transfers (R319 to R324, R331, R333) -/

/-- Length of a setup transfer up to 2 LCLK periods after its pulse, in LAMP cycles. -/
def setupCycles (c : List Byte) : Nat := (72 * emsDpl c + 10) * emsD c

/-- The intervals in which a plan shifts, loads or shows, in LAMP cycles after its start: the shift of unit j follows that of unit j - 1. -/
def busyOf (c : List Byte) (plan : List Shown) : List (Nat × Nat) :=
  (List.range plan.length).flatMap (fun j =>
    match plan[j]? with
    | some u =>
      let sh := match plan[j - 1]? with
        | some p => if j = 0 then [] else [(p.ready, p.ready + emsTu c)]
        | none => []
      sh ++ [(u.show_, u.show_ + 1), (u.stop, u.stop + 1), (u.ready - 3 * emsD c, u.ready + 1)]
    | none => [])

/-- Is the interval of a setup transfer from now free of the schedule (R324)? -/
def State.setupFits (s : State) : Bool :=
  let len := cycleTime (setupCycles s.ems.cfg)
  let sh := cycleTime (emsTsh s.ems.cfg)
  let now_ := s.nowFine
  let inWin := match s.ems.win with
    | some w => (busyOf s.ems.cfg (s.planOf w)).all (fun b => decide (now_ + len ≤ w.edge b.1) || decide (w.edge b.2 ≤ now_))
    | none => true
  let ahead := match s.nextWindow with
    | some (n, w, f, _) => s.ems.pre != some (n, w) && decide (now_ + len + sh ≤ s.edgeOf f)
    | none => match s.ems.launch with
      | some (_, l) => decide (now_ + len + sh ≤ s.edgeOf (s.winAt (l + 1000 * s.lch.smin) 0)) || s.lch.state == .idle || s.lch.state == .tWait
      | none => true
  inWin && ahead

/-- STATUS_COLLECTION (R323): every STAT_MS the next collection joins the transfers that wait. -/
def execStatusCollection (s : State) : Res :=
  let c := s.ems.cfg
  if s.alive && s.isTile && s.ems.enabled && emsStat c != 0 && decide (s.ems.collectAt + rawMs (emsStat c) ≤ s.now) then
    let x : Setup := { banks := emsBanks c, ret := some (s.ems.k % 8), op := 0xA5, addr := 1, mode := 0, lane := 0, data := 1, kind := 1, since := s.now }
    .next { s with ems := { s.ems with setups := s.ems.setups ++ [x], collectAt := s.now } }
  else .next s

/-- The setup words of a transfer on a lane, last driver first. -/
def Setup.words (x : Setup) (dpl l : Nat) : List Nat :=
  (List.range dpl).map (fun k =>
    let d := dpl - 1 - k
    if x.kind ≠ 0 ∧ x.addr = 1 then setupWord x.op x.addr (if x.ret = some (l % 8) then 1 else 0)
    else if x.mode = 1 then (if l = x.lane then setupWord x.op x.addr (x.perDriver.getD d 0) else setupWord 0 0 0)
    else if x.mode = 2 then setupWord x.op x.addr d
    else setupWord x.op x.addr x.data)

/-- One status word returned by driver d of lane l (R322, R534). -/
def State.statusWord (s : State) (l d w : Nat) : State :=
  let c := w / 256
  let i := 256 * l + d
  let where_ := l + d * 64
  if wcrc 0xFF (b8 c) ≠ w % 256 ∨ !c.testBit 40 then
    (s.bump Reg.emsRetBad).raise 517 2 (where_ + bn (!c.testBit 40) * 2 ^ 14)
  else
    let t := { s with ems := { s.ems with drv := Map.put s.ems.drv i c } }
    let t := t.freshen i
    let cnt := bitsOf c 39 32
    let t := if cnt = 0 ∨ (d = 255 ∧ emsDpl s.ems.cfg = 256) then t
      else (t.bumpBy Reg.emsDrvCrc cnt).raise 514 2 (where_ + cnt * 2 ^ 16)
    let t := if bitsOf c 47 41 = 0 ∧ bitsOf c 23 16 = 0 then t
      else t.raise 515 2 (where_ + bitsOf c 47 44 * 2 ^ 14 + bitsOf c 43 43 * 2 ^ 18 + bitsOf c 42 42 * 2 ^ 19 + bitsOf c 41 41 * 2 ^ 20 +
        bitsOf c 23 16 * 2 ^ 21)
    match t.ems.init with
    | some (r, found) => if bitsOf c 15 8 = d then { t with ems := { t.ems with init := some (r, i :: found) } } else t
    | none => t

/-- The drivers of the enabled banks. -/
def driversOf (c : List Byte) : List Nat := (lanesOf (emsBanks c)).flatMap (fun l => (List.range (emsDpl c)).map (fun d => 256 * l + d))

/-- The initialisation of EMIT_ENABLE ends: positions compared, OK, emission enabled (R331). -/
def State.endInit (s : State) (r : Req) (found : List Nat) : State :=
  let err := min 65535 ((driversOf s.ems.cfg).filter (fun i => !found.contains i)).length
  let t := s.setReg Reg.emsInitErr (BitVec.ofNat 32 err)
  let t := if err = 0 then t else t.raise 520 2 err
  let t := { t with ems := { t.ems with enabled := true, init := none, since := t.now, collectAt := t.now } }
  let t := if emsNcw t.ems.cfg = 0 then t else t.abortRun (fun x => decide (x.target < 0x14))
  let t := t.raise 512 0 1
  if r.via = .own then ({ t with pwr := { t.pwr with inert := false, haltSafety := false } }).raise 43 1 1 else t.answer t 0x0701 r rspOk

/-- The lanes and drivers whose status words a transfer to `banks` returns: driver 0 of each lane first (R320). -/
def State.returned (s : State) (banks : Nat) : List (Nat × Nat) :=
  ((lanesOf banks).filter (fun l => s.ems.selected.getD (l / 16) none == some (l % 8))).flatMap (fun l =>
    (List.range (emsDpl s.ems.cfg)).map (fun d => (l, d)))

/-- The lanes whose drivers capture their status in a transfer: the collection k of R323 selects lane k mod 8 of each group. -/
def State.retOf (s : State) (x : Setup) : Option Nat := if x.kind = 1 then some (s.ems.k % 8) else x.ret

/-- SETUP_TRANSFER_RUN (R319 to R324): the transfer at the front runs in a free interval and returns the status words that the one before it
captured, as lane, driver and word. The return line of a driver that sent no word is low: its word reads 0 (R320). -/
def execSetupTransferRun (words : List (Nat × Nat × Nat)) (s : State) : Res :=
  match s.ems.setups with
  | [] => .next s
  | x :: rest =>
    if !(s.alive && s.isTile && !s.ems.hold) || (if s.ems.enabled then !s.setupFits else s.pwr.inert && s.ems.init.isNone) then .next s
    else
      let c := s.ems.cfg
      let x := { x with ret := s.retOf x }
      let t := s.emits ((lanesOf x.banks).map (fun l => .shift l (x.words (emsDpl c) l)) ++ [.latch x.banks 8])
      let t := (s.returned x.banks).foldl (fun t e =>
        t.statusWord e.1 e.2 (((words.find? (fun w => w.1 == e.1 && w.2.1 == e.2)).map (·.2.2)).getD 0)) t
      let t := (t.bump Reg.emsSetupDone)
      let t := { t with ems := { t.ems with setups := rest, selected := (List.range 4).map (fun b => if x.banks.testBit b then x.ret else t.ems.selected.getD b none),
                                            k := if x.kind = 2 then t.ems.k else t.ems.k + 1 } }
      match x.kind, x.req, t.ems.init with
      | 0, some r, _ => .next (t.complete r stOk)
      | 2, _, some (r, found) => if rest.any (fun y => y.kind == 2) then .next t else .next (t.endInit r found)
      | _, _, _ => .next t

/-- SETUP_TRANSFER_DROP (R324): the transfer at the front found no free interval within 1 s. -/
def execSetupTransferDrop (s : State) : Res :=
  match s.ems.setups with
  | [] => .next s
  | x :: rest =>
    if !(s.alive && s.isTile && s.ems.enabled && decide (x.since + rawSec 1 ≤ s.now)) then .next s
    else
      let t := ({ s with ems := { s.ems with setups := rest } }).bump Reg.emsSetupDefer
      let t := t.raise 516 2 (bn (x.kind == 1) + s.ems.k % 8 * 256)
      match x.req with
      | some r => .next (if x.kind = 0 then t.complete r stWrongState else t)
      | none => .next t

/-- SETUP_TRANSFER (R333). -/
def execSetupTransfer (r : Req) (s : State) : Res :=
  runReq 0x0703 r s fun s =>
    let p := r.payload
    let c := s.ems.cfg
    let mode := u8 p 4
    if c.isEmpty then (s, rspErr stWrongState 0x0703)
    else if (List.range 4).any (fun b => (u8 p 0).testBit b && !(emsBanks c).testBit b) then (s, rspParam 0)
    else if u8 p 3 = 1 then (s, rspParam 3)
    else if 2 < mode then (s, rspParam 4)
    else if mode = 1 ∧ 63 < u8 p 5 then (s, rspParam 5)
    else
      let x : Setup := { banks := u8 p 0 % 16, ret := if (u8 p 1).testBit 7 then none else some (u8 p 1 % 8), op := u8 p 2, addr := u8 p 3,
                         mode := mode, lane := u8 p 5, data := u8 p 6, perDriver := (List.range (p.length - 8)).map (fun d => u8 p (8 + d)),
                         kind := 0, req := some r, since := s.now }
      ({ s with ems := { s.ems with setups := s.ems.setups ++ [x] } }, rspAccepted)

/-! ### Configuration (R330 to R332, R334) -/

/-- The first byte of an EMS_CONFIG outside its values. -/
def emsFieldBad (lch c : List Byte) : Option Nat :=
  if 4 < emsNcw c then some 0
  else if 3 < u8 c 1 then some 1
  else if 15 < emsSplit c ∨ (u8 c 1 = 0 ∧ emsSplit c ≠ 0) ∨ emsSplit c < u8 c 1 then some 2
  else if emsQdepth c < 1 ∨ 8 < emsQdepth c then some 3
  else if emsTlsb c < 5 ∨ 127 < emsTlsb c then some 4
  else if emsDpl c < 1 ∨ 256 < emsDpl c then some 6
  else if emsBanks c = 0 then some 8
  else if u8 c 9 < 3 ∨ 63 < u8 c 9 then some 9
  else if !lch.isEmpty ∧ emsFill c ∧ lchSlots lch ≤ emsFillSlot c then some 10
  else match (List.range 4).find? (fun b => decide (emsDiv c b < 1) || decide (16 < emsDiv c b)) with
  | some b => some (12 + b)
  | none => if emsStat c ≠ 0 ∧ (emsStat c < 10 ∨ 200 < emsStat c) then some 16 else none

/-- The largest emit delay that R184 allows. -/
def maxDelay (lch : List Byte) : Nat :=
  let w := lchSlots lch - 1
  min 65536000 (lchSmin lch - (lchStart lch w + lchLen lch w))

/-- EMS_CONFIG (R202, R290, R311, R330). -/
def execEmsConfig (r : Req) (s : State) : Res :=
  runReq 0x0700 r s fun s =>
    let c := r.payload
    let lch := s.lch.cfg
    if s.ems.enabled ∨ s.ems.init.isSome then (s, rspErr stWrongState 0x0702)
    else match emsFieldBad lch c with
    | some o => (s, rspParam o)
    | none =>
      if (List.range 4).any (fun b => (emsBanks c).testBit b && s.forced (76 + b)) then (s, rspForced)
      else if !lch.isEmpty ∧ nRegions (emsDpl c) < lchSlots lch + 1 then (s, rspParam 6)
      else if !lch.isEmpty ∧ !shiftFits lch c then (s, rspParam 6)
      else if !lch.isEmpty ∧ (windowBad lch c).isSome then (s, rspParam 4)
      else if !lch.isEmpty ∧ !delayFits lch c (maxDelay lch) then (s, rspParam 6)
      else ({ s with ems := { s.ems with cfg := c } }, rspOk)

/-- The count of R275: VALID shape entries reached through VALID driver entries that are unmapped for another reason. -/
def State.mapScan (s : State) : Nat :=
  let ds := (List.range 64).flatMap (fun l => (List.range (emsDpl s.ems.cfg)).map (fun d => 256 * l + d))
  ((ds.filter (fun i => s.bit (Reg.lppDmap + 4 * i) 31)).map (fun i =>
    ((List.range 64).filter (fun b => s.bit (Reg.lppShape + 0x100 * s.fld (Reg.lppDmap + 4 * i) 30 28 + 4 * b) 31 && (s.lampOf i b).isNone)).length)).sum

/-- Steps 2 to 5 of R331 begin: the position transfer and nine collections wait. -/
def State.beginInit (s : State) (r : Req) : State :=
  let b := emsBanks s.ems.cfg
  let pos : Setup := { banks := b, ret := none, op := 0xA5, addr := 0, mode := 2, lane := 0, data := 0, kind := 2, since := s.now }
  let col (k : Nat) : Setup := { banks := b, ret := some (k % 8), op := 0xA5, addr := 1, mode := 0, lane := 0, data := 1, kind := 2, since := s.now }
  { s with ems := { s.ems with init := some (r, []), setups := s.ems.setups ++ pos :: (List.range 9).map col } }

/-- EMIT_ENABLE (R275, R331): the reply follows the setup transfers. The delay is a parameter, checked before the states (R58). -/
def execEmitEnable (r : Req) (s : State) : Res :=
  runReqLater 0x0701 r s fun s =>
    let d := u32 r.payload 0
    let c := s.ems.cfg
    let lch := s.lch.cfg
    if 65536000 < d ∨ (!lch.isEmpty ∧ !windowsEnd lch d) ∨ (!c.isEmpty ∧ !lch.isEmpty ∧ (!delayFits lch c d ∨ (windowBad lch c).isSome)) then (s, some (rspParam 0))
    else if s.ems.enabled ∨ s.ems.init.isSome then (s, some (rspErr stWrongState 0x0702))
    else if c.isEmpty then (s, some (rspErr stWrongState 0x0703))
    else if s.pwr.inert then (s, some (rspErr stWrongState 0x0704))
    else if s.ems.hold ∨ !s.pllLock 2 then (s, some (rspErr stWrongState 0x0706))
    else if (List.range 4).any (fun b => (emsBanks c).testBit b && s.forced (76 + b)) || s.forced 148 then (s, some rspForced)
    else
      let bad := s.mapScan
      let t := { s with lpp := { s.lpp with mapScan := some (min 65535 bad) } }
      let t := if bad = 0 then t else t.raise 452 2 (min 65535 bad)
      let t := t.setReg Reg.emsEmitDelay (BitVec.ofNat 32 d)
      (t.beginInit r, none)

/-- EMIT_DISABLE (R332). -/
def execEmitDisable (r : Req) (s : State) : Res :=
  runReq 0x0702 r s fun s => (s.endEmission false, rspOk)

/-- DRIVER_STATUS (R334). -/
def execDriverStatus (r : Req) (s : State) : Res :=
  runReq 0x0704 r s fun s =>
    let a := u16 r.payload 0
    let n := u16 r.payload 2
    if n < 1 ∨ 511 < n then (s, rspParam 2)
    else if 16383 < a + n - 1 then (s, rspParam 0)
    else (s, rspOk ((List.range n).flatMap (fun i => b8 (Map.at s.ems.drv 0 (a + i)))))

/-- EMS_CNT_CLR (R335). -/
def execEmsCntClr (data : Word) (s : State) : Res :=
  if !s.alive || !s.isTile then .next s else .next (s.clearCounters Reg.emsWinCut 6 data.toNat)

end Sys2Proof.Machine
end

