-- ==== Sys2Proof/Machine/Ephemeris.lean ====
section
/-! DEFINITION. Ephemeris: the announcement of launches in the lead, the launch table, underrun rule and coast of the tile (R181 to R210, with
R173 to R175 at the switch launch and R528). -/

namespace Sys2Proof.Machine

/-! ### LCH_CONFIG (R181 to R183, R144, R230, R266, R290, R311) -/

/-- Largest deviation of mode 1, raw LSB: PERIOD × SERVO_RANGE / 1,000,000. -/
def lchDev (c : List Byte) : Nat := lchPeriod c * lchRange c / 1000000

/-- Is a base period outside 1/240 s to 1/23.976 s (R183)? -/
def periodBad (p : Nat) : Bool := decide (p < 273066666) || decide (2733400067 < p)

/-- A refused offset: the payload byte, where the condition holds. -/
def bad (c : Bool) (o : Nat) : Option Nat := if c then some o else none

/-- The offences of one window (R183). -/
def windowFault (c : List Byte) (w : Nat) : List (Option Nat) :=
  let n := lchSlots c
  let start := lchStart c w
  let len := lchLen c w
  [bad (if w < n then decide (0 < w) && decide (start < lchStart c (w - 1) + lchLen c (w - 1)) else start != 0) (28 + 8 * w),
   bad (if w < n then len == 0 || (w + 1 == n && decide (lchSmin c < start + len)) else len != 0) (32 + 8 * w)]

/-- The first offending byte of an LCH_CONFIG payload (R183). A tile ignores ANN_LEAD, SERVO_RANGE, KP_SHIFT and KI_SHIFT, a lead
COAST_MAX (R181). -/
def lchFault (lead : Bool) (c : List Byte) : Option Nat :=
  let m := lchMode c
  if 2 < m then some 0
  else if lchSlots c < 1 ∨ 4 < lchSlots c then some 1
  else
    ([bad (!lead && decide (8 < u8 c 3)) 3,
      bad (if m = 2 then lchPeriod c != 0 else periodBad (lchPeriod c)) 4,
      bad (if m = 2 then periodBad (lchPmin c) else lchPmin c != 0) 8,
      bad (if m = 2 then periodBad (lchPmax c) || decide (2 * lchPmin c < lchPmax c) || decide (lchPmax c < lchPmin c) else lchPmax c != 0) 12,
      bad (lead && ((u32 c 16 != 0 && (decide (u32 c 16 < 1000) || decide (200000 < u32 c 16))) ||
        (m == 1 && decide (lchAnn c < rawUs 500 + lchDev c)) || decide (4 * lchPcoast c < lchAnn c))) 16,
      bad ((u32 c 20 != 0 && (decide (u32 c 20 < 20) || decide (5000 < u32 c 20))) || (lead && decide (lchAnn c ≤ lchGuard c))) 20,
      bad (lead && (if m = 1 then decide (lchRange c < 1) || decide (1000 < lchRange c) else lchRange c != 0)) 24,
      bad (lead && decide (15 < u8 c 26)) 26,
      bad (lead && decide (15 < u8 c 27)) 27] ++ (List.range 4).flatMap (windowFault c)).findSome? id

/-- What a commit of an LCH_CONFIG exceeds in a lead: a DETAIL of R44. -/
def State.lchOver (s : State) (c : List Byte) : Option Nat :=
  if s.bit Reg.cmpCfg 0 ∧ s.outputOver c then some 0x8001
  else if s.bit Reg.cmpCfg 0 ∧ s.encodeOver c then some 0x8002
  else if decodeOver c (s.viewAll.pix.layers.map Prod.snd) then some 0x8003
  else if s.chainOver c (fun k => (s.viewAll.pix.coder.getD k (0, 0, 0)).1) then some 0x8004
  else none

/-- What an LCH_CONFIG does not fit in a tile: DETAIL (R184, R202, R266, R290, R311). -/
def State.lchMisfit (s : State) (c : List Byte) : Option Nat :=
  let e := s.ems.cfg
  let v := s.viewAll
  if !v.lpp.cfg.isEmpty ∧ tileOver c v.lpp.cfg (v.pix.layers.map Prod.snd) v.pix.prot then some 0x8006
  else if e.isEmpty then none
  else if nRegions (emsDpl e) < lchSlots c + 1 then some 25
  else if !shiftFits c e then some (if lchMode c = 2 then 32 else 28)
  else (windowBad c e).map (fun w => 56 + 8 * w)

/-- Launch servo state change (R195). -/
def State.setLaunchServo (s : State) (v : Servo) : State :=
  if s.lch.servo = v then s
  else ({ s with lch := { s.lch with servo := v, small := 0, large := 0 } }).raise 199 1 (s.lch.servo.code + v.code * 4)

/-- LCH_CONFIG (R181 to R183, R198). -/
def execLchConfig (r : Req) (s : State) : Res :=
  runReq 0x0300 r s fun s =>
    let c := r.payload
    match lchFault s.isLead c with
    | some o => (s, rspParam o)
    | none =>
      match (if s.isLead then s.lchOver c else s.lchMisfit c) with
      | some d => (s, rspErr stBadParam d)
      | none =>
        if s.lch.state = .run ∨ s.lch.state = .stopping ∨ s.lch.state = .tRun ∨ s.lch.state = .tCoast then
          (s, rspErr stWrongState 0x0301)
        else if s.isLead then
          let t := { s with lch := { s.lch with cfg := c } }
          (if lchMode c = 1 then t else t.setLaunchServo .free, rspOk)
        else ({ s with lch := { s.lch with cfg := c, state := .idle, table := [], stopN := none, coasts := 0, coastNext := none,
                                           checked := [] } }, rspOk)

/-! ### The lead: announcements (R185 to R191) -/

/-- The newest announced launch. -/
def State.newest (s : State) : Option Launch := match s.lch.table.getLast? with | some l => some l | none => s.lch.past.head?

/-- The launches the lead knows, newest first. -/
def State.known (s : State) : List Launch := s.lch.table.reverse ++ s.lch.past

/-- Derived time now in the domain of launch n. -/
def State.domNow (s : State) (n : Nat) : Int := (s.dom (s.domFor n)).at s.now

/-- 64 bits of B0, and the flags of the switch launch (R190). -/
def State.switchBytes (s : State) : List Byte :=
  match s.lch.sw with
  | some (n, b0, nd, st) => b4 n ++ b8 (s64 b0) ++ b1 (bn nd + bn st * 2 + 4)
  | none => zeros 13

/-- The content of an LNCH cell (R190). -/
def State.lnchBody (s : State) : List Byte :=
  let c := s.lch.cfg
  let es := s.known.take 4
  let stop := match es.head? with | some l => s.lch.stopN == some l.n | none => false
  fit 240 (b1 1 ++ b1 (lchMode c + bn stop * 4) ++ b1 es.length ++ b1 (lchId c) ++ b4 s.leadEpoch ++ b4 s.evt.fepoch ++
    b4 (lchPcoast c) ++ b4 (lchSmin c) ++ s.switchBytes ++ zeros 3 ++ es.flatMap (fun l => b4 l.n ++ timeBytes l.at_))

/-- Send an LNCH cell on every OPEN chain port and on P6 when ACTIVE (R191), and over P6 into each relayed chain (R381). -/
def State.sendLnch (s : State) (body : List Byte) : State :=
  let m (p c : Nat) : TxMsg := { port := p, typ := 4, dest := s.leadField * 256 + 64 * c, bcast := true, key := 3, body := body }
  let own := ((List.range 4).filter (fun c => s.portState c == .open_ || s.pai.relay.testBit c)).map (fun c => m c c)
  (own ++ (if s.portState 6 = .active then [m 6 0] else [])).foldl State.send s

/-- The content of the announcement just made goes out, and will be repeated (R191). -/
def State.announceCell (s : State) : State :=
  let b := s.lnchBody
  ({ s with lch := { s.lch with annAt := s.now, repeats := s.lch.repeats ++ [(s.now, 0, b)] } }).sendLnch b

/-- Announce the next launch at an instant, with its scheduled instant (R185, R188, R189), at A(L) in derived time: composition begins, with the
changes staged until A(L) (R37); launches no longer announced leave the compositor's books. -/
def State.announce (s : State) (at_ sched began : Nat) : State :=
  let n := (s.lch.count + 1) % 2 ^ 32
  let keep (m : Nat) : Bool := m == n || s.lch.table.any (fun l => l.n == m)
  let l : Launch := { n := n, at_ := at_ }
  let strms (f : Strm → Strm) (s : State) : State := { s with pix := { s.pix with streams := s.pix.streams.map f } }
  let t := { s with lch := { s.lch with count := n, sched := sched, table := s.lch.table ++ [l] },
                    pix := { s.pix with cut := s.pix.cut.filter (fun c => keep c.1), made := s.pix.made.filter (fun c => keep c.1) } }
  let t := strms (fun x => { x with noFrame := x.noFrame.filter keep }) t
  let t := (t.takeEffect n began).noteBare
  let surfs : Map Surf := t.pix.surfs.map (fun x => (x.1, { x.2 with held := x.2.cur }))
  let t := { t with pix := { t.pix with surfs := surfs } }
  let t := strms (fun x => if !x.lock.isEmpty && (t.lockFrame x l).isSome then { x with locked := true } else x) t
  let t := match t.lch.sw with
    | some (m, _, _, _) => if isAfter n m && decide (16 < (n + 2 ^ 32 - m) % 2 ^ 32) then { t with lch := { t.lch with sw := none } } else t
    | none => t
  t.announceCell

/-! ### The launch servo (R194 to R196) -/

/-- The input that is the reference of the launch servo: its SHREF_CONFIG. -/
def State.refInput (s : State) : Option (List Byte) :=
  s.lch.shref.find? (fun p => (u8 p 1).testBit 0 && (u8 p 1).testBit 2)

/-- The difference of two instants in raw LSB, rounded (R186). -/
def rawDiff (a b : Int) : Int := roundDiv (a - b) 1000

/-- The launch whose instant plus an offset is nearest an edge. -/
def nearestLaunch (t : Int) (off : Int) (ls : List Launch) : Option Launch :=
  ls.foldl (fun m l => match m with
    | none => some l
    | some b => if (t - (l.at_ + off * 1000)).natAbs < (t - (b.at_ + off * 1000)).natAbs then some l else some b) none

/-- The servo at an announcement after the launch at L(n): the period p and the state (R195). -/
def State.servoStep (s : State) (ln : Nat) : State × Nat :=
  let c := s.lch.cfg
  let period : Int := lchPeriod c
  let lim : Int := lchDev c
  let ref := (s.refInput).getD []
  let phase := signed 32 (u32 ref 4)
  let used : Option Int := match (if s.coreFaulted 1 then none else s.lch.edge) with
    | some t => if (ln : Int) - 2 * period * 1000 ≤ t then
        (nearestLaunch t phase s.known).map (fun l => rawDiff t (l.at_ + phase * 1000)) else none
    | none => none
  match used with
  | some e =>
    let f := s.lch.integ + e / (2 ^ u8 c 27 : Nat)
    let p := period + f + e / (2 ^ u8 c 26 : Nat)
    let near := decide (e.natAbs ≤ rawUs 1)
    let t := { s with lch := { s.lch with integ := clampInt (-lim) lim f, err := e, edge := none, sinceEdge := 0,
                                          small := if near then s.lch.small + 1 else 0, large := if near then 0 else s.lch.large + 1 } }
    let t := match s.lch.servo with
      | .free | .holdover =>
        if s.lch.servo = .free ∧ s.lch.state ≠ .run then t
        else
          let u := t.setLaunchServo .acquire
          { u with lch := { u.lch with small := bn near, large := bn (!near) } }
      | .acquire => if 8 ≤ t.lch.small then t.setLaunchServo .locked else t
      | .locked => if 4 ≤ t.lch.large then t.setLaunchServo .acquire else t
    (t, (clampInt (period - lim) (period + lim) p).toNat)
  | none =>
    let t := { s with lch := { s.lch with integ := clampInt (-lim) lim s.lch.integ, sinceEdge := s.lch.sinceEdge + 1, edge := none } }
    let lost := (s.lch.servo == .acquire || s.lch.servo == .locked) && decide (4 * u8 ref 3 ≤ t.lch.sinceEdge)
    (if lost then t.setLaunchServo .holdover else t, (clampInt (period - lim) (period + lim) (period + s.lch.integ)).toNat)

/-- SHREF_CONFIG (R194). -/
def execShrefConfig (r : Req) (s : State) : Res :=
  runReq 0x0303 r s fun s =>
    let p := r.payload
    let i := u8 p 0
    let fl := u8 p 1
    let c := s.lch.cfg
    let other := (List.range 4).any (fun k => k != i && (u8 (s.lch.shref.getD k []) 1).testBit 2)
    if 3 < i then (s, rspParam 0)
    else if fl.testBit 2 ∧ other then (s, rspParam 1)
    else if 3 < u8 p 2 ∨ (!c.isEmpty ∧ lchSlots c ≤ u8 p 2) then (s, rspParam 2)
    else if u8 p 3 < 1 ∨ 8 < u8 p 3 then (s, rspParam 3)
    else if !c.isEmpty ∧ lchPcoast c ≤ 2 * (signed 32 (u32 p 4)).natAbs then (s, rspParam 4)
    else if signed 32 (u32 p 12) < signed 32 (u32 p 8) then (s, rspParam 8)
    else ({ s with lch := { s.lch with shref := s.lch.shref.set i p } }, rspOk)

/-- The phase monitor (R196): an edge's phase against its nearest launch, out of PH_MIN to PH_MAX. -/
def State.monitorPhase (s : State) (i : Nat) (t : Int) : State :=
  let p := s.lch.shref.getD i []
  match nearestLaunch t 0 s.known with
  | none => s
  | some l =>
    let ph := rawDiff t l.at_
    let lo := signed 32 (u32 p 8)
    let hi := signed 32 (u32 p 12)
    let beyond : Int := if ph < lo then ph - lo else if hi < ph then ph - hi else 0
    if beyond = 0 then s
    else
      let ns := clampInt (-8388608) 8388607 (roundDiv (beyond * 1000) 65536)
      (s.bump Reg.lchPhaseCnt).raise 200 2 (i + unsigned 24 ns * 256)

/-- SHREF_EDGE_CAPTURE (R160, R195, R196): an edge on an enabled input is stamped into its FIFO; it feeds the servo and the monitor. -/
def execShrefEdgeCapture (input stamp : Nat) (s : State) : Res :=
  let p := s.lch.shref.getD input []
  if !(s.alive && s.isLead && s.tmuOn && decide (input < 4) && (u8 p 1).testBit 0) then .next s
  else
    let t := s.capture input stamp
    let at_ := s.actDom.at stamp
    let t := if (u8 p 1).testBit 2 then { t with lch := { t.lch with edge := some at_.toNat } } else t
    .next (t.monitorPhase input at_)

/-! ### The switch launch in the lead (R173) -/

/-- A pending domain switch meets the launch about to be announced, at an instant of the old domain (R173): the state in which it is
announced. -/
def State.decideSwitch (s : State) (at_ : Nat) : State :=
  match s.tmu.switch with
  | none => s
  | some w =>
    if w.decided ∨ s.tmu.bridge.isSome then s
    else
      let nd := w.new == 1
      let refuse (t : State) (status low : Nat) : State :=
        let u := ({ t with tmu := { t.tmu with switch := none } }).raise 135 2 (w.new + low * 256)
        match w.req with
        | some r => u.complete r status
        | none => u
      let b0 : Int := (s.dom nd).at s.now - (s.dom (!nd)).at s.now
      let go (stepped : Bool) : State :=
        { s with tmu := { s.tmu with switch := some { w with decided := true }, bridge := if stepped then none else some (b0, s.now) }
                 lch := { s.lch with sw := some ((s.lch.count + 1) % 2 ^ 32, b0, nd, stepped) } }
      if (s.dom nd).servo ≠ .locked then refuse s stWrongState 0x08
      else if s.kl05Blocks w.new ((s.dom (!nd)).rawOf at_) then
        if w.req.isSome then refuse s stWrongState 0x05
        else if w.deferred then s
        else ({ s with tmu := { s.tmu with switch := some { w with deferred := true } } }).raise 135 2 (w.new + 5 * 256)
      else if b0.natAbs ≤ s.fld Reg.tmuBridge 15 0 * 65536 then go false
      else if w.stepOk then go true
      else refuse s stNotArmed 0x02

/-! ### The lead's rows -/

/-- What the next announcement is: its instant A(n + 1), the scheduled instant of the launch, whether it is at the P_MAX bound, and the
servo's state (R188). -/
def State.nextAnnounce (s : State) : Option (Int × Nat × Bool × State) :=
  let c := s.lch.cfg
  let ann := lchAnn c
  match s.newest with
  | none => none
  | some l =>
    if lchMode c = 2 then
      let lo : Int := (l.at_ : Int) + 1000 * lchPmin c - 1000 * ann
      let hi : Int := (l.at_ : Int) + 1000 * lchPmax c - 1000 * ann
      let ready := (s.pix.flips.filter (fun f => f.2.ready)).map (fun f => (f.2.readyAt : Int))
      match ready.foldl (fun m x => match m with | none => some x | some y => some (min x y)) (none : Option Int) with
      | some x =>
        let a := max lo x
        if a ≤ hi then some (a, (a + 1000 * ann).toNat, false, s) else some (hi, (hi + 1000 * ann).toNat, true, s)
      | none => some (hi, (hi + 1000 * ann).toNat, true, s)
    else
      let a : Int := (l.at_ : Int) + 1000 * lchPeriod c - 1000 * ann
      if lchMode c = 1 then
        let (t, p) := s.servoStep l.at_
        some (a, s.lch.sched + 1000 * p, false, t)
      else some (a, s.lch.sched + 1000 * lchPeriod c, false, s)

/-- Does the lead still announce: in RUN, or in STOPPING before its last launch; not at or after the lease deadline of a BOUND lead (R367),
and not while a handover is under way (R375)? -/
def State.announces (s : State) : Bool :=
  (s.lch.state == .run || (s.lch.state == .stopping && s.lch.stopN != some s.lch.count)) && !s.leaseOver && s.pai.flushing.isNone

/-- The state after the next announcement, where its instant has come; a pending domain switch is decided first; during a bridge the
instant is the scheduled one plus ρ (R173, R188, R189). -/
def State.announceNext (s : State) : Option State :=
  match s.nextAnnounce with
  | none => none
  | some (a, sched, atBound, t) =>
    if s.domNow s.lch.count < a then none
    else
      let t := if atBound then t.raise 202 0 ((s.lch.count + 1) % 8192) else t
      let t := t.decideSwitch sched
      some (t.announce ((sched : Int) + t.bridgeNow).toNat sched (s.derivedNow - (s.domNow s.lch.count - a)).toNat)

/-- LAUNCH_ANNOUNCE (R173, R188, R189): at A(n + 1) the next launch is announced. -/
def execLaunchAnnounce (s : State) : Res :=
  if !(s.alive && s.isLead && s.announces && s.actDom.valid) then .next s
  else match s.announceNext with
  | none => .next s
  | some t => .next t

/-- The cell whose next repeat is due (R191). -/
def State.repeatDue (s : State) : Option (Nat × Nat × List Byte) :=
  s.lch.repeats.find? (fun c => decide (c.1 + rawUs (25 * (c.2.1 + 1)) ≤ s.now))

/-- LNCH_REPEAT (R191): each cell again, 25 µs and 50 µs after its announcement. -/
def execLnchRepeat (s : State) : Res :=
  match s.repeatDue with
  | some (a, k, b) =>
    if !(s.alive && s.isLead) then .next s
    else
      let rest := s.lch.repeats.erase (a, k, b)
      .next (({ s with lch := { s.lch with repeats := if k = 0 then (a, 1, b) :: rest else rest } }).sendLnch b)
  | none => .next s

/-- STOPPING_END (R187): the last launch plus P_coast has passed. -/
def execStoppingEnd (s : State) : Res :=
  match s.newest with
  | none => .next s
  | some l =>
    if s.alive && s.isLead && s.lch.state == .stopping && s.lch.stopN == some l.n &&
        decide (((l.at_ + 1000 * lchPcoast s.lch.cfg : Nat) : Int) ≤ s.domNow l.n) then
      .next (({ s with lch := { s.lch with state := .idle, stopN := none } }).raise 192 1 1).runSwitch
    else .next s

/-- The active domain became invalid in RUN or STOPPING (R192). -/
def State.lchHold (s : State) : State :=
  if s.isLead ∧ (s.lch.state = .run ∨ s.lch.state = .stopping) ∧ !s.actDom.valid then
    ((({ s with lch := { s.lch with state := .hold, stopN := none } }).setLaunchServo .free).raise 192 1 0x102).runSwitch
  else s

/-- LCH_START (R87, R187, R188). -/
def execLchStart (r : Req) (s : State) : Res :=
  runReq 0x0301 r s fun s =>
    match timeAt r.payload 0 with
    | none => (s, rspParam 0)
    | some l =>
      if s.actDom.valid ∧ (l : Int) < s.derivedNow + 1000 * rawUs 500 then (s, rspParam 0)
      else if !s.bit Reg.glbTopoCfg 31 then (s, rspErr stWrongState 0x0101)
      else if s.lch.state = .run ∨ s.lch.state = .stopping then (s, rspErr stWrongState 0x0301)
      else if s.lch.cfg.isEmpty then (s, rspErr stWrongState 0x0302)
      else if !s.actDom.valid then (s, rspErr stWrongState 0x0303)
      else if s.paired ∧ s.pai.state ≠ .active then (s, rspErr stWrongState 0x0304)
      else if s.pwr.inert then (s, rspErr stWrongState 0x0306)
      else
        let t := ({ s with lch := { s.lch with state := .run, stopN := none, edge := none, sinceEdge := 0 } }).raise 192 1 0
        (t.announce l l t.derived, rspOk)

/-- The spacing at which launches are scheduled ahead: PERIOD, the learnt period of mode 1, or P_MAX. -/
def State.schedStep (s : State) : Nat :=
  let c := s.lch.cfg
  if lchMode c = 1 then ((lchPeriod c : Int) + s.lch.integ).toNat else lchPcoast c

/-- LCH_STOP (R187, R191, R206): the last launch is fixed; where it is already announced its cell goes out again with STOP. -/
def execLchStop (r : Req) (s : State) : Res :=
  runReq 0x0302 r s fun s =>
    match timeAt r.payload 0, s.newest with
    | none, _ => (s, rspParam 0)
    | some l, new =>
      if s.lch.state ≠ .run then (s, rspErr stWrongState 0x0305)
      else
        let k := match new with | some m => (l - m.at_) / (1000 * s.schedStep) | none => 0
        let last := (s.lch.count + k) % 2 ^ 32
        let t := ({ s with lch := { s.lch with state := .stopping, stopN := some last } }).setLaunchServo .free
        (if k = 0 then ({ t with lch := { t.lch with repeats := [] } }).announceCell else t, rspOk (b4 last))

/-- State codes of LCH_STATUS. -/
def LchSt.code : LchSt → Nat
  | .idle => 0 | .run => 1 | .stopping => 2 | .hold => 3 | .tRun => 4 | .tCoast => 5 | .tWait => 6

/-- Number and instant of a launch, zeros for none. -/
def launchBytes (l : Option Launch) : List Byte := match l with | some x => b4 x.n ++ timeBytes x.at_ | none => zeros 16

/-- LCH_STATUS (R206). -/
def execLchStatus (r : Req) (s : State) : Res :=
  runReq 0x0304 r s fun s =>
    let c := s.lch.cfg
    (s, rspOk (b1 s.lch.state.code ++ b1 (if c.isEmpty then 0 else lchMode c) ++ b1 s.lch.servo.code ++ b1 (if c.isEmpty then 0 else lchId c) ++
      launchBytes s.lch.past.head? ++ launchBytes s.lch.table.head? ++ b4 (s.reg Reg.lchAbortCnt).toNat ++ b4 (s.reg Reg.lchCoastCnt).toNat ++
      b4 (s.reg Reg.lchDiscCnt).toNat ++ b4 (unsigned 32 s.lch.err)))

/-- LCH_CNT_CLR (R208). -/
def execLchCntClr (data : Word) (s : State) : Res :=
  if !s.alive then .next s else .next (s.clearCounters Reg.lchAbortCnt 6 data.toNat)

/-- The tile addresses of a chain with data of a sub-frame that has not left the lead: PIX runs, images that wait for encoding, and tiles that
wait for composition (R236). -/
def State.unsentSubs (s : State) (chain slot frame : Nat) : List Nat :=
  (s.net.tx.filter (fun m => m.typ == 1 && m.dest / 64 % 4 == chain && bitsOf m.xt 31 30 == slot && bitsOf m.xt 28 16 == frame)).map (fun m => m.dest) ++
    (s.pix.composed.filter (fun c => c.chain == chain && c.slot == slot && c.n % 8192 == frame)).map (fun c => s.tileAddr c.chain c.pos) ++
    (s.lch.table.filter (fun l => l.n % 8192 == frame && s.composes l.n slot)).flatMap (fun l =>
      ((s.tileMap.filter (fun e => e.1 == chain)).map (fun e => s.tileAddr e.1 e.2.1)).filter (fun a =>
        !s.isCut l.n slot a && !s.pix.made.contains (l.n, slot, a)))

/-- LEAD_SUBFRAME_CUT (R193): at L - GUARD the sub-frame first in line on a chain has not left; the rest of it is not sent. -/
def execLeadSubframeCut (chain slot frame : Nat) (s : State) : Res :=
  match s.known.find? (fun l => l.n % 8192 == frame), (s.unsentSubs chain slot frame).head? with
  | some l, some a =>
    if s.alive && s.isLead && decide ((l.at_ : Int) - 1000 * lchGuard s.lch.cfg < s.domNow l.n) then
      .next (((s.cutSub l.n slot chain (a % 64)).bump Reg.lchLateCnt).raise 198 2 (frame % 8192 + slot % 4 * 8192 + chain % 4 * 65536))
    else .next s
  | _, _ => .next s

/-! ### The tile: LNCH cells (R197) -/

/-- The launch with this number that a tile holds, or has launched or coasted, the coast already created included. -/
def State.knownLaunch (s : State) (n : Nat) : Option Launch :=
  (s.lch.table ++ (match s.lch.coastNext with | some (m, l, _) => [({ n := m, at_ := l } : Launch)] | none => []) ++ s.lch.past).find?
    (fun l => l.n == n)

/-- The latest launch, the coast already created included. -/
def State.latestLaunch (s : State) : Option Launch :=
  match s.lch.coastNext with | some (m, l, _) => some { n := m, at_ := l } | none => s.lch.past.head?

/-- The held or launched instant that precedes launch n. -/
def State.preceding (s : State) (n : Nat) : Option Launch :=
  (s.lch.table ++ s.latestLaunch.toList ++ s.lch.past).foldl (fun m l =>
    if isAfter n l.n then match m with | none => some l | some b => if isAfter l.n b.n then some l else some b
    else m) none

/-- Insert a launch by number. -/
def insertLaunch (l : Launch) : List Launch → List Launch
  | [] => [l]
  | a :: t => if isAfter l.n a.n then a :: insertLaunch l t else l :: a :: t

/-- A discarded entry (R197). -/
def State.discardEntry (s : State) (n reason k : Nat) : State := (s.bumpBy Reg.lchDiscCnt k).raise 197 2 (n % 8192 + reason * 8192)

/-- One entry of an LNCH cell (R197): the rows in order. -/
def State.takeEntry (s : State) (l : Launch) : State :=
  let running := s.lch.state == .tRun || s.lch.state == .tCoast
  let isSw := match s.lch.sw with | some (m, _, _, _) => m == l.n | none => false
  match s.knownLaunch l.n with
  | some k => if k.at_ = l.at_ then s else s.discardEntry l.n 3 1
  | none =>
    if (match s.latestLaunch with | some a => !isAfter l.n a.n | none => false) then s
    else if (s.guardOf l : Int) < s.derivedNow then s.discardEntry l.n 4 1
    else if running && !isSw && (match s.preceding l.n with | some p => decide (l.at_ < p.at_ + 1000 * s.lch.smin) | none => false) then
      s.discardEntry l.n 5 1
    else if 8 ≤ s.lch.table.length then s.discardEntry l.n 6 1
    else
      let t := { s with lch := { s.lch with table := insertLaunch l s.lch.table, state := .tRun, coasts := 0 } }
      if s.lch.state = .tCoast ∨ s.lch.state = .tWait then t.raise 196 1 (l.n % 8192 + s.lch.state.code * 8192) else t

/-- LNCH_CELL_RECEIVED (R81, R197, R199). -/
def execLnchCellReceived (m : Msg) (s : State) : Res :=
  let t := s.takeMsgRow m
  let b := m.body
  let k := min 4 (u8 b 2)
  if !s.alive || !s.isTile then .next t
  else if !s.net.valid ∨ u32 b 4 ≠ s.leadEpoch then .next (t.discardEntry (u32 b 36) 1 k)
  else
    let t := t.setFaultEpoch (u32 b 8)
    if s.lch.cfg.isEmpty then .next (t.discardEntry (u32 b 36) 2 k)
    else
      let sw := if (u8 b 32).testBit 2 then some (u32 b 20, signed 64 (u64 b 24), (u8 b 32).testBit 0, (u8 b 32).testBit 1) else none
      let t := { t with lch := { t.lch with pcoast := u32 b 12, smin := u32 b 16, sw := sw } }
      let ok := u8 b 3 == lchId s.lch.cfg
      let es := (List.range k).filterMap (fun e => (timeAt b (40 + 16 * e)).map (fun l => ({ n := u32 b (36 + 16 * e), at_ := l, cfgOk := ok } : Launch)))
      let t := es.foldl State.takeEntry t
      let stop := (u8 b 1).testBit 2 && (t.knownLaunch (u32 b 36)).isSome
      .next (if stop then { t with lch := { t.lch with stopN := some (u32 b 36) } } else t)

/-! ### Underrun (R200 to R203) -/

/-- Does a held launch find the active domain not VALID (R199), or held back by LMG-KL-05 (R528)? -/
def State.domainBad (s : State) (l : Launch) : Bool :=
  let back := match s.lch.sw with
    | some (m, _, nd, _) => nd != s.tmu.active && (l.n == m || isAfter l.n m) && s.kl05Blocks (bn nd) (s.actDom.rawOf (s.inActive l))
    | none => false
  !s.actDom.valid || back

/-- Why slot k of a launch is aborted, if it is (R200). -/
def State.slotFault (s : State) (l : Launch) (k : Nat) : Option Nat :=
  match s.incomplete l.n k with
  | some w => some w
  | none => if !l.cfgOk then some 4 else if s.domainBad l then some 5 else none

/-- The order of the reasons of R200. -/
def reasonOrder : List Nat := [0x01, 0x11, 0x12, 0x13, 0x14, 0x03, 0x04, 0x05, 0x06]

/-- The slots below SLOTS. -/
def State.slots (s : State) : List Nat := List.range (lchSlots s.lch.cfg)

/-- What the check of a launch found: what each slot shows. -/
def State.checkOf (s : State) (n : Nat) : Option (List SlotNext) := (s.lch.checked.find? (fun c => c.1 == n)).map Prod.snd

/-- UNDERRUN_CHECK (R200, R201, R203, R393): at L - GUARD of the first held launch that has not been checked. -/
def execUnderrunCheck (s : State) : Res :=
  match s.lch.table.find? (fun l => (s.checkOf l.n).isNone) with
  | none => .next s
  | some l =>
    if !(s.alive && s.isTile && s.ems.enabled && decide ((s.guardOf l : Int) ≤ s.derivedNow)) then .next s
    else
      let rep := s.isArmed 0x0301
      let nexts := s.slots.map (fun k =>
        if (s.slotFault l k).isNone then SlotNext.frame
        else if rep && (s.currentRegion k).isSome then .previous else .dark)
      let faults := s.slots.filterMap (s.slotFault l)
      let mask := (s.slots.map (fun k => if (s.slotFault l k).isSome then 2 ^ k else 0)).sum
      let repeated := (nexts.filter (· == .previous)).length
      let reason := (reasonOrder.find? faults.contains).getD 0
      let t := { s with lch := { s.lch with checked := s.lch.checked ++ [(l.n, nexts)] } }
      let t := if mask = 0 then t else t.noteAborted l.n mask reason repeated
      .next t.sampleCodes

/-! ### Launches (R140, R175, R199, R203) -/

/-- A tile switches its domain at a launch (R175, R199, R528): at Ls, or late at the first launch after it; EV_201 with bit 1 when late,
EV_142 when the new domain is not LOCKED. -/
def State.switchAt (s : State) (l : Launch) : State :=
  match s.lch.sw with
  | some (m, _, nd, _) =>
    if nd == s.tmu.active || !(l.n == m || isAfter l.n m) || s.kl05Blocks (bn nd) s.now then s
    else
      let t := { s with tmu := { s.tmu with active := nd } }
      let t := if (t.dom nd).servo = .locked then t else t.raise 142 2 (bn nd + (t.dom nd).servo.code * 2)
      if l.n = m then t else t.raise 201 2 (bn nd + 2 + (t.dom nd).servo.code * 4)
  | none => s

/-- Eclipse re-lights at the first launch whose L - guard lies at or after the marker, with no hold-off recorded (R140). -/
def State.relight (s : State) (l : Launch) : State :=
  let e := s.net.ecl
  if e.dark && e.holds.isEmpty && decide (s.actDom.at e.markAt ≤ s.guardOf l) then
    { s with net := { s.net with ecl := { e with dark := false } } }
  else s

/-- The emission state of a new launch: what each slot shows, nothing of the launch before. -/
def State.beginEmission (s : State) (l : Launch) (shows : List (Option Nat)) : State :=
  let at_ := l.at_
  let emits := s.ems.enabled && !s.ems.hold && !s.pwr.inert && !s.net.ecl.dark && s.afterEnable at_
  let pre := if s.ems.pre.map Prod.fst = some l.n then s.ems.pre else none
  let t := s.credit
  let t := { t with ems := { t.ems with launch := some (l.n, at_), ended := [], fillCut := false, fillDone := false, shows := shows,
                                        emits := emits, win := none, lit := none, pre := pre } }
  if s.ems.lit.isNone then t.applyCodes else t

/-- A slot's complete region becomes CURRENT and the one before it FREE (R291). -/
def State.makeCurrent (s : State) (slot r : Nat) : State :=
  let t := match s.currentRegion slot with | some o => s.setRegion o {} | none => s
  t.setRegion r { t.lpp.regions.getD r {} with st := .current }

/-- The launch of a tile (R200, R203, R38). -/
def State.launchTile (s : State) (l : Launch) : State :=
  let t := (s.switchAt l).relight l
  let nexts : List SlotNext := match s.checkOf l.n with
    | some x => x
    | none => s.slots.map (fun k => if (s.slotFault l k).isNone then .frame else .dark)
  let t := s.slots.foldl (fun t k => match nexts.getD k .dark, t.pendingRegion k l.n with
    | .frame, some r => t.makeCurrent k r
    | _, _ => t) t
  let whole := (s.checkOf l.n).isSome && nexts.all (· != .frame)
  let t := if whole then t else (t.takeEffect l.n (t.guardOf l)).noteBare
  let t := t.passLaunch l.n
  let shows := (List.range 4).map (fun k => match nexts[k]? with
    | some .frame => t.currentRegion k
    | some .previous => t.currentRegion k
    | _ => none)
  let t := { t with lch := { t.lch with table := t.lch.table.drop 1, past := (l :: t.lch.past).take 16, coastNext := none,
                                        checked := t.lch.checked.filter (fun c => isAfter c.1 l.n) } }
  t.beginEmission l shows

/-- The launch of a lead: it has passed; at Ls the active domain changes (R173). -/
def State.launchLead (s : State) (l : Launch) : State :=
  let t := { s with lch := { s.lch with table := s.lch.table.drop 1, past := (l :: s.lch.past).take 16 } }
  match s.tmu.switch, s.lch.sw with
  | some w, some (m, b0, nd, st) =>
    if w.decided ∧ m = l.n then
      let u := ({ t with tmu := { t.tmu with active := nd, switch := none } }).raiseA 133 1
        (bn nd + bn st * 2 + unsigned 24 (clampInt (-8388608) 8388607 (roundDiv b0 65536)) * 256) w.req.isNone
      match w.req with
      | some r => u.complete r stOk
      | none => u
    else t
  | _, _ => t

/-- LAUNCH (R173, R199, R203): the oldest held launch arrives. -/
def execLaunch (s : State) : Res :=
  match s.lch.table.head? with
  | none => .next s
  | some l =>
    if !s.alive then .next s
    else if s.isLead then (if (l.at_ : Int) ≤ s.domNow l.n then .next (s.launchLead l) else .next s)
    else if s.inActive l ≤ s.derivedNow then .next (s.launchTile l) else .next s

/-! ### Coast (R204, R205) -/

/-- The tile's lamps go dark in WAIT and IDLE (R198). -/
def State.restTile (s : State) (st : LchSt) : State :=
  ({ s with lch := { s.lch with state := st, coasts := 0, checked := [] } }).stopSchedule

/-- MISSING_LAUNCH_DECISION (R204, R205): at L(n) + PCOAST - 250 µs no launch after n is held. -/
def execMissingLaunchDecision (s : State) : Res :=
  match s.lch.past.head? with
  | none => .next s
  | some l =>
    let due : Int := s.inActive l + 1000 * s.lch.pcoast - 1000 * rawUs 250
    if !(s.alive && s.isTile && (s.lch.state == .tRun || s.lch.state == .tCoast) && s.lch.table.isEmpty && s.lch.coastNext.isNone &&
        s.lch.stopN != some l.n && decide (due ≤ s.derivedNow)) then .next s
    else
      let n := (l.n + 1) % 2 ^ 32
      if !s.isArmed 0x0302 then .next ((s.restTile .tWait).raise 195 3 (n % 8192))
      else if lchCoastMax s.lch.cfg ≤ s.lch.coasts then .next ((s.restTile .tWait).raise 195 3 (n % 8192 + 65536))
      else
        let t := { s with lch := { s.lch with state := .tCoast, coasts := s.lch.coasts + 1, coastNext := some (n, l.at_ + 1000 * s.lch.pcoast, s.isArmed 0x0301) } }
        let t := if s.lch.coasts = 0 then t.raiseA 194 2 (n % 8192) true else t
        .next (if s.ems.enabled then t.sampleCodes else t)

/-- COAST_LAUNCH (R19, R199, R204): no new content; each slot repeats its previous frame if 0x0301 was armed at the decision, and is dark
otherwise. -/
def execCoastLaunch (s : State) : Res :=
  match s.lch.coastNext with
  | none => .next s
  | some (n, at_, rep) =>
    let l : Launch := { n := n, at_ := at_ }
    if !(s.alive && s.isTile && decide (s.inActive l ≤ s.derivedNow)) then .next s
    else
      let t := ((s.switchAt l).relight l).passLaunch n
      let shows := (List.range 4).map (fun k => if rep && decide (k < lchSlots s.lch.cfg) then t.currentRegion k else none)
      let t := t.bump Reg.lchCoastCnt
      let t := if s.ems.enabled then t.bumpBy Reg.lchRepeatCnt (shows.filter Option.isSome).length else t
      let t := { t with lch := { t.lch with past := (l :: t.lch.past).take 16, coastNext := none } }
      .next (t.beginEmission l shows)

/-- TILE_STOP_PERIOD_END (R198): the period of the STOP launch ends. -/
def execTileStopPeriodEnd (s : State) : Res :=
  match s.lch.past.head? with
  | none => .next s
  | some l =>
    if s.alive && s.isTile && s.lch.stopN == some l.n && s.lch.table.isEmpty && (s.lch.state == .tRun || s.lch.state == .tCoast) &&
        decide (s.inActive l + 1000 * s.lch.pcoast ≤ s.derivedNow) then
      let t := s.restTile .idle
      .next { t with lch := { t.lch with stopN := none } }
    else .next s

end Sys2Proof.Machine
end

