-- ==== Sys2Proof/Machine/Calibration.lean ====
section
/-! DEFINITION. Calibration runs, delay trims and the precision reference (R394 to R404). -/

namespace Sys2Proof.Machine

/-! ### Changes of R402 -/

/-- A calibration change: at once where no launch is announced or held (for gains and targets also while emission is disabled), else at
a launch. -/
def State.calChange (s : State) (iref : Bool) (c : Change) : State :=
  if !s.holdsLaunch || (iref && !s.ems.enabled) then
    (s.applyChange c).changeEvent ((s.lch.past.head?.map Launch.n).getD 0) c
  else s.addChange c s.derived none

/-- Is a change a calibration trim? -/
def Change.isCal : Change → Bool
  | .trim _ _ _ => true
  | .irefSet _ _ => true
  | .gain _ _ _ _ => true
  | _ => false

/-- Is an IREF target: outputs 0x00 to 0x0F, banks 0x10 to 0x13. -/
def irefTarget (t : Nat) : Bool := decide (t < 0x14)
/-- The bank of an IREF target. -/
def targetBank (t : Nat) : Nat := if t < 0x10 then t / 4 else t - 0x10
/-- The ports present in the role. -/
def State.portPresent (s : State) (p : Nat) : Bool := decide (p < 8) && (s.isLead || decide (p < 2))

/-! ### CAL_RUN (R394, R395) -/

/-- CAL_RUN (R394). -/
def execCalRun (r : Req) (s : State) : Res :=
  runReq 0x0A00 r s fun s =>
    let t := u8 r.payload 0
    let set := u8 r.payload 1
    let iref := irefTarget t
    let llat := decide (0x20 ≤ t) && decide (t ≤ 0x23)
    let port := decide (0x30 ≤ t) && decide (t ≤ 0x37)
    if !(iref || llat || port || t == 0x40) then (s, rspParam 0)
    else if (iref || llat) && s.isLead then (s, rspErr stUnsupportedRole)
    else if port && !s.portPresent (t - 0x30) then (s, rspParam 0)
    else if iref && decide (3 < set) then (s, rspParam 1)
    else if s.cal.run.isSome then (s, rspErr stBusy 0x0A00)
    else if iref && s.ems.enabled && emsNcw s.ems.cfg != 0 then (s, rspErr stWrongState 0x0A01)
    else if port && (s.portState (t - 0x30) == .up || s.portState (t - 0x30) == .open_ || s.portState (t - 0x30) == .active) then
      (s, rspErr stWrongState 0x0A02)
    else if llat && !s.lclkRuns (t - 0x20) then (s, rspErr stWrongState 0x0A08)
    else
      let out := if t < 0x10 then t else if iref then 4 * (t - 0x10) else 0
      ({ s with cal := { s.cal with run := some { req := r, target := t, set := set % 4, out := out } } }, rspAccepted)

/-- The raw instant of the next show of the schedule in 1/1,000 raw LSB, if one is planned. -/
def State.nextShow (s : State) : Option Nat :=
  match s.ems.win with
  | some w => match (s.planOf w)[w.next]? with
    | some u => some (w.edge u.show_)
    | none => none
  | none => match s.nextWindow with
    | some (_, _, f, _) => some (s.edgeOf f)
    | none => none

/-- SPARE_HANDOVER (R395): dark at scale ×1 with no show within t_cal_swap, the spare channel takes over the pin of the output that is
measured, or releases a pin. -/
def execSpareHandover (s : State) : Res :=
  let clear := s.ems.lit.isNone && s.ems.scale == 0 &&
    (match s.nextShow with | some f => decide (s.nowFine + 6553600 ≤ f) | none => true)
  if !(s.alive && s.isTile && s.ems.enabled && clear) then .next s
  else
    let wanted : Option Nat := match s.cal.run with
      | some r => if irefTarget r.target && !r.abort then some r.out else none
      | none => none
    match s.cal.spare with
    | some n => if wanted = some n then .next s else .next { s with cal := { s.cal with spare := none } }
    | none => .next { s with cal := { s.cal with spare := wanted } }

/-- The code that pin IREFn sources and c of the reference scale 2^-c (R388, R395): 0 in an inert chip (R22) and, while emission is disabled, on
the pin of the output that a run measures. The spare channel gives its pin the output's own code. -/
def State.irefPin (s : State) (n : Nat) : Nat × Nat :=
  let measured := match s.cal.run with | some r => irefTarget r.target && r.out == n | none => false
  if !(s.alive && s.isTile) || s.pwr.inert || (measured && !s.ems.enabled) then (0, s.ems.scale)
  else (s.cal.codes.getD n 0, s.ems.scale)

/-! ### The end of a run (R396 to R399, R401) -/

/-- TOL (CAL_CFG): do two gains in 2^-20 agree within TOL × 0.001 %? -/
def State.withinTol (s : State) (a b : Int) : Bool := decide ((a - b).natAbs * 100000 ≤ s.fld Reg.calCfg 15 8 * 2 ^ 20)

/-- The mean of two passes (R536). -/
def meanPass (a b : Int) : Int := roundDiv (a + b) 2

/-- Does T lie within 2 °C of a set of the bank, other than set k, that holds a gain? -/
def nearOther (sets : List CalSet) (b k : Nat) (t : Int) : Bool :=
  (List.range 4).any (fun j => j != k && (sets.getD (4 * b + j) {}).valid != 0 && decide ((t - (sets.getD (4 * b + j) {}).t).natAbs ≤ 32))

/-- Measured values of a run: the spare channel's two, passes A and B, and T_b at each. -/
structure Passes where
  spareA : Int
  spareB : Int
  a : Int
  b : Int
  tA : Int
  tB : Int
  deriving DecidableEq, Repr

/-- The trims a port run gives (R399): TX_DLY and RX_DLY. -/
def portTrims (p : Nat) (m : Int) : Int × Int :=
  let tx := roundDiv (m * Config.portSplit p) 65536
  (tx, m - tx)

/-- Does a value fit a signed 16-bit trim? -/
def fits16 (v : Int) : Bool := decide (-32768 ≤ v) && decide (v ≤ 32767)

/-- LLAT_TRIM_b after a run (R398): the current trim minus the mean error over 12 ps, rounded. -/
def State.llatResult (s : State) (b : Nat) (p : Passes) : Int :=
  roundDiv (24 * (s.fld Reg.calLlat (8 * b + 7) (8 * b) : Int) - (p.a + p.b)) 24

/-- Why a run ends rejected (R396): a reason, in the order in which the run meets the cases. -/
def State.runFault (s : State) (r : CalRun) (p : Passes) : Option Nat :=
  let b := targetBank r.target
  let x := s.viewAll.cal.sets.getD (4 * b + r.set) {}
  if r.abort then some 0x0A06
  else if irefTarget r.target then
    if !s.withinTol p.spareA p.spareB then some 0x0A04
    else if (if x.valid = 0 then nearOther s.viewAll.cal.sets b r.set p.tA else decide (32 < (p.tA - x.t).natAbs)) then some 0x0A03
    else if 8 < (p.tA - p.tB).natAbs then some 0x0A07
    else if !s.withinTol p.a p.b then some 0x0A04
    else if !fits16 (meanPass p.a p.b) then some 0x0A05
    else none
  else if r.target ≤ 0x23 then
    if 6 < (p.a - p.b).natAbs then some 0x0A04
    else if s.llatResult (r.target - 0x20) p < 0 ∨ 255 < s.llatResult (r.target - 0x20) p then some 0x0A05
    else none
  else if r.target ≤ 0x37 then
    let (tx, rx) := portTrims (r.target - 0x30) (meanPass p.a p.b)
    if 4 < (p.a - p.b).natAbs then some 0x0A04
    else if !fits16 tx || !fits16 rx then some 0x0A05
    else none
  else none

/-- A 16-bit signed field of an event, saturating. -/
def sat16 (v : Int) : Nat := unsigned 16 (clampInt (-32768) 32767 v)

/-- The results of a run or of one output of it are stored, and EV_704 or EV_711 raised (R397 to R399, R401). -/
def State.acceptRun (s : State) (r : CalRun) (p : Passes) : State :=
  let m := meanPass p.a p.b
  let ev (t : State) (v : Int) : State := t.raise 704 0 (r.target + r.set * 256 + sat16 v * 65536)
  if irefTarget r.target then
    ev (s.calChange true (.gain (4 * (r.out / 4) + r.set) (r.out % 4) m p.tA)) m
  else if r.target ≤ 0x23 then
    let b := r.target - 0x20
    let v := s.llatResult b p
    ev (s.calChange false (.trim 1 Reg.calLlat (BitVec.ofNat 32 (setBits (s.viewAll.reg Reg.calLlat).toNat (8 * b + 7) (8 * b) v.toNat)))) v
  else if r.target ≤ 0x37 then
    let (tx, rx) := portTrims (r.target - 0x30) m
    ev (s.calChange false (.trim 2 (Reg.calPortDly + 4 * (r.target - 0x30)) (BitVec.ofNat 32 (unsigned 16 tx * 65536 + unsigned 16 rx)))) m
  else
    ev (if 50 < m.natAbs then s.raise 711 3 (sat16 m) else s) m

/-- CAL_RUN_COMPLETE (R395 to R399, R401): the run, or the output of a bank run that is measured, is accepted or rejected; the run completes
with EV_19. -/
def execCalRunComplete (spareA spareB passA passB tempA tempB : Int) (s : State) : Res :=
  let p : Passes := { spareA := spareA, spareB := spareB, a := passA, b := passB, tA := tempA, tB := tempB }
  match s.cal.run with
  | none => .next s
  | some r =>
    let fault := s.runFault r p
    let waits := irefTarget r.target && s.ems.enabled && s.cal.spare != some r.out && fault != some 0x0A06 && s.withinTol spareA spareB
    if !s.alive || waits then .next s
    else
      let s := { s with cal := { s.cal with spare := if s.ems.enabled then s.cal.spare else none } }
      match fault with
      | some c =>
        let t := { s with cal := { s.cal with run := none, last := (r.target, r.set, c % 256, p.a, p.b), lastDetail := c } }
        .next ((t.raise 705 2 (r.target + r.set * 256 + c * 65536)).complete r.req stWrongState)
      | none =>
        let t := s.acceptRun r p
        if 0x10 ≤ r.target ∧ r.target < 0x14 ∧ r.out % 4 < 3 then
          .next { t with cal := { t.cal with run := some { r with out := r.out + 1 } } }
        else
          let u := { t with cal := { t.cal with run := none, last := (r.target, r.set, 0, p.a, p.b), lastDetail := 0 } }
          .next (u.complete r.req stOk)

/-! ### CAL_TRIM_LOAD and CAL_STATUS (R402 to R404) -/

/-- CAL_TRIM_LOAD (R402, R403). -/
def execCalTrimLoad (r : Req) (s : State) : Res :=
  runReq 0x0A01 r s fun s =>
    let p := r.payload
    let k := u8 p 0
    if 2 < k then (s, rspParam 0)
    else if k < 2 ∧ s.isLead then (s, rspErr stUnsupportedRole)
    else if k = 0 then
      let b := u8 p 1
      let i := u8 p 2
      let t := signed 16 (u16 p 4)
      let busy := match s.cal.run with | some q => irefTarget q.target && targetBank q.target == b && q.set == i | none => false
      if 3 < b then (s, rspParam 1)
      else if 3 < i then (s, rspParam 2)
      else if t < -640 ∨ 2000 < t ∨ nearOther s.viewAll.cal.sets b i t then (s, rspParam 4)
      else if busy then (s, rspErr stBusy 0x0A00)
      else
        let x : CalSet := { t := t, valid := u8 p 3 % 16, g := (List.range 4).map (fun c => signed 16 (u16 p (6 + 2 * c))) }
        (s.calChange true (.irefSet (4 * b + i) x), rspOk)
    else if k = 1 then
      let w := (List.range 4).map (fun b => u8 p (4 + b) * 2 ^ (8 * b))
      (s.calChange false (.trim 1 Reg.calLlat (BitVec.ofNat 32 w.sum)), rspOk)
    else if !s.portPresent (u8 p 1) then (s, rspParam 1)
    else (s.calChange false (.trim 2 (Reg.calPortDly + 4 * u8 p 1) (BitVec.ofNat 32 (u32 p 4))), rspOk)

/-- The CAL_STATUS register. -/
def State.calStatus (s : State) : Nat :=
  bn s.cal.run.isSome * 2 ^ 31 + bn s.cal.spare.isSome * 2 ^ 30 + s.cal.spare.getD 0 % 16 * 2 ^ 26 + bn s.cal.refOk * 2 ^ 25 +
    bn (s.pix.staged.any (fun p => p.change.isCal)) * 2 ^ 24 + s.cal.lastDetail % 65536

/-- T_bs, CVALID and the gains of a trim set. -/
def CalSet.bytes (x : CalSet) : List Byte := b2 (unsigned 16 x.t) ++ b2 x.valid ++ x.g.flatMap (fun g => b2 (unsigned 16 g))

/-- CAL_STATUS (R404): 300 bytes; a lead returns 0 for tile fields. -/
def execCalStatus (r : Req) (s : State) : Res :=
  runReq 0x0A02 r s fun s =>
    let (t, k, res, a, b) := s.cal.last
    let tile (l : List Byte) : List Byte := if s.isLead then zeros l.length else l
    (s, rspOk (b4 s.calStatus ++ b1 t ++ b1 k ++ b1 res ++ zeros 1 ++ b4 (unsigned 32 a) ++ b4 (unsigned 32 b) ++
      s.cal.temps.flatMap (fun v => b2 (unsigned 16 v)) ++ tile (s.cal.sets.flatMap CalSet.bytes) ++
      tile ((List.range 4).flatMap (fun b => b1 (s.fld Reg.calLlat (8 * b + 7) (8 * b)))) ++
      (List.range 8).flatMap (fun p => if s.portPresent p then b4 (s.reg (Reg.calPortDly + 4 * p)).toNat else zeros 4) ++
      tile (s.cal.codes.flatMap b2)))

/-! ### The precision reference and register writes (R401, R402) -/

/-- REF_IN_COMPARE (R401): every 100 ms while REF_SEL is 1; the difference in 0.01 %. -/
def execRefInCompare (diff : Int) (s : State) : Res :=
  if !(s.alive && s.bit Reg.calCfg 0 && decide (s.cal.refAt + rawMs 100 ≤ s.now)) then .next s
  else
    let ok := decide (diff.natAbs ≤ 200)
    let t := { s with cal := { s.cal with refAt := s.now, refOk := ok } }
    .next (if ok then t else t.raise 708 3 (sat16 diff))

/-- A write of CAL_CFG: false where a change of REF_SEL is refused while emission is enabled. -/
def State.writeCalCfg (s : State) (w : Word) : State × Bool :=
  let v := w.toNat % 65536
  let tol := bitsOf v 15 8
  if v.testBit 0 = s.bit Reg.calCfg 0 then (s.setReg Reg.calCfg (BitVec.ofNat 32 (tol * 256 + bn (v.testBit 0))), true)
  else if s.ems.enabled then (s, false)
  else
    let t := s.setReg Reg.calCfg (BitVec.ofNat 32 (tol * 256 + bn (v.testBit 0)))
    ({ t with cal := { t.cal with sets := t.cal.sets.map (fun (x : CalSet) => { x with valid := 0 }), refOk := false, refAt := t.now } }, true)

/-- REF_SEL_WRITE (R401): a BAR0 write of CAL_CFG; a TOL outside its range stays as it is (R8). -/
def execRefSelWrite (data : Word) (s : State) : Res :=
  if !s.alive then .next s
  else
    let (v, out) := s.keepRanges Reg.calCfg data.toNat
    let (t, ok) := s.writeCalCfg (BitVec.ofNat 32 v)
    .next (if ok && !out then t else t.raise 25 1 Reg.calCfg)

/-- IREF_TARGET_WRITE (R402): a write to CAL_IREF_TGTn is staged for the next launch, or applies at once. -/
def execIrefTargetWrite (n : Nat) (data : Word) (s : State) : Res :=
  if !s.alive || !s.isTile || 16 ≤ n then .next s
  else .next (s.calChange true (.trim 3 (Reg.calIrefTgt + 4 * n) (data &&& 0xFFFF#32)))

end Sys2Proof.Machine
end

