-- ==== Sys2Proof/Machine/Pair.lean ====
section
/-! DEFINITION. Lead pairs: states and claims, the lease, takeover and handover, the state mirror, TAKE and RMAP in a tile, and the class 0x09
opcodes (R363 to R387). The relay of a chain stands in Link. -/

namespace Sys2Proof.Machine

/-! ### States and BEAT cells (R363 to R366) -/

/-- The codes of R363. -/
def Pair.code : Pair → Nat
  | .solo => 0 | .takeover => 1 | .active => 2 | .standby => 3 | .lapsed => 4

/-- The partner's LEAD_NUM. -/
def State.partnerNum (s : State) : Nat := s.leadNum ^^^ 1

/-- A pair state change raises EV_768. -/
def State.setPair (s : State) (p : Pair) : State :=
  if s.pai.state = p then s
  else ({ s with pai := { s.pai with state := p } }).raise 768 1 (s.pai.state.code + p.code * 8)

/-- Does this lead stand at the tail of a chain (R89)? A lead that drives nothing has enumerated none of the chains it is the tail of. -/
def State.tailOf (s : State) (c : Nat) : Bool :=
  s.pai.tails.testBit c || (s.pai.state != .active && (s.chainPos c).isEmpty)

/-- A mirror that counts as current: a baseline is applied and it is at most one delta behind (R377). -/
def State.mirrorCur (s : State) : Bool := s.pai.baseline && s.pai.behind.isNone

/-- Is the mirror current, as BFLAGS carries it? -/
def State.mirrorFlag (s : State) : Bool := if s.pai.state = .active then !s.pai.mirrorStale else s.mirrorCur

/-- BFLAGS of a cell sent on a port (R365). -/
def State.bflags (s : State) (p : Nat) : Nat := beatPath p + bn s.pai.bound * 2 + bn s.mirrorFlag * 4

/-- The ports on which RENEW, CLAIM, TAKE and HANDOVER go out (R366). -/
def State.beatPorts (s : State) : List Nat :=
  (if s.portState 6 = .active then [6] else []) ++ s.ringChains.filter (fun c => s.portState c == .open_)

/-- A BEAT cell for a port: to the partner, or as the chain's broadcast, sent no earlier than a raw instant (R366). -/
def State.beatMsg (s : State) (kind bseq prev mseq n l : Nat) (bcast : Bool) (notBefore p : Nat) : TxMsg :=
  let tail := decide (p < 4) && s.tailOf p
  { port := p, typ := 5, dest := if bcast then s.leadField * 256 + (if p < 4 then 64 * p else 0) else leadAddr s.partnerNum,
    bcast := bcast, dir := tail, relay := tail, key := 3, notBefore := notBefore,
    body := s.beatBody kind (s.bflags p) s.leadEpoch bseq prev mseq n l (if bcast then s.rmapWords else [0, 0, 0, 0]) }

/-- Send a BEAT cell on P6 and on the open ring ports (R366). -/
def State.sendBeat (s : State) (kind bseq prev mseq n l : Nat) (bcast : Bool) : State :=
  (s.beatPorts.map (s.beatMsg kind bseq prev mseq n l bcast 0)).foldl State.send s

/-- Send TAKE three times at 25 µs spacing (R371). -/
def State.sendTake (s : State) (prev : Nat) : State :=
  ([0, 25, 50].flatMap (fun d => s.beatPorts.map (s.beatMsg 4 0 prev 0 0 0 true (s.now + rawUs d)))).foldl State.send s

/-- Answer a RENEW or CLAIM with an ACK on the path of arrival, with the opposite DIR (R366). -/
def State.sendAck (s : State) (m : Msg) : State :=
  s.send { port := m.port, typ := 5, dest := leadAddr s.partnerNum, dir := !m.dir, relay := !m.dir && decide (m.port < 4), key := 3,
           body := s.beatBody 2 (s.bflags m.port) s.leadEpoch (u32 m.body 8) 0 s.pai.mseqAck 0 0 [0, 0, 0, 0] }

/-- Is a message a BEAT of this kind from the partner? -/
def State.beatFrom (s : State) (m : Msg) (kind : Nat) : Bool :=
  s.alive && s.isLead && s.paired && m.typ == 5 && u8 m.body 1 == kind && u8 m.body 3 % 16 == s.partnerNum

/-- The partner's state as last seen: a partner that enters Standby gets the full state as a baseline (R377); relays follow (R383). -/
def State.notePartner (s : State) (code : Nat) : State :=
  let fresh := code == 3 && s.pai.partner != 3
  (({ s with pai := { s.pai with partner := code, sent := if fresh then [] else s.pai.sent } })).relayWatch

/-- Send the held replies for which a condition holds (R378). -/
def State.release (s : State) (f : Nat → Bool) : State :=
  let go := s.pai.held.filter (fun h => f h.2.2.2)
  go.foldl (fun t h => t.reply h.1 h.2.1 h.2.2.1) { s with pai := { s.pai with held := s.pai.held.filter (fun h => !f h.2.2.2) } }

/-- The launches end with the lead's token: Ephemeris enters IDLE, announced launches stay binding (R367). -/
def State.stopAnnouncing (s : State) : State :=
  if s.lch.state = .run ∨ s.lch.state = .stopping then
    (({ s with lch := { s.lch with state := .idle, stopN := none } }).setLaunchServo .free).raise 192 1 1
  else s

/-- Leave Active: relays end, held replies go out. -/
def State.leaveActive (s : State) : State :=
  let t := ((List.range 4).filter s.pai.relay.testBit).foldl State.relayEnd s
  ({ t with pai := { t.pai with bound := false, tHold := none, flushing := none } }).stopAnnouncing.release (fun _ => true)

/-- Enter Standby: it originates no PIX, CMD or LNCH cell (R382); commands already sent to tiles end in TIMEOUT. -/
def State.enterStandby (s : State) : State :=
  let t := s.leaveActive.setPair .standby
  let tx := t.net.tx.filter (fun m => !(m.typ == 1 || m.typ == 4 || m.typ == 6 || (m.typ == 2 && m.job.isSome)))
  let jobs : List Job := t.cmd.jobs.map (fun (j : Job) => { j with started := some (j.started.getD t.now), sentAll := some (j.sentAll.getD t.now) })
  { t with net := { t.net with tx := tx }, cmd := { t.cmd with jobs := jobs },
           pai := { t.pai with tails := 0, mirror := [], begun := false, baseline := false, behind := none, mirrorStale := false,
                               tRecv := none, told := false, lastTry := none } }

/-- Enter Active, unbound (R368). -/
def State.enterActive (s : State) : State :=
  let t := s.setPair .active
  { t with pai := { t.pai with bound := false, tHold := none, missed := 0, renews := [], renewAt := none, renewAcked := true, sent := [],
                               deltaAt := none, ackAt := t.now, mirrorStale := false, flushing := none } }

/-- A claiming lead yields to its partner (R364). -/
def State.yieldClaim (s : State) : State :=
  ((s.bump Reg.paiYields).raise 776 1 (s.partnerNum % 16)).enterStandby

/-! ### PAIR_CONFIG and claims (R364, R384) -/

/-- The precondition of an opcode's state fails: the source gives no DETAIL. -/
def State.wrongPair (s : State) : State × Rsp := (s.freeNext, rspErr stWrongState (s.freeVal % 65536))

/-- PAIR_CONFIG (R87, R364, R384). -/
def execPairConfig (r : Req) (s : State) : Res :=
  runReq 0x0900 r s fun s =>
    let p := r.payload
    let lease := if u8 p 2 = 0 then 2 else u8 p 2
    let guard_ := if u8 p 3 = 0 then 4 else u8 p 3
    let ring := u8 p 4 % 16
    if u8 p 0 ≠ s.partnerNum then (s, rspParam 0)
    else if u8 p 1 ≠ 1 ∧ u8 p 1 ≠ 2 then (s, rspParam 1)
    else if lease < 2 ∨ 16 < lease then (s, rspParam 2)
    else if 4 < guard_ then (s, rspParam 3)
    else if ring = 0 then (s, rspParam 4)
    else if !s.topoLocked then (s, rspErr stWrongState 0x0101)
    else if !s.paired then (s, rspErr stWrongState 0x0901)
    else if s.pai.state ≠ .solo then s.wrongPair
    else
      let t := s.setReg Reg.paiLeaseCfg (BitVec.ofNat 32 (lease * 65536 + guard_ * 256 + ring))
      let t := { t with pai := { t.pai with partner := 7 } }
      if u8 p 1 = 1 then (t.enterStandby, rspOk)
      else
        let t := t.setPair .takeover
        ({ t with pai := { t.pai with claimEnd := t.now + (t.leaseLen + (t.leaseGuard + 3) / 4 + 1) * t.leaseUnit, claimAt := none } }, rspOk)

/-- CLAIM_SEND (R364): every P_L of the claim window. -/
def execClaimSend (s : State) : Res :=
  let due := match s.pai.claimAt with | some a => decide (a + s.leaseUnit ≤ s.now) | none => true
  if s.alive && s.isLead && s.pai.state == .takeover && decide (s.now < s.pai.claimEnd) && due then
    let b := (s.pai.bseq + 1) % 2 ^ 32
    .next (({ s with pai := { s.pai with bseq := b, claimAt := some s.now } }).sendBeat 3 b 0 0 0 0 false)
  else .next s

/-- CLAIM_WINDOW_END (R364): a lead that has not yielded enters Active. -/
def execClaimWindowEnd (s : State) : Res :=
  if s.alive && s.isLead && s.pai.state == .takeover && decide (s.pai.claimEnd ≤ s.now) then .next s.enterActive.unbindCheck else .next s

/-- CLAIM_RECEIVED (R364, R366): an odd claimant yields; a Standby, and one that yields, answers with an ACK. -/
def execClaimReceived (m : Msg) (s : State) : Res :=
  let t := s.takeMsgRow m
  if !s.beatFrom m 3 then .next t
  else
    let t := t.notePartner 1
    match s.pai.state with
    | .takeover => .next (if s.leadNum % 2 = 1 then t.yieldClaim.sendAck m else t)
    | .standby => .next (t.sendAck m)
    | _ => .next t

/-! ### The lease (R367 to R369) -/

/-- The newest announced launch: number and instant. -/
def State.lastAnnounced (s : State) : Nat × Nat := match s.newest with | some l => (l.n, l.at_) | none => (0, 0)

/-- Is a RENEW due: an announcement was made since the latest one, or P_L has passed while nothing is announced? -/
def State.renewDue (s : State) : Bool :=
  match s.pai.renewAt with
  | none => true
  | some a => (decide (a < s.lch.annAt)) || (!s.announces && decide (a + s.leaseUnit ≤ s.now))

/-- RENEW_SEND (R367): the latest RENEW without an ACK counts as missed. -/
def execRenewSend (s : State) : Res :=
  if !(s.alive && s.isLead && s.pai.state == .active && s.renewDue) then .next s
  else
    let t := if s.pai.renewAcked then s
      else (({ s with pai := { s.pai with missed := s.pai.missed + 1 } }).bump Reg.paiRenewMiss).raise 769 2 (s.pai.bseq % 2 ^ 23 * 512)
    let b := (s.pai.bseq + 1) % 2 ^ 32
    let (n, l) := s.lastAnnounced
    let t := { t with pai := { t.pai with bseq := b, renewAt := some s.now, renewAcked := false,
                                          renews := (b, s.now) :: t.pai.renews.take 63 } }
    .next (t.sendBeat 1 b 0 s.pai.mseqSent n l false)

/-- A Standby compares its applied MSEQ with the one of the RENEWs (R377). -/
def State.watchMirror (s : State) : State :=
  let d := (s.pai.mseqSent + 2 ^ 32 - s.pai.mseqAck) % 2 ^ 32
  if s.pai.baseline && (decide (d ≤ 1) || decide (2 ^ 31 ≤ d)) then
    let t := { s with pai := { s.pai with behind := none, mirrorStale := false } }
    if s.pai.mirrorStale then t.raise 773 2 1 else t
  else { s with pai := { s.pai with behind := some (s.pai.behind.getD s.now) } }

/-- A Standby takes a RENEW: ACK, launch, lease and mirror numbers (R366, R369, R377). -/
def State.takeRenew (s : State) (m : Msg) : State :=
  let b := m.body
  let bound := (u8 b 2).testBit 1
  let t := { s with pai := { s.pai with bseq := u32 b 8, mseqSent := u32 b 16, lastN := u32 b 20, lastL := (timeAt b 24).getD s.pai.lastL,
                                        tRecv := if bound then some s.now else s.pai.tRecv, told := if bound then false else s.pai.told,
                                        lastTry := if bound then none else s.pai.lastTry } }
  (t.watchMirror).sendAck m

/-- RENEW_RECEIVED (R364, R369): a claiming lead yields first. -/
def execRenewReceived (m : Msg) (s : State) : Res :=
  let t := s.takeMsgRow m
  if !s.beatFrom m 1 then .next t
  else
    let t := t.notePartner 2
    match s.pai.state with
    | .takeover => .next (t.yieldClaim.takeRenew m)
    | .standby => .next (t.takeRenew m)
    | _ => .next t

/-! ### The mirror (R376 to R378) -/

/-- The kind and number of a mirrored part. -/
def MirrorItem.key : MirrorItem → Nat × Nat
  | .epochs _ _ _ => (0, 0) | .regs _ => (1, 0) | .topo _ _ _ => (2, 0) | .layers _ _ => (3, 0) | .flips _ => (4, 0)
  | .fences _ => (5, 0) | .surfs _ => (6, 0) | .data lo _ _ => (7, lo) | .mesh l _ => (8, l) | .locks _ => (9, 0)
  | .ptp _ _ => (10, 0) | .coder _ => (11, 0) | .lch _ _ _ _ => (12, 0) | .servo _ _ => (13, 0) | .shref _ => (14, 0)
  | .replay _ => (15, 0) | .keys _ _ => (16, 0)

/-- Bytes that a part takes in a delta. -/
def MirrorItem.size : MirrorItem → Nat
  | .epochs _ _ z => 8 + 4 * z.length
  | .regs l => 8 * l.length
  | .topo t e _ => 24 * t.length + 2 * e.length + 1
  | .layers l z => 42 * l.length + 56 * z.length
  | .flips l => (l.map (fun f => 20 + 4 * f.2.entries.length)).sum
  | .fences l => 8 * l.length
  | .surfs l => 24 * l.length
  | .data _ _ c => 16 + c.length
  | .mesh _ w => 4 + 8 * w.length
  | .locks l => 16 * l.length
  | .ptp _ _ => 16
  | .coder l => 3 * l.length
  | .lch c _ _ l => c.length + 20 + 16 * l.length
  | .servo _ _ => 9
  | .shref l => 16 * l.length
  | .replay l => 13 * l.length
  | .keys t l => 35 * t.length + 3 * l.length

/-- Does a pair mirror a staged change: layers and the coder (R376)? -/
def Change.mirrored : Change → Bool
  | .layer _ => true
  | .coder _ _ _ _ => true
  | _ => false

/-- The DRAM of a surface in parts of at most 1 MiB. -/
def State.surfParts (s : State) (u : Surf) : List MirrorItem :=
  let len := u.bufs * foot u.fmt u.w u.h
  (List.range ((len + 1048575) / 1048576)).map (fun k =>
    let lo := u.addr + k * 1048576
    let hi := min (u.addr + len) (lo + 1048576)
    .data lo hi (s.mem.dram.filter (fun x => lo ≤ x.1 && x.1 < hi)))

/-- The DRAM of a layer's meshes. -/
def State.meshPart (s : State) (l : Nat) : MirrorItem :=
  let lo := s.meshAddr l false
  .data lo (lo + 69632) (s.mem.dram.filter (fun x => lo ≤ x.1 && x.1 < lo + 69632))

/-- The mirrored state of this lead (R376). -/
def State.mirrorItems (s : State) : List MirrorItem :=
  let host := s.pix.surfs.filter (fun x => !s.streamTarget x.1)
  let surfs : Map Surf := s.pix.surfs.map (fun x => (x.1, { x.2 with held := none, cur := if s.streamTarget x.1 then none else x.2.cur }))
  let flips : Map Flip := s.pix.flips.map (fun x => (x.1, { x.2 with deadline := none }))
  let bare (p : Ptp) : Ptp := { domain := p.domain, ports := p.ports.map (fun y => { y with master := none }) }
  [.epochs s.leadEpoch s.evt.fepoch (s.pwr.sleep.map (·.epoch)), .regs (s.regs.filter (fun x => mirroredReg x.1)),
   .topo s.net.table s.net.ends s.pai.tails, .layers s.pix.layers (s.pix.staged.filter (fun p => p.change.mirrored)), .flips flips,
   .fences s.pix.fences, .surfs surfs, .locks (s.pix.streams.map (·.conf)), .ptp (bare s.tmu.ptp0) (bare s.tmu.ptp1), .coder s.pix.coder,
   .lch s.lch.cfg s.lch.count s.lch.sched s.known.reverse, .servo s.lch.servo s.lch.integ, .shref s.lch.shref, .replay s.cmd.replay,
   .keys s.key.tiles s.key.tileLast] ++
  s.pix.meshes.map (fun x => .mesh x.1 x.2) ++ s.pix.meshes.map (fun x => s.meshPart x.1) ++ host.flatMap (fun x => s.surfParts x.2)

/-- Parts added to a list of parts: a newer copy replaces an older one. -/
def mergeItems (old new : List MirrorItem) : List MirrorItem := old.filter (fun i => !(new.any (fun j => j.key == i.key))) ++ new

/-- The parts that fit in so many bytes. -/
def takeSize : Nat → List MirrorItem → List MirrorItem
  | _, [] => []
  | n, i :: l => if i.size ≤ n then i :: takeSize (n - i.size) l else []

/-- Parts the partner has not been sent as they are now. -/
def State.unsent (s : State) : List MirrorItem := s.mirrorItems.filter (fun i => !(s.pai.sent.contains i))

/-- Send the next delta: at most 4 MiB; what has no room goes out in the next one, and replies that wait for it wait on (R377, R378). -/
def State.sendDelta (s : State) : State :=
  let left := s.unsent
  let items := takeSize 4194304 left
  let whole := items.length == left.length
  let q := (s.pai.mseqSent + 1) % 2 ^ 32
  let d : MirrorDelta := { mseq := q, first := s.pai.sent.isEmpty, last := whole, items := items }
  let held := if whole then s.pai.held else
    s.pai.held.map (fun h => if h.2.2.2 = q then (h.1, h.2.1, h.2.2.1, (q + 1) % 2 ^ 32) else h)
  ({ s with pai := { s.pai with mseqSent := q, sent := mergeItems s.pai.sent items, deltaAt := some s.now, held := held } }).send
    { port := 6, typ := 6, dest := leadAddr s.partnerNum, key := 3, body := Config.mirrorBody d }

/-- MIRROR_DELTA_SEND (R377): each P_L. -/
def execMirrorDeltaSend (s : State) : Res :=
  let due := match s.pai.deltaAt with | some a => decide (a + s.leaseUnit ≤ s.now) | none => true
  if s.alive && s.isLead && s.pai.state == .active && s.portState 6 == .active && due then .next s.sendDelta else .next s

/-- Replace the stored registers that R376 mirrors; a stream whose control changes is started or stopped as its write would. -/
def State.takeRegs (s : State) (l : Map Word) : State :=
  let isCtl (a : Nat) : Bool := (List.range 4).any (fun m => a == Reg.ingStrCtl + 0x100 * m)
  let old := s.regs.filter (fun x => !mirroredReg x.1 || isCtl x.1)
  let t := { s with regs := (l.filter (fun x => !isCtl x.1)).foldl (fun m x => Map.store regReset m x.1 x.2) old }
  (List.range 4).foldl (fun t m =>
    let a := Reg.ingStrCtl + 0x100 * m
    let w := Map.at l (regReset a) a
    if t.reg a = w then t else (t.writeStrCtl m w).1) t

/-- The part of the mirror that a Standby runs on at once: the lead epoch, without which it takes no BEAT of its partner (R366), the stream,
ingest and PTP configuration with surfaces and their data (R376), and LCH_CONFIG, which sets P_L (R367). -/
def State.applyLive (s : State) : MirrorItem → State
  | .epochs e _ _ => s.setReg Reg.glbTopoEpoch (BitVec.ofNat 32 e)
  | .regs l => s.takeRegs l
  | .surfs l =>
    let mine (n : Nat) (u : Surf) : Surf := match s.surf n with
      | some v => if s.streamTarget n ∧ v.fmt = u.fmt ∧ v.w = u.w ∧ v.h = u.h ∧ v.bufs = u.bufs ∧ v.addr = u.addr then v else u
      | none => u
    let m : Map Surf := l.map (fun x => (x.1, mine x.1 x.2))
    { s with pix := { s.pix with surfs := m } }
  | .data lo hi cells =>
    let rest := s.mem.dram.filter (fun x => !(decide (lo ≤ x.1) && decide (x.1 < hi)))
    { s with mem := { s.mem with dram := cells.foldl (fun m x => Map.store (fun _ => (0 : Byte)) m x.1 x.2) rest,
                                 bad := s.mem.bad.filter (fun w => !(decide (lo ≤ 8 * w) && decide (8 * w < hi))) } }
  | .locks l =>
    let st : List Strm := (List.range 4).map (fun m => let x := s.pix.streams.getD m {}; { x with conf := l.getD m [] })
    { s with pix := { s.pix with streams := st } }
  | .ptp a b =>
    let keep (old new : Ptp) : Ptp := 
      { old with domain := new.domain, best := none, ports := List.zipWith (fun (o n : PtpPort) => { n with master := o.master }) old.ports new.ports }
    { s with tmu := { s.tmu with ptp0 := keep s.tmu.ptp0 a, ptp1 := keep s.tmu.ptp1 b } }
  | .lch c _ _ _ => { s with lch := { s.lch with cfg := c } }
  | _ => s

/-- Whichever of two replay states has seen more. -/
def newerReplay (a b : Replay) : Replay := if a.h < b.h then b else a

/-- The rest of the mirror, which takes effect at a takeover (R371). A flip group's time-out starts again. -/
def State.applyRest (s : State) : MirrorItem → State
  | .epochs _ f z =>
    let sl : List SleepS := (List.range 4).map (fun c => let x := s.pwr.sleep.getD c {}; { x with epoch := z.getD c x.epoch })
    { s with evt := { s.evt with fepoch := f }, pwr := { s.pwr with sleep := sl } }
  | .topo t e tails =>
    let heads := ((List.range 4).filter (fun c => t.any (fun x => x.chain == c) && !tails.testBit c)).map (2 ^ ·)
    { s with net := { s.net with table := t, ends := e }, pai := { s.pai with tails := heads.sum } }
  | .layers l z =>
    { s with pix := { s.pix with layers := l, staged := s.pix.staged.filter (fun p => !p.change.mirrored) ++ z } }
  | .flips l =>
    let m : Map Flip := l.map (fun x =>
      let t := u16 x.2.req.payload 2
      (x.1, { x.2 with deadline := if t = 0 then none else some (s.now + rawMs t) }))
    { s with pix := { s.pix with flips := m } }
  | .fences l => { s with pix := { s.pix with fences := l } }
  | .mesh n m => { s with pix := { s.pix with meshes := Map.put s.pix.meshes n m } }
  | .coder l => { s with pix := { s.pix with coder := l } }
  | .lch _ count sched ls =>
    let past := (ls.filter (fun l => decide ((l.at_ : Int) ≤ s.derivedNow))).reverse
    { s with lch := { s.lch with count := count, sched := sched, past := past, table := ls.filter (fun l => decide (s.derivedNow < (l.at_ : Int))) } }
  | .servo v i => { s with lch := { s.lch with servo := v, integ := i } }
  | .shref l => { s with lch := { s.lch with shref := l } }
  | .replay l =>
    { s with cmd := { s.cmd with replay := l.foldl (fun m x => Map.put m x.1 (newerReplay (Map.at m {} x.1) x.2)) s.cmd.replay } }
  | .keys t l => { s with key := { s.key with tiles := t, tileLast := l } }
  | _ => s

/-- Surfaces stand before the registers that name them. -/
def liveOrder (l : List MirrorItem) : List MirrorItem := l.filter (fun i => i.key.1 != 1) ++ l.filter (fun i => i.key.1 == 1)

/-- The first mirror message that waits is used up. -/
def State.takeMirr (s : State) : State :=
  match s.net.inbox.find? (fun m => m.typ == 6) with
  | some m => s.takeMsgRow m
  | none => s

/-- MIRROR_DELTA_APPLY (R377): a complete, authenticated delta, in MSEQ order; the first of a baseline begins afresh. -/
def execMirrorDeltaApply (d : MirrorDelta) (s : State) : Res :=
  if !(s.alive && s.isLead && s.pai.state == .standby) then .next s
  else
    let t := s.takeMirr
    if !(d.first || (s.pai.begun && d.mseq == (s.pai.mseqAck + 1) % 2 ^ 32)) then .next t
    else
      let base := if d.first then [] else s.pai.mirror
      let t := (liveOrder d.items).foldl State.applyLive t
      let t := { t with pai := { t.pai with mirror := mergeItems base d.items, begun := true, mseqAck := d.mseq,
                                            baseline := (s.pai.baseline && !d.first) || d.last } }
      .next t.watchMirror

/-- MIRROR_STALE (R377, R378): a Standby too far behind, or an Active lead without an acknowledgement, for LEASE × P_L. -/
def execMirrorStale (s : State) : Res :=
  if !(s.alive && s.isLead) || s.pai.mirrorStale then .next s
  else match s.pai.state with
  | .standby =>
    (match s.pai.behind with
     | some a => if a + s.leaseTime ≤ s.now then .next (({ s with pai := { s.pai with mirrorStale := true } }).raise 773 2 0) else .next s
     | none => .next s)
  | .active =>
    if s.pai.ackAt + s.leaseTime ≤ s.now then
      .next ((({ s with pai := { s.pai with mirrorStale := true } }).raise 773 2 2).release (fun _ => true))
    else .next s
  | _ => .next s

/-! ### Takeover (R370, R371, R373) -/

/-- The mirrored lead epoch. -/
def State.mirroredEpoch (s : State) : Nat :=
  (s.pai.mirror.findSome? (fun i => match i with | .epochs e _ _ => some e | _ => none)).getD s.leadEpoch

/-- Announce every launch whose announcement instant has already passed, at most `k` of them (R373). -/
def State.announceDue : Nat → State → State
  | 0, s => s
  | k + 1, s => match s.announceNext with | some t => State.announceDue k t | none => s

/-- The first launch of a new Active lead (R373): m and L(m), from LAST_N and LAST_L. -/
def State.firstLaunch (s : State) : Nat × Nat :=
  let p := 1000 * lchPcoast s.lch.cfg
  let d : Int := s.derivedNow + 1000 * rawUs 500 - s.pai.lastL
  let k := if d ≤ 0 ∨ p = 0 then 1 else max 1 ((d.toNat + p - 1) / p)
  ((s.pai.lastN + k) % 2 ^ 32, s.pai.lastL + k * p)

/-- Ephemeris enters RUN under the first-launch rule, where launches ran: LCH_CONFIG is mirrored and a launch was announced. Without a
VALID active domain it is in HOLD (R192). -/
def State.resumeLaunches (s : State) : State × Nat :=
  if s.lch.cfg.isEmpty ∨ s.pai.lastL = 0 then (s, 0)
  else
    let (m, l) := s.firstLaunch
    let last : Launch := { n := s.pai.lastN, at_ := s.pai.lastL }
    let t := if s.known.any (fun x => x.n == last.n) then s
      else if (last.at_ : Int) ≤ s.derivedNow then { s with lch := { s.lch with past := last :: s.lch.past } }
      else { s with lch := { s.lch with table := s.lch.table ++ [last] } }
    let t := { t with lch := { t.lch with count := (m + 2 ^ 32 - 1) % 2 ^ 32, stopN := none, edge := none, sinceEdge := 0 } }
    if t.actDom.valid then
      let t := ({ t with lch := { t.lch with state := .run } }).raise 192 1 0
      ((t.announce l l t.derived).announceDue 8, m)
    else (({ t with lch := { t.lch with state := .hold } }).raise 192 1 0x102, m)

/-- Take the token (R371). -/
def State.takeToken (s : State) (handover : Bool) : State :=
  let e := s.mirroredEpoch
  let e' := if e + 1 = 2 ^ 32 then 1 else e + 1
  let t := (s.setPair .takeover).setReg Reg.glbTopoEpoch (BitVec.ofNat 32 e')
  let t := s.pai.mirror.foldl State.applyRest t
  let word (c : Nat) : Option Nat :=
    if t.pai.tails.testBit c then some (t.lastPos c * 256) else if (t.chainPos c).isEmpty then none else some 0xFF
  let t := { t with pai := { t.pai with rmap := (List.range 4).map word, relay := 0 } }
  let t := t.sendTake e
  let t := t.enterActive
  let t := { t with pai := { t.pai with mirror := [], begun := false, baseline := false, behind := none, tRecv := none,
                                        partner := if handover then 3 else 7 } }
  let (t, m) := t.resumeLaunches
  (t.bump Reg.paiTakeovers).raiseA 771 2 (bn handover + m % 2 ^ 24 * 256) true

/-- TAKEOVER_ATTEMPT (R370): at X and each P_L after it; `answered` are the chains whose fresh PDREQ was answered within t_probe. -/
def execTakeoverAttempt (answered : List Nat) (s : State) : Res :=
  let due := match s.expiry with
    | some x => decide (x ≤ s.now) && (match s.pai.lastTry with | some a => decide (a + s.leaseUnit ≤ s.now) | none => true)
    | none => false
  if !(s.alive && s.isLead && s.pai.state == .standby && !s.pwr.inert && due) then .next s
  else
    let ok (c : Nat) : Bool := s.portState c == .open_ && answered.contains c
    let probe (t : State) (c : Nat) : State :=
      if s.portState c = .open_ then t.sendPdreq c else t
    let t := s.ringChains.foldl probe s
    let seen := ((s.ringChains.filter ok).map (2 ^ ·)).sum
    let t := { t with pai := { t.pai with ringSeen := seen, lastTry := some s.now } }
    let reason := if !s.isArmed 0x0901 then 1 else if !s.mirrorCur && !s.isArmed 0x0902 then 2
      else if s.ringChains.all ok then 0 else 3
    if reason = 0 then .next (t.takeToken false)
    else if s.pai.told then .next t
    else .next (({ t with pai := { t.pai with told := true } }).raise 772 3 reason)

/-- LEASE_LAPSE (R367): a BOUND Active lead reaches D_a. -/
def execLeaseLapse (s : State) : Res :=
  if s.alive && s.isLead && s.pai.state == .active && s.leaseOver then
    let t := s.leaveActive.setPair .lapsed
    .next ((t.goInert.bump Reg.paiLapses).raise 770 4 (min 255 s.pai.missed))
  else .next s

/-! ### Handover (R375) -/

/-- PAIR_HANDOVER completes with WRONG_STATE (DETAIL 0x0903): the lead stays Active. -/
def State.dropHandover (s : State) (r : Req) : State :=
  ({ s with pai := { s.pai with handover := none, flushing := none } }).complete r stWrongState

/-- The last delta is acknowledged: HANDOVER, Standby, and the command's completion. -/
def State.finishHandover (s : State) (r : Req) : State :=
  let (n, l) := s.lastAnnounced
  let t := s.sendBeat 6 s.pai.bseq 0 s.pai.mseqSent n l false
  let t := ({ t with pai := { t.pai with handover := none, flushing := none, partner := 1 } }).enterStandby
  t.complete r stOk

/-- PAIR_HANDOVER (R375, R384). -/
def execPairHandover (r : Req) (s : State) : Res :=
  runReq 0x0902 r s fun s =>
    match timeAt r.payload 0 with
    | none => (s, rspParam 0)
    | some h =>
      if s.pai.state ≠ .active then s.wrongPair
      else if s.pai.handover.isSome then (s, rspErr stBusy 0x0902)
      else ({ s with pai := { s.pai with handover := some (r, h) } }, rspAccepted)

/-- HANDOVER_START (R375): at H the lead announces nothing further and sends the remaining delta, or stays Active. -/
def execHandoverStart (s : State) : Res :=
  match s.pai.handover with
  | some (r, h) =>
    if !(s.alive && s.pai.flushing.isNone && decide ((h : Int) ≤ s.derivedNow)) then .next s
    else if s.pai.state ≠ .active ∨ s.pai.partner ≠ 3 ∨ !s.pai.bound then .next (s.dropHandover r)
    else .next ({ s with pai := { s.pai with flushing := some s.now } }).sendDelta
  | none => .next s

/-- HANDOVER_ACK_TIMEOUT (R375): the remaining delta is not acknowledged within LEASE × P_L. -/
def execHandoverAckTimeout (s : State) : Res :=
  match s.pai.handover, s.pai.flushing with
  | some (r, _), some a => if s.alive ∧ a + s.leaseTime ≤ s.now then .next (s.dropHandover r) else .next s
  | _, _ => .next s

/-- HANDOVER_RECEIVED (R375): a Standby takes the token at once. -/
def execHandoverReceived (m : Msg) (s : State) : Res :=
  let t := s.takeMsgRow m
  if !(s.beatFrom m 6 && s.pai.state == .standby) then .next t
  else
    let t := { t with pai := { t.pai with lastN := u32 m.body 20, lastL := (timeAt m.body 24).getD t.pai.lastL } }
    .next (t.takeToken true)

/-- Is a mirror sequence number not past another, taken modulo 2^32? -/
def mseqAtMost (q w : Nat) : Bool := decide ((q + 2 ^ 32 - w) % 2 ^ 32 < 2 ^ 31)

/-- Does an acknowledged mirror sequence number lie past the last one acknowledged and not past the last one sent (R377)? -/
def State.acksNew (s : State) (q : Nat) : Bool :=
  let adv := (q + 2 ^ 32 - s.pai.mseqAck) % 2 ^ 32
  let ahead := (s.pai.mseqSent + 2 ^ 32 - q) % 2 ^ 32
  decide (0 < adv) && decide (adv < 2 ^ 31) && decide (ahead < 2 ^ 31)

/-- The lead takes the ACK of the RENEW b: it is bound, holds the token from when it sent that RENEW, and has missed none (R367, R368). -/
def State.ackRenew (s : State) (b : Nat) : State :=
  let sentAt := (s.pai.renews.find? (fun x => x.1 == b)).map Prod.snd
  let hold := match s.pai.tHold, sentAt with
    | some a, some x => some (max a x)
    | none, some x => some x
    | a, none => a
  { s with pai := { s.pai with
      bound := true, tHold := hold, renewAcked := s.pai.renewAcked || b == s.pai.bseq,
      missed := if sentAt.isSome then 0 else s.pai.missed } }

/-- The mirror is no longer stale: EV_773 code 3 (R377). -/
def State.unstale (s : State) : State :=
  if s.pai.mirrorStale then ({ s with pai := { s.pai with mirrorStale := false } }).raise 773 2 3 else s

/-- The partner's mirror has taken the deltas up to q: the replies waiting for them are sent (R377, R378). -/
def State.ackMirror (s : State) (q : Nat) : State :=
  if s.acksNew q then
    (({ s with pai := { s.pai with mseqAck := q, ackAt := s.now } }).unstale).release (mseqAtMost q)
  else s

/-- A flush before a handover that the partner has acknowledged whole ends in the handover (R375). -/
def State.ackFlush (s : State) : State :=
  match s.pai.handover, s.pai.flushing with
  | some (r, _), some _ => if s.pai.mseqAck = s.pai.mseqSent ∧ s.unsent.isEmpty then s.finishHandover r else s
  | _, _ => s

/-- ACK_RECEIVED (R367, R368, R377, R378, R375). -/
def execAckReceived (m : Msg) (s : State) : Res :=
  let t := s.takeMsgRow m
  if !s.beatFrom m 2 then .next t
  else
    let t := t.notePartner 3
    if s.pai.state ≠ .active then .next t
    else .next (((t.ackRenew (u32 m.body 8)).ackMirror (u32 m.body 16)).unbindCheck).ackFlush

/-! ### Tiles (R372, R380) -/

/-- Is the sender of a BEAT a lead of the tile's pair? -/
def State.fromPair (s : State) (m : Msg) : Bool := s.net.valid && u8 m.body 3 % 16 / 2 * 2 == s.net.addr / 256 / 2 * 2

/-- Apply RMAP_c of the tile's chain. -/
def State.applyRmap (s : State) (m : Msg) : State :=
  let c := s.net.addr / 64 % 4
  { s with pai := { s.pai with rmap := s.pai.rmap.set c (some (u32 m.body (36 + 4 * c))) } }

/-- DETAIL of EV_778. -/
def State.ev778 (s : State) (take : Bool) : Nat :=
  bn take + bn s.relayRx * 2 + (if s.relayRx then s.relayDist % 256 * 256 else 0)

/-- DETAIL of EV_70 for a message. -/
def ev70 (m : Msg) : Nat := m.port + m.typ * 16 + bn m.dir * 256

/-- TAKE_RECEIVED (R372): a tile adopts the new lead epoch and its relay map; any other TAKE is discarded with EV_70. A lead notes its
partner. -/
def execTakeReceived (m : Msg) (s : State) : Res :=
  let t := s.takeMsgRow m
  if !s.alive then .next s
  else if s.isLead then .next (if s.beatFrom m 4 then t.notePartner 1 else t)
  else
    let e := u32 m.body 4
    let prev := u32 m.body 12
    if u8 m.body 1 = 4 ∧ s.fromPair m ∧ prev = s.leadEpoch ∧ e ≠ 0 ∧ e ≠ prev then
      let u := (t.setReg Reg.glbTopoEpoch (BitVec.ofNat 32 e)).applyRmap m
      .next (u.raise 778 1 (u.ev778 true))
    else .next (t.raise 70 2 (ev70 m))

/-- RMAP_RECEIVED (R380): with RELAY on the downstream port, in the tile's own epoch; entering or leaving relay reception raises EV_778. -/
def execRmapReceived (m : Msg) (s : State) : Res :=
  let t := s.takeMsgRow m
  if !s.alive || !s.isTile then .next t
  else if u8 m.body 1 = 5 ∧ s.fromPair m ∧ u32 m.body 4 = s.leadEpoch ∧ m.relay ∧ m.port = s.downPort then
    let u := t.applyRmap m
    .next (if u.relayRx = s.relayRx then u else u.raise 778 1 (u.ev778 false))
  else .next (t.raise 70 2 (ev70 m))

/-! ### Saved state (R379) -/

/-- The mirrored state that STATE_SAVE writes: a Standby's is its mirror. -/
def State.savedItems (s : State) : List MirrorItem := if s.pai.state = .standby then s.pai.mirror else s.mirrorItems

/-- STATE_SAVE (R379). -/
def execStateSave (r : Req) (s : State) : Res :=
  runReq 0x0903 r s fun s =>
    if s.pai.save.isSome then (s, rspErr stBusy 0x0903) else ({ s with pai := { s.pai with save := some r } }, rspAccepted)

/-- Does a record fit half the state area (R449, R464)? -/
def recordFits (l : List MirrorItem) : Bool := decide (FlashRec.sizeOf (.state l) ≤ halfSize 4)

/-- The record that STATE_SAVE committed (R379). -/
def State.savedState (s : State) : Option (List MirrorItem) :=
  match s.storeContent 4 with
  | some (.state l) => some l
  | _ => none

/-- STATE_SAVE_COMPLETE (R379, R464): the record commits, or is too large, or the flash refuses it (R440). -/
def execStateSaveComplete (s : State) : Res :=
  match s.pai.save with
  | some r =>
    if !s.alive || s.coreFaulted 0 then .next s
    else if s.pwr.flashBad then .next ((({ s with pai := { s.pai with save := none } }).spoil (.state s.savedItems)).complete r stHwFault)
    else if !recordFits s.savedItems then .next (({ s with pai := { s.pai with save := none } }).complete r stWrongState)
    else .next ((({ s with pai := { s.pai with save := none } }).putRecord (.state s.savedItems) true).complete r stOk)
  | none => .next s

/-- STATE_RESTORE (R379): in Solo or Standby. -/
def execStateRestore (r : Req) (s : State) : Res :=
  runReq 0x0904 r s fun s =>
    if s.pai.state ≠ .solo ∧ s.pai.state ≠ .standby then s.wrongPair
    else if s.pai.restore.isSome then (s, rspErr stBusy 0x0904)
    else ({ s with pai := { s.pai with restore := some r } }, rspAccepted)

/-- STATE_RESTORE_COMPLETE (R379): the record is loaded as a baseline: into a Standby's mirror, which is not current until the Active lead's
baseline follows, or into a Solo lead's own state. -/
def execStateRestoreComplete (s : State) : Res :=
  match s.pai.restore with
  | some r =>
    let t := { s with pai := { s.pai with restore := none } }
    if !s.alive || s.coreFaulted 0 then .next s
    else match s.savedState with
      | none => .next (t.complete r stWrongState)
      | some l =>
        let t := (liveOrder l).foldl State.applyLive t
        if s.pai.state = .standby then .next (({ t with pai := { t.pai with mirror := l, begun := false, baseline := false } }).watchMirror.complete r stOk)
        else
          let t := l.foldl State.applyRest t
          .next (({ t with pai := { t.pai with tails := s.pai.tails } }).complete r stOk)
  | none => .next s

/-! ### Registers and status (R384, R385) -/

/-- PAI_STATUS. -/
def State.paiStatus (s : State) : Nat :=
  s.pai.state.code * 2 ^ 29 + s.pai.partner * 2 ^ 26 + bn s.pai.bound * 2 ^ 25 + bn (s.pai.state == .standby && s.mirrorCur) * 2 ^ 24 +
    bn (s.pai.state == .active && s.pai.mirrorStale) * 2 ^ 23 + s.pai.ringSeen * 65536 + s.pai.relay * 4096

/-- PAI_LEASE_LEFT: µs to D_a or to X; a Solo lead, which has neither, reads the reset value. -/
def State.leaseLeft (s : State) : Nat :=
  let end_ := if s.pai.state = .active then (if s.pai.bound then s.leaseEnd else none) else if s.pai.state = .standby then s.expiry else none
  match end_ with
  | some d => min 0xFFFFFFFF ((d - s.now) / 65536)
  | none => if s.pai.state = .solo then 0 else 0xFFFFFFFF

/-- PAI_MSEQ_SENT: a Standby shows the latest delta applied. -/
def State.mseqShown (s : State) : Nat := if s.pai.state = .standby then s.pai.mseqAck else s.pai.mseqSent

/-- PAIR_STATUS (R384). -/
def execPairStatus (r : Req) (s : State) : Res :=
  runReq 0x0901 r s fun s =>
    (s, rspOk (b4 s.paiStatus ++ b4 s.leaseLeft ++ b4 s.pai.bseq ++ b4 s.mseqShown ++ b4 s.pai.mseqAck ++
      (List.range 5).flatMap (fun k => b4 (s.reg (Reg.paiRenewMiss + 4 * k)).toNat)))

/-- PAI_CNT_CLR (R385). -/
def execPaiCntClr (data : Word) (s : State) : Res :=
  if !s.alive || !s.isLead then .next s else .next (s.clearCounters Reg.paiRenewMiss 5 data.toNat)

/-- LINK_LOST (R93, R103, R105, R368, R381). -/
def execLinkLost (port : Nat) (c1 : Bool) (s : State) : Res :=
  if !s.alive || 8 ≤ port then .next s else .next (s.linkFault port c1)

end Sys2Proof.Machine
end

