-- ==== Sys2Proof/Machine/Domains.lean ====
section
/-! DEFINITION. Which power domains are on (R42, R467, R468), the forced-off mask (R469) and the power status (R495). -/

namespace Sys2Proof.Machine

/-- Is the chip, or its chain c in a lead, in Twilight? -/
def State.asleepAt (s : State) (c : Nat) : Bool := let x := (s.pwr.sleep.getD c {}).state; x == .twilight

/-- Is SerDes lane k of port p powered (R467, R486)? In Twilight lane 0 of an UP or OPEN port alone. -/
def State.laneOn (s : State) (p k : Nat) : Bool :=
  let st := s.portState p
  if s.isTile then
    if s.asleepAt 0 then k == 0 && (st == .up || st == .open_) else st != .off
  else if decide (p < 4) && s.asleepAt p then k == 0 else st != .off

/-- Is PCS and MAC of port p powered? -/
def State.pcsOn (s : State) (p : Nat) : Bool :=
  s.portState p != .off && !(if s.isTile then s.asleepAt 0 else decide (p < 4) && s.asleepAt p)

/-- OCM banks that locked streams take, from bank 31 downward (R235). -/
def State.lockedBanks (s : State) : Nat :=
  ((List.range 4).map (fun m => let x := s.strm m; if x.lock.isEmpty then 0 else s.lockBanks m (lockLines x.lock))).sum

/-- Is OCM bank n powered (R42)? A bank that the configuration does not need is not. DESIGN CHOICE (log entry 13): the spec does not say which
configuration needs a bank. In a tile the plane memory banks are those that the regions of R289 reach, 50 to 53 go with an UP or OPEN port, 54
to 59 with LPP_CONFIG and 60 and 61 with EMS_CONFIG. In a lead banks 0 to 7 go with CMP_CFG.ENABLE, 8 to 31 with the locked streams that take
them, each four of 32 to 47 with composition and the chain port they serve, 48 to 57 with an enabled stream, 58 and 59 with P6, a relay or the
lead link; 60 to 63 are always on. -/
def State.bankOn (s : State) (n : Nat) : Bool :=
  if s.isTile then
    if n < 50 then !s.lpp.cfg.isEmpty && decide (n * 262144 < nRegions (emsDpl s.ems.cfg) * (64 * emsDpl s.ems.cfg * 160))
    else if n < 54 then (List.range 2).any (fun p => s.portState p == .up || s.portState p == .open_)
    else if n < 60 then !s.lpp.cfg.isEmpty
    else if n < 62 then !s.ems.cfg.isEmpty
    else true
  else if s.isLead then
    if n < 8 then s.bit Reg.cmpCfg 0
    else if n < 32 then decide (32 - s.lockedBanks ≤ n)
    else if n < 48 then s.bit Reg.cmpCfg 0 && s.portState ((n - 32) / 4) != .off
    else if n < 58 then (List.range 4).any s.strOn
    else if n < 60 then s.portState 6 == .active || s.portState 7 == .active || s.pai.relay != 0
    else true
  else decide (62 ≤ n)

/-- Is domain d powered (R467)? -/
def State.domOn (s : State) (d : Nat) : Bool :=
  let t := s.isTile
  let nap := t && s.asleepAt 0
  s.alive && (
    if d < 32 then s.laneOn (d / 4) (d % 4)
    else if d < 40 then s.pcsOn (d - 32)
    else if d < 48 then !nap && (s.mem.chans.getD (d % 4) {}).st != .off
    else if d < 56 then !nap && s.bit Reg.cmpCfg 0 && (s.isLead || (t && d == 48))
    else if d < 64 then s.isLead && s.bit Reg.cmpCfg 0
    else if d < 72 then !nap && ((s.isLead && s.bit Reg.cmpCfg 0) || (t && !s.lpp.cfg.isEmpty))
    else if d < 76 then !nap && t && !s.lpp.cfg.isEmpty && (d != 75 || lppPrims s.lpp.cfg == 4)
    else if d < 80 then !nap && t && (emsBanks s.ems.cfg).testBit (d - 76)
    else if d < 144 then !nap && s.bankOn (d - 80)
    else if d = 144 then s.isLead && (s.strOn 0 || s.strOn 1)
    else if d = 145 then s.isLead && (s.strOn 2 || s.strOn 3)
    else if d = 146 then s.isLead
    else if d = 147 then !nap
    else if d = 148 then t && !nap
    else if d = 149 then true
    else !nap && (d == 150 || d == 151))

/-- Does the main side of the metrology link run: out of reset, with domain 147 on (R467, R486)? -/
def State.mailboxOn (s : State) : Bool := s.alive && !(s.isTile && s.asleepAt 0)

/-- Word k of PWR_DOM_ON. -/
def State.domOnWord (s : State) (k : Nat) : Nat :=
  (List.range 32).foldl (fun a j => if 32 * k + j < 152 ∧ s.domOn (32 * k + j) then a + 2 ^ j else a) 0

/-- Word k of PWR_DOM_OFF. -/
def State.domOffWord (s : State) (k : Nat) : Nat := s.pwr.domOff / 2 ^ (32 * k) % 2 ^ 32

/-- PWR_SET (R469): the 160-bit mask, domain 0 in its lowest bit. -/
def execPwrSet (r : Req) (s : State) : Res :=
  runReq 0x0E00 r s fun s =>
    let m := beNat r.payload % 2 ^ 152
    if [146, 147, 150, 151].any m.testBit then (s, rspParam 0)
    else if (List.range 152).any (fun d => m.testBit d && s.domOn d) then (s, rspErr stWrongState 0x0E02)
    else (({ s with pwr := { s.pwr with domOff := m } }).raise 38 1 (min 255 (popCount 152 m)), rspOk)

/-- PWR_RST_CAUSE (R494). -/
def State.rstCauseWord (s : State) : Nat :=
  min 255 s.pwr.warmCnt * 2 ^ 24 + s.pwr.bootStrap % 4 * 2 ^ 18 + s.pwr.roleStrap % 4 * 2 ^ 16 + s.pwr.rstCause % 64

/-- The operating range of a supply class of the island, in mV: the lowest and the highest VDD_MET (R513). -/
def metRangeMv (cls33 : Bool) : Nat × Nat := if cls33 then (2700, 3630) else (1620, 1980)

/-- The falling power-fail threshold of a class, in mV (R513). -/
def metTrip (cls33 : Bool) : Nat :=
  if cls33 then (2900 + clampInt (-30) 30 (Config.metTripOffset true)).toNat else (1680 + clampInt (-20) 20 (Config.metTripOffset false)).toNat

/-- The rising hysteresis of a class, in mV (R513). -/
def metHyst (cls33 : Bool) : Nat := if cls33 then 100 else 60

/-- Is VDD_MET present? DEDUCED (log entry 42): from the minimum of its class on; below it the mailbox reads 0 (R432). -/
def MetS.power (m : MetS) : Bool := decide ((metRangeMv m.cls33).1 ≤ m.vdd)

/-- Is VDD_MET in the operating range of its class? -/
def MetS.inRange (m : MetS) : Bool := m.power && decide (m.vdd ≤ (metRangeMv m.cls33).2)

/-- PWR_SUPPLY: supplies in range, and their sticky bits. -/
def State.supplyWord (s : State) : Nat :=
  (List.range 11).foldl (fun a n => if (!s.pwr.supplyOut.contains n && (n != 10 || s.met.inRange)) then a + 2 ^ n else a) 0 +
    s.fld Reg.pwrSupply 26 16 * 2 ^ 16

/-- PWR_CORE (R476). -/
def State.coreWord (s : State) : Nat :=
  let c (k : Nat) : Nat := let x := s.pwr.cores.getD k {}; x.state % 4 + x.cause % 4 * 4
  c 0 + c 1 * 16 + min 255 s.pwr.restarts * 2 ^ 16

/-- PWR_TWI. -/
def State.twiWord (s : State) : Nat :=
  let st (c : Nat) : Nat := (s.pwr.sleep.getD c {}).state.code
  st 0 * 2 ^ 28 + (if s.isLead then (st 1 + st 2 * 8 + st 3 * 64) * 2 ^ 16 else 0) + min 255 s.pwr.crossed * 256 +
    bn (s.isTile && s.pwr.wakeLatched) * 128

/-- PWR_STATUS (R495): the highest on-die temperature is that of the sensors without FAULT. -/
def execPwrStatus (r : Req) (s : State) : Res :=
  runReq 0x0E04 r s fun s =>
    let hot : Int := match s.hottest with | some (_, v) => v | none => 0
    (s, rspOk (beBytes 20 (((List.range 5).map (fun k => s.domOnWord k * 2 ^ (32 * k))).sum) ++ beBytes 20 s.pwr.domOff ++
      b4 s.rstCauseWord ++ b4 s.supplyWord ++ b4 s.coreWord ++ b4 s.twiWord ++ b2 (unsigned 16 hot) ++ zeros 2))

end Sys2Proof.Machine
end

