-- ==== Sys2Proof/Machine/Island.lean ====
section
/-! DEFINITION. The metrology island, its mailbox and the main side's end of its paths (R407 to R435). -/

namespace Sys2Proof.Machine

/-! ### Sealed parameters (R427) -/

/-- The 4-byte value of a sealed parameter; none for an identifier of no parameter. -/
def MetPar.get (p : MetPar) (id : Nat) : Option Nat :=
  if id = 1 then some p.perLen
  else if id = 2 then some p.calInt
  else if id = 3 then some p.chEn
  else if id = 4 then some p.zoneEn
  else if id < 0x10 ∨ 0x20 ≤ id then none
  else if id < 0x14 then some (p.kv.getD (id - 0x10) 0)
  else if id < 0x18 then some (p.rsh.getD (id - 0x14) 0)
  else if id < 0x1C then some (unsigned 32 (p.cv.getD (id - 0x18) 0))
  else some (unsigned 32 (p.ci.getD (id - 0x1C) 0))

/-- Is a value in the range of its parameter? -/
def metRange (id v : Nat) : Bool :=
  if id = 1 then decide (3600 ≤ v) && decide (v ≤ 2678400)
  else if id = 2 then decide (900 ≤ v) && decide (v ≤ 86400)
  else if id = 3 then decide (v ≤ 15)
  else if id = 4 then decide (v ≤ 1)
  else if id < 0x14 then decide (0x10000 ≤ v)
  else if id < 0x18 then decide (1 ≤ v) && decide (v ≤ 10000000)
  else decide (-50000 ≤ signed 32 v) && decide (signed 32 v ≤ 50000)

/-- Set a sealed parameter. -/
def MetPar.set (p : MetPar) (id v : Nat) : MetPar :=
  if id = 1 then { p with perLen := v }
  else if id = 2 then { p with calInt := v }
  else if id = 3 then { p with chEn := v }
  else if id = 4 then { p with zoneEn := v }
  else if id < 0x14 then { p with kv := p.kv.set (id - 0x10) v }
  else if id < 0x18 then { p with rsh := p.rsh.set (id - 0x14) v }
  else if id < 0x1C then { p with cv := p.cv.set (id - 0x18) (signed 32 v) }
  else { p with ci := p.ci.set (id - 0x1C) (signed 32 v) }

/-! ### Records (R421, R422) -/

/-- The sum of ZONE_LH. -/
def Meter.zoneSum (m : Meter) : Nat := m.zones.sum

/-- E_IMP, E_REV and PER_IMP of channels 0 to 3. -/
def Meter.energyBytes (m : Meter) : List Byte :=
  m.ch.flatMap (fun c => b8 c.eImp) ++ m.ch.flatMap (fun c => b8 c.eRev) ++ m.ch.flatMap (fun c => b8 c.perImp)

/-- Bytes 0 to 159 of a record of a kind, with RFLAGS[5:4] and its body. -/
def MetS.recordBody (m : MetS) (kind q : Nat) (body : List Byte) : List Byte :=
  let inv := match m.label with | some l => !l.valid | none => false
  let fl := bn inv + 2 * bn m.clkFault + 4 * bn (m.calFault != 0) + 8 * bn m.sealed + 16 * q
  b4 (m.rseq + 1) ++ b1 kind ++ b1 fl ++ b2 0 ++ beBytes 6 m.meter.mono ++ b2 0 ++
    (match m.label with | some l => timeBytes l.time | none => zeros 12) ++ b4 m.meter.period ++ fit 128 body

/-- Write a record into the log: it overwrites the record 4,096 lower. -/
def MetS.write (m : MetS) (kind q : Nat) (body : List Byte) : MetS :=
  let r := m.recordBody kind q body
  let l := m.log ++ [r ++ fit 96 (metSign m.dbgCnt r)]
  { m with log := lastOf 4096 l, rseq := m.rseq + 1, lastMono := m.meter.mono }

/-- RSEQ of a record. -/
def recSeq (r : List Byte) : Nat := u32 r 0
/-- KIND of a record. -/
def recKind (r : List Byte) : Nat := u8 r 4

/-! ### Energy and lamp-hours (R410, R411, R415) -/

/-- Energy of one sample in 1 / (1.2 × 10^8 × 2^62 × RSH) µWh: V × I over 1/4,000 s, of full scales 1.2 V and 100 mV at 2^23. -/
def MetPar.sampleEnergy (p : MetPar) (ch : Nat) (x : Int × Int) : Int :=
  x.1 * x.2 * (p.kv.getD ch 0 : Nat) * (1000000 + p.cv.getD ch 0) * (1000000 + p.ci.getD ch 0)

/-- The unit of a channel's fractions. -/
def MetPar.unit (p : MetPar) (ch : Nat) : Nat := 120000000 * 2 ^ 62 * p.rsh.getD ch 1

/-- A 24-bit converter code. -/
def clampCode (x : Int × Int) : Int × Int := (clampInt (-8388608) 8388607 x.1, clampInt (-8388608) 8388607 x.2)

/-- Add an interval's samples to a channel: positive energy to E_IMP and PER_IMP, the magnitude of negative energy to E_REV. -/
def MetPar.addEnergy (p : MetPar) (ch : Nat) (samples : List (Int × Int)) (c : MetCh) : MetCh :=
  if !p.chEn.testBit ch then c
  else
    let es := samples.map (fun x => p.sampleEnergy ch (clampCode x))
    let pos := c.fracImp + (es.map Int.toNat).sum
    let neg := c.fracRev + (es.map (fun e => (-e).toNat)).sum
    let u := p.unit ch
    { eImp := (c.eImp + pos / u) % 2 ^ 64, eRev := (c.eRev + neg / u) % 2 ^ 64, perImp := (c.perImp + pos / u) % 2 ^ 64,
      fracImp := pos % u, fracRev := neg % u }

/-- Mean voltage over an interval, in mV. -/
def MetPar.meanV (p : MetPar) (ch : Nat) (samples : List (Int × Int)) : Int :=
  roundDiv ((samples.map (fun x => (clampCode x).1)).sum * (p.kv.getD ch 0 : Nat) * (1000000 + p.cv.getD ch 0) * 1200) (2 ^ 39 * 1000000 * 4000)

/-- Mean current over an interval, in mA. -/
def MetPar.meanI (p : MetPar) (ch : Nat) (samples : List (Int × Int)) : Int :=
  roundDiv ((samples.map (fun x => (clampCode x).2)).sum * (1000000 + p.ci.getD ch 0) * 100) (2 ^ 23 * p.rsh.getD ch 1 * 4000)

/-- The accumulation of an interval, and the second that it adds to MONO. -/
def MetS.accumulate (m : MetS) (samples : List (List (Int × Int))) : MetS :=
  let of (ch : Nat) : List (Int × Int) := samples.getD ch []
  let mt := m.meter
  let ch := (List.range 4).map (fun k => m.par.addEnergy k (of k) (mt.ch.getD k {}))
  let on := m.par.zoneEn == 1
  let zones := match m.duty with
    | some d => if on then List.zipWith (fun z x => (z + x) % 2 ^ 64) mt.zones (fit' d) else mt.zones
    | none => mt.zones
  let gap := if on && m.duty.isNone then min 0xFFFFFFFF (mt.gap + 1) else mt.gap
  { m with meter := { mt with ch := ch, zones := zones, gap := gap, mono := mt.mono + 1 }, duty := none,
           vMv := (List.range 4).map (fun k => m.par.meanV k (of k)), iMa := (List.range 4).map (fun k => m.par.meanI k (of k)) }
where
  /-- Sixty-four values. -/
  fit' (d : List Nat) : List Nat := (d ++ List.replicate 64 0).take 64

/-- The open period closes: PERIOD_CLOSE, four ZONES records, and the next period opens with PER_IMP at 0 (R418). -/
def MetS.closePeriod (m : MetS) : MetS :=
  let mt := m.meter
  let m1 := m.write 0x01 0 (mt.energyBytes ++ b8 mt.zoneSum ++ b4 mt.gap ++ timeBytes m.perLabel)
  let m2 := (List.range 4).foldl (fun x q => x.write 0x02 q ((slice' mt.zones q).flatMap b8)) m1
  { m2 with meter := { mt with ch := mt.ch.map (fun c => { c with perImp := 0 }), gap := 0, period := mt.period + 1 },
            perStart := mt.mono, perLabel := match m.label with | some l => l.time | none => 0 }
where
  /-- Zones 16q to 16q + 15. -/
  slice' (z : List Nat) (q : Nat) : List Nat := (z.drop (16 * q)).take 16

/-- PARAM_CHANGE records of one request: at most ten entries fill a BODY. -/
def MetS.paramRecords (m : MetS) (seq key : Nat) : Nat → List (List Byte) → MetS
  | 0, _ => m
  | n + 1, es =>
    if es.isEmpty then m
    else MetS.paramRecords (m.write 0x04 0 (b4 seq ++ b1 key ++ zeros 3 ++ (es.take 10).flatten)) seq key n (es.drop 10)

/-- The entries of a PARAM_CHANGE record, and the parameters after them. -/
def MetPar.apply (p : MetPar) : List (Nat × Nat) → MetPar × List (List Byte)
  | [] => (p, [])
  | (id, v) :: es =>
    let (q, l) := MetPar.apply (p.set id v) es
    (q, (b1 id ++ zeros 3 ++ b4 ((p.get id).getD 0) ++ b4 v) :: l)

/-- A request's parameters take effect (R427, R429): one PARAM_CHANGE, one count of MET_AUDIT. -/
def MetS.applyParams (m : MetS) (x : Nat × Nat × List (Nat × Nat)) : MetS :=
  let (p, es) := m.par.apply x.2.2
  let rescale (k : Nat) (c : MetCh) : MetCh :=
    { c with fracImp := c.fracImp * p.unit k / m.par.unit k, fracRev := c.fracRev * p.unit k / m.par.unit k }
  let mt := m.meter
  let m1 := { m with par := p, audit := m.audit + 1, meter := { mt with ch := (List.range 4).map (fun k => rescale k (mt.ch.getD k {})) } }
  m1.paramRecords x.1 x.2.1 (es.length + 1) es

/-- At a boundary the parameters that wait take effect if the seal is still open, and are dropped otherwise (R429). -/
def MetS.takeParams (m : MetS) : MetS :=
  match m.params.getLast? with
  | none => m
  | some x =>
    if m.sealPin then { m with params := [], rsp := (stNotAuthorized, 0x0B15), rspSeq := x.1, dropped := m.dropped + m.params.length }
    else m.params.foldl (fun y e => y.applyParams e) { m with params := [] }

/-! ### Self-calibration (R413) -/

/-- A run ends: its SELF_CAL record, and CAL_FAULT after three rejections in a row. -/
def MetS.endCal (m : MetS) (c : MetCal) (ok : Bool) : MetS :=
  let rej := if ok then 0 else m.rejected.getD c.ch 0 + 1
  let m := { m with cal := none, rejected := m.rejected.set c.ch rej,
                    calFault := if 3 ≤ rej then m.calFault ||| 2 ^ c.ch else m.calFault }
  m.write 0x05 0 (b1 c.ch ++ b1 (bn ok) ++ zeros 2 ++ b4 c.spare ++ b4 c.chan)

/-- A boundary's effect on the run in progress: the agreement of the step that ends here decides. -/
def MetS.stepCal (m : MetS) (agreement : Nat) : MetS :=
  match m.cal with
  | none => m
  | some c =>
    match c.step with
    | 1 => if 200 < c.spare then m.endCal c false else { m with cal := some { c with step := 2 } }
    | 2 =>
      let d := { c with chan := agreement }
      if 500 < agreement then m.endCal d false else { m with cal := some { d with step := 3 } }
    | _ => m.endCal { c with chan := agreement } (decide (agreement ≤ 200))

/-! ### Mailbox (R432) -/

/-- Bytes of the active firmware image. -/
def MetS.image (m : MetS) : List Byte := m.fw.getD Config.metImage
/-- The software identifier (R431). -/
def MetS.swid (m : MetS) : List Byte := fit 16 (sha384 m.image)
/-- MET_FW_VER. -/
def MetS.version (m : MetS) : Nat := Config.metVersion m.image % 2 ^ 32
/-- MET_CAL_STATUS. -/
def MetS.calStatus (m : MetS) : Nat :=
  m.calFault % 16 + (match m.cal with | some c => c.ch * 16 + 128 | none => 0)

/-- A 64-bit value in a pair of words, high word first. -/
def pair64 (o v : Nat) : List (Nat × Nat) := [(o, v / 2 ^ 32 % 2 ^ 32), (o + 4, v % 2 ^ 32)]

/-- The snapshot's words by offset. -/
def MetS.words (m : MetS) : List (Nat × Nat) :=
  let mt := m.meter
  let lab := match m.label with
    | some l => pair64 0x020 (l.time / unitsPerSec) ++ [(0x028, l.time / 65536 % 1000000000), (0x02C, l.mono % 2 ^ 32)]
    | none => []
  let chan (k : Nat) : List (Nat × Nat) :=
    let c := mt.ch.getD k {}
    let o := 0x040 + 0x20 * k
    pair64 o c.eImp ++ pair64 (o + 8) c.eRev ++ pair64 (o + 0x10) c.perImp ++
      [(o + 0x18, unsigned 32 (m.vMv.getD k 0)), (o + 0x1C, unsigned 32 (m.iMa.getD k 0))]
  [(0x008, mt.mono / 2 ^ 32 % 65536), (0x00C, mt.mono % 2 ^ 32), (0x010, m.audit % 2 ^ 32), (0x014, m.reqSeq), (0x018, m.rseq % 2 ^ 32),
   (0x01C, mt.period % 2 ^ 32)] ++ lab ++ pair64 0x030 m.perStart ++ [(0x038, m.par.perLen), (0x03C, mt.gap)] ++
  (List.range 4).flatMap chan ++ [(0x0C0, m.calStatus)] ++
  (List.range 64).flatMap (fun z => pair64 (0x100 + 8 * z) (mt.zones.getD z 0)) ++
  (List.range 4).map (fun k => (0x300 + 4 * k, u32 m.swid (4 * k))) ++ [(0x310, m.version), (0x314, m.dbgCnt % 256)]

/-- The island rewrites its snapshot. -/
def MetS.snapshot (m : MetS) : MetS :=
  { m with snapSeq := (m.snapSeq + 2) % 2 ^ 32, snap := m.words.filter (fun w => w.2 != 0) }

/-- A request is in the island (R430). -/
def State.metBusy (s : State) : Bool := match s.metm.sent with | some (_, _, n) => n == s.met.answers | none => false

/-- MET_STATUS. -/
def State.metStatus (s : State) : Nat :=
  let m := s.met
  bn m.run * 2 ^ 31 + bn m.sealed * 2 ^ 30 + bn m.clkFault * 2 ^ 29 + bn m.flashFault * 2 ^ 28 + bn s.metBusy * 2 ^ 27 +
    bn (match m.label with | some l => l.valid | none => false) * 2 ^ 26 + m.linkErr % 65536

/-- A word of the mailbox at an offset (R432); all of it reads 0 while VDD_MET is absent. -/
def State.metWord (s : State) (o : Nat) : Nat :=
  let m := s.met
  if !m.power then 0
  else if o = 0 then m.snapSeq
  else if o = 4 then s.metStatus
  else if o = 0x400 then m.rsp.1 * 65536 + m.rsp.2
  else if o = 0x404 then m.rspSeq
  else if 0x1000 ≤ o ∧ o < 0x2000 then
    match m.log.find? (fun r => recSeq r == m.logSel + (o - 0x1000) / 256) with
    | some r => u32 r (o % 256)
    | none => 0
  else Map.at m.snap 0 o

/-! ### The island's rows -/

/-- INTEGRATION_BOUNDARY (R411, R415, R416, R418, R427, R429, R432): one second of island time ends; `samples` are the converter codes of
voltage and shunt of each channel, `agreement` the 10^-6 that the running self-calibration step measured. -/
def execIntegrationBoundary (samples : List (List (Int × Int))) (agreement : Nat) (s : State) : Res :=
  if !s.met.run then .next s
  else
    let m := s.met.accumulate samples
    let early := !m.params.isEmpty && !m.sealPin
    let m := if m.perStart + m.par.perLen ≤ m.meter.mono ∨ early then m.closePeriod else m
    .next { s with met := (m.takeParams.stepCal agreement).snapshot }

/-- SELF_CALIBRATION_START (R413): a channel whose offset in the cycle has come; `agreement` is that of the spare pair's two measurements. -/
def execSelfCalibrationStart (agreement : Nat) (s : State) : Res :=
  let m := s.met
  match m.cal, (List.range 4).find? (fun ch => m.meter.mono % m.par.calInt == ch * m.par.calInt / 4) with
  | none, some ch => if m.run then .next { s with met := { m with cal := some { ch := ch, spare := agreement } } } else .next s
  | _, _ => .next s

/-- CHECKPOINT (R423): every 900 s. -/
def execCheckpoint (s : State) : Res :=
  let m := s.met
  if m.run && decide (m.saved.mono + 900 ≤ m.meter.mono) then .next { s with met := { m with saved := m.meter } } else .next s

/-- A frame whose CRC fails is discarded and counted (R408). -/
def MetS.badFrame (m : MetS) : MetS := { m with linkErr := min 65535 (m.linkErr + 1) }

/-- DUTY_FRAME (R415). -/
def execDutyFrame (duty : List Nat) (inert crcOk : Bool) (s : State) : Res :=
  let m := s.met
  if !m.run then .next s
  else if !crcOk then .next { s with met := m.badFrame }
  else
    let d := (List.range 64).map (fun z => if inert then 0 else min 0xFFFF (duty.getD z 0))
    .next { s with met := { m with duty := some (match m.duty with | some e => List.zipWith (· + ·) e d | none => d) } }

/-- LABEL_FRAME (R417, R419, R420). -/
def execLabelFrame (time : Nat) (valid crcOk : Bool) (s : State) : Res :=
  let m := s.met
  if !m.run then .next s
  else if !crcOk then .next { s with met := m.badFrame }
  else
    let m := match m.label with
      | some l =>
        let want := l.time + (m.meter.mono - l.mono) * unitsPerSec
        if want + 2 * unitsPerSec < time ∨ time + 2 * unitsPerSec < want then m.write 0x03 0 (timeBytes want ++ timeBytes time) else m
      | none => m
    .next { s with met := { m with label := some { time := time, valid := valid, mono := m.meter.mono } } }

/-- LOGSEL_FRAME (R408). -/
def execLogselFrame (rseq : Nat) (crcOk : Bool) (s : State) : Res :=
  if !s.met.run then .next s
  else if !crcOk then .next { s with met := s.met.badFrame }
  else .next { s with met := { s.met with logSel := rseq } }

/-- CRYSTAL_FAULT (R417): the FAULT record's cause code and detail are open. -/
def execCrystalFault (s : State) : Res :=
  if !s.met.run || s.met.clkFault then .next s
  else
    let m := { s.met with clkFault := true }
    .next ({ s with met := m.write 0x0B 0 (beBytes 6 s.freeVal) }.freeNext)

/-- The steps of a power-fail or reset (R424, R425): the POWER_FAIL record; a self-calibration run is discarded (R414). -/
def MetS.stop (m : MetS) : MetS :=
  if !m.run then m
  else
    let m1 := m.write 0x06 0 (m.meter.energyBytes ++ b8 m.meter.zoneSum)
    { m1 with run := false, saved := m.meter, cal := none, duty := none }

/-- MET_POWER_FAIL (R424, R513): VDD_MET falls to `mv` mV; below the threshold of its class the island stops. -/
def execMetPowerFail (mv : Nat) (s : State) : Res :=
  let m := { s.met with vdd := mv }
  .next { s with met := if mv < metTrip m.cls33 then { m.stop with cause := 0, low := true } else m }

/-- MET_RESET_N_ASSERT (R425). -/
def execMetResetNAssert (s : State) : Res :=
  if !s.met.power then .next s else .next { s with met := { s.met.stop with cause := 1 } }

/-- The accumulators from the later of POWER_FAIL record and checkpoint (R425); MONO never decreases (R416) and a closed period stays closed (R418). -/
def MetS.restored (m : MetS) : Meter :=
  let v := m.saved
  if v.period = m.meter.period then { v with mono := max v.mono m.lastMono }
  else { v with mono := max v.mono m.lastMono, ch := v.ch.map (fun c => { c with perImp := 0 }), gap := 0, period := m.meter.period }

/-- The bytes of the inactive slot's first `n`. -/
def MetS.slotBytes (m : MetS) (n : Nat) : List Byte := (List.range n).map (Map.at m.slot 0xFF)

/-- Bytes as the content of a flash slot, from byte `o`. -/
def flashMap (o : Nat) : List Byte → Map Byte
  | [] => []
  | b :: bs => (o, b) :: flashMap (o + 1) bs

/-- The image that an activation chose becomes active, the other slot holding the old one; FW_CHANGE (R429). -/
def MetS.swapFw (m : MetS) : MetS :=
  match m.fwNext with
  | none => m
  | some n =>
    let old := m.image
    let m1 := { m with fw := some (m.slotBytes n), slot := flashMap 0 old, fwNext := none }
    m1.write 0x0A 0 (m.swid ++ m1.swid ++ b4 m.version ++ b4 m1.version)

/-- A change of MET_SEAL_N is recorded (R426). -/
def MetS.noteSeal (m : MetS) : MetS :=
  if m.run ∧ m.sealPin ≠ m.sealed then { m with sealed := m.sealPin }.write 0x08 0 (b1 (bn !m.sealPin)) else m

/-- May the island start at `mv` mV: at its class's threshold, and after a power fail above it by the hysteresis (R513)? -/
def MetS.mayStart (m : MetS) (mv : Nat) : Bool :=
  let c := decide (2500 ≤ mv)
  decide (metTrip c + (if m.low then metHyst c else 0) ≤ mv)

/-- ISLAND_START (R425, R513): after power, after MET_RESET_N, or by the watchdog of a running island; VDD_MET, at `mv` mV, gives the class. -/
def execIslandStart (watchdog : Bool) (mv : Nat) (s : State) : Res :=
  let m := { s.met with vdd := mv }
  if m.run != watchdog then .next s
  else if !m.mayStart mv then .next { s with met := m }
  else
    let mt := m.restored
    let lost := if watchdog then m.meter.mono - m.saved.mono else 0
    let last := m.lastMono
    let m1 := { m with cls33 := decide (2500 ≤ mv), low := false, run := true, meter := mt, clkFault := false, cal := none, duty := none, dbgOpen := false }
    let m2 := m1.write 0x07 0 (b1 (if watchdog then 2 else m.cause) ++ zeros 3 ++ beBytes 6 last ++ b2 (min 65535 lost))
    .next { s with met := m2.swapFw.noteSeal }

/-- SEAL_CHANGE (R426): the debounced level of MET_SEAL_N; low is sealed. -/
def execSealChange (low : Bool) (s : State) : Res :=
  .next { s with met := { s.met with sealPin := low }.noteSeal }

/-! ### Sealed requests (R428 to R430) -/

/-- Entries of ID and value in a parameter request's body. -/
def metEntries (body : List Byte) : List (Nat × Nat) :=
  (List.range ((body.length + 7) / 8)).map (fun k => (u8 body (8 * k), u32 body (8 * k + 4)))

/-- Offset in the MET_SEALED packet of the first offending ID or value (R429 check 7). -/
def paramFault (body : List Byte) : Option Nat :=
  (List.range ((body.length + 7) / 8)).findSome? (fun k =>
    let id := u8 body (8 * k)
    if body.length < 8 * k + 8 ∨ (({} : MetPar).get id).isNone then some (48 + 8 * k)
    else if !metRange id (u32 body (8 * k + 4)) then some (48 + 8 * k + 4)
    else none)

/-- Checks 1 to 4 of R429, before REQ_SEQ is consumed. -/
def MetS.earlyCheck (m : MetS) (p : List Byte) : Option (Nat × Nat) :=
  let blen := u16 p 22
  if slice p 0 16 ≠ (List.range 16).map Config.metUnit then some (stBadParam, 24)
  else if p.length < 120 + blen then some (stBadParam, 46)
  else match Config.metKey (u8 p 21) with
  | none => some (stNotAuthorized, 0x0B11)
  | some key =>
    if 3 < u8 p 21 then some (stNotAuthorized, 0x0B11)
    else if !ecdsaOk key (p.take (24 + blen)) (slice p (24 + blen) 96) then some (stAuthFail, 0x0B12)
    else if u32 p 16 ≠ (m.reqSeq + 1) % 2 ^ 32 then some (stReplay, 0x0B13)
    else none

/-- Checks 5 to 7. -/
def MetS.lateCheck (m : MetS) (p : List Byte) : Option (Nat × Nat) :=
  let kind := u8 p 20
  let body := slice p 24 (u16 p 22)
  if kind = 0 ∨ 4 < kind ∨ !Config.metPerm (u8 p 21) kind then some (stNotAuthorized, 0x0B14)
  else if m.sealed then some (stNotAuthorized, 0x0B15)
  else if kind = 1 then (paramFault body).map (fun o => (stBadParam, o))
  else if kind = 2 ∧ (body.length < 4 ∨ Config.metSlotSize < u32 body 0 + (body.length - 4)) then some (stBadParam, 48)
  else none

/-- Write bytes into the inactive slot. -/
def flashWrite (m : Map Byte) (o : Nat) : List Byte → Map Byte
  | [] => m
  | b :: bs => flashWrite (Map.put m o b) (o + 1) bs

/-- A request that passed every check is applied (R429); the answer. -/
def MetS.applyReq (m : MetS) (p : List Byte) : MetS × Nat × Nat :=
  let body := slice p 24 (u16 p 22)
  match u8 p 20 with
  | 1 => ({ m with params := m.params ++ [(u32 p 16, u8 p 21, metEntries body)] }, stOk, 0)
  | 2 => ({ m with slot := flashWrite m.slot (u32 body 0) (body.drop 4) }, stOk, 0)
  | 3 =>
    let n := u32 body 0
    if n ≤ Config.metSlotSize ∧ sha384 (m.slotBytes n) = slice body 4 48 then ({ m with fwNext := some n, audit := m.audit + 1 }, stOk, 0)
    else (m, stIntegrity, 0x0B17)
  | _ =>
    let g := m.dbgCnt + 1
    let m1 := { m with dbgCnt := g, audit := m.audit + 1, dbgOpen := true }
    (m1.write 0x09 0 (b4 m1.audit ++ fit 16 (sha384 (metPublic g))), stOk, 0)

/-- The island's handling of a request. -/
def MetS.request (m : MetS) (p : List Byte) : MetS :=
  let done (x : MetS) (a : Nat × Nat) : MetS := { x with rsp := a, rspSeq := u32 p 16, answers := x.answers + 1 }
  match m.earlyCheck p with
  | some a => done m a
  | none =>
    let m1 := { m with reqSeq := u32 p 16 }
    match m1.lateCheck p with
    | some a => done m1 a
    | none => let (m2, st, d) := m1.applyReq p; done m2 (st, d)

/-- REQUEST_FRAME (R429). -/
def execRequestFrame (payload : List Byte) (crcOk : Bool) (s : State) : Res :=
  if !s.met.run then .next s
  else if !crcOk then .next { s with met := s.met.badFrame }
  else .next { s with met := s.met.request payload }

/-! ### The main side -/

/-- Lamps mapped in each zone (R274, R281). -/
def State.zoneLamps (s : State) : List Nat :=
  let ds := (lanesOf 15).flatMap (fun l => (List.range 256).map (fun d => 256 * l + d))
  let zs := (ds.filter (fun i => s.bit (Reg.lppDmap + 4 * i) 31)).flatMap (fun i =>
    (List.range 64).filterMap (fun b => (s.lampOf i b).map (fun l => zoneOf (lppW s.lpp.cfg) (lppH s.lpp.cfg) l.1 l.2.1)))
  (List.range 64).map (fun z => zs.count z)

/-- D_z of every zone since the last DUTY frame (R415): in 2^-16 of a second, as a mean over the zone's lamps. -/
def State.zoneDuty (s : State) : List Nat :=
  List.zipWith (fun z n => if n = 0 then 0 else min 0xFFFF (roundDivN (Map.at s.ems.duty 0 z) (16000000 * n))) (List.range 64) s.zoneLamps

/-- DUTY_SEND (R415): once per second of raw time, in both roles. -/
def execDutySend (s : State) : Res :=
  if !(s.mailboxOn && decide (s.metm.dutyAt + rawSec 1 ≤ s.now)) then .next s
  else
    let t := s.credit
    let inert := t.pwr.inert || !t.domOn 72
    let d := if inert then List.replicate 64 0 else t.zoneDuty
    .next (({ t with metm := { t.metm with dutyAt := t.now }, ems := { t.ems with duty := [] } }).emit (.duty d inert))

/-- LABEL_SEND (R417): once per second, the derived time of the active domain with VALID. -/
def execLabelSend (s : State) : Res :=
  if !(s.mailboxOn && decide (s.metm.labelAt + rawSec 1 ≤ s.now)) then .next s
  else .next (({ s with metm := { s.metm with labelAt := s.now } }).emit (.label s.derivedNow.toNat s.actDom.valid))

/-- The events of one new record (R435). -/
def State.noteRecord (s : State) (r : List Byte) : State :=
  let t := s.raise 832 0 (recKind r + recSeq r % 2 ^ 24 * 256)
  match recKind r with
  | 0x03 => t.raise 833 2 (unsigned 32 (clampInt (-2147483648) 2147483647 ((fieldAt r 44 6 : Int) - (fieldAt r 32 6 : Int))))
  | 0x05 => if u8 r 33 = 0 then t.raise 836 2 (u8 r 32) else t
  | 0x07 => (if u8 r 32 = 2 then t.raise 837 3 4 else t).raise 840 1 (u8 r 32)
  | 0x09 =>
    let u : State := { t with ks := { t.ks with fpr := some (slice r 36 16, u32 r 32) } }
    let t := if t.coreFaulted 0 then t else if t.pwr.flashBad then (t.flashFail 2).1 else u.commit 2
    t.raise 653 1 (bn t.sec.stale + t.metWord 0x314 % 256 * 256)
  | _ => t

/-- The stale flag of ISLAND_FPR (R445): MET_DBG_CNT differs from the count stored with it. -/
def State.noteStale (s : State) : State :=
  let n := s.metWord 0x314 % 256
  let x := n != (match s.ks.fpr with | some (_, c) => c % 256 | none => 0)
  if x = s.sec.stale then s else ({ s with sec := { s.sec with stale := x } }).raise 653 1 (bn x + n * 256)

/-- The poll memory as the mailbox reads now. -/
def State.pollNow (s : State) (at_ : Nat) (told : Bool) : MetPoll :=
  { head := s.met.rseq, sealed := s.met.sealed, audit := s.met.audit, gap := s.met.meter.gap, calFault := s.met.calFault, clk := s.met.clkFault,
    flash := s.met.flashFault, dropped := s.met.dropped, snapSeq := s.metWord 0, snapAt := at_, told := told }

/-- The events of a poll (R435), beside those of new records. -/
def State.noteChanges (s : State) (p : MetPoll) : State :=
  let m := s.met
  let t := (m.log.filter (fun r => decide (p.head < recSeq r))).foldl State.noteRecord s
  let t := if p.sealed = m.sealed then t else t.raise 834 2 (bn !m.sealed)
  let t := if p.audit < m.audit then t.raise 835 2 (m.audit % 65536) else t
  let t := (List.range 4).foldl (fun t ch => if m.calFault.testBit ch && !p.calFault.testBit ch then t.raise 836 2 (ch + 256) else t) t
  let t := if m.clkFault && !p.clk then t.raise 837 3 1 else t
  let t := if m.flashFault && !p.flash then t.raise 837 3 2 else t
  let t := if p.dropped < m.dropped then t.raise 838 2 0x0B15 else t
  if p.gap < m.meter.gap then t.raise 839 2 m.meter.gap else t

/-- MAILBOX_POLL (R435, R445): every 100 ms; the first poll after a reset has nothing to compare with. -/
def execMailboxPoll (s : State) : Res :=
  if !(s.mailboxOn && decide (s.metm.pollAt + rawMs 100 ≤ s.now)) then .next s
  else
    let keep (t : State) (at_ : Nat) (told : Bool) : State :=
      { t with metm := { t.metm with pollAt := t.now, poll := some (t.pollNow at_ told) } }
    match s.metm.poll with
    | none => .next (keep s s.now false).noteStale
    | some p =>
      let t := if s.met.power then s.noteChanges p else s
      let moved := p.snapSeq != s.metWord 0
      let late := !moved && !p.told && decide (p.snapAt + rawSec 3 ≤ s.now)
      let t := if late then t.raise 841 3 0 else t
      .next (keep t (if moved then s.now else p.snapAt) (!moved && (p.told || late))).noteStale

/-- The island answers a mailbox command within t_met_req. -/
def State.metAnswers (s : State) : Bool := s.met.power && s.met.run

/-- MET_READ (R433). -/
def execMetRead (r : Req) (s : State) : Res :=
  runReq 0x0B00 r s fun s =>
    let o := u32 r.payload 0
    let n := u16 r.payload 4
    if o % 4 ≠ 0 ∨ 0x2000 ≤ o then (s, rspParam 0)
    else if n < 1 ∨ 1023 < n then (s, rspParam 4)
    else if !s.metAnswers then (s, rspErr stTimeout)
    else (s, rspOk ((List.range n).flatMap (fun k => b4 (s.metWord (o + 4 * k)))))

/-- MET_LOG_READ (R433): the window is selected by a LOGSEL frame. -/
def execMetLogRead (r : Req) (s : State) : Res :=
  runReq 0x0B01 r s fun s =>
    let f := u32 r.payload 0
    let n := u16 r.payload 4
    if n < 1 ∨ 15 < n then (s, rspParam 4)
    else if !s.metAnswers then (s, rspErr stTimeout)
    else
      let head := s.metWord 0x018
      if f + 4095 < head ∨ head < f then (s, rspErr stWrongState 0x0B01)
      else
        let rs := s.met.log.filter (fun x => decide (f ≤ recSeq x) && decide (recSeq x < f + n) && decide (recSeq x ≤ head))
        (s.emit (.logSel f), rspOk (b2 rs.length ++ zeros 2 ++ rs.flatten))

/-- MET_SEALED (R428, R430): passed to the island as a REQUEST frame. -/
def execMetSealed (r : Req) (s : State) : Res :=
  runReq 0x0B02 r s fun s =>
    if s.metm.sent.isSome then (s, rspErr stBusy 0x0B02)
    else (({ s with metm := { s.metm with sent := some (r, s.now, s.met.answers) } }).emit (.request r.payload), rspAccepted)

/-- MET_SEALED_COMPLETE (R429): the final STATUS in MET_RSP. -/
def execMetSealedComplete (s : State) : Res :=
  match s.metm.sent with
  | some (r, _, n) =>
    if s.alive && s.met.power && n != s.met.answers then .next (({ s with metm := { s.metm with sent := none } }).complete r s.met.rsp.1) else .next s
  | none => .next s

/-- MET_REQUEST_TIMEOUT (R433, R434): no answer within 200 ms; an image activation by a running island has no such limit. -/
def execMetRequestTimeout (s : State) : Res :=
  match s.metm.sent with
  | some (r, at_, n) =>
    if s.alive && n == s.met.answers && decide (at_ + rawMs 200 ≤ s.now) && !(u8 r.payload 20 == 3 && s.met.run) then
      .next (({ s with metm := { s.metm with sent := none } }).complete r stTimeout)
    else .next s
  | none => .next s

/-- MET_IDENT (R433). -/
def execMetIdent (r : Req) (s : State) : Res :=
  runReq 0x0B03 r s fun s =>
    (s, rspOk ((List.range 4).flatMap (fun k => b4 (s.metWord (0x300 + 4 * k))) ++ b4 (s.metWord 0x310) ++ b4 (s.metWord 0x010) ++
      b1 (s.metWord 0x314 % 256) ++ b1 (bitsOf (s.metWord 4) 30 30) ++ zeros 2))

end Sys2Proof.Machine
end

