-- ==== Sys2Proof/Machine/Secure.lean ====
section
/-! DEFINITION. Keys, credentials, attestation, the debug gate and image updates (R436 to R462, R466). -/

namespace Sys2Proof.Machine

/-- Provisioned slots (R441): bit 16 for the domain group key. -/
def State.provMap (s : State) : Nat :=
  (List.range 16).foldl (fun a k => if (Map.find s.ks.creds k).isSome then a + 2 ^ k else a) 0 + bn s.ks.group.isSome * 2 ^ 16

/-! ### Credentials (R439 to R441) -/

/-- Remove the entries of a slot from a map at slot * 16 + class. -/
def dropSlot {α : Type} (m : Map α) (slot : Nat) : Map α := m.filter (fun x => x.1 / 16 != slot)

/-- Forget a slot's replay state and floors. -/
def State.clearReplay (s : State) (slot : Nat) : State :=
  { s with ks := { s.ks with floors := dropSlot s.ks.floors slot }, cmd := { s.cmd with replay := dropSlot s.cmd.replay slot } }

/-- Is a counter or record index of the domain group key? -/
def isGroupIdx (i : Nat) : Bool := i / 32 % 4 == 3

/-- Every group-key counter, floor and receive record starts again (R128, R547). -/
def State.clearGroup (s : State) : State :=
  { s with ks := { s.ks with gfloors := [] },
           key := { s.key with txSeq := s.key.txSeq.filter (fun x => !isGroupIdx x.1), rxSeq := s.key.rxSeq.filter (fun x => !isGroupIdx x.1),
                               stopped := s.key.stopped.filter (fun i => i % 4 != 3), floorBad := [] } }

/-- CRED_PROVISION (R439, R441). -/
def execCredProvision (r : Req) (s : State) : Res :=
  runReq 0x0C01 r s fun s =>
    let slot := u8 r.payload 0
    let purpose := if slot = 16 then 2 else 1
    if 16 < slot then (s, rspParam 0)
    else match unsealKey purpose slot s.gateGen (slice r.payload 4 160) with
    | none => (s.raise 651 2 (purpose + slot * 256), rspParam 4)
    | some k =>
      if s.pwr.flashBad then s.flashFail 2
      else
        let t := if slot = 16 then ({ s with ks := { s.ks with group := some k } }).clearGroup
          else
            let t := s.clearReplay slot
            { t with ks := { t.ks with creds := Map.put t.ks.creds slot k, masks := if slot < 15 then Map.put t.ks.masks slot 0 else t.ks.masks } }
        ((t.commit 2).raise 649 1 slot, rspOk)

/-- CRED_REVOKE (R441). -/
def execCredRevoke (r : Req) (s : State) : Res :=
  runReq 0x0C02 r s fun s =>
    let slot := u8 r.payload 0
    if 16 < slot then (s, rspParam 0)
    else if !s.provMap.testBit slot then (s, rspOk)
    else if s.pwr.flashBad then s.flashFail 2
    else
      let t := if slot = 16 then { s with ks := { s.ks with group := none } }
        else
          let t := s.clearReplay slot
          { t with ks := { t.ks with creds := Map.del t.ks.creds slot, masks := Map.del t.ks.masks slot } }
      ((t.commit 2).raise 649 1 (slot + 256), rspOk)

/-- CRED_PERM (R441). -/
def execCredPerm (r : Req) (s : State) : Res :=
  runReq 0x0C03 r s fun s =>
    let slot := u8 r.payload 0
    if 14 < slot then (s, rspParam 0)
    else if (Map.find s.ks.creds slot).isNone then (s, rspErr stWrongState 0x0C01)
    else if s.pwr.flashBad then s.flashFail 2
    else ((({ s with ks := { s.ks with masks := Map.put s.ks.masks slot (u16 r.payload 2) } }).commit 2).raise 649 1 (slot + 512), rspOk)

/-- CRED_STATUS (R441). -/
def execCredStatus (r : Req) (s : State) : Res :=
  runReq 0x0009 r s fun s =>
    (s, rspOk (b4 s.provMap ++ (List.range 15).flatMap (fun k => b2 (Map.at s.ks.masks 0 k)) ++ zeros 2 ++
      (List.range 256).flatMap (fun i => b4 (Map.at s.ks.floors 0 i))))

/-- SESSION_KEY in a tile (R439, R442, R443). -/
def execSessionKey (r : Req) (s : State) : Res :=
  runReq 0x0C04 r s fun s =>
    let id := u8 r.payload 0
    if 1 < id then (s, rspParam 0)
    else if s.key.lastId = some id then (s, rspErr stWrongState 0x0C05)
    else match unsealKey 3 id s.gateGen (slice r.payload 4 160) with
    | none => (s.raise 651 2 (3 + id * 256), rspParam 4)
    | some k =>
      let other (i : Nat) : Bool := i / 32 % 4 != 1 + id
      let x := s.key
      let y := { x with lastId := some id, txSeq := x.txSeq.filter (fun e => other e.1), rxSeq := x.rxSeq.filter (fun e => other e.1),
                        stopped := x.stopped.filter (fun i => i % 4 != 1 + id) }
      (({ s with key := if id = 0 then { y with sessA := some k } else { y with sessB := some k } }).raise 650 1 (id + s.net.addr * 65536), rspOk)

/-! ### Debug gate (R437, R446 to R448) -/

/-- Internal debug is open (R437). -/
def State.gateOpen (s : State) : Bool := decide (s.otp.dbgClose < s.otp.dbgOpen)

/-- The first check of R446 that fails. -/
def State.gateCheck (s : State) (p : List Byte) : Option Rsp :=
  let k := u8 p 18
  let act := u8 p 16
  if slice p 0 16 ≠ unitIdBytes then some (rspErr stBadParam 24)
  else if 3 < k ∨ sha384 (slice p 20 96) ≠ Config.imgRootHash k ∨ s.otp.rootRevoke.testBit k then some (rspErr stNotAuthorized 15)
  else if !ecdsaOk (slice p 20 96) (p.take 116) (slice p 116 96) then some (rspErr stAuthFail 15)
  else if u8 p 17 ≠ s.gateGen then some (rspErr stReplay 15)
  else if !((act == 1 && !s.gateOpen) || (act == 2 && s.gateOpen)) then some (rspErr stWrongState 0x0C07)
  else if (if act = 1 then s.otp.dbgOpen else s.otp.dbgClose) ≥ 32 then some (rspErr stWrongState 0x0C06)
  else none

/-- An AUTH_FAIL or REPLAY that a request is answered with raises EV_17 or EV_18 (R85). -/
def State.raiseRefused (s : State) (r : Req) (a : Rsp) : State :=
  let det := r.slot * 2 ^ 28 + r.cls * 2 ^ 24 + r.tag.toNat
  if a.status = stAuthFail then s.raise 17 2 det else if a.status = stReplay then s.raise 18 2 det else s

/-- DEBUG_OPEN (R446, R447): step 1 zeroises the keys in use; the stored key store stands until step 3. -/
def execDebugOpen (r : Req) (s : State) : Res :=
  runReq 0x0C05 r s fun s =>
    if s.sec.gate.isSome then (s, rspErr stBusy 0x0C05)
    else match s.gateCheck r.payload with
    | some a => (s.raiseRefused r a, a)
    | none => ({ s with sec := { s.sec with gate := some (r, u8 r.payload 16 == 1) }, key := {} }, rspAccepted)

/-- DEBUG_GATE_COMPLETE (R447): one bit of the thermometer, the new generation's keys and an empty key store, EV_648, EV_19. -/
def execDebugGateComplete (s : State) : Res :=
  match s.sec.gate with
  | none => .next s
  | some (r, open_) =>
    if !s.alive || s.coreFaulted 0 then .next s
    else
      let o := s.otp
      let t := { s with otp := if open_ then { o with dbgOpen := o.dbgOpen + 1 } else { o with dbgClose := o.dbgClose + 1 },
                        ks := {}, key := {}, cmd := { s.cmd with replay := [] }, sec := { s.sec with gate := none } }
      let t := (t.setJournal 2 []).setJournal 5 (eraseRecs (t.journal 5) (halfSectors 2 0 ++ halfSectors 2 1))
      .next (((t.tryCommit 2).raise 648 2 (bn open_ + t.gateGen * 256)).complete r stOk)

/-! ### Images (R452, R453) -/

/-- Slot A, slot B or the load area. -/
def State.imgSlot (s : State) (k : Nat) : ImgSlot := if k = 2 then s.sec.load else s.flash.slots.getD k {}
/-- Replace a slot. -/
def State.setImgSlot (s : State) (k : Nat) (x : ImgSlot) : State :=
  if k = 2 then { s with sec := { s.sec with load := x } } else { s with flash := { s.flash with slots := s.flash.slots.set k x } }
/-- Bytes of a slot. -/
def ImgSlot.bytes (x : ImgSlot) (o n : Nat) : List Byte := (List.range n).map (fun i => Map.at x.img 0xFF (o + i))
/-- Bytes 0 to 1,295 of a slot: the header without its padding. -/
def ImgSlot.header (x : ImgSlot) : List Byte := x.bytes 0 1296
/-- VERSION, 0 if INVALID. -/
def ImgSlot.version (x : ImgSlot) : Nat := if x.mark = 0 then 0 else u32 x.header 8
/-- ARB_EPOCH. -/
def ImgSlot.arb (x : ImgSlot) : Nat := u8 x.header 12

/-- Are the header's reserved fields 0: bytes 22 to 31, HFLAGS[7:4], and the BIND entries from NBIND on? -/
def headerClean (h : List Byte) : Bool :=
  slice h 22 10 == zeros 10 && decide (u8 h 15 < 16) && ((slice h 176 1024).drop (16 * u16 h 20)).all (· == 0)

/-- The reason of the first check of R453 that an image fails; none where it is valid. -/
def State.imageReason (s : State) (x : ImgSlot) : Option Nat :=
  let h := x.header
  let root := u8 h 7
  let body := u32 h 16
  if u32 h 0 ≠ 0x4C4D4731 ∨ u16 h 4 ≠ 0x9472 ∨ !headerClean h then some 0x0D10
  else if body < 1 ∨ 8384512 < body ∨ 4096 + body ≠ x.size then some 0x0D17
  else if 0xA1 < u8 h 6 then some 0x0D11
  else if 3 < root ∨ sha384 (slice h 80 96) ≠ Config.imgRootHash root ∨ s.otp.rootRevoke.testBit root then some 0x0D12
  else if !ecdsaOk (slice h 80 96) (h.take 1200) (slice h 1200 96) then some 0x0D13
  else if 64 < u16 h 20 ∨ (u16 h 20 ≠ 0 ∧ !(List.range (u16 h 20)).any (fun k => slice h (176 + 16 * k) 16 == unitIdBytes)) then some 0x0D14
  else if u8 h 12 < s.otp.arb then some 0x0D15
  else if sha384 (x.bytes 4096 body) ≠ slice h 32 48 then some 0x0D16
  else none

/-- The state code of a slot (R456). -/
def State.slotCode (s : State) (k : Nat) : Nat :=
  if s.sec.running = some k then (if s.sec.trial then 4 else 3)
  else if s.sec.upd.any (fun u => u.slot == k) then 1
  else (s.imgSlot k).mark

/-! ### Attestation (R444, R445) -/

/-- Does the responder answer as the recovery responder? -/
def State.inRecovery (s : State) : Bool := s.pwr.phase == .recovery

/-- ATTEST (R444). -/
def execAttest (r : Req) (s : State) : Res :=
  runReq 0x0C00 r s fun s =>
    let g := s.gateGen
    let run := s.imgSlot (s.sec.running.getD 0)
    let on := s.sec.running.isSome
    let fl := bn s.gateOpen + 2 * bn s.sec.trial + 4 * bn s.inRecovery + 8 * bn s.sec.settingsReset + 16 * bn s.sec.stale
    let fpr := match s.ks.fpr with | some (f, c) => fit 16 f ++ b4 c | none => fit 16 Config.metFpr0 ++ b4 0
    let p := b4 0x947200A1 ++ unitIdBytes ++ b1 (s.pwr.roleStrap % 4) ++ b1 g ++ b1 fl ++ b1 s.otp.arb ++ b1 (bn (s.sec.running == some 1)) ++ zeros 3 ++
      b4 (if on then u32 run.header 8 else 0) ++ (if on then slice run.header 32 48 else zeros 48) ++ b4 s.provMap ++ fpr ++ slice r.payload 0 32 ++
      fit 96 (identPublic g) ++ (if g = 0 then fit 96 Config.idCert else zeros 96)
    (s, rspOk (p ++ fit 96 (identSign g p)))

/-! ### Updates (R456 to R462) -/

/-- A state that the spec refuses without naming a DETAIL. -/
def State.wrongState (s : State) : State × Rsp := (s.freeNext, rspErr stWrongState (s.freeVal % 65536))

/-- Does the lead boot from PCIe (R482)? -/
def State.pcieBoot (s : State) : Bool := s.isLead && s.pwr.bootStrap == 1

/-- First byte of slot A or B (R449). -/
def slotBase (k : Nat) : Nat := 0x10000 + 0x800000 * k

/-- The slot IMG_BEGIN names: the inactive one, A or B; the load area alone in the PCIe recovery responder. -/
def State.beginSlot (s : State) (code : Nat) : Option Nat :=
  if s.pcieBoot && s.inRecovery then (if code = 0 then some 2 else none)
  else match code with
    | 0 => some (match s.sec.running with | some 0 => 1 | some 1 => 0 | _ => 1 - s.flash.active)
    | 1 => some 0
    | 2 => some 1
    | _ => none

/-- IMG_BEGIN (R457): the slot is INVALID and its erase is scheduled. -/
def execImgBegin (r : Req) (s : State) : Res :=
  runReq 0x0D00 r s fun s =>
    let size := u32 r.payload 4
    match s.beginSlot (u8 r.payload 0) with
    | none => (s, rspParam 0)
    | some k =>
      if size < 4097 ∨ 8388608 < size then (s, rspParam 4)
      else if s.sec.trial then (s, rspErr stWrongState 0x0D02)
      else if s.sec.running = some k then (s, rspErr stWrongState 0x0D01)
      else if s.flash.pend.isSome then (s, rspErr stBusy 0x0D03)
      else if s.sec.upd.isSome then s.wrongState
      else if s.pwr.flashBad ∧ k ≠ 2 then (s.spoil (.erase (slotBase k) false), rspErr stHwFault 0x0F)
      else
        let t := s.setImgSlot k { s.imgSlot k with mark := 0 }
        let t := if k = 2 then t.setImgSlot 2 {} else ({ t with flash := { t.flash with erasing := some k } }).putRecord (.erase (slotBase k) false) true
        ({ t with sec := { t.sec with upd := some { slot := k, size := size } } }, rspOk)

/-- SLOT_ERASE_COMPLETE (R440, R451, R457): `ok` says whether the flash erased. DESIGN CHOICE (log entry 29): an erase that fails shows a flash that
fails every program and erase until one succeeds. -/
def execSlotEraseComplete (ok : Bool) (s : State) : Res :=
  match s.flash.erasing with
  | none => .next s
  | some k =>
    if !s.alive || s.coreFaulted 0 then .next s
    else
      let t := { s with pwr := { s.pwr with flashBad := !ok } }
      if !ok then .next (t.flashEvent 0 (slotBase k))
      else
        let t := (t.setImgSlot k {}).putRecord (.erase (slotBase k) true) true
        .next { t with flash := { t.flash with erasing := none } }

/-- The 64-byte units of a block. -/
def unitsFrom (o n : Nat) : List Nat := (List.range ((n + 63) / 64)).map (fun i => o / 64 + i)

/-- Write bytes into a slot. -/
def putBytes (m : Map Byte) (o : Nat) : List Byte → Map Byte
  | [] => m
  | b :: bs => putBytes (Map.store (fun _ => 0xFF) m o b) (o + 1) bs

/-- IMG_BLOCK (R457, R458): it waits while its slot is erased; a block over units already written must repeat them. -/
def execImgBlock (r : Req) (s : State) : Res :=
  if s.sec.upd.any (fun u => s.flash.erasing == some u.slot) then .next s
  else runReq 0x0D01 r s fun s =>
    let o := u32 r.payload 0
    let d := r.payload.drop 4
    let n := d.length
    match s.sec.upd with
    | none => s.wrongState
    | some u =>
      let x := s.imgSlot u.slot
      let us := unitsFrom o n
      if o % 64 ≠ 0 ∨ u.size < o + n then (s, rspParam 0)
      else if n % 64 ≠ 0 ∧ o + n ≠ u.size then (s, rspParam 4)
      else if (List.range n).any (fun i => u.units.contains ((o + i) / 64) && Map.at x.img 0xFF (o + i) != d.getD i 0) then
        (s, rspErr stWrongState 0x0D03)
      else if s.pwr.flashBad ∧ u.slot ≠ 2 then (s.flashEvent 0 (slotBase u.slot + o), rspErr stHwFault 0x0F)
      else
        let t := s.setImgSlot u.slot { x with img := putBytes x.img o d, size := u.size }
        ({ t with sec := { t.sec with upd := some { u with units := u.units ++ us.filter (fun i => !u.units.contains i) } } }, rspOk)

/-- Units of an image of a size. -/
def ImgUpdate.total (u : ImgUpdate) : Nat := (u.size + 63) / 64

/-- Bytes written of an update. -/
def ImgUpdate.written (u : ImgUpdate) : Nat := (u.units.map (fun i => min 64 (u.size - 64 * i))).sum

/-- The first unwritten offset. -/
def ImgUpdate.firstGap (u : ImgUpdate) : Nat :=
  match (List.range u.total).find? (fun i => !u.units.contains i) with
  | some i => 64 * i
  | none => u.size

/-- IMG_VERIFY (R460): every block written; the check follows. -/
def execImgVerify (r : Req) (s : State) : Res :=
  runReq 0x0D02 r s fun s =>
    match s.sec.upd with
    | none => s.wrongState
    | some u =>
      if u.verify.isSome then (s, rspErr stBusy 0x0D02)
      else if u.firstGap < u.size then s.wrongState
      else ({ s with sec := { s.sec with upd := some { u with verify := some r } } }, rspAccepted)

/-- The end of a check (R453, R460): the slot is VALID and the update closed, or EV_646 gives the reason and the command fails. -/
def State.verified (s : State) (u : ImgUpdate) (r : Req) : Option Nat → State
  | none =>
    let t := s.setImgSlot u.slot { s.imgSlot u.slot with mark := 2 }
    ({ t with sec := { t.sec with upd := none } }).complete r stOk
  | some why => (({ s with sec := { s.sec with upd := some { u with verify := none } } }).raise 646 2 why).complete r stWrongState

/-- IMG_VERIFY_COMPLETE (R453, R460). -/
def execImgVerifyComplete (s : State) : Res :=
  match s.sec.upd with
  | some u =>
    match u.verify with
    | some r => if s.alive && !s.coreFaulted 0 then .next (s.verified u r (s.imageReason (s.imgSlot u.slot))) else .next s
    | none => .next s
  | none => .next s

/-- A slot becomes INVALID. -/
def State.dropSlot (s : State) (k : Nat) : State := s.setImgSlot k { s.imgSlot k with mark := 0 }

/-- Close an open update, which leaves its slot INVALID (R461). -/
def State.closeUpdate (s : State) : State :=
  match s.sec.upd with
  | some u => ({ s with sec := { s.sec with upd := none } }).dropSlot u.slot
  | none => s

/-- Every VERIFIED slot becomes INVALID (R461). -/
def State.dropVerified (s : State) : State :=
  [0, 1, 2].foldl (fun t k => if (t.imgSlot k).mark = 2 then t.dropSlot k else t) s

/-- IMG_ABORT (R461): it closes an open update, and restores the pointer before a pending activation; with none pending, no slot stays VERIFIED. -/
def execImgAbort (r : Req) (s : State) : Res :=
  runReq 0x0D04 r s fun s =>
    let f := s.flash
    if f.pend.isNone then (s.closeUpdate.dropVerified, rspOk)
    else if s.pwr.flashBad then s.flashFail 1
    else
      let t := { s with flash := { f with pend := none, active := f.before.1, trial := f.before.2.1, left := f.before.2.2 } }
      ((t.closeUpdate.commit 1).raise 645 1 2, rspOk)

/-- Slots whose ARB_EPOCH falls below ARB can never boot again (R462). -/
def State.dropOld (s : State) : State :=
  [0, 1].foldl (fun t k => let x := t.imgSlot k; if x.mark != 0 && decide (x.arb < t.otp.arb) then t.setImgSlot k { x with mark := 0 } else t) s

/-- IMG_CONFIRM (R462). -/
def execImgConfirm (r : Req) (s : State) : Res :=
  runReq 0x0D05 r s fun s =>
    match s.sec.trial, s.sec.running with
    | true, some k =>
      if s.pwr.flashBad then s.flashFail 1
      else
        let h := (s.imgSlot k).header
        let arb := max s.otp.arb (u8 h 12)
        let rev := s.otp.rootRevoke ||| ((u8 h 15 % 16 ||| 2 ^ u8 h 7) - 2 ^ u8 h 7)
        let t := { s with flash := { s.flash with trial := false, left := 0 }, sec := { s.sec with trial := false },
                          otp := { s.otp with arb := arb, rootRevoke := rev } }
        let t := t.dropOld.commit 1
        (if t.otp = s.otp then t else t.raise 647 1 (arb + rev * 256), rspOk)
    | _, _ => (s, rspErr stWrongState 0x0D05)

/-- IMG_STATUS (R456). -/
def execImgStatus (r : Req) (s : State) : Res :=
  runReq 0x0D06 r s fun s =>
    let one (k : Nat) : List Byte :=
      let x := s.imgSlot k
      let c := s.slotCode k
      let h := if c = 0 ∨ c = 1 then zeros 1296 else x.header
      b1 c ++ b1 (u8 h 12) ++ b1 (u8 h 13) ++ b1 (u8 h 14) ++ b4 (u32 h 8)
    let upd := match s.sec.upd with | some u => b4 u.size ++ b4 u.written ++ b4 u.firstGap | none => zeros 12
    let pend := match s.flash.pend with
      | none => b1 0 ++ zeros 12
      | some none => b1 1 ++ zeros 12
      | some (some t) => b1 2 ++ timeBytes t
    (s, rspOk (one 0 ++ one 1 ++ upd ++ b1 s.flash.active ++ b1 s.flash.left ++ b1 s.otp.arb ++ pend))

end Sys2Proof.Machine
end

