-- ==== Sys2Proof/Machine/Boot.lean ====
section
/-! DEFINITION. Resets, the boot, supplies, clocks, management cores, test access and the PCIe function (R40, R41, R327, R454, R455, R460,
R463, R470 to R483, R494, R503, R518). A boot runs whole in the row that starts it. -/

namespace Sys2Proof.Machine

/-! ### Resets (R65, R358, R472 to R475, R547) -/

/-- One channel at a warm reset (R358): a running one completes its queued writes and enters self-refresh; any other but one already there is
off. DEDUCED (log entry 41): a channel replays until it issues a command after an alert. -/
def State.drainChan (s : State) (n : Nat) : State :=
  let c := s.chan n
  match c.st with
  | .run => if c.since = 0 then s.setChan n {} else s.setChan n { st := .selfRefresh }
  | .selfRefresh => s.setChan n { st := .selfRefresh }
  | _ => s.setChan n {}

/-- The memory across a warm reset: the controller is disabled, MEM_KEEP tells the channels that kept their content. -/
def State.drainMem (s : State) : State :=
  let t := (List.range 4).foldl State.drainChan s
  let mask := (List.range 4).foldl (fun a n => if (t.chan n).st == .selfRefresh then a + 2 ^ n else a) 0
  let keep := if mask = 0 then 0 else if s.mem.enabled then mask + memSig s.mem.cfg * 65536 else (s.reg Reg.memKeep).toNat
  ({ t with mem := { dram := t.mem.dram, bad := t.mem.bad, chans := t.mem.chans } }).setReg Reg.memKeep (BitVec.ofNat 32 keep)

/-- Replay state from the stored floors: H at the floor, every value down to H - 63 seen (R65). -/
def replayFrom (floors : Map Nat) : Map Replay := floors.map (fun f => (f.1, { h := f.2, seen := 2 ^ 64 - 1 }))

/-- Group-key counters restart at their floors (R547). -/
def seqFrom (gfloors : Map Nat) : Map Nat := gfloors.foldl (fun m f => Map.put m (seqIdx 4096 3 (f.1 / 2) (f.1 % 2 == 1)) f.2) []

/-- The state as a main-side reset leaves it, before the boot (R473): the blanking path has acted, so nothing is lit (R327); the stores hold their
existing records (R450). -/
def State.mainReset (s : State) (cold : Bool) (cause : Nat) : State :=
  let s := s.openStores
  let d := if cold then {} else s.drainMem
  let u : State := {}
  { u with
    pending := s.pending, ks := s.ks, otp := s.otp, flash := s.flash, met := s.met, free := s.free, out := s.out,
    mem := d.mem,
    regs := Map.store regReset [] Reg.memKeep (d.reg Reg.memKeep),
    tmu := { u.tmu with raw := if cold then 0 else s.tmu.raw },
    cmd := { u.cmd with replay := replayFrom s.ks.floors },
    key := { u.key with txSeq := seqFrom s.ks.gfloors },
    pwr := { u.pwr with
      role := s.pwr.role, roleStrap := s.pwr.roleStrap, bootStrap := s.pwr.bootStrap, poresetLow := s.pwr.poresetLow,
      supplyOut := s.pwr.supplyOut, flashBad := s.pwr.flashBad, jtagHold := s.pwr.jtagHold,
      rstCause := 2 ^ cause, warmCnt := if cold then 0 else min 255 (s.pwr.warmCnt + 1) } }

/-! ### The boot (R451, R454, R455, R463, R478 to R482) -/

/-- An erase found interrupted (R451): the slot's sector is erased again and the slot is INVALID; which sector it was is open. -/
def State.redoErase (s : State) : State :=
  match s.flash.erasing with
  | none => s
  | some k =>
    let t := s.setImgSlot k { s.imgSlot k with mark := 0 }
    let sector := 0x10000 + 0x800000 * k + 65536 * (s.freeVal % 128)
    let t := t.setJournal 5 (eraseRecs (t.journal 5) [sector])
    (({ t with flash := { t.flash with erasing := none } }).freeNext).raise 644 2 (sector + 2 ^ 28)

/-- A failed secure boot (R455): the recovery responder. -/
def State.enterRecovery (s : State) (why slot : Nat) : State :=
  ({ s with pwr := { s.pwr with phase := .recovery }, sec := { s.sec with running := none, bootDetail := why } }).raise 641 4
    (why + slot % 2 * 65536)

/-- The settings store meets the image's schema (R463). -/
def State.matchSchema (s : State) (h : List Byte) : State :=
  let v := (u8 h 13, u8 h 14)
  match s.flash.schema with
  | none => ({ s with flash := { s.flash with schema := some v } }).tryCommit 3
  | some o =>
    if o.1 = v.1 then s
    else (({ s with flash := { s.flash with schema := some v }, sec := { s.sec with settingsReset := true } }).tryCommit 3).raise 643 1 (o.1 + v.1 * 256)

/-- The firmware of slot k runs (R454 steps 4 and 5, R480): ARB advances outside a trial, EV_640, EV_32; the chip is inert (R481). -/
def State.enterFirmware (s : State) (k : Nat) (trial : Bool) : State :=
  let x := s.imgSlot k
  let s := { s with pwr := { s.pwr with phase := .up }, sec := { s.sec with running := some k, trial := trial } }
  let s := if k = 2 then s else s.setImgSlot k { x with mark := 5 }
  let s := if k = 2 ∨ trial ∨ x.arb ≤ s.otp.arb then s
    else ({ s with otp := { s.otp with arb := x.arb } }).dropOld.raise 647 1 (x.arb + s.otp.rootRevoke * 256)
  let s := s.matchSchema x.header
  (s.raise 640 0 (k % 2 + bn trial * 2 + s.flash.left * 16)).raise 32 0 (s.rstCauseWord % 64 + s.pwr.roleStrap % 4 * 2 ^ 16 + s.pwr.bootStrap % 4 * 2 ^ 18)

/-- What the boot enters after the fallback to slot k, by the first check its image fails (R454 step 1, R455). -/
def State.fallTo (s : State) (k : Nat) (fails : Option Nat) : State :=
  match fails with
  | none => (s.enterFirmware k false).raiseA 642 2 k true
  | some why => s.enterRecovery why k

/-- The armed fallback to the other slot (R454 step 1). -/
def State.fallBack (s : State) : State :=
  let k := 1 - s.flash.active
  let t := ({ s with flash := { s.flash with active := k, trial := false, left := 0 } }).tryCommit 1
  t.fallTo k (t.imageReason (t.imgSlot k))

/-- What the boot enters from slot k, by the first check its image fails (R454, R455). -/
def State.enterSlot (s : State) (k : Nat) (trial : Bool) (fails : Option Nat) : State :=
  match fails with
  | none => s.enterFirmware k trial
  | some why => if trial then s.fallBack else s.enterRecovery why (k % 2)

/-- One boot of a trial is used up (R454 step 1). -/
def State.useTrial (s : State) : State :=
  if s.flash.trial then ({ s with flash := { s.flash with left := s.flash.left - 1 } }).tryCommit 1 else s

/-- Slot selection (R454). -/
def State.selectSlot (s : State) : State :=
  if s.flash.trial ∧ s.flash.left = 0 then s.fallBack
  else
    let t := s.useTrial
    t.enterSlot s.flash.active s.flash.trial (t.imageReason (t.imgSlot s.flash.active))

/-- A lead booted from PCIe (R482): it verifies the load area kept by IMG_ACTIVATE, or waits for one. -/
def State.bootLoad (s : State) (kept : Bool) : State :=
  if !kept then s.enterRecovery 0 0 else s.enterSlot 2 false (s.imageReason s.sec.load)

/-- Ports after a boot (R481): P0 and P1 of a tile listen. -/
def State.bootPorts (s : State) : State :=
  if s.isTile then
    [0, 1].foldl (fun t p => (t.setFld (prt Reg.prtCfg p) 11 8 1).setPort p { state := .listen }) s
  else s

/-- The role that the sampled straps give (R1, R448): the factory role asks for an open debug gate. -/
def State.strapRole (s : State) : Role :=
  if s.pwr.roleStrap = 0 then .tile else if s.pwr.roleStrap = 1 then .lead
  else if s.pwr.roleStrap = 2 ∧ s.gateOpen then .factory else .reserved

/-- The boot from the sampled straps (R478 to R482): a cold one takes the role, which holds until the next cold reset (R1); `kept` says that the
load area survived. -/
def State.boot (s : State) (cold kept : Bool) : State :=
  let role := if cold then s.strapRole else s.pwr.role
  let bad := role = .reserved
  let s := { s with pwr := { s.pwr with role := role, phase := .strap, cores := [{ state := 1 }, { state := 1 }] },
                    flash := { s.flash with pend := none } }
  let s := (s.redoErase).bootPorts
  if bad then s.raise 37 3 (s.pwr.roleStrap % 4 + s.pwr.bootStrap % 4 * 4)
  else if s.pwr.bootStrap = 0 then s.selectSlot
  else if s.pwr.bootStrap = 1 ∧ role = .lead then s.bootLoad kept
  else s.enterRecovery 0x0D31 0

/-- Supplies whose loss holds the cold reset (R470). -/
def State.coreSupplyOut (s : State) : Bool := [0, 1, 2].any s.pwr.supplyOut.contains

/-- POWER_ON_RESET (R472): the detector on VDD_AON. -/
def execPowerOnReset (s : State) : Res := .next (s.mainReset true 0)

/-- PORESET_N_ASSERT (R472). -/
def execPoresetNAssert (s : State) : Res :=
  let t := s.mainReset true 1
  .next { t with pwr := { t.pwr with poresetLow := true } }

/-- PORESET_N_RISE (R1, R478, R480): the straps are sampled and the boot runs, unless a core supply holds the reset. -/
def execPoresetNRise (roleStrap bootStrap : Nat) (s : State) : Res :=
  if !s.pwr.poresetLow then .next s
  else
    let t := { s with pwr := { s.pwr with poresetLow := false, roleStrap := roleStrap % 4, bootStrap := bootStrap % 4 } }
    .next (if t.coreSupplyOut then t else t.boot true false)

/-- A warm reset (R474): it keeps the sampled straps. -/
def State.warmReset (s : State) (cause : Nat) : State := (s.mainReset false cause).boot false false

/-- WRESET_N_ASSERT (R474, R515): a pulse of t_rst_accept or more resets. -/
def execWresetNAssert (lowRaw : Nat) (s : State) : Res :=
  if !s.alive || lowRaw < rawNs 10 then .next s else .next (s.warmReset 3)

/-- Send the cells of messages in the next slots of their ports, before a reset takes them. -/
def State.flushCells (s : State) (ms : List TxMsg) : State :=
  ms.foldl (fun t m =>
    match t.beginMsg m 0 with
    | (u, _, some cs) => cs.foldl (fun v c => (v.nextSlot m.port 1).emit (.cell m.port (v.port m.port).slot c)) u
    | (u, _, none) => u) s

/-- WARM_RESET (R474): the reply leaves first. -/
def execWarmReset (r : Req) (s : State) : Res :=
  match runReqLater 0x0008 r s (fun s => (s, none)) with
  | .next t =>
    match opRow 0x0008 with
    | some o =>
      if s.alive && !s.waits 0x0008 r && !(s.takeReq 0x0008 r).strayNearest r && ((s.takeReq 0x0008 r).preRefusal o r).isNone then
        let u := t.answer t 0x0008 r rspOk
        .next ((u.flushCells (u.net.tx.drop t.net.tx.length)).warmReset 4)
      else .next t
    | none => .next t
  | x => x

/-- IMG_ACTIVATE (R455, R460, R482). -/
def execImgActivate (r : Req) (s : State) : Res :=
  runReq 0x0D03 r s fun s =>
    let mode := u8 r.payload 0
    let trials := u8 r.payload 1
    let f := s.flash
    if 1 < mode then (s, rspParam 0)
    else if 7 < trials then (s, rspParam 1)
    else if mode = 1 ∧ s.inRecovery then (s, rspErr stWrongState 0x0D30)
    else if f.pend.isSome then (s, rspErr stBusy 0x0D03)
    else if s.pcieBoot && s.inRecovery then
      if s.sec.load.mark = 2 then
        let t := s.mainReset false 4
        (({ t with sec := { t.sec with load := s.sec.load } }).boot false true, rspOk)
      else s.wrongState
    else match [0, 1].find? (fun k => (s.imgSlot k).mark == 2), timeAt r.payload 4 with
    | none, _ => s.wrongState
    | some k, at_ =>
      if mode = 1 ∧ at_.isNone then (s, rspParam 4)
      else if mode = 1 ∧ (!s.actDom.valid ∨ ((at_.getD 0 : Nat) : Int) < s.derivedNow + 1000 * rawMs 1000) then (s, rspErr stWrongState 0x0D04)
      else if s.pwr.flashBad then s.flashFail 1
      else
        let g := { f with before := (f.active, f.trial, f.left), active := k, trial := decide (0 < trials), left := trials,
                          pend := some (if mode = 1 then at_ else none) }
        ((({ s with flash := g }).commit 1).raise 645 1 0, rspOk)

/-- ACTIVATION_INSTANT (R460): the warm reset at INSTANT; an invalid domain moves the activation to the next reset. -/
def execActivationInstant (s : State) : Res :=
  match s.flash.pend with
  | some (some t) =>
    if !s.alive then .next s
    else if !s.actDom.valid then .next (({ s with flash := { s.flash with pend := some none } }).raise 645 1 1)
    else if (t : Int) ≤ s.derivedNow then .next (s.warmReset 5)
    else .next s
  | _ => .next s

/-! ### Supplies (R470) -/

/-- The DRAM channels that VDDQ_DDR (5) and VPP_DDR (6) feed enter HOLD (R354, R470); the hold of other blocks is their inertness. -/
def State.holdFed (s : State) (n : Nat) : State :=
  if n = 5 ∨ n = 6 then
    (List.range 4).foldl (fun t k => if (t.chan k).st == .run || (t.chan k).st == .init then t.holdChan k false else t) s
  else s

/-- The sticky bit of a supply. -/
def State.stickSupply (s : State) (n : Nat) : State := s.setFld Reg.pwrSupply (16 + n) (16 + n) 1

/-- SUPPLY_OUT_OF_RANGE (R470): by the numbers 0 to 10 of R470. -/
def execSupplyOutOfRange (supply : Nat) (s : State) : Res :=
  if 10 < supply ∨ s.pwr.supplyOut.contains supply then .next s
  else
    let t := { s with pwr := { s.pwr with supplyOut := supply :: s.pwr.supplyOut } }
    if supply = 0 then .next ((t.mainReset true 0).stickSupply 0)
    else if supply < 3 then .next ((t.mainReset true 2).stickSupply supply)
    else if supply = 10 then .next (t.stickSupply 10)
    else if !s.alive then .next (t.stickSupply supply)
    else .next (((t.stickSupply supply).goInert.holdFed supply).raise 35 4 supply)

/-- SUPPLY_BACK_IN_RANGE (R470): the last core supply back starts a cold boot with the straps as they stand then. -/
def execSupplyBackInRange (supply roleStrap bootStrap : Nat) (s : State) : Res :=
  if !s.pwr.supplyOut.contains supply then .next s
  else
    let t := { s with pwr := { s.pwr with supplyOut := s.pwr.supplyOut.filter (· != supply) } }
    if supply < 3 then
      if t.coreSupplyOut || t.pwr.poresetLow then .next t
      else .next (({ t with pwr := { t.pwr with roleStrap := roleStrap % 4, bootStrap := bootStrap % 4 } }).boot true false)
    else if supply = 10 ∨ !s.alive then .next t
    else .next (t.raise 35 4 (supply + 256))

/-! ### Clocks and FIFOs (R40, R41) -/

/-- The first source of the event block (R78) of the block whose base address has bits 27:20 = `b` (R72). -/
def eventBlock (b : Nat) : Nat :=
  64 * [0, 0, 0, 2, 3, 1, 4, 5, 6, 7, 8, 9, 12, 11, 13, 10, 0].getD b 0

/-- The block that a PLL of GLB_PLL_STATUS belongs to: the control plane, the memory controller, the ports. -/
def pllBlock (i : Nat) : Nat := if i < 4 then 0 else if i < 8 then 0x0B else 0x05

/-- Raise an event of a block whose number no chapter gives. DESIGN CHOICE (log entry 21): the number is free within the block's 64 (R78). -/
def State.raiseIn (s : State) (b sev detail : Nat) : State := s.freeNext.raise (eventBlock b + s.freeVal % 64) sev detail

/-- PLL_LOSS_OF_LOCK (R41, R149, R192, R326): by the lock bit of GLB_PLL_STATUS; the event of the PLLs that no chapter names is open, and so is its
severity. -/
def execPllLossOfLock (pll : Nat) (s : State) : Res :=
  if 15 < pll ∨ !s.pllLock pll then .next s
  else
    let t := { s with pwr := { s.pwr with pllLost := pll :: s.pwr.pllLost } }
    let t := t.setFld Reg.glbPllStatus (16 + pll) (16 + pll) 1
    if pll = 1 then .next t.timeLost.lchHold
    else if pll = 2 then .next ((t.endEmission true).raise 519 3 1)
    else .next (t.raiseIn (pllBlock pll) (t.freeVal / 64 % 5) pll)

/-- PLL_LOCK_REGAINED (R41, R326): the LAMP PLL's relock ends the scheduler's hold. -/
def execPllLockRegained (pll : Nat) (s : State) : Res :=
  if !s.pwr.pllLost.contains pll then .next s
  else
    let t := { s with pwr := { s.pwr with pllLost := s.pwr.pllLost.filter (· != pll) } }
    .next (if pll = 2 then { t with ems := { t.ems with hold := false } } else t)

/-- The block that receives from a FIFO: the lamp port, the memory controller for channels 0 to 3, else the block of R72 by number. -/
def fifoBlock (fifo : Nat) : Nat := if fifo = 0 then 0x0A else if fifo < 5 then 0x0B else (fifo - 5) % 17

/-- FIFO_FAULT (R40): the receiving block goes to hold, and a fatal event names the FIFO. DESIGN CHOICE (log entry 21): 0 is the FIFO into the lamp
port, whose scheduler holds (R332), 1 to 4 are those into the DRAM channels (R354), 5 + b those into the block b of R72, whose commands
return HW_FAULT from then on. -/
def execFifoFault (fifo : Nat) (s : State) : Res :=
  if !s.alive || (fifo == 0 && !s.isTile) then .next s
  else
    let t := if fifo = 0 then (s.endEmission true).raise 519 3 2
      else if fifo < 5 then
        (if (s.chan (fifo - 1)).st = .off ∨ (s.chan (fifo - 1)).st = .hold then s else s.holdChan (fifo - 1) false)
      else { s with pwr := { s.pwr with held := fifoBlock fifo :: s.pwr.held } }
    .next (t.raiseIn (fifoBlock fifo) 4 fifo)

/-! ### Management cores (R476, R477) -/

/-- Replace a core. -/
def State.setCore (s : State) (k : Nat) (c : CoreS) : State := { s with pwr := { s.pwr with cores := s.pwr.cores.set k c } }

/-- CORE_FAULT (R476, R477): reported; restarted on its own only under 0x0001, at most three times in 60 s. -/
def execCoreFault (core cause : Nat) (s : State) : Res :=
  let c := s.pwr.cores.getD core {}
  if !s.alive || 1 < core || c.state != 1 then .next s
  else
    let recent := c.autos.filter (fun t => decide (s.now < t + rawSec 60))
    let armed := s.isArmed 0x0001
    let out := armed && decide (3 ≤ recent.length)
    let go := armed && !out
    let c' := { c with state := if go then 3 else 2, cause := cause % 4, autos := if go then s.now :: recent else recent }
    .next ((s.setCore core c').raise 33 4 (core + cause % 4 * 2 + bn out * 256))

/-- CORE_RESTART_COMPLETE (R477): an armed restart serves again. -/
def execCoreRestartComplete (core : Nat) (s : State) : Res :=
  let c := s.pwr.cores.getD core {}
  if !s.alive || 1 < core || c.state != 3 then .next s
  else
    let t := s.setCore core { c with state := 1 }
    .next (({ t with pwr := { t.pwr with restarts := t.pwr.restarts + 1 } }).raiseA 34 1 core true)

/-- CORE_RESTART (R477). -/
def execCoreRestart (r : Req) (s : State) : Res :=
  runReq 0x0007 r s fun s =>
    let k := u8 r.payload 0
    let c := s.pwr.cores.getD k {}
    if 1 < k then (s, rspParam 0)
    else if c.state ≠ 2 then (s, rspErr stWrongState 0x0002)
    else
      let t := s.setCore k { c with state := 1 }
      (({ t with pwr := { t.pwr with restarts := t.pwr.restarts + 1 } }).raise 34 1 k, rspOk)

/-! ### Core voltage and test access (R503, R518) -/

/-- AVS_MEASUREMENT (R503). -/
def execAvsMeasurement (millivolts : Nat) (s : State) : Res :=
  if !s.alive then .next s else .next { s with pwr := { s.pwr with vmeas := millivolts % 4096 } }

/-- VREQ of the unit: 700 to 800 mV in steps of 5 (R503). -/
def vreqMv : Nat := 700 + 5 * (Config.vreqCode % 21)

/-- GLB_AVS (R503): VALID once the boot has read VREQ. -/
def State.avsWord (s : State) : Nat :=
  let v := vreqMv
  if !s.alive then 0
  else 2 ^ 31 + bn (decide (s.pwr.vmeas * 100 < v * 98)) * 2 ^ 30 + s.pwr.vmeas % 4096 * 2 ^ 16 + v

/-- JTAG_INSTRUCTION_LOAD (R518): IDCODE gives the device's number on TDO; any instruction but it, BYPASS and SAMPLE/PRELOAD holds the lamps dark. -/
def execJtagInstructionLoad (instr : JtagInstr) (s : State) : Res :=
  let on := instr == .other
  let t := if instr = .idcode then s.credit.emit (.tdo 0x19472963) else s.credit
  .next { t with pwr := { t.pwr with jtagHold := on }, ems := { t.ems with lit := if on then none else t.ems.lit } }

/-! ### The PCIe function (R483, R494) -/

/-- PCIE_ENDPOINT_RESET (R483): 0 PCIE_PERST_N, 1 a hot reset, 2 a function-level reset. -/
def execPcieEndpointReset (kind : Nat) (s : State) : Res :=
  if !s.isLead || !s.alive || 2 < kind then .next s
  else
    let t := (List.range 16).foldl (fun t c => t.setFld (Reg.cmdRingCfg + 0x20 * c) 0 0 0) s
    let t := t.setFld Reg.evtRingCfg 0 0 0
    .next (({ t with pwr := { t.pwr with d3hot := false, pmeEn := false } }).raise 47 2 (2 ^ kind))

/-- PCIE_POWER_STATE_CHANGE (R494, R533): from its entry into D3hot with PME_En set, the records held may be PME causes; a return to D0 repeats
those that have just been. -/
def execPciePowerStateChange (toD3hot pmeEnable : Bool) (s : State) : Res :=
  if !s.isLead || !s.alive then .next s
  else
    let t := if s.pwr.d3hot && !toD3hot then s.repeatCauses else s
    let t := if toD3hot && pmeEnable && !(s.pwr.d3hot && s.pwr.pmeEn) then
        { t with evt := { t.evt with pmeSeen := t.evt.heldRecs.length } } else t
    .next { t with pwr := { t.pwr with d3hot := toD3hot, pmeEn := pmeEnable } }

/-- PME_STATUS_CLEAR (R494). -/
def execPmeStatusClear (s : State) : Res :=
  if !s.isLead || !s.alive then .next s else .next { s with pwr := { s.pwr with pmeStatus := false, pmeCause := 0 } }

end Sys2Proof.Machine
end

