-- ==== Sys2Proof/Machine/Twilight.lean ====
section
/-! DEFINITION. Twilight: the sleep opcodes, beacons, wake and resume (R484 to R493), link qualification (R100, R104), and a lead's taking of
EVT_NOTIFY (R83, R105, R490). -/

namespace Sys2Proof.Machine

/-! ### Beacons (R488) -/

/-- The bytes of a beacon. -/
def beaconBytes (kind pos epoch cause : Nat) : List Byte :=
  let b := b2 0xB3AC ++ b1 kind ++ b1 pos ++ b2 (epoch % 65536) ++ b1 cause
  b ++ b1 (crc8 b)

/-- The kind of a beacon with correct BMAGIC and BCRC. -/
def beaconKind (b : List Byte) : Option Nat :=
  if b.length = 8 ∧ u16 b 0 = 0xB3AC ∧ crc8 (b.take 7) = u8 b 7 then some (u8 b 2) else none

/-- A tile's position in its beacons. -/
def State.myPos (s : State) : Nat := s.net.addr % 64

/-- UP and OPEN ports of a tile. -/
def State.linkPorts (s : State) : List Nat := [0, 1].filter (fun p => s.portState p == .up || s.portState p == .open_)

/-- Is lane 0 of a port in beacon mode (R484, R486)? -/
def State.beaconMode (s : State) (p : Nat) : Bool :=
  s.alive && (if s.isLead then decide (p < 4) && (s.sleepAt p).state == .twilight
    else (s.sleepAt 0).state == .twilight && s.linkPorts.contains p)

/-- A beacon of any kind restarts the port's beacon-loss time (R489). -/
def State.hearBeacon (s : State) (p : Nat) : State := { s with pwr := { s.pwr with beaconAt := Map.put s.pwr.beaconAt p s.now } }

/-- The tile's wake beacon on its upstream port. -/
def State.wakeBeacon (s : State) (pos cause : Nat) : State :=
  s.emit (.beacon s.net.upPort (beaconBytes 2 pos (s.sleepAt 0).epoch cause))

/-- BEACON_SEND (R488, R489): every t_beacon, plain on each port in beacon mode; a latched wake request goes upstream instead. -/
def execBeaconSend (s : State) : Res :=
  if s.now < s.pwr.plainAt + rawMs 10 then .next s
  else
    let ps := (List.range 8).filter s.beaconMode
    if ps.isEmpty then .next s
    else
      let t := { s with pwr := { s.pwr with plainAt := s.now } }
      .next (ps.foldl (fun t p =>
        if s.isLead then t.emit (.beacon p (beaconBytes 1 0xFF (s.sleepAt p).epoch 0))
        else if s.pwr.wakeLatched ∧ p = s.net.upPort then t.wakeBeacon s.pwr.wakePos s.pwr.wakeCause
        else t.emit (.beacon p (beaconBytes 1 s.myPos (s.sleepAt 0).epoch 0))) t)

/-- PLAIN_BEACON_RECEIVED (R488). -/
def execPlainBeaconReceived (port : Nat) (beacon : List Byte) (s : State) : Res :=
  if s.beaconMode port ∧ beaconKind beacon = some 1 then .next (s.hearBeacon port) else .next s

/-- BEACON_LOSS (R489): an UP or OPEN port of a tile in Twilight received no beacon for t_beacon_loss. -/
def execBeaconLoss (port : Nat) (s : State) : Res :=
  if s.isTile ∧ s.beaconMode port ∧ Map.at s.pwr.beaconAt 0 port + rawMs 35 ≤ s.now then .next (s.wakeRequest 1) else .next s

/-! ### Resume (R490 to R493) -/

/-- T + DWELL of a chain, in 2^-16 ns. -/
def State.dwellEnd (s : State) (c : Nat) : Nat := (s.sleepAt c).at_ + 1000 * rawMs (s.fld Reg.pwrTwiCfg 31 16)

/-- The lead starts a resume: resume beacons from now on, its chain port qualifies (R492 step 1). -/
def State.startResume (s : State) (c epoch : Nat) (r : Option Req) : State :=
  let x := s.sleepAt c
  let t := s.setSleep c { x with waiting := r, armedWait := false, resuming := true, beaconEpoch := epoch % 65536, nextBeacon := s.now }
  ({ t with pwr := { t.pwr with qualifying := Map.put t.pwr.qualifying c t.now } }).sleepTo c .waking

/-- The broadcast of R492 step 4, answered with the aggregate; a chain without tiles is answered at once. -/
def State.resumeJob (s : State) (c : Nat) (r : Option Req) : State :=
  match s.sleepJob 0x0E03 c 4 (s.sleepAt c).epoch r, r with
  | (t, some a), some q => t.answer t 0x0E03 q a
  | (t, _), _ => t

/-- The lead's chain port has qualified, or is LOST: the chain is awake, and SLEEP_RESUME follows (R492 step 4). -/
def State.resumeBroadcast (s : State) (c : Nat) : State :=
  let x := s.sleepAt c
  let t := (s.setSleep c { x with waiting := none, resuming := false, allOk := false }).sleepTo c .awake
  t.resumeJob c x.waiting

/-- RESUME_DWELL_END (R491): a resume that waits for T + DWELL starts; one of a proposal that came to nothing is only broadcast. -/
def execResumeDwellEnd (s : State) : Res :=
  if !s.alive || !s.isLead then .next s else
  match (List.range 4).find? (fun c =>
      let x := s.sleepAt c
      (x.armedWait || x.waiting.isSome) && (x.state == .twilight || x.state == .awake) && decide ((s.dwellEnd c : Int) ≤ s.derivedNow)) with
  | none => .next s
  | some c =>
    let x := s.sleepAt c
    if x.state = .twilight then .next (s.startResume c x.epoch x.waiting)
    else
      let t := s.setSleep c { x with waiting := none, armedWait := false }
      match x.waiting with
      | some r => .next (t.resumeJob c (some r))
      | none => .next t

/-- RESUME_BEACON_REPEAT (R490, R492): a resume beacon every t_resume_rpt on each chain being resumed. -/
def execResumeBeaconRepeat (s : State) : Res :=
  if !s.alive || !s.isLead then .next s else
  .next ((List.range 4).foldl (fun t c =>
    let x := t.sleepAt c
    if x.resuming ∧ x.nextBeacon ≤ t.now then
      (t.setSleep c { x with nextBeacon := t.now + rawUs 100 }).emit (.beacon c (beaconBytes 3 0xFF x.beaconEpoch 0))
    else t) s)

/-- The channels in a state, as a mask. -/
def State.chansIn (s : State) (x : ChSt) : Nat := (List.range 4).foldl (fun a n => if (s.chan n).st = x then a + 2 ^ n else a) 0

/-- A channel leaves self-refresh and runs after one retraining window (R352). -/
def State.wakeChan (s : State) (n : Nat) : State :=
  if (s.chan n).st = .selfRefresh ∧ s.mem.enabled then (s.runChan n).bump (memReg Reg.memRetrained n) else s

/-- The channels leave self-refresh, with EV_585 (R352, R362). -/
def State.wakeChans (s : State) : State :=
  let t := (List.range 4).foldl State.wakeChan s
  if s.mem.enabled ∧ s.chansIn .selfRefresh ≠ 0 then t.raise 585 0 (s.chansIn .selfRefresh + 256) else t

/-- A tile leaves Twilight (R492 step 2, R352, R493): channels return to RUN after one retraining window, ports qualify. -/
def State.wakeTile (s : State) : State :=
  let t := s.wakeChans
  let t := { t with pwr := { t.pwr with wakeLatched := false, wakeCause := 0, wakePos := 0xFF,
                                        crossed := if s.pwr.wakeLatched then min 255 (s.pwr.crossed + 1) else s.pwr.crossed,
                                        qualifying := s.linkPorts.map (fun p => (p, s.now)) } }
  t.setSleep 0 { t.sleepAt 0 with state := .waking }

/-- RESUME_BEACON_RECEIVED (R492, R493): a tile wakes by its own BEPOCH or 0x0000, and forwards resume beacons downstream. -/
def execResumeBeaconReceived (port : Nat) (beacon : List Byte) (s : State) : Res :=
  let x := s.sleepAt 0
  let e := u16 beacon 4
  if !s.alive || !s.isTile || beaconKind beacon != some 3 || !s.linkPorts.contains port then .next s
  else if x.state ≠ .twilight ∧ x.state ≠ .waking then .next s
  else if e ≠ 0 ∧ e ≠ x.epoch % 65536 then .next s
  else
    let d := s.downPort
    let t := if d ≠ port ∧ s.portState d = .open_ then s.emit (.beacon d beacon) else s
    .next (if x.state = .twilight then t.wakeTile else t)

/-- WAKE_BEACON_RECEIVED (R489, R491, R493): forwarded upstream by a tile; in the lead EV_42 with the armed resume, or EV_44 where it crossed. -/
def execWakeBeaconReceived (port : Nat) (beacon : List Byte) (s : State) : Res :=
  let pos := u8 beacon 3
  let cause := u8 beacon 6
  if !s.alive || beaconKind beacon != some 2 then .next s
  else if s.isTile then
    if s.beaconMode port ∧ port = s.downPort ∧ u16 beacon 4 = (s.sleepAt 0).epoch % 65536 then
      let t := s.hearBeacon port
      .next (if s.pwr.wakeLatched then t.wakeBeacon (min pos s.pwr.wakePos) (cause ||| s.pwr.wakeCause) else t.wakeBeacon pos cause)
    else .next s
  else if !s.isLead ∨ 4 ≤ port then .next s
  else
    let x := s.sleepAt port
    if u16 beacon 4 ≠ x.epoch % 65536 then .next s
    else if x.state = .twilight then
      let armed := s.isArmed 0x0E01
      let t := s.raiseA 42 1 (port + pos * 256 + cause % 4 * 65536) armed
      let t := t.pmeCauseAt 0 (if t.evt.rseq = s.evt.rseq then none else t.evt.history.getLast?)
      if !armed then .next t
      else if x.waiting.isNone ∧ (t.dwellEnd port : Int) ≤ t.derivedNow then .next (t.startResume port x.epoch none)
      else .next (t.setSleep port { x with armedWait := true })
    else if x.state = .waking ∨ x.resuming then
      .next (({ s with pwr := { s.pwr with crossed := min 255 (s.pwr.crossed + 1) } }).raise 44 0 (port + pos * 256))
    else .next s

/-- TILE_RESUME_COMPLETE (R492 step 3): once its ports have qualified, the tile returns to its inertness at T. -/
def execTileResumeComplete (s : State) : Res :=
  if !s.alive || !s.isTile || (s.sleepAt 0).state != .waking || !s.pwr.qualifying.isEmpty then .next s
  else
    let t := s.sleepTo 0 .awake
    if s.pwr.inertAtT then .next (t.raise 43 1 0)
    else if s.pwr.emitAtT then .next (t.beginInit { via := .own })
    else .next (({ t with pwr := { t.pwr with inert := false, haltSafety := false } }).raise 43 1 0)

/-! ### Entry (R486, R487) -/

/-- A channel completes its writes and enters self-refresh (R352). -/
def State.restChan (s : State) (n : Nat) : State :=
  let c := s.chan n
  if c.st ≠ .run then s
  else
    let t := (c.blocked.filter (·.write)).foldl (fun t r => t.memWrite r.addr (fit 64 r.data)) s
    t.setChan n { c with st := .selfRefresh, reads := [], writes := [], flight := [], blocked := [], debt := [0, 0], pd := [], trainDue := none }

/-- The running channels enter self-refresh, with EV_585 (R352, R362). -/
def State.restChans (s : State) : State :=
  let t := (List.range 4).foldl State.restChan s
  if s.chansIn .run = 0 then t else t.raise 585 0 (s.chansIn .run)

/-- OCM is lost (R487): plane memory, decoded blocks, cells in transit, linearisation tables and returned status. -/
def State.loseOcm (s : State) : State :=
  let l := { s.lpp with regions := [{}, {}, {}, {}, {}, {}, {}, {}], subs := [], begun := [], lut := [[], [], []], lutPend := [[], [], []],
                        lutLost := some s.free }
  let ps := s.net.ports.map (fun (p : PortS) => { p with asm := [] })
  { s with lpp := l, net := { s.net with transit := [], ports := ps }, ems := { s.ems with drv := [], setups := [], selected := [none, none, none, none] },
           free := s.free + 24576 }

/-- A committed tile enters Twilight at T. -/
def State.enterTwilight (s : State) : State :=
  let was := s.pwr.inert
  let emit := s.ems.enabled
  let t := (s.goInert).restTile .idle
  let t := { t with lch := { t.lch with table := [], stopN := none, coastNext := none } }
  let t := t.restChans.loseOcm
  let t := { t with pwr := { t.pwr with inertAtT := was, emitAtT := emit, wakeLatched := false, wakeCause := 0, wakePos := 0xFF,
                                        beaconAt := s.linkPorts.map (fun p => (p, s.now)) } }
  t.sleepTo 0 .twilight

/-- TWILIGHT_ENTRY (R486): at T of a proposal held. -/
def execTwilightEntry (s : State) : Res :=
  let due (c : Nat) : Bool :=
    let x := s.sleepAt c
    (x.state == .proposed || x.state == .committed) && decide ((x.at_ : Int) ≤ s.derivedNow)
  if !s.alive then .next s
  else if s.isTile then
    let x := s.sleepAt 0
    if !due 0 then .next s
    else if x.state = .committed then .next s.enterTwilight
    else .next ((s.setSleep 0 { x with state := .awake }).raise 45 2 (x.epoch % 65536 * 65536))
  else if s.isLead then
    match (List.range 4).find? due with
    | none => .next s
    | some c =>
      let x := s.sleepAt c
      if x.state = .committed then .next (s.sleepTo c .twilight) else .next (s.setSleep c { x with state := .awake, allOk := false })
  else .next s

/-! ### The sleep opcodes (R484, R485) -/

/-- The epoch after the current one, skipping 0. -/
def nextSleep (e : Nat) : Nat := if (e + 1) % 2 ^ 32 = 0 then 1 else (e + 1) % 2 ^ 32

/-- The current sleep epoch does not match (R55). -/
def rspEpoch : Rsp := rspErr stWrongState 0x0001

/-- SLEEP_PROPOSE in a tile. -/
def State.proposeTile (s : State) (r : Req) : State × Rsp :=
  let x := s.sleepAt 0
  let e := r.epoch.toNat
  match timeAt r.payload 4 with
  | none => (s, rspParam 4)
  | some t =>
    if !r.isBcast then (s, rspErr stWrongState 0x0E03)
    else if e = 0 ∨ !isAfter e x.epoch then (s, rspEpoch)
    else if s.sec.upd.isSome ∨ s.cal.run.isSome ∨ !s.ems.setups.isEmpty then (s, rspErr stWrongState 0x0E05)
    else if x.state = .twilight ∨ x.state = .waking then s.wrongState
    else
      let u := s.setSleep 0 { x with epoch := e, at_ := t }
      (({ u with pwr := { u.pwr with wakeCause := 0 } }).sleepTo 0 .proposed, rspOk)

/-- SLEEP_PROPOSE in a lead. -/
def State.proposeLead (s : State) (r : Req) : State × Option Rsp :=
  let c := u8 r.payload 0
  let x := s.sleepAt c
  let e := r.epoch.toNat
  let now_ := s.derivedNow
  match timeAt r.payload 4 with
  | none => (s, some (rspParam 4))
  | some t =>
    if 4 ≤ c then (s, some (rspParam 0))
    else if e ≠ nextSleep x.epoch then (s, some rspEpoch)
    else if (t : Int) < now_ + (1000 * rawMs 20 : Nat) ∨ now_ + (1000 * rawSec 10 : Nat) < t then (s, some (rspParam 4))
    else if s.pai.relay.testBit c then (s, some (rspErr stWrongState 0x0E04))
    else if !s.actDom.valid then (s, some (rspErr stWrongState 0x0E07))
    else if s.pai.state ≠ .solo ∧ s.pai.state ≠ .active then (s, some (rspErr stWrongState 0x0E08))
    else if s.ks.group.isNone then (s, some (rspErr stWrongState 0x0C08))
    else if x.state ≠ .awake ∧ x.state ≠ .proposed then let (u, a) := s.wrongState; (u, some a)
    else
      let u := (s.setSleep c { x with epoch := e, at_ := t, allOk := false, resuming := false }).sleepTo c .proposed
      match u.sleepJob 0x0E01 c 4 e (some r) with
      | (v, none) => (v, none)
      | (v, some a) =>
        if a.status = stOk then (v.setSleep c { v.sleepAt c with allOk := true }, some a)
        else (s.raise 20 1 (r.cls * 4096 + s.leadField * 256 + c * 64), some a)

/-- SLEEP_PROPOSE (R485). -/
def execSleepPropose (r : Req) (s : State) : Res :=
  runReqLater 0x0E01 r s fun s =>
    if s.isTile then let (t, a) := s.proposeTile r; (t, some a) else s.proposeLead r

/-- SLEEP_COMMIT (R485). -/
def execSleepCommit (r : Req) (s : State) : Res :=
  runReqLater 0x0E02 r s fun s =>
    let c := u8 r.payload 0
    let e := r.epoch.toNat
    if s.isTile then
      let x := s.sleepAt 0
      if !r.isBcast then (s, some (rspErr stWrongState 0x0E03))
      else if e ≠ x.epoch then (s, some rspEpoch)
      else if x.state = .proposed then (s.sleepTo 0 .committed, some rspOk)
      else if x.state = .committed then (s, some rspOk)
      else let (t, a) := s.wrongState; (t, some a)
    else
      let x := s.sleepAt c
      if 4 ≤ c then (s, some (rspParam 0))
      else if e ≠ x.epoch ∨ e = 0 then (s, some rspEpoch)
      else if x.state ≠ .proposed then let (t, a) := s.wrongState; (t, some a)
      else if !x.allOk then (s.abortFree c, some (rspErr stWrongState 0x0E09))
      else if (x.at_ : Int) < s.derivedNow + commitMargin then (s.abortFree c, some (rspErr stWrongState 0x0E06))
      else
        match s.sleepJob 0x0E02 c 4 e (some r) with
        | (t, none) => (t, none)
        | (t, some a) => if a.status = stOk then (t.sleepTo c .committed, some a) else (t.abortFree c, some a)

/-- SLEEP_RESUME (R490 to R493). -/
def execSleepResume (r : Req) (s : State) : Res :=
  runReqLater 0x0E03 r s fun s =>
    let c := u8 r.payload 0
    let e := r.epoch.toNat
    if s.isTile then
      let x := s.sleepAt 0
      if !r.isBcast then (s, some (rspErr stWrongState 0x0E03))
      else if e ≠ 0 ∧ e ≠ x.epoch then (s, some rspEpoch)
      else if x.state = .proposed ∨ x.state = .committed then (s.sleepTo 0 .awake, some rspOk)
      else (s, some rspOk)
    else
      let x := s.sleepAt c
      if 4 ≤ c then (s, some (rspParam 0))
      else if e ≠ 0 ∧ e ≠ x.epoch then (s, some rspEpoch)
      else if x.waiting.isSome ∨ x.state = .waking then (s, some (rspErr stBusy 0x0E03))
      else if x.state = .awake then
        if e = 0 then (s.startResume c 0 (some r), none) else (s.resumeJob c (some r), none)
      else if x.state = .twilight ∧ (s.dwellEnd c : Int) ≤ s.derivedNow then (s.startResume c e (some r), none)
      else (s.setSleep c { x with waiting := some r }, none)

/-! ### Link qualification (R100, R104, R141, R492) -/

/-- PORT_QUALIFIED (R100, R104): the port of a PORT_OPEN becomes OPEN, or UP again; a port that qualifies after a resume keeps its state. Both
first replay the hold-offs (R141). -/
def execPortQualified (port : Nat) (s : State) : Res :=
  let q := s.port port
  if !s.alive then .next s
  else match q.opening with
  | some o =>
    if o.dead then .next s else
    let st : PortState := if o.wasUp then .up else .open_
    let t := s.setPort port { q with state := st, opening := none, again := false, pcsLock := true, c1Run := 0 }
    let t := (t.replayHolds port).raise 97 1 (ev97 port st false)
    let t := if s.isLead then t.reachable port 0 none else t
    .next (t.answer t o.op o.req rspOk)
  | none =>
    if (Map.find s.pwr.qualifying port).isNone then .next s
    else
      let t := { s with pwr := { s.pwr with qualifying := Map.del s.pwr.qualifying port } }
      let t := (t.setPort port { q with pcsLock := true, c1Run := 0 }).replayHolds port
      .next (if s.isLead then t.resumeBroadcast port else t)

/-- PORT_OPEN_TIMEOUT (R100, R492): 20 ms after PORT_OPEN the port keeps its state, and DETAIL says whether the PCS ever locked; a port that did not
qualify after a resume is LOST. -/
def execPortOpenTimeout (port : Nat) (locked : Bool) (s : State) : Res :=
  let q := s.port port
  if !s.alive then .next s
  else match q.opening with
  | some o =>
    if s.now < o.start + rawMs 20 then .next s
    else
      let t := s.setPort port { q with opening := none }
      let t := if s.isLead && !locked then t.noLink port else t
      .next (t.answer t o.op o.req (rspErr stWrongState (if locked then 0x0104 else 0x0103)))
  | none =>
    match Map.find s.pwr.qualifying port with
    | none => .next s
    | some at_ =>
      if s.now < at_ + rawMs 20 then .next s
      else
        let t := { s with pwr := { s.pwr with qualifying := Map.del s.pwr.qualifying port } }
        if s.isLead then
          let x := t.sleepAt port
          let u := (t.setSleep port { x with state := .awake }).linkFault port false
          .next ((u.setSleep port { u.sleepAt port with state := .waking }).resumeBroadcast port)
        else .next (t.linkFault port false)

/-! ### EVT_NOTIFY (R83, R105, R490) -/

/-- The records in a notification's packet. -/
def notifyRecs (b : List Byte) : List EvRec := (List.range (u16 b 12 / 32)).map (fun k => EvRec.ofBytes (slice b (24 + 32 * k) 32))

/-- What a tile's record tells the lead: EV_98 of its downstream port cuts the positions beyond it off, EV_97 gives that port's new state, EV_40
before T aborts the sleep. -/
def State.noteTileRec (s : State) (r : EvRec) : State :=
  let c := r.origin / 64 % 4
  let pos := r.origin % 64
  match s.topoAt r.origin with
  | none => s
  | some e =>
    let p := r.detail % 16
    let down := 1 - e.upPort
    if r.src = 98 then (if p = down then s.cutOff c (pos + 1) (some pos) else s)
    else if r.src = 97 then
      if r.detail / 512 % 8 = down ∧ !r.detail.testBit 8 then
        (if r.detail % 256 = 3 then s.setDown c pos .open_ else if r.detail % 256 = 4 then s.setDown c pos .closed else s)
      else s
    else if r.src = 40 then
      let x := s.sleepAt c
      if (x.state = .proposed ∨ x.state = .committed) ∧ s.derivedNow < x.at_ then s.abortSleep c pos else s
    else s

/-- EVT_NOTIFY (R83, R84): the lead receives a tile's records. -/
def execEvtNotify (m : Msg) (s : State) : Res :=
  if !s.alive || !s.isLead then .next s
  else
    let t := s.takeMsgRow m
    let b := m.body
    match discardCase b with
    | some c => .next (t.raise16 m.port c)
    | none =>
    if u16 b 2 ≠ 0x0F04 then .next t
    else .next ((notifyRecs b).foldl (fun t r => (t.mergeRec r).noteTileRec r) t)

end Sys2Proof.Machine
end

