-- ==== Sys2Proof/Machine/RegView.lean ====
section
/-! DEFINITION. What every register reads as (R11, R12): the stored word, or what the chip computes for a read-only register; and which
registers a role has (R28, R29). -/

namespace Sys2Proof.Machine

/-- The index of an address in an array of registers. -/
def regIdx (base stride count a : Nat) : Option Nat :=
  if base ≤ a ∧ (a - base) % stride = 0 ∧ (a - base) / stride < count then some ((a - base) / stride) else none

/-- Word k of a payload kept word for word; 0 past its end. DESIGN CHOICE (log entry 11): the registers hold an accepted payload word for word,
while reserved bits read 0 by R8; its reserved bits read here as they were sent. -/
def payloadWord (p : List Byte) (k : Nat) : Nat := u32 (fit (4 * k + 4) p) (4 * k)

/-- The four words of a time value, laid out as TMU_NOW_M0 without VALID (R153). -/
def timeWord (t k : Nat) : Nat :=
  if k = 0 then t / unitsPerSec / 2 ^ 32 % 65536
  else if k = 1 then t / unitsPerSec % 2 ^ 32
  else if k = 2 then t / 65536 % 1000000000
  else t % 65536

/-- High or low word of a 64-bit value. -/
def word64 (v k : Nat) : Nat := if k = 0 then v / 2 ^ 32 % 2 ^ 32 else v % 2 ^ 32

/-- Read an array: the word of an index, if the address lies in the array. -/
def inArray (base stride count a : Nat) (f : Nat → Nat) : Option Nat := (regIdx base stride count a).map f

/-! ### GLB, CMD, EVT -/

/-- GLB (R3, R41, R87, R92, R94, R503, R545). -/
def State.viewGlb (s : State) (a : Nat) : Option Nat :=
  if a = Reg.glbPllStatus then
    some ((List.range 16).foldl (fun w i => if s.pllLock i then w + 2 ^ i else w) 0 + s.fld a 31 16 * 65536)
  else if a = Reg.glbAvs then some s.avsWord
  else if a = Reg.glbTopoCfg ∧ !s.isLead then some 0
  else if a = Reg.glbTopoPort then some ((List.range 8).foldl (fun w p => w + (s.portState p).code * 16 ^ p) 0)
  else if a = Reg.glbTopoAddr then some (bn s.net.valid * 2 ^ 31 + s.net.upPort * 65536 + s.net.addr % 4096)
  else inArray Reg.glbUnitId 4 4 a (fun k => u32 unitIdBytes (4 * k))

/-- CMD (R76). -/
def State.viewCmd (s : State) (a : Nat) : Option Nat :=
  match regIdx Reg.cmdRingCfg 0x20 16 a, regIdx Reg.cmdRingHead 0x20 16 a with
  | some c, _ => some ((s.reg a).toNat + bn (s.cmd.ringHold.contains c) * 2)
  | _, some c => some (Map.at s.cmd.ringHead 0 c)
  | _, _ => none

/-- EVT (R84, R543): MERGE_EN reads 0 in a tile. -/
def State.viewEvt (s : State) (a : Nat) : Option Nat :=
  if a = Reg.evtCfg ∧ !s.isLead then some (setBits (s.reg a).toNat 7 7 0)
  else if a = Reg.evtRingTail then some s.evt.ringTail
  else none

/-! ### TMU -/

/-- The word at an offset from TMU_DOMd_CFG. -/
def State.viewDom (s : State) (d : Bool) (o : Nat) : Option Nat :=
  let x := s.dom d
  if o = 0x04 then
    some (x.servo.code * 2 ^ 30 + bn x.valid * 2 ^ 29 + bn x.pend.isSome * 2 ^ 28 + min 255 x.rej * 65536 + unsigned 16 x.utcOffset)
  else if 0x08 ≤ o ∧ o < 0x18 then some (timeWord (x.offset / 1099511627776).toNat ((o - 0x08) / 4))
  else if o = 0x18 ∨ o = 0x1C then some (word64 x.rate ((o - 0x18) / 4))
  else if o = 0x20 ∨ o = 0x24 then some (word64 (s64 x.theta) ((o - 0x20) / 4))
  else if o = 0x28 ∨ o = 0x2C then some (word64 (s64 x.mpd) ((o - 0x28) / 4))
  else none

/-- The word at an offset from TMU_CAPn_RAW_HI (R160). -/
def CapFifo.word (c : CapFifo) (k : Nat) : Nat :=
  if k = 0 then c.shown.1 / 2 ^ 64
  else if k = 1 then c.shown.1 / 2 ^ 32 % 2 ^ 32
  else if k = 2 then c.shown.1 % 2 ^ 32
  else if k < 7 then timeWord c.shown.2 (k - 3)
  else c.entries.length % 32 + min 0xFFFF c.discards * 65536

/-- TMU (R153, R158, R160, R165, R171, R175). TMU_NOW is the snapshot that a command took (R154). -/
def State.viewTmu (s : State) (a : Nat) : Option Nat :=
  if a = Reg.tmuCfg then some (bn s.tmu.active * 256 + (if s.isLead then (s.reg a).toNat else (s.reg a).toNat % 2 ^ 24))
  else if a = Reg.tmuStgCtl then some ((s.reg a).toNat + bn (s.dom (s.bit a 4)).pend.isSome * 256)
  else if a = Reg.tmuBridge then some ((s.reg a).toNat + bn s.tmu.bridge.isSome * 2 ^ 31)
  else if a = Reg.tmuPathAsym then some (unsigned 32 s.actDom.asym)
  else match regIdx Reg.tmuNow 4 12 a, regIdx Reg.tmuBridgeRes 4 2 a with
  | some k, _ => some (s.tmu.fw.word k)
  | _, some k => some (word64 (s64 s.bridgeNow) k)
  | _, _ =>
    if 0x00300200 ≤ a ∧ a < 0x00300280 then s.viewDom (decide (0x00300240 ≤ a)) ((a - 0x00300200) % 0x40)
    else if 0x00300500 ≤ a ∧ a < 0x00300580 then some ((s.tmu.caps.getD ((a - 0x00300500) / 0x20) {}).word ((a - 0x00300500) % 0x20 / 4))
    else none

/-! ### LCH, PRT -/

/-- A launch's number and instant: word 0 the number, then as TMU_NOW_M0. -/
def launchWord (l : Option Launch) (k : Nat) : Nat :=
  match l with
  | some x => if k = 0 then x.n else timeWord x.at_ (k - 1)
  | none => 0

/-- LCH_STATUS (R207). -/
def State.lchStatusWord (s : State) : Nat :=
  let c := s.lch.cfg
  s.lch.state.code * 2 ^ 28 + bn (!c.isEmpty) * (lchMode c % 4 * 2 ^ 26 + lchId c * 2 ^ 16 + 8) + s.lch.servo.code * 2 ^ 24 +
    min 15 s.lch.coasts * 4096 + min 8 s.lch.table.length * 256 + bn ((s.lch.state == .tRun || s.lch.state == .tCoast) && s.actDom.servo != .locked) * 4 + bn (s.isArmed 0x0301) * 2 +
    bn (s.isArmed 0x0302)

/-- LCH (R207). -/
def State.viewLch (s : State) (a : Nat) : Option Nat :=
  if a = Reg.lchStatus then some s.lchStatusWord
  else if a = Reg.lchServoErr then some (unsigned 32 s.lch.err)
  else match regIdx Reg.lchLastN 4 5 a, regIdx Reg.lchNextN 4 5 a, regIdx Reg.lchCfg 4 15 a, regIdx Reg.lchShref 4 16 a with
  | some k, _, _, _ => some (launchWord s.lch.past.head? k)
  | _, some k, _, _ => some (launchWord s.lch.table.head? k)
  | _, _, some k, _ => some (payloadWord s.lch.cfg k)
  | _, _, _, some k => some (payloadWord (s.lch.shref.getD (k / 4) []) (k % 4))
  | _, _, _, _ => none

/-- PRT_ECL_STATE (R145). -/
def State.eclWord (s : State) : Nat :=
  let e := s.net.ecl
  let (scope, origin, chain, eseq) := e.last
  bn (s.isTile && e.dark) * 2 ^ 31 + bn (!e.holds.isEmpty) * 2 ^ 30 + bn (e.holds.any (fun h => h.2.safe)) * 2 ^ 29 + scope % 4 * 2 ^ 24 +
    origin % 16 * 2 ^ 20 + chain % 4 * 2 ^ 18 + eseq % 256 * 256 + (if s.isLead then e.nextEseq % 256 else 0)

/-- PRT (R144, R145). -/
def State.viewPrt (s : State) (a : Nat) : Option Nat :=
  if a = Reg.prtEclState then some s.eclWord
  else match regIdx Reg.prtStatus 0x10000 8 a, regIdx Reg.prtEclHold 4 16 a with
  | some p, _ =>
    let x := s.port p
    some (bn x.sfLock * 8 + bn x.pcsLock * 6 + bn (x.pcsLock && s.bit (prt Reg.prtCfg p) 0))
  | _, some n =>
    some (match Map.find s.net.ecl.holds n with | some h => 2 ^ 31 + bn h.safe * 2 ^ 30 + h.eseq % 256 | none => 0)
  | _, _ => none

/-! ### ING, CMP, BCD -/

/-- ING_STRm_STATUS (R213, R216). -/
def State.strStatusWord (s : State) (m : Nat) : Nat :=
  let x := s.strm m
  let recent := x.legAt.any (fun t => match t with | some r => decide (s.now ≤ r + rawMs 10) | none => false)
  bn recent * 2 ^ 31 + bn (x.legOk.getD 0 false) * 2 ^ 30 + bn (x.legOk.getD 1 false) * 2 ^ 29 + bn x.locked * 2 ^ 28 + x.writeBuf % 4 * 4 +
    x.curBuf % 4

/-- ING (R213, R235). -/
def State.viewIng (s : State) (a : Nat) : Option Nat :=
  if 0x00601000 ≤ a ∧ a < 0x00601400 then
    let m := (a - 0x00601000) / 0x100
    let o := a % 0x100
    if o = 0x24 then some (s.strStatusWord m)
    else if 0x70 ≤ o then some (payloadWord (s.strm m).conf ((o - 0x70) / 4))
    else none
  else none

/-- CMP_FLIPg (R231). -/
def State.flipWord (s : State) (g : Nat) : Nat :=
  match Map.find s.pix.flips g with
  | none => 0
  | some f =>
    let left := match f.deadline with | some d => min 0xFFFF ((d - s.now + rawMs 1 - 1) / rawMs 1) | none => 0
    (if f.ready then 2 else 1) * 2 ^ 30 + f.fence % 1024 * 65536 + (if f.ready then 0 else left)

/-- CMP (R224, R238). -/
def State.viewCmp (s : State) (a : Nat) : Option Nat :=
  if a = Reg.cmpCfg then some ((s.reg a).toNat + bn (s.pix.streams.any (fun x => !x.lock.isEmpty)) * 2)
  else if 0x00701000 ≤ a ∧ a < 0x00701800 then some (payloadWord (Map.at s.pix.layers [] ((a - 0x00701000) / 0x40)) (a % 0x40 / 4))
  else match regIdx Reg.cmpProt 4 6 a, regIdx Reg.cmpFlip 4 16 a, regIdx Reg.cmpFence 4 1023 a with
  | some k, _, _ => some (payloadWord s.pix.prot k)
  | _, some g, _ => some (s.flipWord g)
  | _, _, some k => some (Map.at s.pix.fences 0 (k + 1))
  | _, _, _ => none

/-- BCD (R268). The busy fractions are free values. -/
def State.viewBcd (s : State) (a : Nat) : Option Nat :=
  if a = Reg.bcdEncBusy then some (s.busyWord true)
  else if a = Reg.bcdDecBusy then some (s.freeNext.busyWord false)
  else inArray Reg.bcdChain 4 4 a s.chainWord

/-! ### LPP, EMS -/

/-- Region state codes (R299). -/
def RegSt.code : RegSt → Nat
  | .free => 0 | .filling => 1 | .pending => 2 | .current => 3

/-- Does a staged change belong to those of R293? -/
def Change.ofPipe : Change → Bool
  | .layer _ | .prot _ | .bg _ _ | .lpp _ | .lut _ | .mask _ => true
  | _ => false

/-- LPP_STATUS (R299). FRAME is that of the latest sub-frame begun. -/
def State.lppStatusWord (s : State) : Nat :=
  let prog := s.lpp.subs.foldl (fun (m : Nat) x => match x.begun with | some (n, _) => n % 8192 | none => m) 0
  bn (!s.lpp.cfg.isEmpty) * 2 ^ 31 + bn (s.pix.staged.any (fun p => p.change.ofPipe) || !s.pix.flips.isEmpty) * 2 ^ 30 + bn s.lpp.regen.isSome * 2 ^ 29 +
    s.lpp.active % 2 * 2 ^ 28 + s.lpp.mask % 16 * 2 ^ 24 + s.stagedMask.getD 0 % 16 * 2 ^ 20 + (if s.ems.cfg.isEmpty then 0 else s.nReg % 16) * 2 ^ 16 +
    (if s.ems.cfg.isEmpty then 0 else emsNcw s.ems.cfg % 8) * 2 ^ 13 + prog

/-- LPP_ZONE_TEMPz (R282). -/
def State.zoneTempWord (s : State) (z : Nat) : Nat :=
  let f := s.lpp.zones.getD z {}
  let own := s.zoneSrc z == 0
  bn (own && f.stale) * 2 ^ 31 + bn (own && f.fallback) * 2 ^ 30 + (if s.zoneSrc z = 0 then min 255 (s.freshReports z).length else 0) * 65536 + unsigned 16 (s.zoneTemp z)

/-- LPP (R276, R299). -/
def State.viewLpp (s : State) (a : Nat) : Option Nat :=
  if a = Reg.lppStatus then some s.lppStatusWord
  else if a = Reg.lppAlmSeq then some (s.lpp.almSeq % 2 ^ 32)
  else if a = Reg.lppRegions then
    some ((List.range 8).foldl (fun w r => let x := s.lpp.regions.getD r {}; w + (x.st.code + x.slot % 4 * 4) * 16 ^ r) 0)
  else if a = Reg.lppMapStatus then some (match s.lpp.mapScan with | some n => 2 ^ 31 + min 0xFFFF n | none => 0)
  else if Reg.lppLut ≤ a ∧ a < Reg.lppLut + 4 * 12288 then
    let k := (a - Reg.lppLut) / 4
    some (s.linear (k / 4096) (k % 4096))
  else match regIdx Reg.lppCfg 4 12 a, regIdx Reg.lppAlmSet 4 4 a, regIdx Reg.lppZoneTemp 4 64 a, regIdx Reg.lppZoneWt 4 64 a with
  | some k, _, _, _ => some (payloadWord s.lpp.cfg k)
  | _, some k, _, _ =>
    let x := s.lpp.sets.getD k {}
    some (bn x.loaded * 2 ^ 31 + bn (s.setInUse k) * 2 ^ 30 + unsigned 16 x.temp)
  | _, _, some z, _ => some (s.zoneTempWord z)
  | _, _, _, some z =>
    let (lo, _, w) := (s.lpp.bufs.getD s.lpp.active {}).zones.getD z (0, 0, 0)
    some (lo % 256 * 2 ^ 24 + w % 2 ^ 17)
  | _, _, _, _ => none

/-- EMS_STATUS (R334). -/
def State.emsStatusWord (s : State) : Nat :=
  let base := bn s.ems.enabled * 2 ^ 31 + bn s.ems.hold * 2 ^ 30 + bn s.blankLow * 2 ^ 29 + bn (!s.ems.setups.isEmpty) * 2 ^ 28 +
    s.ems.scale % 8 * 2 ^ 21
  match s.ems.win with
  | some w => base + w.slot % 4 * 2 ^ 19 + bn (!w.fill) * 2 ^ 18 + bn w.fill * 2 ^ 17 + w.n % 8192
  | none => base

/-- EMS_FILL_NEED: the last fill lit end after L in LAMP cycles; 0 without fill. -/
def State.fillNeed (s : State) : Nat :=
  let c := s.ems.cfg
  if c.isEmpty ∨ s.lch.cfg.isEmpty ∨ !emsFill c then 0
  else
    roundDivN (((s.reg Reg.emsEmitDelay).toNat + lchStart s.lch.cfg (lchSlots s.lch.cfg - 1)) * 1000) 524288 + fillStart c + (lastShown (fillPlan c)).stop

/-- EMS (R334). -/
def State.viewEms (s : State) (a : Nat) : Option Nat :=
  let both := !s.ems.cfg.isEmpty && !s.lch.cfg.isEmpty
  if a = Reg.emsStatus then some s.emsStatusWord
  else if a = Reg.emsFillNeed then some (s.fillNeed % 2 ^ 32)
  else if a = Reg.emsShiftUse then some (if both then shiftUse s.lch.cfg s.ems.cfg % 2048 else 0)
  else match regIdx Reg.emsCfg 4 8 a, regIdx Reg.emsWinNeed 4 4 a, regIdx Reg.emsDrv 4 32768 a with
  | some k, _, _ => some (payloadWord s.ems.cfg k)
  | _, some w, _ => some (if both && decide (w < lchSlots s.lch.cfg) then (lastShown (windowPlan s.ems.cfg)).stop % 2 ^ 32 else 0)
  | _, _, some k => some (word64 (Map.at s.ems.drv 0 (k / 2)) (k % 2))
  | _, _, _ => none

/-! ### MEM, PAI, CAL, SEC, PWR -/

/-- MEM (R359, R360). -/
def State.viewMem (s : State) (a : Nat) : Option Nat :=
  if a = Reg.memCfg then some s.memCfgWord
  else match regIdx Reg.memChStatus 0x40000 4 a, regIdx Reg.memUeAddrHi 0x40000 4 a, regIdx Reg.memUeAddrLo 0x40000 4 a with
  | some n, _, _ => some (s.chStatus n)
  | _, some n, _ => some (word64 (s.chan n).ueAddr 0)
  | _, _, some n => some (word64 (s.chan n).ueAddr 1)
  | _, _, _ => none

/-- PAI (R384): an RMAP_c that was never set reads as its reset value 0. -/
def State.viewPai (s : State) (a : Nat) : Option Nat :=
  if a = Reg.paiStatus then some s.paiStatus
  else if a = Reg.paiLeaseLeft then some s.leaseLeft
  else if a = Reg.paiBseq then some s.pai.bseq
  else if a = Reg.paiMseqSent then some s.mseqShown
  else if a = Reg.paiMseqAck then some s.pai.mseqAck
  else inArray Reg.paiRmap 4 4 a (fun c => (s.pai.rmap.getD c none).getD 0)

/-- Word k of a trim set (R404). -/
def CalSet.word (x : CalSet) (k : Nat) : Nat :=
  if k = 0 then x.valid % 16 * 65536 + unsigned 16 x.t
  else if k < 3 then unsigned 16 (x.g.getD (2 * k - 2) 0) * 65536 + unsigned 16 (x.g.getD (2 * k - 1) 0)
  else 0

/-- CAL (R404). -/
def State.viewCal (s : State) (a : Nat) : Option Nat :=
  if a = Reg.calStatus then some s.calStatus
  else match regIdx Reg.calIrefCode 4 16 a, regIdx Reg.calSet 4 64 a, regIdx Reg.calTemp 4 12 a with
  | some n, _, _ => some (s.cal.codes.getD n 0 % 65536)
  | _, some k, _ => some ((s.cal.sets.getD (k / 4) {}).word (k % 4))
  | _, _, some k => some (bn (s.cal.faults.getD k false) * 2 ^ 31 + unsigned 16 (s.cal.temps.getD k 0))
  | _, _, _ => none

/-- SEC_STATUS (15, Registers). -/
def State.secStatusWord (s : State) : Nat :=
  bn s.gateOpen * 2 ^ 31 + bn s.inRecovery * 2 ^ 30 + bn s.sec.trial * 2 ^ 29 + bn s.sec.settingsReset * 2 ^ 28 + bn s.sec.upd.isSome * 2 ^ 27 +
    bn s.ks.group.isSome * 2 ^ 26 + bn s.sec.stale * 2 ^ 25 + s.gateGen % 128 * 65536 + s.sec.bootDetail % 65536

/-- SEC (15, Registers). -/
def State.viewSec (s : State) (a : Nat) : Option Nat :=
  if a = Reg.secStatus then some s.secStatusWord
  else if a = Reg.secOtpCnt then
    some (s.otp.arb % 128 + s.otp.dbgOpen % 64 * 256 + s.otp.dbgClose % 64 * 65536 + s.otp.rootRevoke % 16 * 2 ^ 24)
  else if a = Reg.secBoot then
    some (s.flash.active % 2 + bn s.flash.trial * 2 + s.flash.left % 8 * 16 +
      (match s.flash.pend with | none => 0 | some none => 1 | some (some _) => 2) * 256)
  else if a = Reg.secProv then some s.provMap
  else if a = Reg.secImgWritten then some (match s.sec.upd with | some u => u.written | none => 0)
  else match regIdx Reg.secVer 4 2 a, regIdx Reg.secMask 4 15 a with
  | some k, _ => some (s.imgSlot k).version
  | _, some k => some (Map.at s.ks.masks 0 k)
  | _, _ => none

/-- PWR (R494). -/
def State.viewPwr (s : State) (a : Nat) : Option Nat :=
  if a = Reg.pwrRstCause then some s.rstCauseWord
  else if a = Reg.pwrSupply then some s.supplyWord
  else if a = Reg.pwrCore then some s.coreWord
  else if a = Reg.pwrTwi then some s.twiWord
  else if a = Reg.pwrPmeCause then some s.pwr.pmeCause
  else match regIdx Reg.pwrSleepEpoch 4 4 a, regIdx Reg.pwrDomOn 4 5 a, regIdx Reg.pwrDomOff 4 5 a with
  | some c, _, _ => some (if s.isLead ∨ c = 0 then (s.sleepAt c).epoch else 0)
  | _, some k, _ => some (s.domOnWord k)
  | _, _, some k => some (s.domOffWord k)
  | _, _, _ => none

/-! ### All registers -/

/-- What the chip computes for a register, if it is not its stored word. -/
def State.computed (s : State) (a : Nat) : Option Nat :=
  match a / 2 ^ 20 with
  | 0x0 => s.viewGlb a
  | 0x1 => s.viewCmd a
  | 0x2 => s.viewEvt a
  | 0x3 => s.viewTmu a
  | 0x4 => s.viewLch a
  | 0x5 => s.viewPrt a
  | 0x6 => s.viewIng a
  | 0x7 => s.viewCmp a
  | 0x8 => s.viewBcd a
  | 0x9 => s.viewLpp a
  | 0xA => s.viewEms a
  | 0xB => s.viewMem a
  | 0xC => s.viewPai a
  | 0xD => s.viewCal a
  | 0xE => some (s.metWord (a - 0x00E00000))
  | 0xF => s.viewSec a
  | 0x10 => s.viewPwr a
  | _ => none

/-- What a register reads as. -/
def State.regView (s : State) (a : Nat) : Word :=
  match s.computed a with
  | some v => BitVec.ofNat 32 v
  | none => s.reg a

/-- Is a register of a function that is off in the role (R28, R29)? A factory-test or reserved strap has the registers of a tile. -/
def State.regOff (s : State) (a : Nat) : Bool :=
  match regRow a with
  | none => false
  | some r =>
    let lead := s.isLead
    (r.role == 1 && !lead) || (r.role == 2 && lead) ||
      (!lead && ((decide (0x00520000 ≤ a) && decide (a < 0x00580000)) || (decide (0x00B40000 ≤ a) && decide (a < 0x00C00000)) ||
        (decide (Reg.calPortDly + 8 ≤ a) && decide (a < Reg.calPortDly + 32)) ||
        (decide (Reg.tmuPortDly + 0x20 ≤ a) && decide (a < Reg.tmuPortDly + 0x80))))

/-- What a read through BAR0 returns (R9, R29, R72, R154): 0 for an address without a register or of a function off in the role, and for PWR, which
is not mapped; a TMU_NOW word is that of BAR0's snapshot, once TMU_NOW_READ has latched it where it must. -/
def State.barView (s : State) (a : Nat) : Word :=
  if 0x01000000 ≤ a ∨ (regRow a).isNone ∨ s.regOff a then 0
  else match regIdx Reg.tmuNow 4 12 a with
    | some k => BitVec.ofNat 32 (s.tmu.snap.word k)
    | none => s.regView a

/-- The registers an access of `n` words from `a` covers. -/
def regRange (a n : Nat) : List Nat := (List.range n).map (fun k => a + 4 * k)

/-- What refuses an access of REG_READ or REG_WRITE to a range, before any value is looked at (R9, R11, R29). -/
def State.rangeRefusal (s : State) (a n : Nat) : Option Rsp :=
  if a % 4 ≠ 0 then some (rspErr stBadAddress)
  else match (regRange a n).find? (fun x => (regRow x).isNone || s.regOff x) with
    | some x => some (if (regRow x).isNone then rspErr stBadAddress else rspErr stUnsupportedRole)
    | none => none

/-- The capture inputs whose TMU_CAPn_RAW_HI lies in a range (R160). -/
def capsRead (a n : Nat) : List Nat := (List.range 4).filter (fun k => (regRange a n).contains (Reg.tmuCapRawHi + 0x20 * k))

/-- A capture FIFO pops its head entry into its registers (R160). -/
def State.popCap (s : State) (k : Nat) : State :=
  let c := s.tmu.caps.getD k {}
  match c.entries with
  | [] => s
  | e :: rest => s.setCap k { c with entries := rest, shown := e }

/-- REG_READ (R9, R11, R29, R154, R160, R539). -/
def execRegRead (r : Req) (s : State) : Res :=
  runReq 0x0002 r s fun s =>
    let a := u32 r.payload 0
    let n := u16 r.payload 4
    if n < 1 ∨ 1023 < n then (s, rspParam 4)
    else match s.rangeRefusal a n with
    | some x => (s, x)
    | none =>
      let t := (capsRead a n).foldl State.popCap s
      let t := if (regRange a n).any (fun x => (regIdx Reg.tmuNow 4 12 x).isSome) then t.takeSnap else t
      (t.freeNext.freeNext, rspOk (wordBytes ((regRange a n).map t.regView)))

end Sys2Proof.Machine
end

