-- ==== Sys2Proof/Machine/RegWrite.lean ====
section
/-! DEFINITION. Writes of registers: what a word written does, what refuses it, and the ways that lead to a write, BAR0 and REG_WRITE (R7 to
R9, R11, R12, R14, R29, R31, R72, R540). -/

namespace Sys2Proof.Machine

/-- Why a write of a register is refused (R540). -/
inductive RegRefusal
  /-- Its value: BAD_PARAM with the offset of the word. -/
  | value
  /-- Its value, with a DETAIL of the owning chapter. -/
  | param (detail : Nat)
  /-- The present state. -/
  | state (detail : Nat)
  /-- A GO of TMU_STG_CTL, with its reason (R157), or 0 for a time value whose NS is out of range (R150). -/
  | time (reason : Nat)
  /-- An RWL field after LOCK (R14). -/
  | locked
  /-- The mailbox (R31). -/
  | mailbox
  deriving DecidableEq, Repr

/-! ### Values -/

/-- Store a word by a register's access codes (R12): RW and RWL bits take it, W1C bits clear. -/
def State.storeReg (s : State) (r : RegRow) (a w : Nat) : State :=
  let old := (s.reg a).toNat
  let rw := r.rw ||| r.rwl
  let cleared := old &&& w &&& r.w1c
  s.setReg a (BitVec.ofNat 32 ((old &&& (0xFFFFFFFF ^^^ rw) ^^^ cleared) ||| (w &&& rw)))

/-- May a lead write this DIST (R161, R524)? Not a port from which a domain takes its time, nor P7 as ingest; nothing else than 0 in a tile is
stored. -/
def State.distOk (s : State) (dist : Nat) : Bool :=
  let src (k : Nat) : Bool := s.domSrc false == k || s.domSrc true == k
  !(dist.testBit 6 && src 2) && !(dist.testBit 7 && (src 3 || s.func 7 == 2))

/-- May a domain take this source (R161, R524)? -/
def State.srcCodeOk (s : State) (v : Nat) : Bool :=
  if s.isLead then
    v == 0 || v == 1 || (v == 2 && !(s.bit Reg.tmuCfg 30)) || (v == 3 && !(s.bit Reg.tmuCfg 31) && s.func 7 != 2)
  else v == 0 || v == 4

/-- Is a coefficient bank used by a visible layer of the current or a staged configuration (R224)? -/
def State.bankUsed (s : State) (b : Nat) : Bool :=
  let uses (p : List Byte) : Bool := (u8 p 1).testBit 0 && u8 p 3 % 4 == b
  s.pix.layers.any (fun x => uses x.2) || s.pix.staged.any (fun p => match p.change with | .layer l => uses l | _ => false)

/-! ### Writes by block: the state after the write, and what refused it -/

/-- GLB: GLB_TOPO_CFG until LOCK (R14, R87), GLB_TOPO_EPOCH of a lead (R92). -/
def State.writeGlb (s : State) (r : RegRow) (a w : Nat) : State × Option RegRefusal :=
  if a = Reg.glbTopoCfg then
    if !s.isLead then (s, none)
    else if s.bit a 31 then (s, some .locked)
    else (State.noteLeadLink s (s.storeReg r a w), none)
  else if a = Reg.glbTopoEpoch then
    if !s.isLead then (s, none)
    else if s.epochIgnored (BitVec.ofNat 32 w) then (s, some (.state 0x0102))
    else (s.newEpoch (BitVec.ofNat 32 w), none)
  else (s.storeReg r a w, none)

/-- A ring size exponent that refuses ENABLE (R76, R543). -/
def ringBad (w : Nat) : Bool := w.testBit 0 && !(decide (6 ≤ bitsOf w 12 8) && decide (bitsOf w 12 8 ≤ 16))

/-- CMD and EVT: the rings (R76, R543); MERGE_EN is read-only in a tile. -/
def State.writeRings (s : State) (r : RegRow) (a w : Nat) : State × Option RegRefusal :=
  match regIdx Reg.cmdRingCfg 0x20 16 a with
  | some c => if ringBad w then (s.storeReg r a (w - 1), some .value) else (s.writeRingCfg c (BitVec.ofNat 32 w), none)
  | none =>
    if a = Reg.evtRingCfg then
      if ringBad w then (s.writeEvtRingCfg (BitVec.ofNat 32 (w - 1)), some .value) else (s.writeEvtRingCfg (BitVec.ofNat 32 w), none)
    else if a = Reg.evtCfg ∧ !s.isLead then (s.storeReg r a (setBits w 7 7 (s.fld a 7 7)), none)
    else (s.storeReg r a w, none)

/-- TMU (R150, R157, R158, R161, R524). -/
def State.writeTmu (s : State) (r : RegRow) (a w : Nat) : State × Option RegRefusal :=
  if a = Reg.tmuCfg then
    if !s.isLead then (s.storeReg r a (w % 2 ^ 24), none)
    else if s.distOk (bitsOf w 31 24) then (s.storeReg r a w, none)
    else (s, some .value)
  else if a = Reg.tmuDomCfg ∨ a = Reg.tmuDomCfg + 0x40 then
    if s.srcCodeOk (bitsOf w 31 29) then (s.storeReg r a w, none) else (s, some .value)
  else if a = Reg.tmuStgCtl then (s.stgGo (BitVec.ofNat 32 w), (s.goRefusal w).map .time)
  else if a = Reg.tmuStgValLo + 4 then (s.storeReg r a w, if 1000000000 ≤ w then some (.time 0) else none)
  else (s.storeReg r a w, none)

/-- PRT (R32, R110, R145, R545): FUNC and FEC_EN are taken or refused each for itself. -/
def State.writePrt (s : State) (a w : Nat) : State × Option RegRefusal :=
  match regIdx Reg.prtCfg 0x10000 8 a, regIdx Reg.prtCntClr 0x10000 8 a with
  | some p, _ =>
    let f := bitsOf w 11 8
    let why := s.funcRefusal p f
    let fec := w.testBit 0 != s.bit a 0
    let held := fec && s.fecFixed p
    let t := if why = 0 then State.noteLeadLink s (s.setFunc p f) else s
    let t := if fec && !held then t.setFld a 0 0 (bn (w.testBit 0)) else t
    (t, if why = 1 then some .value else if why = 2 then some (.state 0x0E01) else if held then some (.state 0x010A) else none)
  | _, some p => (s.clearCounters (prt Reg.prtC1Bad p) 9 w, none)
  | _, _ => (s, none)

/-- Does a FMT word name a format of R213, with primaries that it has? -/
def fmtWordOk (w : Nat) : Bool := strSurfFmt w != 0 && (bitsOf w 28 27 != 2 || bitsOf w 31 30 == 2)

/-- Does a RATE word hold a frame rate of R213, or its reset value? -/
def rateWordOk (w : Nat) : Bool :=
  let num := bitsOf w 31 16
  let den := bitsOf w 15 0
  w == 0 || (den != 0 && decide (24000 * den ≤ 1001 * num) && decide (num ≤ 240 * den))

/-- ING (R214): a stream's registers are fixed while it is enabled. -/
def State.writeIng (s : State) (r : RegRow) (a w : Nat) : State × Option RegRefusal :=
  if 0x00601000 ≤ a ∧ a < 0x00601400 then
    let m := (a - 0x00601000) / 0x100
    let o := a % 0x100
    if o = 0 then
      let (t, why) := s.writeStrCtl m (BitVec.ofNat 32 w)
      (t, if why = 0 then none else if why = 1 then some .value else if why = 2 then some (.state 0x0E01) else some (.param why))
    else if o ≠ 0x60 ∧ 0x20 < o then (s, none)
    else if s.strOn m then (s, some (.state 0x0004))
    else if o = 0x60 then (s.clearCounters (strReg Reg.ingStrPkt0 m) 8 w, none)
    else if (o = 4 ∧ !fmtWordOk w) ∨ (o = 0xC ∧ !rateWordOk w) then (s, some .value)
    else (s.storeReg r a w, none)
  else (s.storeReg r a w, none)

/-- CMP (R221, R224, R230, R238): a background is staged for the launch (R37, R293). -/
def State.writeCmp (s : State) (r : RegRow) (a w : Nat) : State × Option RegRefusal :=
  if a = Reg.cmpCfg then
    if !w.testBit 0 then (s.setFld a 0 0 0, none)
    else
      let why := s.cmpRefusal
      if why = 0 then (s.setFld a 0 0 1, none)
      else (s.setFld a 0 0 0, some (if why = 1 then .value else if why = 2 then .state 0x0E01 else .param why))
  else if a = Reg.cmpBg0 ∨ a = Reg.cmpBg1 then
    (s.addChange (.bg a (BitVec.ofNat 32 (w &&& r.rw))) (max s.derived s.holdUntil) s.firstUnbegun, none)
  else if a = Reg.cmpCntClr then (s.clearCounters Reg.cmpFlipCnt 3 w, none)
  else if a = Reg.cmpCanvas ∨ (Reg.cmpTmap0 ≤ a ∧ a < Reg.cmpTmap0 + 0x800) then
    if s.bit Reg.cmpCfg 0 then (s, some (.state 0x0407)) else (s.storeReg r a w, none)
  else if Reg.cmpCoef1 ≤ a ∧ a < Reg.cmpCoef1 + 0x1800 then
    if s.bankUsed ((a - Reg.cmpCoef0) / 0x800) then (s, some (.state 0x0407)) else (s.storeReg r a w, none)
  else (s.storeReg r a w, none)

/-- LPP and EMS of a tile (R275, R281, R300, R334, R335). -/
def State.writeLamp (s : State) (r : RegRow) (a w : Nat) : State × Option RegRefusal :=
  if a = Reg.lppCntClr then (s.clearCounters Reg.lppSfDone 5 w, none)
  else if a = Reg.emsCntClr then (s.clearCounters Reg.emsWinCut 6 w, none)
  else if Reg.lppDmap ≤ a ∧ a < Reg.lppShape + 0x800 then
    if s.ems.enabled then (s, some (.state 0x0602)) else (s.storeReg r a w, none)
  else if (regIdx Reg.lppZoneCfg 4 64 a).isSome ∧ bitsOf w 31 30 = 2 ∧ 3 < bitsOf w 26 24 then (s, some .value)
  else if a = Reg.emsEmitDelay then
    if s.ems.enabled then (s, some (.state 0x0004)) else (s.storeReg r a w, none)
  else (s.storeReg r a w, none)

/-- CAL (R401, R402). -/
def State.writeCal (s : State) (r : RegRow) (a w : Nat) : State × Option RegRefusal :=
  if a = Reg.calCfg then
    let (t, ok) := s.writeCalCfg (BitVec.ofNat 32 w)
    (t, if ok then none else some (.state 0x0A09))
  else match regIdx Reg.calIrefTgt 4 16 a with
  | some _ => (s.calChange true (.trim 3 a (BitVec.ofNat 32 (w % 65536))), none)
  | none => (s.storeReg r a w, none)

/-- LCH, BCD, MEM and PAI: registers, and what clears counters (R208, R268, R360, R385). -/
def State.writeOther (s : State) (r : RegRow) (a w : Nat) : State × Option RegRefusal :=
  if a = Reg.lchCntClr then (s.clearCounters Reg.lchAbortCnt 6 w, none)
  else if a = Reg.bcdCntClr then
    let t := s.clearCounters Reg.bcdC2Trn 7 w
    (if w.testBit 7 then t.setReg Reg.bcdSmax 0 else t, none)
  else if a = Reg.paiCntClr then (s.clearCounters Reg.paiRenewMiss 5 w, none)
  else match regIdx Reg.memChCntClr 0x40000 4 a with
  | some n => (s.clearCounters (memReg Reg.memCe n) 10 w, none)
  | none => (s.storeReg r a w, none)

/-- A word written to a register that the role has: the state after it, and what refused the word or a field of it. -/
def State.writeReg (s : State) (a w : Nat) : State × Option RegRefusal :=
  match regRow a with
  | none => (s, none)
  | some r =>
    let (v, out) := s.keepRanges a w
    let (t, why) := match a / 2 ^ 20 with
      | 0x0 => s.writeGlb r a v
      | 0x1 => s.writeRings r a v
      | 0x2 => s.writeRings r a v
      | 0x3 => s.writeTmu r a v
      | 0x5 => s.writePrt a v
      | 0x6 => s.writeIng r a v
      | 0x7 => s.writeCmp r a v
      | 0x9 => s.writeLamp r a v
      | 0xA => s.writeLamp r a v
      | 0xD => s.writeCal r a v
      | 0xE => (s, some .mailbox)
      | 0xF => (s, none)
      | _ => s.writeOther r a v
    (t, if why.isSome then why else if out then some .value else none)

/-! ### BAR0 -/

/-- The word a write of some bytes makes (R11): stored bits in the bytes not accessed stay, and what a write triggers or clears there is 0. -/
def State.mergeBytes (s : State) (a be : Nat) (data : Word) : Nat :=
  let m := (List.range 4).foldl (fun x i => if be.testBit i then x + 0xFF * 256 ^ i else x) 0
  let keep := match regRow a with | some r => r.rw ||| r.rwl | none => 0
  (data.toNat &&& m) ||| ((s.reg a).toNat &&& keep &&& (0xFFFFFFFF ^^^ m))

/-- REGISTER_WRITE (R7 to R9, R11, R12, R14, R29, R31, R72): a write by address, byte enables and data. What is refused or ignored with cause
raises EV_25, as does every write of the mailbox and of SEC; a GO refused has raised EV_132 instead; an address without a register, or of a function off in the role, takes the write
in silence; PWR is not mapped. -/
def execRegisterWrite (address byteEnables : Nat) (data : Word) (s : State) : Res :=
  let a := address / 4 * 4
  if !s.alive ∨ 0x01000000 ≤ a then .next s
  else if 0x00E00000 ≤ a then .next (s.raise 25 1 a)
  else if (regRow a).isNone ∨ s.regOff a then .next s
  else
    match s.writeReg a (s.mergeBytes a byteEnables data) with
    | (t, none) => .next t
    | (t, some (.time _)) => .next t
    | (t, some _) => .next (t.raise 25 1 a)

/-! ### REG_WRITE -/

/-- The answer to a refused word, the k-th of the payload (R540). -/
def RegRefusal.rsp (r : Req) (k : Nat) : RegRefusal → Rsp
  | .value => rspParam (4 + 4 * k)
  | .param d => rspErr stBadParam d
  | .state d => rspErr stWrongState d
  | .time c => if c < 4 then rspParam (4 + 4 * k) else rspErr stWrongState c
  | .locked => rspErr stNotAuthorized r.slot
  | .mailbox => rspErr stNotAuthorized r.slot

/-- The events of a word that REG_WRITE refuses. A write that the spec calls ignored raises EV_25 whatever the path (R14, R92, R110, R214,
R224, R275, R401), except where R469 gives a command only its status; a GO refused raises EV_132 (R157). -/
def State.noteRefused (s : State) (x : Nat) (w : Word) : RegRefusal → State
  | .state d => if d = 0x0E01 then s else s.raise 25 1 x
  | .locked => s.raise 25 1 x
  | .time c => if c = 0 then s else s.noteGoRefused (w.toNat.testBit 4) c
  | _ => s

/-- What refuses the k-th word of a REG_WRITE (R9, R29, R31, R87, R540): the state with the word written, or with the events of its refusal. -/
def State.writeWord (s : State) (r : Req) (a k : Nat) (w : Word) : State × Option Rsp :=
  let x := a + 4 * k
  if x / 2 ^ 20 = 0xE then (s, some (RegRefusal.mailbox.rsp r k))
  else if (regRow x).isNone then (s, some (rspErr stBadAddress))
  else if s.regOff x ∨ (!s.isLead ∧ x = Reg.glbTopoCfg) then (s, some (rspErr stUnsupportedRole))
  else match s.writeReg x w.toNat with
    | (t, none) => (t, none)
    | (_, some y) => (s.noteRefused x w y, some (y.rsp r k))

/-- The answer to the lowest-addressed word that is refused in the state before the command. -/
def State.firstRefused (s : State) (r : Req) (a k : Nat) : List Word → Option (State × Rsp)
  | [] => none
  | w :: ws =>
    match s.writeWord r a k w with
    | (t, some x) => some (t, x)
    | (_, none) => s.firstRefused r a (k + 1) ws

/-- Write the words one after the other; a word that the earlier ones make refused refuses the command. -/
def State.writeWords (s : State) (r : Req) (a k : Nat) : List Word → State × Option Rsp
  | [] => (s, none)
  | w :: ws =>
    match s.writeWord r a k w with
    | (_, some x) => (s, some x)
    | (t, none) => t.writeWords r a (k + 1) ws

/-- Does a range of words hold a background register (R293)? -/
def touchesBg (a n : Nat) : Bool := (regRange a n).any (fun x => x == Reg.cmpBg0 || x == Reg.cmpBg1)

/-- REG_WRITE (R9, R11, R29, R87, R293, R540): every word is checked before any is written; all are written, or none. -/
def execRegWrite (r : Req) (s : State) : Res :=
  runReqLater 0x0003 r s fun s =>
    let a := u32 r.payload 0
    let ws := words32 (r.payload.drop 4)
    if a % 4 ≠ 0 then (s, some (rspErr stBadAddress))
    else match s.firstRefused r a 0 ws, s.writeWords r a 0 ws with
    | some (t, x), _ => (t, some x)
    | none, (_, some x) => (s, some x)
    | none, (t, none) =>
      let u := s.holdUntil
      if touchesBg a ws.length ∧ s.derived < u then
        ({ t with pix := { t.pix with heldReplies := t.pix.heldReplies ++ [{ op := 0x0003, req := r, status := stOk, until_ := u }] } }, none)
      else (t, some rspOk)

end Sys2Proof.Machine
end

