-- ==== Sys2Proof/Machine/General.lean ====
section
/-! DEFINITION. The commands of class 0x00 that act on the chip as a whole: NOP, GET_INFO, HALT, RESUME, ARM (R17 to R24, R539). -/

namespace Sys2Proof.Machine

/-- NOP (R539). -/
def execNop (r : Req) (s : State) : Res :=
  runReq 0x0000 r s fun s => (s, rspOk)

/-- GET_INFO (R539): 40 bytes. Which slot runs is a free value where neither does: the load area, or the recovery responder. -/
def execGetInfo (r : Req) (s : State) : Res :=
  runReq 0x0001 r s fun s =>
    let addr := if s.isLead then 0x8000 + leadAddr s.leadNum else bn s.net.valid * 0x8000 + s.net.addr % 4096
    let (t, slot) := if s.sec.running = some 0 then (s, 0) else if s.sec.running = some 1 then (s, 1) else (s.freeNext, s.freeVal)
    (t, rspOk (b4 0x947200A1 ++ b1 (s.pwr.roleStrap % 4) ++ zeros 1 ++ b2 addr ++ unitIdBytes ++ b4 s.leadEpoch ++ b4 (s.imgSlot 0).version ++
      b4 (s.imgSlot 1).version ++ b1 slot ++ zeros 3))

/-- HALT (R22, R24): inert; a HALT under slot 15 is remembered until the chip leaves the inert state. -/
def execHalt (r : Req) (s : State) : Res :=
  runReq 0x0004 r s fun s =>
    let t := s.goInert
    ({ t with pwr := { t.pwr with haltSafety := s.pwr.haltSafety || r.isSafety } }, rspOk)

/-- Is a cause of inertness still present (R24, R470, R471): a supply out of its range, or a junction at its limit? -/
def State.inertCause (s : State) : Option Nat :=
  if s.pwr.supplyOut.any (fun n => decide (3 ≤ n) && decide (n ≤ 9)) then some 0x0E0A
  else if s.pwr.critical then some 0x0E0B
  else none

/-- RESUME (R23, R24, R363): refused where the chip is not inert, under a lesser credential than a HALT's, or with the cause still present. A
lapsed lead returns to Standby. -/
def execResume (r : Req) (s : State) : Res :=
  runReq 0x0005 r s fun s =>
    if !s.pwr.inert then (s, rspErr stWrongState 0x0003)
    else if s.pwr.haltSafety && !r.isSafety then (s, rspErr stNotAuthorized r.slot)
    else match s.inertCause with
    | some d => (s, rspErr stWrongState d)
    | none =>
      let t := if s.isLead && s.pai.state == .lapsed then s.enterStandby else s
      ({ t with pwr := { t.pwr with inert := false, haltSafety := false } }, rspOk)

/-- The arming identifiers, with the role that has them: 0 both, 1 lead, 2 tile (R178, R207, R299, R384, R476, R493). -/
def armIds : List (Nat × Nat) :=
  [(0x0001, 0), (0x0201, 1), (0x0202, 1), (0x0301, 2), (0x0302, 2), (0x0401, 1), (0x0601, 2), (0x0901, 1), (0x0902, 1), (0x0903, 1), (0x0E01, 0)]

/-- ARM (R17, R19, R539): disarming the ring relay acts on the relays that run (R383). -/
def execArm (r : Req) (s : State) : Res :=
  runReq 0x0006 r s fun s =>
    let id := u16 r.payload 0
    let on := u8 r.payload 2
    match armIds.find? (fun x => x.1 == id) with
    | none => (s, rspParam 0)
    | some (_, role) =>
      if (role = 1 ∧ !s.isLead) ∨ (role = 2 ∧ s.isLead) then (s, rspErr stUnsupportedRole)
      else if 1 < on then (s, rspParam 2)
      else
        let rest := s.armed.filter (· != id)
        if on = 1 then ({ s with armed := rest ++ [id] }, rspOk)
        else
          let t := { s with armed := rest }
          (if id = 0x0903 then t.relayWatch else t, rspOk)

end Sys2Proof.Machine
end

