-- ==== Sys2Proof/Machine/Dispatch.lean ====
section
/-! DEFINITION. Which meaning each command has: one arm per constructor. -/

namespace Sys2Proof.Machine

/-- The effect of a command on everything but the queue. -/
def exec (i : Instr) (s : State) : Host.Outcome State Fault Refusal :=
  match i with
  | .powerOnReset => Sys2Proof.Machine.execPowerOnReset s
  | .poresetNAssert => Sys2Proof.Machine.execPoresetNAssert s
  | .poresetNRise roleStrap bootStrap => Sys2Proof.Machine.execPoresetNRise roleStrap bootStrap s
  | .wresetNAssert lowRaw => Sys2Proof.Machine.execWresetNAssert lowRaw s
  | .supplyOutOfRange supply => Sys2Proof.Machine.execSupplyOutOfRange supply s
  | .supplyBackInRange supply roleStrap bootStrap => Sys2Proof.Machine.execSupplyBackInRange supply roleStrap bootStrap s
  | .pllLossOfLock pll => Sys2Proof.Machine.execPllLossOfLock pll s
  | .fifoFault fifo => Sys2Proof.Machine.execFifoFault fifo s
  | .coreFault core cause => Sys2Proof.Machine.execCoreFault core cause s
  | .temperatureMeasurement sensors => Sys2Proof.Machine.execTemperatureMeasurement sensors s
  | .avsMeasurement millivolts => Sys2Proof.Machine.execAvsMeasurement millivolts s
  | .jtagInstructionLoad instr => Sys2Proof.Machine.execJtagInstructionLoad instr s
  | .pcieEndpointReset kind => Sys2Proof.Machine.execPcieEndpointReset kind s
  | .pciePowerStateChange toD3hot pmeEnable => Sys2Proof.Machine.execPciePowerStateChange toD3hot pmeEnable s
  | .pmeStatusClear => Sys2Proof.Machine.execPmeStatusClear s
  | .doorbellWrite offset data => Sys2Proof.Machine.execDoorbellWrite offset data s
  | .descriptorFetch ring descriptor packet => Sys2Proof.Machine.execDescriptorFetch ring descriptor packet s
  | .cmdRingEnable ring cfg => Sys2Proof.Machine.execCmdRingEnable ring cfg s
  | .udpCommandDatagram port srcIp srcPort dstIp dstPort fragment data => Sys2Proof.Machine.execUdpCommandDatagram port srcIp srcPort dstIp dstPort fragment data s
  | .commandPacketDiscard via data => Sys2Proof.Machine.execCommandPacketDiscard via data s
  | .undefinedOpcode opcode r => Sys2Proof.Machine.execUndefinedOpcode opcode r s
  | .tileReplyReceived m => Sys2Proof.Machine.execTileReplyReceived m s
  | .tileTimeout => Sys2Proof.Machine.execTileTimeout s
  | .farLeadReplyTimeout => Sys2Proof.Machine.execFarLeadReplyTimeout s
  | .registerWrite addr enables data => Sys2Proof.Machine.execRegisterWrite addr enables data s
  | .eventRingHeadWrite data => Sys2Proof.Machine.execEventRingHeadWrite data s
  | .evtRingEnable cfg => Sys2Proof.Machine.execEvtRingEnable cfg s
  | .eventRingWrite => Sys2Proof.Machine.execEventRingWrite s
  | .rateLimitRelease source => Sys2Proof.Machine.execRateLimitRelease source s
  | .evtNotify m => Sys2Proof.Machine.execEvtNotify m s
  | .mergeWindowClose => Sys2Proof.Machine.execMergeWindowClose s
  | .nop r => Sys2Proof.Machine.execNop r s
  | .getInfo r => Sys2Proof.Machine.execGetInfo r s
  | .regRead r => Sys2Proof.Machine.execRegRead r s
  | .regWrite r => Sys2Proof.Machine.execRegWrite r s
  | .halt r => Sys2Proof.Machine.execHalt r s
  | .resume r => Sys2Proof.Machine.execResume r s
  | .arm r => Sys2Proof.Machine.execArm r s
  | .coreRestart r => Sys2Proof.Machine.execCoreRestart r s
  | .warmReset r => Sys2Proof.Machine.execWarmReset r s
  | .credStatus r => Sys2Proof.Machine.execCredStatus r s
  | .probeNearest r => Sys2Proof.Machine.execProbeNearest r s
  | .assignAddress r => Sys2Proof.Machine.execAssignAddress r s
  | .portOpen r => Sys2Proof.Machine.execPortOpen r s
  | .portClose r => Sys2Proof.Machine.execPortClose r s
  | .releaseAddress r => Sys2Proof.Machine.execReleaseAddress r s
  | .topoRead r => Sys2Proof.Machine.execTopoRead r s
  | .glbTopoEpochWrite data => Sys2Proof.Machine.execGlbTopoEpochWrite data s
  | .prtCfgFuncWrite port func => Sys2Proof.Machine.execPrtCfgFuncWrite port func s
  | .prtCfgFecEnWrite port enable => Sys2Proof.Machine.execPrtCfgFecEnWrite port enable s
  | .portQualified port => Sys2Proof.Machine.execPortQualified port s
  | .portOpenTimeout port locked => Sys2Proof.Machine.execPortOpenTimeout port locked s
  | .linkLost port c1 => Sys2Proof.Machine.execLinkLost port c1 s
  | .linkQualifiesAgain port => Sys2Proof.Machine.execLinkQualifiesAgain port s
  | .syncMarkerReceived port fills marker => Sys2Proof.Machine.execSyncMarkerReceived port fills marker s
  | .superframeLockLost port => Sys2Proof.Machine.execSuperframeLockLost port s
  | .markerError port block => Sys2Proof.Machine.execMarkerError port block s
  | .slotTransmit port stamp => Sys2Proof.Machine.execSlotTransmit port stamp s
  | .cellReceived port slot stamp cell => Sys2Proof.Machine.execCellReceived port slot stamp cell s
  | .transitEgress port stamp fills => Sys2Proof.Machine.execTransitEgress port stamp fills s
  | .eclipseMarkerReceived port marker => Sys2Proof.Machine.execEclipseMarkerReceived port marker s
  | .eclipseSend r => Sys2Proof.Machine.execEclipseSend r s
  | .eclipseClear r => Sys2Proof.Machine.execEclipseClear r s
  | .prtCntClr port data => Sys2Proof.Machine.execPrtCntClr port data s
  | .tmuNowRead offset => Sys2Proof.Machine.execTmuNowRead offset s
  | .tmuStgGo ctl => Sys2Proof.Machine.execTmuStgGo ctl s
  | .tmuStgCancel ctl => Sys2Proof.Machine.execTmuStgCancel ctl s
  | .stagedWriteApply d => Sys2Proof.Machine.execStagedWriteApply d s
  | .timeRead r => Sys2Proof.Machine.execTimeRead r s
  | .timeSet r => Sys2Proof.Machine.execTimeSet r s
  | .timeRate r => Sys2Proof.Machine.execTimeRate r s
  | .timeSelect r => Sys2Proof.Machine.execTimeSelect r s
  | .ptpConfig r => Sys2Proof.Machine.execPtpConfig r s
  | .pathCal r => Sys2Proof.Machine.execPathCal r s
  | .timeStatus r => Sys2Proof.Machine.execTimeStatus r s
  | .shrefEdgeCapture input stamp => Sys2Proof.Machine.execShrefEdgeCapture input stamp s
  | .tmuCapPop input => Sys2Proof.Machine.execTmuCapPop input s
  | .timeSyncSend port d => Sys2Proof.Machine.execTimeSyncSend port d s
  | .dreqSend d => Sys2Proof.Machine.execDreqSend d s
  | .pdreqSend port => Sys2Proof.Machine.execPdreqSend port s
  | .timeSyncReceived m => Sys2Proof.Machine.execTimeSyncReceived m s
  | .followReceived m => Sys2Proof.Machine.execFollowReceived m s
  | .dreqReceived m => Sys2Proof.Machine.execDreqReceived m s
  | .drespReceived m => Sys2Proof.Machine.execDrespReceived m s
  | .pdreqReceived m => Sys2Proof.Machine.execPdreqReceived m s
  | .pdrespReceived m => Sys2Proof.Machine.execPdrespReceived m s
  | .loopCellReturn m => Sys2Proof.Machine.execLoopCellReturn m s
  | .pathCalComplete tileDelays => Sys2Proof.Machine.execPathCalComplete tileDelays s
  | .servoHoldoverTimeout d => Sys2Proof.Machine.execServoHoldoverTimeout d s
  | .ptpMessageReceived port p => Sys2Proof.Machine.execPtpMessageReceived port p s
  | .announceReceiptTimeout d => Sys2Proof.Machine.execAnnounceReceiptTimeout d s
  | .bridgeComplete => Sys2Proof.Machine.execBridgeComplete s
  | .lchConfig r => Sys2Proof.Machine.execLchConfig r s
  | .lchStart r => Sys2Proof.Machine.execLchStart r s
  | .lchStop r => Sys2Proof.Machine.execLchStop r s
  | .shrefConfig r => Sys2Proof.Machine.execShrefConfig r s
  | .lchStatus r => Sys2Proof.Machine.execLchStatus r s
  | .launchAnnounce => Sys2Proof.Machine.execLaunchAnnounce s
  | .lnchRepeat => Sys2Proof.Machine.execLnchRepeat s
  | .stoppingEnd => Sys2Proof.Machine.execStoppingEnd s
  | .leadSubframeCut chain slot frame => Sys2Proof.Machine.execLeadSubframeCut chain slot frame s
  | .lnchCellReceived m => Sys2Proof.Machine.execLnchCellReceived m s
  | .underrunCheck => Sys2Proof.Machine.execUnderrunCheck s
  | .launch => Sys2Proof.Machine.execLaunch s
  | .missingLaunchDecision => Sys2Proof.Machine.execMissingLaunchDecision s
  | .coastLaunch => Sys2Proof.Machine.execCoastLaunch s
  | .tileStopPeriodEnd => Sys2Proof.Machine.execTileStopPeriodEnd s
  | .lchCntClr data => Sys2Proof.Machine.execLchCntClr data s
  | .ingestFrameReceived port f => Sys2Proof.Machine.execIngestFrameReceived port f s
  | .arpRequestRetry => Sys2Proof.Machine.execArpRequestRetry s
  | .arpEntryExpiry => Sys2Proof.Machine.execArpEntryExpiry s
  | .streamEnable m ctl => Sys2Proof.Machine.execStreamEnable m ctl s
  | .streamDisable m ctl => Sys2Proof.Machine.execStreamDisable m ctl s
  | .streamPacketReceived m leg p => Sys2Proof.Machine.execStreamPacketReceived m leg p s
  | .packetLossDeclared m => Sys2Proof.Machine.execPacketLossDeclared m s
  | .legLoss m leg => Sys2Proof.Machine.execLegLoss m leg s
  | .lockWindowEnd m => Sys2Proof.Machine.execLockWindowEnd m s
  | .ingStrCntClr m data => Sys2Proof.Machine.execIngStrCntClr m data s
  | .surfaceAlloc r => Sys2Proof.Machine.execSurfaceAlloc r s
  | .surfaceWrite r => Sys2Proof.Machine.execSurfaceWrite r s
  | .layerConfig r => Sys2Proof.Machine.execLayerConfig r s
  | .flip r => Sys2Proof.Machine.execFlip r s
  | .fenceSignal r => Sys2Proof.Machine.execFenceSignal r s
  | .fenceTimeout => Sys2Proof.Machine.execFenceTimeout s
  | .meshLoad r => Sys2Proof.Machine.execMeshLoad r s
  | .streamConfig r => Sys2Proof.Machine.execStreamConfig r s
  | .protLayerSet r => Sys2Proof.Machine.execProtLayerSet r s
  | .protLayerClear r => Sys2Proof.Machine.execProtLayerClear r s
  | .cmpEnable cfg => Sys2Proof.Machine.execCmpEnable cfg s
  | .composeTile n slot chain pos => Sys2Proof.Machine.execComposeTile n slot chain pos s
  | .cmpCntClr data => Sys2Proof.Machine.execCmpCntClr data s
  | .coderConfig r => Sys2Proof.Machine.execCoderConfig r s
  | .coderStatus r => Sys2Proof.Machine.execCoderStatus r s
  | .encodeSubframe slice mismatch => Sys2Proof.Machine.execEncodeSubframe slice mismatch s
  | .transportGroupDecode slot frame group => Sys2Proof.Machine.execTransportGroupDecode slot frame group s
  | .surfaceBlockPack m block => Sys2Proof.Machine.execSurfaceBlockPack m block s
  | .surfaceBlockDecode surface buffer block => Sys2Proof.Machine.execSurfaceBlockDecode surface buffer block s
  | .bcdCntClr data => Sys2Proof.Machine.execBcdCntClr data s
  | .lppConfig r => Sys2Proof.Machine.execLppConfig r s
  | .lutLoad r => Sys2Proof.Machine.execLutLoad r s
  | .almanacLoad r => Sys2Proof.Machine.execAlmanacLoad r s
  | .almanacEnable r => Sys2Proof.Machine.execAlmanacEnable r s
  | .zoneRead r => Sys2Proof.Machine.execZoneRead r s
  | .subframeProcessBegin slot frame => Sys2Proof.Machine.execSubframeProcessBegin slot frame s
  | .subframeWriteComplete slot n corrected => Sys2Proof.Machine.execSubframeWriteComplete slot n corrected s
  | .pipelineCheckFailure slot n source disagree => Sys2Proof.Machine.execPipelineCheckFailure slot n source disagree s
  | .zoneStale zone => Sys2Proof.Machine.execZoneStale zone s
  | .almanacRegenerationStart => Sys2Proof.Machine.execAlmanacRegenerationStart s
  | .almanacRegenerationComplete c3 => Sys2Proof.Machine.execAlmanacRegenerationComplete c3 s
  | .deferredChangeReply => Sys2Proof.Machine.execDeferredChangeReply s
  | .lppCntClr data => Sys2Proof.Machine.execLppCntClr data s
  | .emsConfig r => Sys2Proof.Machine.execEmsConfig r s
  | .emitEnable r => Sys2Proof.Machine.execEmitEnable r s
  | .emitDisable r => Sys2Proof.Machine.execEmitDisable r s
  | .setupTransfer r => Sys2Proof.Machine.execSetupTransfer r s
  | .driverStatus r => Sys2Proof.Machine.execDriverStatus r s
  | .windowPreshift corrected => Sys2Proof.Machine.execWindowPreshift corrected s
  | .unitShow corrected => Sys2Proof.Machine.execUnitShow corrected s
  | .darkLatch => Sys2Proof.Machine.execDarkLatch s
  | .fillStart corrected => Sys2Proof.Machine.execFillStart corrected s
  | .windowCut c4 lane => Sys2Proof.Machine.execWindowCut c4 lane s
  | .statusCollection => Sys2Proof.Machine.execStatusCollection s
  | .setupTransferRun words => Sys2Proof.Machine.execSetupTransferRun words s
  | .setupTransferDrop => Sys2Proof.Machine.execSetupTransferDrop s
  | .emsCntClr data => Sys2Proof.Machine.execEmsCntClr data s
  | .memConfig r => Sys2Proof.Machine.execMemConfig r s
  | .memTrainingComplete failed => Sys2Proof.Machine.execMemTrainingComplete failed s
  | .memStatus r => Sys2Proof.Machine.execMemStatus r s
  | .memRelease r => Sys2Proof.Machine.execMemRelease r s
  | .scrubConfig r => Sys2Proof.Machine.execScrubConfig r s
  | .dramRequestIssue ch arrived => Sys2Proof.Machine.execDramRequestIssue ch arrived s
  | .requestPromotion ch => Sys2Proof.Machine.execRequestPromotion ch s
  | .dramReadComplete ch words => Sys2Proof.Machine.execDramReadComplete ch words s
  | .refreshDue ch rank => Sys2Proof.Machine.execRefreshDue ch rank s
  | .retrainDue ch => Sys2Proof.Machine.execRetrainDue ch s
  | .retrainWindow ch badLane => Sys2Proof.Machine.execRetrainWindow ch badLane s
  | .retrainForced ch badLane => Sys2Proof.Machine.execRetrainForced ch badLane s
  | .powerDownEntry ch rank => Sys2Proof.Machine.execPowerDownEntry ch rank s
  | .caParityAlert ch => Sys2Proof.Machine.execCaParityAlert ch s
  | .scrubRead ch => Sys2Proof.Machine.execScrubRead ch s
  | .memChCntClr ch data => Sys2Proof.Machine.execMemChCntClr ch data s
  | .pairConfig r => Sys2Proof.Machine.execPairConfig r s
  | .pairStatus r => Sys2Proof.Machine.execPairStatus r s
  | .pairHandover r => Sys2Proof.Machine.execPairHandover r s
  | .stateSave r => Sys2Proof.Machine.execStateSave r s
  | .stateSaveComplete => Sys2Proof.Machine.execStateSaveComplete s
  | .stateRestore r => Sys2Proof.Machine.execStateRestore r s
  | .stateRestoreComplete => Sys2Proof.Machine.execStateRestoreComplete s
  | .claimSend => Sys2Proof.Machine.execClaimSend s
  | .claimWindowEnd => Sys2Proof.Machine.execClaimWindowEnd s
  | .claimReceived m => Sys2Proof.Machine.execClaimReceived m s
  | .renewSend => Sys2Proof.Machine.execRenewSend s
  | .renewReceived m => Sys2Proof.Machine.execRenewReceived m s
  | .ackReceived m => Sys2Proof.Machine.execAckReceived m s
  | .leaseLapse => Sys2Proof.Machine.execLeaseLapse s
  | .takeoverAttempt answered => Sys2Proof.Machine.execTakeoverAttempt answered s
  | .takeReceived m => Sys2Proof.Machine.execTakeReceived m s
  | .rmapReceived m => Sys2Proof.Machine.execRmapReceived m s
  | .handoverStart => Sys2Proof.Machine.execHandoverStart s
  | .handoverReceived m => Sys2Proof.Machine.execHandoverReceived m s
  | .mirrorDeltaSend => Sys2Proof.Machine.execMirrorDeltaSend s
  | .mirrorDeltaApply d => Sys2Proof.Machine.execMirrorDeltaApply d s
  | .mirrorStale => Sys2Proof.Machine.execMirrorStale s
  | .paiCntClr data => Sys2Proof.Machine.execPaiCntClr data s
  | .calRun r => Sys2Proof.Machine.execCalRun r s
  | .spareHandover => Sys2Proof.Machine.execSpareHandover s
  | .calRunComplete spareA spareB passA passB tempA tempB => Sys2Proof.Machine.execCalRunComplete spareA spareB passA passB tempA tempB s
  | .calTrimLoad r => Sys2Proof.Machine.execCalTrimLoad r s
  | .calStatus r => Sys2Proof.Machine.execCalStatus r s
  | .irefCodeUpdate => Sys2Proof.Machine.execIrefCodeUpdate s
  | .refInCompare diff => Sys2Proof.Machine.execRefInCompare diff s
  | .refSelWrite data => Sys2Proof.Machine.execRefSelWrite data s
  | .irefTargetWrite n data => Sys2Proof.Machine.execIrefTargetWrite n data s
  | .integrationBoundary samples agreement => Sys2Proof.Machine.execIntegrationBoundary samples agreement s
  | .selfCalibrationStart agreement => Sys2Proof.Machine.execSelfCalibrationStart agreement s
  | .checkpoint => Sys2Proof.Machine.execCheckpoint s
  | .dutySend => Sys2Proof.Machine.execDutySend s
  | .dutyFrame duty inert crcOk => Sys2Proof.Machine.execDutyFrame duty inert crcOk s
  | .labelSend => Sys2Proof.Machine.execLabelSend s
  | .labelFrame time valid crcOk => Sys2Proof.Machine.execLabelFrame time valid crcOk s
  | .logselFrame rseq crcOk => Sys2Proof.Machine.execLogselFrame rseq crcOk s
  | .requestFrame payload crcOk => Sys2Proof.Machine.execRequestFrame payload crcOk s
  | .crystalFault => Sys2Proof.Machine.execCrystalFault s
  | .metPowerFail mv => Sys2Proof.Machine.execMetPowerFail mv s
  | .metResetNAssert => Sys2Proof.Machine.execMetResetNAssert s
  | .islandStart watchdog mv => Sys2Proof.Machine.execIslandStart watchdog mv s
  | .sealChange low => Sys2Proof.Machine.execSealChange low s
  | .mailboxPoll => Sys2Proof.Machine.execMailboxPoll s
  | .metRead r => Sys2Proof.Machine.execMetRead r s
  | .metLogRead r => Sys2Proof.Machine.execMetLogRead r s
  | .metSealed r => Sys2Proof.Machine.execMetSealed r s
  | .metSealedComplete => Sys2Proof.Machine.execMetSealedComplete s
  | .metRequestTimeout => Sys2Proof.Machine.execMetRequestTimeout s
  | .metIdent r => Sys2Proof.Machine.execMetIdent r s
  | .attest r => Sys2Proof.Machine.execAttest r s
  | .credProvision r => Sys2Proof.Machine.execCredProvision r s
  | .credRevoke r => Sys2Proof.Machine.execCredRevoke r s
  | .credPerm r => Sys2Proof.Machine.execCredPerm r s
  | .sessionKey r => Sys2Proof.Machine.execSessionKey r s
  | .debugOpen r => Sys2Proof.Machine.execDebugOpen r s
  | .debugGateComplete => Sys2Proof.Machine.execDebugGateComplete s
  | .imgBegin r => Sys2Proof.Machine.execImgBegin r s
  | .slotEraseComplete ok => Sys2Proof.Machine.execSlotEraseComplete ok s
  | .imgBlock r => Sys2Proof.Machine.execImgBlock r s
  | .imgVerify r => Sys2Proof.Machine.execImgVerify r s
  | .imgVerifyComplete => Sys2Proof.Machine.execImgVerifyComplete s
  | .imgActivate r => Sys2Proof.Machine.execImgActivate r s
  | .activationInstant => Sys2Proof.Machine.execActivationInstant s
  | .imgAbort r => Sys2Proof.Machine.execImgAbort r s
  | .imgConfirm r => Sys2Proof.Machine.execImgConfirm r s
  | .imgStatus r => Sys2Proof.Machine.execImgStatus r s
  | .pwrSet r => Sys2Proof.Machine.execPwrSet r s
  | .sleepPropose r => Sys2Proof.Machine.execSleepPropose r s
  | .sleepCommit r => Sys2Proof.Machine.execSleepCommit r s
  | .sleepResume r => Sys2Proof.Machine.execSleepResume r s
  | .pwrStatus r => Sys2Proof.Machine.execPwrStatus r s
  | .twilightEntry => Sys2Proof.Machine.execTwilightEntry s
  | .beaconSend => Sys2Proof.Machine.execBeaconSend s
  | .plainBeaconReceived port beacon => Sys2Proof.Machine.execPlainBeaconReceived port beacon s
  | .beaconLoss port => Sys2Proof.Machine.execBeaconLoss port s
  | .wakeBeaconReceived port beacon => Sys2Proof.Machine.execWakeBeaconReceived port beacon s
  | .resumeDwellEnd => Sys2Proof.Machine.execResumeDwellEnd s
  | .resumeBeaconRepeat => Sys2Proof.Machine.execResumeBeaconRepeat s
  | .resumeBeaconReceived port beacon => Sys2Proof.Machine.execResumeBeaconReceived port beacon s
  | .tileResumeComplete => Sys2Proof.Machine.execTileResumeComplete s
  | .evtRead r => Sys2Proof.Machine.execEvtRead r s
  | .evtClear r => Sys2Proof.Machine.execEvtClear r s
  | .evtConfig r => Sys2Proof.Machine.execEvtConfig r s
  | .faultEpoch r => Sys2Proof.Machine.execFaultEpoch r s
  | .evtSubscribe r => Sys2Proof.Machine.execEvtSubscribe r s
  | .pllLockRegained pll => Sys2Proof.Machine.execPllLockRegained pll s
  | .coreRestartComplete core => Sys2Proof.Machine.execCoreRestartComplete core s
  | .handoverAckTimeout => Sys2Proof.Machine.execHandoverAckTimeout s

end Sys2Proof.Machine
end

