-- ==== Sys2Proof/WellFormed.lean ====
section
/-! DEFINITION. Which commands can come from outside: operands within what the hardware has (ports, rings, channels, streams), and packets,
messages, cells, markers and beacons of the sizes the spec gives them. -/

namespace Sys2Proof

/-- A request that passed the length checks (R46, R49): at most 4,096 bytes of payload, and a tag of 16 bytes where AUTH says so. -/
def Req.wf (r : Req) : Bool :=
  decide (r.payload.length ≤ 4096) && r.authTag.length == (if r.flags.getLsbD 6 then 16 else 0)

/-- A message that a port gave (R119, R122). -/
def Msg.wf (m : Msg) : Bool := decide (m.port < 8) && decide (m.typ < 16) && decide (m.src < 4096) && decide (m.dest < 4096) && decide (m.key < 4)

/-- An Ethernet frame of a length the filter takes (R211), with a tag in range. -/
def EthFrame.wf (f : EthFrame) : Bool :=
  decide (f.dstMac < 2 ^ 48) && decide (64 ≤ f.len) && decide (f.len ≤ 9216) && (match f.vlan with | some v => decide (v < 4096) | none => true)

/-- An RTP packet: at most three sample row data headers (R213). -/
def RtpPkt.wf (p : RtpPkt) : Bool := decide (p.pt < 128) && decide (p.seq < 2 ^ 32) && decide (p.ts < 2 ^ 32) && decide (p.srds.length ≤ 3)

/-- A burst request: 64 bytes on a multiple of 64 (R345). -/
def MemReq.wf (q : MemReq) : Bool := q.addr % 64 == 0 && (!q.write || q.data.length == 64)

/-- Is a command well-formed? -/
def Instr.wf : Instr → Bool
  | .powerOnReset => true
  | .poresetNAssert => true
  | .poresetNRise roleStrap bootStrap => decide (roleStrap < 4) && decide (bootStrap < 4)
  | .wresetNAssert _ => true
  | .supplyOutOfRange supply => decide (supply < 11)
  | .supplyBackInRange supply roleStrap bootStrap => decide (supply < 11) && decide (roleStrap < 4) && decide (bootStrap < 4)
  | .pllLossOfLock pll => decide (pll < 16)
  | .fifoFault _ => true
  | .coreFault core cause => decide (core < 2) && decide (cause < 3)
  | .temperatureMeasurement sensors => sensors.length == 12
  | .avsMeasurement _ => true
  | .jtagInstructionLoad _ => true
  | .pcieEndpointReset kind => decide (kind < 3)
  | .pciePowerStateChange _ _ => true
  | .pmeStatusClear => true
  | .doorbellWrite _ _ => true
  | .descriptorFetch ring descriptor _ => decide (ring < 16) && (match descriptor with | some d => d.length == 32 | none => true)
  | .cmdRingEnable ring _ => decide (ring < 16)
  | .udpCommandDatagram port _ _ _ _ _ _ => decide (port < 8)
  | .commandPacketDiscard _ _ => true
  | .undefinedOpcode opcode r => decide (opcode < 65536) && r.wf
  | .tileReplyReceived m => m.wf
  | .tileTimeout => true
  | .farLeadReplyTimeout => true
  | .registerWrite addr enables _ => decide (addr < 2 ^ 24) && addr % 4 == 0 && decide (enables < 16)
  | .eventRingHeadWrite _ => true
  | .evtRingEnable _ => true
  | .eventRingWrite => true
  | .rateLimitRelease source => decide (source < 1024)
  | .evtNotify m => m.wf
  | .mergeWindowClose => true
  | .nop r => r.wf
  | .getInfo r => r.wf
  | .regRead r => r.wf
  | .regWrite r => r.wf
  | .halt r => r.wf
  | .resume r => r.wf
  | .arm r => r.wf
  | .coreRestart r => r.wf
  | .warmReset r => r.wf
  | .credStatus r => r.wf
  | .probeNearest r => r.wf
  | .assignAddress r => r.wf
  | .portOpen r => r.wf
  | .portClose r => r.wf
  | .releaseAddress r => r.wf
  | .topoRead r => r.wf
  | .glbTopoEpochWrite _ => true
  | .prtCfgFuncWrite port func => decide (port < 8) && decide (func < 16)
  | .prtCfgFecEnWrite port _ => decide (port < 8)
  | .portQualified port => decide (port < 8)
  | .portOpenTimeout port _ => decide (port < 8)
  | .linkLost port _ => decide (port < 8)
  | .linkQualifiesAgain port => decide (port < 8)
  | .syncMarkerReceived port _ marker => decide (port < 8) && marker.length == 8
  | .superframeLockLost port => decide (port < 8)
  | .markerError port block => decide (port < 8) && block.length == 8
  | .slotTransmit port _ => decide (port < 8)
  | .cellReceived port slot _ cell => decide (port < 8) && decide (slot < 16) && cell.length == 276
  | .transitEgress port _ fills => decide (port < 8) && decide (fills < 5)
  | .eclipseMarkerReceived port marker => decide (port < 8) && marker.length == 8
  | .eclipseSend r => r.wf
  | .eclipseClear r => r.wf
  | .prtCntClr port _ => decide (port < 8)
  | .tmuNowRead offset => decide (offset < 48) && offset % 4 == 0
  | .tmuStgGo _ => true
  | .tmuStgCancel _ => true
  | .stagedWriteApply _ => true
  | .timeRead r => r.wf
  | .timeSet r => r.wf
  | .timeRate r => r.wf
  | .timeSelect r => r.wf
  | .ptpConfig r => r.wf
  | .pathCal r => r.wf
  | .timeStatus r => r.wf
  | .shrefEdgeCapture input _ => decide (input < 4)
  | .tmuCapPop input => decide (input < 4)
  | .timeSyncSend port _ => decide (port < 8)
  | .dreqSend _ => true
  | .pdreqSend port => decide (port < 8)
  | .timeSyncReceived m => m.wf
  | .followReceived m => m.wf
  | .dreqReceived m => m.wf
  | .drespReceived m => m.wf
  | .pdreqReceived m => m.wf
  | .pdrespReceived m => m.wf
  | .loopCellReturn m => m.wf
  | .pathCalComplete _ => true
  | .servoHoldoverTimeout _ => true
  | .ptpMessageReceived port p => decide (4 ≤ port) && decide (port < 8) && decide (p.kind < 4)
  | .announceReceiptTimeout _ => true
  | .bridgeComplete => true
  | .lchConfig r => r.wf
  | .lchStart r => r.wf
  | .lchStop r => r.wf
  | .shrefConfig r => r.wf
  | .lchStatus r => r.wf
  | .launchAnnounce => true
  | .lnchRepeat => true
  | .stoppingEnd => true
  | .leadSubframeCut chain slot frame => decide (chain < 4) && decide (slot < 4) && decide (frame < 8192)
  | .lnchCellReceived m => m.wf
  | .underrunCheck => true
  | .launch => true
  | .missingLaunchDecision => true
  | .coastLaunch => true
  | .tileStopPeriodEnd => true
  | .lchCntClr _ => true
  | .ingestFrameReceived port f => decide (4 ≤ port) && decide (port < 8) && f.wf
  | .arpRequestRetry => true
  | .arpEntryExpiry => true
  | .streamEnable m _ => decide (m < 4)
  | .streamDisable m _ => decide (m < 4)
  | .streamPacketReceived m leg p => decide (m < 4) && decide (leg < 2) && p.wf
  | .packetLossDeclared m => decide (m < 4)
  | .legLoss m leg => decide (m < 4) && decide (leg < 2)
  | .lockWindowEnd m => decide (m < 4)
  | .ingStrCntClr m _ => decide (m < 4)
  | .surfaceAlloc r => r.wf
  | .surfaceWrite r => r.wf
  | .layerConfig r => r.wf
  | .flip r => r.wf
  | .fenceSignal r => r.wf
  | .fenceTimeout => true
  | .meshLoad r => r.wf
  | .streamConfig r => r.wf
  | .protLayerSet r => r.wf
  | .protLayerClear r => r.wf
  | .cmpEnable _ => true
  | .composeTile _ slot chain pos => decide (slot < 4) && decide (chain < 4) && decide (pos < 64)
  | .cmpCntClr _ => true
  | .coderConfig r => r.wf
  | .coderStatus r => r.wf
  | .encodeSubframe slice _ => decide (slice < 8)
  | .transportGroupDecode slot frame group => decide (slot < 4) && decide (frame < 8192) && decide (group < 1024)
  | .surfaceBlockPack m _ => decide (m < 4)
  | .surfaceBlockDecode _ _ _ => true
  | .bcdCntClr _ => true
  | .lppConfig r => r.wf
  | .lutLoad r => r.wf
  | .almanacLoad r => r.wf
  | .almanacEnable r => r.wf
  | .zoneRead r => r.wf
  | .subframeProcessBegin slot frame => decide (slot < 4) && decide (frame < 8192)
  | .subframeWriteComplete slot _ _ => decide (slot < 4)
  | .pipelineCheckFailure slot _ source _ => decide (slot < 4) && decide (source < 1024)
  | .zoneStale zone => decide (zone < 64)
  | .almanacRegenerationStart => true
  | .almanacRegenerationComplete _ => true
  | .deferredChangeReply => true
  | .lppCntClr _ => true
  | .emsConfig r => r.wf
  | .emitEnable r => r.wf
  | .emitDisable r => r.wf
  | .setupTransfer r => r.wf
  | .driverStatus r => r.wf
  | .windowPreshift _ => true
  | .unitShow _ => true
  | .darkLatch => true
  | .fillStart _ => true
  | .windowCut _ lane => decide (lane < 64)
  | .statusCollection => true
  | .setupTransferRun _ => true
  | .setupTransferDrop => true
  | .emsCntClr _ => true
  | .memConfig r => r.wf
  | .memTrainingComplete _ => true
  | .memStatus r => r.wf
  | .memRelease r => r.wf
  | .scrubConfig r => r.wf
  | .dramRequestIssue ch arrived => decide (ch < 4) && arrived.all MemReq.wf
  | .requestPromotion ch => decide (ch < 4)
  | .dramReadComplete ch _ => decide (ch < 4)
  | .refreshDue ch rank => decide (ch < 4) && decide (rank < 2)
  | .retrainDue ch => decide (ch < 4)
  | .retrainWindow ch _ => decide (ch < 4)
  | .retrainForced ch _ => decide (ch < 4)
  | .powerDownEntry ch rank => decide (ch < 4) && decide (rank < 2)
  | .caParityAlert ch => decide (ch < 4)
  | .scrubRead ch => decide (ch < 4)
  | .memChCntClr ch _ => decide (ch < 4)
  | .pairConfig r => r.wf
  | .pairStatus r => r.wf
  | .pairHandover r => r.wf
  | .stateSave r => r.wf
  | .stateSaveComplete => true
  | .stateRestore r => r.wf
  | .stateRestoreComplete => true
  | .claimSend => true
  | .claimWindowEnd => true
  | .claimReceived m => m.wf
  | .renewSend => true
  | .renewReceived m => m.wf
  | .ackReceived m => m.wf
  | .leaseLapse => true
  | .takeoverAttempt _ => true
  | .takeReceived m => m.wf
  | .rmapReceived m => m.wf
  | .handoverStart => true
  | .handoverReceived m => m.wf
  | .mirrorDeltaSend => true
  | .mirrorDeltaApply _ => true
  | .mirrorStale => true
  | .paiCntClr _ => true
  | .calRun r => r.wf
  | .spareHandover => true
  | .calRunComplete _ _ _ _ _ _ => true
  | .calTrimLoad r => r.wf
  | .calStatus r => r.wf
  | .irefCodeUpdate => true
  | .refInCompare _ => true
  | .refSelWrite _ => true
  | .irefTargetWrite n _ => decide (n < 16)
  | .integrationBoundary samples _ => samples.length == 4
  | .selfCalibrationStart _ => true
  | .checkpoint => true
  | .dutySend => true
  | .dutyFrame duty _ _ => duty.length == 64
  | .labelSend => true
  | .labelFrame _ _ _ => true
  | .logselFrame _ _ => true
  | .requestFrame payload _ => decide (payload.length ≤ 4096)
  | .crystalFault => true
  | .metPowerFail _ => true
  | .metResetNAssert => true
  | .islandStart _ _ => true
  | .sealChange _ => true
  | .mailboxPoll => true
  | .metRead r => r.wf
  | .metLogRead r => r.wf
  | .metSealed r => r.wf
  | .metSealedComplete => true
  | .metRequestTimeout => true
  | .metIdent r => r.wf
  | .attest r => r.wf
  | .credProvision r => r.wf
  | .credRevoke r => r.wf
  | .credPerm r => r.wf
  | .sessionKey r => r.wf
  | .debugOpen r => r.wf
  | .debugGateComplete => true
  | .imgBegin r => r.wf
  | .slotEraseComplete _ => true
  | .imgBlock r => r.wf
  | .imgVerify r => r.wf
  | .imgVerifyComplete => true
  | .imgActivate r => r.wf
  | .activationInstant => true
  | .imgAbort r => r.wf
  | .imgConfirm r => r.wf
  | .imgStatus r => r.wf
  | .pwrSet r => r.wf
  | .sleepPropose r => r.wf
  | .sleepCommit r => r.wf
  | .sleepResume r => r.wf
  | .pwrStatus r => r.wf
  | .twilightEntry => true
  | .beaconSend => true
  | .plainBeaconReceived port beacon => decide (port < 8) && beacon.length == 8
  | .beaconLoss port => decide (port < 8)
  | .wakeBeaconReceived port beacon => decide (port < 8) && beacon.length == 8
  | .resumeDwellEnd => true
  | .resumeBeaconRepeat => true
  | .resumeBeaconReceived port beacon => decide (port < 8) && beacon.length == 8
  | .tileResumeComplete => true
  | .evtRead r => r.wf
  | .evtClear r => r.wf
  | .evtConfig r => r.wf
  | .faultEpoch r => r.wf
  | .evtSubscribe r => r.wf
  | .pllLockRegained pll => decide (pll < 16)
  | .coreRestartComplete core => decide (core < 2)
  | .handoverAckTimeout => true

end Sys2Proof
end

