-- ==== Sys2Proof/Safety.lean ====
section
/-! DEFINITION. The terms in which claims speak: what a command leaves unchanged, when a request is executed and how it is answered, and the
invariants of the state. -/

namespace Sys2Proof.Machine

/-! ### Frames -/

/-- The parts of the state, without the registers. What sending a reply or a record can touch stands apart: the admitted requests, the cells to
send, the replies held for the mirror, and the datagrams that wait for ARP. -/
inductive Part
  | pending | armed | pwr | evt | cmd | admitted | ks | otp | flash | sec | key | net | tx | tmu | lch | mem | pix | arp | lpp | ems | cal | pai
  | held | met | metm | free | out
  deriving DecidableEq, Repr

/-- Do two states agree in a part? -/
def Part.same (s t : State) : Part → Prop
  | .pending => t.pending = s.pending
  | .armed => t.armed = s.armed
  | .pwr => t.pwr = s.pwr
  | .evt => t.evt = s.evt
  | .cmd => { t.cmd with admitted := [] } = { s.cmd with admitted := [] }
  | .admitted => t.cmd.admitted = s.cmd.admitted
  | .ks => t.ks = s.ks
  | .otp => t.otp = s.otp
  | .flash => t.flash = s.flash
  | .sec => t.sec = s.sec
  | .key => t.key = s.key
  | .net => { t.net with tx := [] } = { s.net with tx := [] }
  | .tx => t.net.tx = s.net.tx
  | .tmu => t.tmu = s.tmu
  | .lch => t.lch = s.lch
  | .mem => t.mem = s.mem
  | .pix => { t.pix with arpWait := [] } = { s.pix with arpWait := [] }
  | .arp => t.pix.arpWait = s.pix.arpWait
  | .lpp => t.lpp = s.lpp
  | .ems => t.ems = s.ems
  | .cal => t.cal = s.cal
  | .pai => { t.pai with held := [] } = { s.pai with held := [] }
  | .held => t.pai.held = s.pai.held
  | .met => t.met = s.met
  | .metm => t.metm = s.metm
  | .free => t.free = s.free
  | .out => t.out = s.out

/-- Every part but those named is unchanged, and every register but those named: registers are read word by word. -/
def Keeps (parts : List Part) (regs : List Nat) (s t : State) : Prop :=
  (∀ p, p ∉ parts → p.same s t) ∧ ∀ a, a ∉ regs → t.reg a = s.reg a

/-- What raising an event can touch: the event unit, the notifications sent, and OVERFLOW of EVT_RING_CFG (R79 to R84). -/
def eventParts : List Part := [.evt, .out, .arp]

/-- What answering a request can touch besides (R51, R75, R77, R378). -/
def replyParts : List Part := [.admitted, .tx, .held] ++ eventParts

/-! ### Requests -/

/-- The request that a row executes, with its opcode (R44); none for a row that is no request. -/
def requestOf : Instr → Option (Nat × Req)
  | .nop r => some (0x0000, r)
  | .getInfo r => some (0x0001, r)
  | .regRead r => some (0x0002, r)
  | .regWrite r => some (0x0003, r)
  | .halt r => some (0x0004, r)
  | .resume r => some (0x0005, r)
  | .arm r => some (0x0006, r)
  | .coreRestart r => some (0x0007, r)
  | .warmReset r => some (0x0008, r)
  | .credStatus r => some (0x0009, r)
  | .probeNearest r => some (0x0100, r)
  | .assignAddress r => some (0x0101, r)
  | .portOpen r => some (0x0102, r)
  | .portClose r => some (0x0103, r)
  | .releaseAddress r => some (0x0104, r)
  | .topoRead r => some (0x0105, r)
  | .eclipseSend r => some (0x0705, r)
  | .eclipseClear r => some (0x0706, r)
  | .timeRead r => some (0x0200, r)
  | .timeSet r => some (0x0201, r)
  | .timeRate r => some (0x0202, r)
  | .timeSelect r => some (0x0203, r)
  | .ptpConfig r => some (0x0204, r)
  | .pathCal r => some (0x0205, r)
  | .timeStatus r => some (0x0206, r)
  | .lchConfig r => some (0x0300, r)
  | .lchStart r => some (0x0301, r)
  | .lchStop r => some (0x0302, r)
  | .shrefConfig r => some (0x0303, r)
  | .lchStatus r => some (0x0304, r)
  | .surfaceAlloc r => some (0x0403, r)
  | .surfaceWrite r => some (0x0404, r)
  | .layerConfig r => some (0x0400, r)
  | .flip r => some (0x0401, r)
  | .fenceSignal r => some (0x0402, r)
  | .meshLoad r => some (0x0405, r)
  | .streamConfig r => some (0x0406, r)
  | .protLayerSet r => some (0x0407, r)
  | .protLayerClear r => some (0x0408, r)
  | .coderConfig r => some (0x0500, r)
  | .coderStatus r => some (0x0501, r)
  | .lppConfig r => some (0x0600, r)
  | .lutLoad r => some (0x0601, r)
  | .almanacLoad r => some (0x0602, r)
  | .almanacEnable r => some (0x0603, r)
  | .zoneRead r => some (0x0604, r)
  | .emsConfig r => some (0x0700, r)
  | .emitEnable r => some (0x0701, r)
  | .emitDisable r => some (0x0702, r)
  | .setupTransfer r => some (0x0703, r)
  | .driverStatus r => some (0x0704, r)
  | .memConfig r => some (0x0800, r)
  | .memStatus r => some (0x0801, r)
  | .memRelease r => some (0x0802, r)
  | .scrubConfig r => some (0x0803, r)
  | .pairConfig r => some (0x0900, r)
  | .pairStatus r => some (0x0901, r)
  | .pairHandover r => some (0x0902, r)
  | .stateSave r => some (0x0903, r)
  | .stateRestore r => some (0x0904, r)
  | .calRun r => some (0x0A00, r)
  | .calTrimLoad r => some (0x0A01, r)
  | .calStatus r => some (0x0A02, r)
  | .metRead r => some (0x0B00, r)
  | .metLogRead r => some (0x0B01, r)
  | .metSealed r => some (0x0B02, r)
  | .metIdent r => some (0x0B03, r)
  | .attest r => some (0x0C00, r)
  | .credProvision r => some (0x0C01, r)
  | .credRevoke r => some (0x0C02, r)
  | .credPerm r => some (0x0C03, r)
  | .sessionKey r => some (0x0C04, r)
  | .debugOpen r => some (0x0C05, r)
  | .imgBegin r => some (0x0D00, r)
  | .imgBlock r => some (0x0D01, r)
  | .imgVerify r => some (0x0D02, r)
  | .imgActivate r => some (0x0D03, r)
  | .imgAbort r => some (0x0D04, r)
  | .imgConfirm r => some (0x0D05, r)
  | .imgStatus r => some (0x0D06, r)
  | .pwrSet r => some (0x0E00, r)
  | .sleepPropose r => some (0x0E01, r)
  | .sleepCommit r => some (0x0E02, r)
  | .sleepResume r => some (0x0E03, r)
  | .pwrStatus r => some (0x0E04, r)
  | .evtRead r => some (0x0F00, r)
  | .evtClear r => some (0x0F01, r)
  | .evtConfig r => some (0x0F02, r)
  | .faultEpoch r => some (0x0F03, r)
  | .evtSubscribe r => some (0x0F05, r)
  | _ => none

/-- The rows of the metrology island's own side: its clock, its flash, its supply, its reset and seal pins, and the arrival of a frame on one of
the paths into it (R31, R36). Every other row is the main side's. -/
def ofIsland : Instr → Bool
  | .integrationBoundary _ _ | .selfCalibrationStart _ | .checkpoint | .dutyFrame _ _ _ | .labelFrame _ _ _ | .logselFrame _ _
  | .requestFrame _ _ | .crystalFault | .metPowerFail _ | .metResetNAssert | .islandStart _ _ | .sealChange _ => true
  | _ => false

/-- The rows that reset or boot the main side (R460, R470, R472 to R474, R482). -/
def resetsMain : Instr → Bool
  | .powerOnReset | .poresetNAssert | .poresetNRise _ _ | .wresetNAssert _ | .supplyOutOfRange _
  | .supplyBackInRange _ _ _ | .warmReset _ | .imgActivate _ | .activationInstant => true
  | _ => false

/-- The request is executed now and nothing before its own parameters refuses it (R58 checks 13 and 14): the main side is out of reset, no reply
stands before it, and length, role, MORE, boot state, core and block are in order. -/
def Ready (s : State) (code : Nat) (r : Req) : Prop :=
  ∃ o, opRow code = some o ∧ s.alive = true ∧ s.waits code r = false ∧ s.strayNearest r = false ∧ s.preRefusal o r = none

/-- The command runs and is answered at once: `f` gives, for the state in which the request has left the list of those waiting, the state after its
effect and the answer. -/
def Does (c : Instr) (code : Nat) (r : Req) (s : State) (f : State → State × Rsp) : Prop :=
  exec c s = .next ((s.takeReq code r).answer (f (s.takeReq code r)).1 code r (f (s.takeReq code r)).2)

/-- The command runs with the effect `f`, and its reply is held. -/
def Holds (c : Instr) (code : Nat) (r : Req) (s : State) (f : State → State) : Prop := exec c s = .next (f (s.takeReq code r))

/-- The command runs, has the effect `u`, and is answered at once with `a`. -/
def Answers (c : Instr) (code : Nat) (r : Req) (s : State) (P : State → Rsp → Prop) : Prop :=
  ∃ u a, exec c s = .next ((s.takeReq code r).answer u code r a) ∧ P u a

/-- The command stages the change `x` and is answered OK; in a tile that has begun a launch it still holds, the reply waits for L - guard of that
launch and the change for the first launch not begun (R293). -/
def Stages (c : Instr) (code : Nat) (r : Req) (s : State) (x : Change) : Prop :=
  (s.holdUntil ≤ s.derived → Does c code r s fun u => (u.addChange x s.derived s.firstUnbegun, rspOk)) ∧
  (s.derived < s.holdUntil → Holds c code r s fun u =>
    let t := u.addChange x s.holdUntil s.firstUnbegun
    { t with pix := { t.pix with heldReplies := t.pix.heldReplies ++ [{ op := code, req := r, status := stOk, until_ := s.holdUntil }] } })

/-- The command writes `w` to a CNT_CLR register over the `n` counters from `base` on: bit k clears counter k, and nothing else changes. -/
def Clears (c : Instr) (s : State) (base n : Nat) (w : Word) : Prop := ∃ t, exec c s = .next t ∧
  (∀ k, k < n → t.reg (base + 4 * k) = if w.toNat.testBit k then 0 else s.reg (base + 4 * k)) ∧
  Keeps [] ((List.range n).map (fun k => base + 4 * k)) s t

/-! ### Invariants -/

/-- The one-time memory has only grown: no thermometer and no minimum epoch falls, no revocation is taken back (R436, R437). -/
def OtpS.Grew (a b : OtpS) : Prop :=
  a.arb ≤ b.arb ∧ a.dbgOpen ≤ b.dbgOpen ∧ a.dbgClose ≤ b.dbgClose ∧ ∀ i, a.rootRevoke.testBit i = true → b.rootRevoke.testBit i = true

/-- Bits 5:0 of the running counter are zero (R148). -/
def State.RawWhole (s : State) : Prop := s.tmu.raw.toNat % 64 = 0

/-- Every entry of a register map lies away from its reset value, addresses rising. -/
def regsWf (m : Map Word) : Bool := m.rising && m.all (fun e => e.2 != regReset e.1)

/-- The canonical form of the DRAM: addresses strictly rising, no byte that reads 0 listed. -/
def Memory.wf (m : Map Byte) : Bool := m.rising && m.all (fun e => e.2 != 0)

end Sys2Proof.Machine
end

