-- ==== Sys2Proof/Certificates/Slice0/Obligations.lean ====
section
/-! DEFINITION. The statements about the model: what a step does, the invariants every step keeps, what refuses a request, and for every row of
the table what it does where it completes. `exec c s = .next t` writes out the whole next state, so that each such clause is also the row's frame. -/

open Sys2Proof Sys2Proof.Machine

/-- A step takes the command at the front of the queue and executes it on the state with the queue's rest. -/
def Obligations.StepRunsFrontCommand : Prop :=
  ∀ c rest s, s.pending = c :: rest → step s = exec c { s with pending := rest }

/-- The model's choice of log entry 1: on an empty queue a step is one TIME clock edge, which adds 64 raw LSB to the raw counter, wrapping at 72
bits; it changes nothing else where no domain switch is deferred, and where one is deferred it is tried again at the new raw value and the queue stays
empty; while the main side is held in cold reset it changes nothing. -/
def Obligations.EmptyQueueTicks : Prop :=
  ∀ s, s.pending = [] →
    (s.alive = true → ∃ t, step s = .next t ∧ t.tmu.raw = s.tmu.raw + 64 ∧ t.pending = [] ∧
      ((∀ w, s.tmu.switch = some w → w.deferred = false) → t = { s with tmu := { s.tmu with raw := t.tmu.raw } }) ∧
      (∀ w, s.tmu.switch = some w → w.deferred = true → t = ({ s with tmu := { s.tmu with raw := s.tmu.raw + 64 } }).runSwitch)) ∧
    (s.alive = false → step s = .next s)

/-- What the spec gives for reset: every register at its reset value, the main side held, nothing armed, no domain valid and none running, no
launch, no layer, no plane memory, the scheduler off, no run of the calibration unit, and no command waiting. -/
def Obligations.ResetIsHeld : Prop :=
  let s := State.reset
  s.pending = [] ∧ s.alive = false ∧ (∀ a, s.reg a = regReset a) ∧ s.armed = [] ∧
  s.reg Reg.glbChipId = 0x947200A1 ∧ s.reg Reg.cmdCfg = 0x0640C528 ∧ s.reg Reg.tmuCfg = 0x00800000 ∧ s.reg Reg.tmuDomCfg = 0x0A05370A ∧
  s.reg Reg.tmuBridge = 0x00640032 ∧ s.reg Reg.prtCfg = 1 ∧ s.reg Reg.ingCfg = 0x0A ∧ s.reg Reg.memCfg = 0x100 ∧
  s.tmu.raw = 0 ∧ s.tmu.d0.valid = false ∧ s.tmu.d1.valid = false ∧ s.lch.state = .idle ∧ s.pix.layers = [] ∧ s.ems.enabled = false ∧
  s.cal.run = none ∧ s.mem.enabled = false ∧ s.pwr.inert = true

/-- The invariants hold at reset. -/
def Obligations.ResetKeepsForm : Prop :=
  regsWf State.reset.regs = true ∧ Memory.wf State.reset.mem.dram = true ∧ State.reset.RawWhole

/-- No command changes the queue: a command's own effect is on everything else. -/
def Obligations.NoCommandTouchesTheQueue : Prop :=
  ∀ c s t, exec c s = .next t → t.pending = s.pending

/-- R31. No row of the main side, reset, command, debug access or fault, changes the island's state. A write that reaches the mailbox at
0x00E0_0000 through BAR0 has no effect but EV_25; a REG_WRITE with a word in it returns NOT_AUTHORIZED and writes no word, where its words before
that one are not refused for themselves. -/
def Obligations.MainSideLeavesTheIsland : Prop :=
  (∀ c s t, ofIsland c = false → exec c s = .next t → t.met = s.met) ∧
  (∀ a be d s, s.alive = true → 0x00E00000 ≤ a → a < 0x00F00000 → exec (.registerWrite a be d) s = .next (s.raise 25 1 (a / 4 * 4))) ∧
  (∀ r s k, Ready s 0x0003 r → u32 r.payload 0 % 4 = 0 → k < (words32 (r.payload.drop 4)).length →
    0x00E00000 ≤ u32 r.payload 0 + 4 * k → u32 r.payload 0 + 4 * k < 0x00F00000 →
    ((s.takeReq 0x0003 r).firstRefused r (u32 r.payload 0) 0 ((words32 (r.payload.drop 4)).take k)) = none →
    exec (.regWrite r) s = .next ((s.takeReq 0x0003 r).answer (s.takeReq 0x0003 r) 0x0003 r (rspErr stNotAuthorized r.slot)))

/-- The island's rows act on the island alone: nothing of the main side changes but the model's own counter of free values. -/
def Obligations.IslandRowsTouchTheIslandAlone : Prop :=
  ∀ c s t, ofIsland c = true → exec c s = .next t → t = { s with met := t.met, free := t.free }

/-- An invariant of every step, from every state: bits 5:0 of the running raw counter stay zero (from R148). -/
def Obligations.RawCounterStaysWhole : Prop :=
  ∀ s t, s.RawWhole → step s = .next t → t.RawWhole

/-- An invariant of every step, from every state: the one-time memory only grows (from R436): the thermometers and the anti-rollback count never
decrease, and no root's revocation is taken back. -/
def Obligations.OneTimeMemoryOnlyGrows : Prop :=
  ∀ s t, step s = .next t → s.otp.Grew t.otp

/-- The role and the phase of the boot change only in the rows that reset or boot the main side (from R1, R480). -/
def Obligations.OnlyResetsChangeRoleAndPhase : Prop :=
  ∀ c s t, resetsMain c = false → exec c s = .next t → t.pwr.role = s.pwr.role ∧ t.pwr.phase = s.pwr.phase

/-- While the main side is held in cold reset no request is executed, and only the rise of PORESET_N or the last core supply coming back lifts the
reset (from R470, R472). -/
def Obligations.HeldUntilTheResetEnds : Prop :=
  (∀ c code r s, requestOf c = some (code, r) → s.alive = false → exec c s = .next s) ∧
  (∀ c s t, s.alive = false → exec c s = .next t → (∀ a b, c ≠ .poresetNRise a b) → (∀ a b n, c ≠ .supplyBackInRange a b n) → t.alive = false)

/-- R2. A command whose opcode only the other role takes, and which nothing before that refuses (R455, R479, R49), returns UNSUPPORTED_ROLE and has
no effect: the state is the one in which the request has left the list of those waiting and been answered, without a tag (R56). -/
def Obligations.WrongRoleIsRefused : Prop :=
  ∀ c code r o s, requestOf c = some (code, r) → opRow code = some o → s.alive = true → s.waits code r = false → s.strayNearest r = false →
    s.bootRefusal code = none → o.lenOk r.payload.length = true → s.fieldLenOk code r.payload = true → o.roleOk s = false →
    exec c s = .next ((s.takeReq code r).answerPlain code r (rspErr 0x0800))

/-- What comes before a command's own parameters refuses it without any effect but its reply, for every request of the table: the boot state
(R455, R479), the length, which FLIP and SETUP_TRANSFER's own fields decide, with its DETAIL (R49, R57), the role (R2), MORE (R50), the management
core it needs (R476) and a block on hold after a FIFO fault (R40), the first of them that fails; the first three, which come before the tag is
checked, are answered without one (R56). An IMG_BLOCK waits while its slot's erase runs. A NEAREST request that reaches its execution in a tile which
by then holds an address in its epoch is answered by none: it goes on downstream, or is discarded with EV_100 (R95, R107). -/
def Obligations.RefusedBeforeItsParameters : Prop :=
  ∀ c code r o s, requestOf c = some (code, r) → opRow code = some o → s.alive = true → s.waits code r = false →
    (∀ q, c = .imgBlock q → s.sec.upd.any (fun u => s.flash.erasing == some u.slot) = false) →
    (s.strayNearest r = true → exec c s = .next ((s.takeReq code r).judgeReq code r)) ∧
    (s.strayNearest r = false →
      (∀ a, s.earlyRefusal o r = some a → exec c s = .next ((s.takeReq code r).answerPlain code r a) ∧
        (s.bootRefusal code = none → o.lenOk r.payload.length = false ∨ s.fieldLenOk code r.payload = false →
          a = rspErr 0x0101 (if o.lmin = o.lmax then o.lmin else 0xFFFF))) ∧
      (∀ a, s.earlyRefusal o r = none → s.lateRefusal o r = some a → exec c s = .next ((s.takeReq code r).answer (s.takeReq code r) code r a) ∧
        (r.isMore = true → a = rspErr 0x0102 1) ∧
        (r.isMore = false → needsCore0 code = true → s.coreFaulted 0 = true → a = rspErr 0x0700 0)))

/-- R479. PORESET_N rising over the straps 0b11, or 0b10 with internal debug closed, on a held chip raises EV_37 and leaves it inert with P0 and P1
in LISTEN. From then on it answers NOP, GET_INFO, ATTEST, EVT_READ and PROBE_NEAREST as any chip does, and every other request of the table
returns UNSUPPORTED_ROLE without effect. -/
def Obligations.ReservedStrapStaysInert : Prop :=
  (∀ s role boot, s.pwr.poresetLow = true → s.coreSupplyOut = false → s.pwr.inert = true → s.net.ports.length = 8 →
    (role = 3 ∨ (role = 2 ∧ s.gateOpen = false)) →
    ∃ t, exec (.poresetNRise role boot) s = .next t ∧ t.pwr.phase = .strap ∧ t.pwr.inert = true ∧
      t.portState 0 = .listen ∧ t.portState 1 = .listen ∧
      (Map.at t.evt.srcs {} 37).count = min 0xFFFFFFFF ((Map.at s.evt.srcs {} 37).count + 1)) ∧
  (∀ c code r s, s.pwr.phase = .strap → requestOf c = some (code, r) → s.waits code r = false → s.strayNearest r = false →
    if code = 0x0000 ∨ code = 0x0001 ∨ code = 0x0C00 ∨ code = 0x0F00 ∨ code = 0x0100 then
      ∀ o, opRow code = some o → s.preRefusal o r = ({ s with pwr := { s.pwr with phase := .up } } : State).preRefusal o r
    else (∀ q, c = .imgBlock q → s.sec.upd.any (fun u => s.flash.erasing == some u.slot) = false) →
      exec c s = .next ((s.takeReq code r).answerPlain code r (rspErr 0x0800)))

/-- An occurrence of an event source (from R80): its COUNT grows by one and saturates, FIRST is set where the count was 0, LAST, DETAIL and
severity are those of the occurrence; every other source is as before; a source that may form no record now (masked, beyond its rate, reported in
this fault epoch, or a tile's 256 records pending) consumes no RSEQ and sends nothing; no register changes but OVERFLOW of EVT_RING_CFG, and no
other part of the state but what is sent to a subscriber. -/
def Obligations.AnOccurrenceIsCounted : Prop :=
  ∀ (s : State) (k sev detail : Nat) (armed : Bool),
    let e := Map.at s.evt.srcs {} k
    let t := s.raiseA k sev detail armed
    let e' := Map.at t.evt.srcs {} k
    e'.count = min 0xFFFFFFFF (e.count + 1) ∧ e'.first = (if e.count = 0 then s.evTime.1 else e.first) ∧ e'.last = s.evTime.1 ∧
    e'.detail = detail % 4294967296 ∧ e'.sev = sev ∧
    (∀ j, j ≠ k → Map.at t.evt.srcs {} j = Map.at s.evt.srcs {} j) ∧
    (s.masked k = true → t.evt.rseq = s.evt.rseq ∧ t.evt.heldRecs = s.evt.heldRecs ∧ t.out = s.out) ∧
    Keeps eventParts [Reg.evtRingCfg] s t

/-- At most EVT_CFG.RATE records of a source in any interval of 1 s of raw time (from R80): where so many of its records lie less than 1 s back, an
occurrence forms none. -/
def Obligations.RecordsAreRateLimited : Prop :=
  ∀ (s : State) (k sev detail : Nat) (armed : Bool),
    s.fld Reg.evtCfg 12 8 ≤ ((Map.at s.evt.srcs {} k).times.filter (fun t => s.now < t + 65536000000)).length →
    (s.raiseA k sev detail armed).evt.rseq = s.evt.rseq ∧ (s.raiseA k sev detail armed).evt.heldRecs = s.evt.heldRecs ∧
    (s.raiseA k sev detail armed).evt.history = s.evt.history ∧ (s.raiseA k sev detail armed).out = s.out

/-- REG_READ and REG_WRITE refuse an address that is not a multiple of 4 or is assigned to no register with BAD_ADDRESS, and a register of a
function off in the role with UNSUPPORTED_ROLE, by the lowest address refused, without effect (from R9, R11, R29); through BAR0 such a write is
ignored, the access completing normally. -/
def Obligations.RegistersOutOfReach : Prop :=
  (∀ (s : State) (r : Req), Ready s 0x0002 r → 1 ≤ u16 r.payload 4 → u16 r.payload 4 ≤ 1023 → u32 r.payload 0 % 4 ≠ 0 →
    Does (.regRead r) 0x0002 r s fun u => (u, rspErr 0x0103)) ∧
  (∀ (s : State) (r : Req) (k : Nat), Ready s 0x0002 r → u16 r.payload 4 ≤ 1023 → u32 r.payload 0 % 4 = 0 → k < u16 r.payload 4 →
    (∀ j < k, (regRow (u32 r.payload 0 + 4 * j)).isSome = true ∧ s.regOff (u32 r.payload 0 + 4 * j) = false) →
    (regRow (u32 r.payload 0 + 4 * k) = none → Does (.regRead r) 0x0002 r s fun u => (u, rspErr 0x0103)) ∧
    (s.regOff (u32 r.payload 0 + 4 * k) = true → Does (.regRead r) 0x0002 r s fun u => (u, rspErr 0x0800))) ∧
  (∀ (s : State) (r : Req), Ready s 0x0003 r → u32 r.payload 0 % 4 ≠ 0 → Does (.regWrite r) 0x0003 r s fun u => (u, rspErr 0x0103)) ∧
  (∀ (s : State) (r : Req), Ready s 0x0003 r → u32 r.payload 0 % 4 = 0 → 8 ≤ r.payload.length → u32 r.payload 0 / 2 ^ 20 ≠ 0xE →
    (regRow (u32 r.payload 0) = none → Does (.regWrite r) 0x0003 r s fun u => (u, rspErr 0x0103)) ∧
    (s.regOff (u32 r.payload 0) = true → Does (.regWrite r) 0x0003 r s fun u => (u, rspErr 0x0800))) ∧
  (∀ (s : State) (a be : Nat) (data : Word), s.alive = true → a < 0x00E00000 → regRow (a / 4 * 4) = none ∨ s.regOff (a / 4 * 4) = true →
    exec (.registerWrite a be data) s = .next s)

/-- R430. The island holds one request at a time: MET_SEALED with none waiting sends the request, holds it and is answered ACCEPTED; with one in the
island it returns BUSY with DETAIL 0x0B02, and the request that waits stays as it is. -/
def Obligations.OneIslandRequestAtATime : Prop :=
  ∀ (s : State) (r : Req), Ready s 0x0B02 r →
    (s.metm.sent = none → Does (.metSealed r) 0x0B02 r s fun u =>
      (({ u with metm := { u.metm with sent := some (r, s.now, s.met.answers) } }).emit (.request r.payload), rspAccepted)) ∧
    (s.metm.sent.isSome = true → Does (.metSealed r) 0x0B02 r s fun u => (u, rspErr 0x0300 0x0B02))

/-- R269. CODER_STATUS runs with no payload alone; its 56 bytes of reply data are what BCD_CHAIN0 to 3, BCD_ENC_BUSY and BCD_DEC_BUSY read as, then the seven counters from
BCD_C2_TRN to BCD_RAW and BCD_SMAX, each 4 bytes; nothing changes but the model's counter of free values, from which the busy fractions come. -/
def Obligations.CoderStatusLayout : Prop :=
  ∀ (s : State) (r : Req), Ready s 0x0501 r → r.payload = [] ∧ ∃ e d : Word,
    (Does (.coderStatus r) 0x0501 r s fun u => ({ u with free := u.free + 2 }, rspOk (wordBytes
      ([0, 1, 2, 3].map (fun c => s.regView (0x00800000 + 4 * c)) ++ [e, d] ++
        [0, 1, 2, 3, 4, 5, 6].map (fun k => s.reg (0x00800020 + 4 * k)) ++ [s.reg 0x00800040])))) ∧
    (s.isTile = true → e = 0)

/-- R483. PCIE_PERST_N, a hot reset and a function-level reset of a lead affect only the PCIe endpoint: each clears ENABLE of every command ring and of
the event ring, ends its power state, and raises EV_47; every other register but OVERFLOW of EVT_RING_CFG, and every other part of the state but
the event unit and what it sends, stays: the wall runs on. -/
def Obligations.PcieResetLeavesTheWallRunning : Prop :=
  ∀ (s : State) (kind : Nat), s.isLead = true → s.alive = true → kind ≤ 2 → ∃ t, exec (.pcieEndpointReset kind) s = .next t ∧
    (∀ c, c < 16 → t.bit (Reg.cmdRingCfg + 0x20 * c) 0 = false) ∧ t.bit Reg.evtRingCfg 0 = false ∧
    (Map.at t.evt.srcs {} 47).count = min 0xFFFFFFFF ((Map.at s.evt.srcs {} 47).count + 1) ∧
    t.pwr = { s.pwr with d3hot := false, pmeEn := false } ∧
    Keeps (.pwr :: eventParts) (Reg.evtRingCfg :: (List.range 16).map (fun c => Reg.cmdRingCfg + 0x20 * c)) s t

/-- The block coder's bound (from R243, R246 to R249): for every ratio, mode and floor that CODER_CONFIG accepts (R251) and every 32 pixels of 12-bit
components, the decoder accepts what the encoder makes of them, in the block bytes of the ratio; the shift s never exceeds s_max of the ratio nor
falls below the floor of mode 1; each reconstructed component differs from its source by at most 2^(s - 1) codes, and by 0 where s is 0; in mode 0
a block whose ranges fit is lossless, and at 1:1 every block is. -/
def Obligations.CoderErrorBound : Prop :=
  ∀ (ratio mode floor : Nat) (px : List Rgb), ratio ≤ 3 → mode ≤ 1 → (mode = 0 → floor = 0) → (mode = 1 → 1 ≤ floor ∧ floor ≤ sMax ratio) →
    px.length = 32 → (∀ p ∈ px, ∀ c < 3, Rgb.comp p c < 4096) →
    let k := blkShift ratio mode floor px
    (encodeBlk ratio mode floor px).length = blkBytes ratio ∧ k ≤ sMax ratio ∧ (mode = 1 → floor ≤ k) ∧
    (ratio ≠ 0 → mode = 0 → ((blkComps px).map (fun l => bitLen (maxOf l - minOf l))).sum ≤ wMax ratio → k = 0) ∧
    ∃ q, decodeBlk ratio (encodeBlk ratio mode floor px) = some q ∧ q.length = 32 ∧
      ∀ i < 32, ∀ c < 3,
        let x := Rgb.comp (px.getD i (0, 0, 0)) c
        let y := Rgb.comp (q.getD i (0, 0, 0)) c
        if k = 0 then y = x else y ≤ x + 2 ^ (k - 1) ∧ x ≤ y + 2 ^ (k - 1)

/-- The DRAM and the register file keep their canonical form, addresses strictly rising and no entry at what an unlisted address reads as, across
every operation that changes them: a write of bytes, what the mirror brings, a cold or warm reset, a store to a register. -/
def Obligations.MemoryKeepsItsForm : Prop :=
  ∀ (s : State), Memory.wf s.mem.dram = true →
    (∀ a l, Memory.wf (s.memWrite a l).mem.dram = true) ∧ (∀ lo hi l, Memory.wf (s.applyLive (.data lo hi l)).mem.dram = true) ∧
    (∀ cold cause, Memory.wf (s.mainReset cold cause).mem.dram = true) ∧
    (∀ a w, regsWf s.regs = true → regsWf (s.setReg a w).regs = true)

/-- Bytes written through running channels are read back and no other byte changes (from R345, R348); no byte changes where every channel written
through is in HOLD (from R354). -/
def Obligations.WrittenBytesReadBack : Prop :=
  ∀ (s : State) (a : Nat) (l : List Byte),
    ((∀ i < l.length, (s.chan (s.chanOf (a + i))).st = .run) → ∀ c,
      (s.memWrite a l).memByte c = if a ≤ c ∧ c < a + l.length then l.getD (c - a) 0 else s.memByte c) ∧
    ((∀ i < l.length, (s.chan (s.chanOf (a + i))).st = .hold) → ∀ c, (s.memWrite a l).memByte c = s.memByte c)

/-- A register stored to reads back, every other register is as before, and nothing else of the state changes (R11); a counter that counts up
saturates. -/
def Obligations.RegistersReadBack : Prop :=
  ∀ (s : State) (a : Nat) (w : Word),
    (∀ b, (s.setReg a w).reg b = if b = a then w else s.reg b) ∧ Keeps [] [a] s (s.setReg a w) ∧
    ((s.bump a).reg a).toNat = min (2 ^ 32 - 1) ((s.reg a).toNat + 1)

/-- A sequence number is executed once (from R64, R65): where SEQ passes check 8, it is not 0, lies above H or unseen within 63 of it, and is marked,
so that the same request then returns REPLAY; what the window does not accept it never accepts again; and a SEQ at or above the stored floor moves
the floor above it before the request runs. -/
def Obligations.SequenceNumbersRunOnce : Prop :=
  (∀ (s t : State) (r : Req), s.checkSeq r = (t, none) →
    r.seq.toNat ≠ 0 ∧ (t.checkSeq r).2 = some (rspErr 0x0202 r.slot) ∧
    (r.seq.toNat < 0xFFFF0000 → r.seq.toNat < Map.at t.ks.floors 0 (slotClass r.slot r.cls))) ∧
  (∀ (w : Replay) (a b : Nat), w.accepts a = true → w.accepts b = false → (w.mark a).accepts b = false) ∧
  (∀ (s : State) (r : Req), (s.replayOf (slotClass r.slot r.cls)).accepts r.seq.toNat = false →
    (s.checkSeq r).2 = some (rspErr 0x0202 r.slot))

/-- What a main-side reset leaves (from R12, R21, R26, R65, R148, R473): every register but MEM_KEEP at its reset value, nothing armed, the chip inert
with nothing lit, no launch, no layer and no run; the one-time memory, the boot flash, the island and the queue as they were; the boot
pointer, the key store and the settings as the existing records of their stores have them (R450); replay state at the stored floors; a cold reset also restarts the raw counter and loses the DRAM, a warm one keeps the counter. -/
def Obligations.MainResetLeaves : Prop :=
  ∀ (s : State) (cold : Bool) (cause : Nat),
    let t := s.mainReset cold cause
    (∀ a, a ≠ Reg.memKeep → t.reg a = regReset a) ∧ t.armed = [] ∧ t.pwr.inert = true ∧ t.pwr.phase = .held ∧ t.pwr.rstCause = 2 ^ cause ∧
    t.ems.enabled = false ∧ t.ems.lit = none ∧ t.lch.state = .idle ∧ t.lch.table = [] ∧ t.pix.layers = [] ∧ t.cal.run = none ∧
    t.net.tx = [] ∧ t.evt.srcs = [] ∧ t.tmu.d0.valid = false ∧ t.tmu.d1.valid = false ∧
    t.otp = s.otp ∧ t.met = s.met ∧ t.pending = s.pending ∧ t.ks = s.openStores.ks ∧ t.flash = s.openStores.flash ∧
    t.flash.journals = s.flash.journals ∧ t.flash.slots = s.flash.slots ∧
    (∀ k f, Map.find t.ks.floors k = some f → t.replayOf k = { h := f, seen := 2 ^ 64 - 1 }) ∧
    (cold = true → t.tmu.raw = 0 ∧ t.mem.dram = [] ∧ t.reg Reg.memKeep = 0) ∧ (cold = false → t.tmu.raw = s.tmu.raw)

/-- General commands: each completes with its effect. -/
def Obligations.GeneralCommandsComplete : Prop :=
  -- NOP
  (∀ s r, Ready s 0x0000 r → Does (.nop r) 0x0000 r s fun u => (u, rspOk)) ∧
  -- GET_INFO
  (∀ s r, Ready s 0x0001 r → Answers (.getInfo r) 0x0001 r s fun u a =>
    Keeps [.admitted, .free] [] s u ∧ a.status = stOk ∧ a.data.length = 40 ∧ a.data.take 6 = b4 0x947200A1 ++ b1 (s.pwr.roleStrap % 4) ++ b1 0 ∧
    slice a.data 6 2 = b2 (if s.isLead then 0x8000 + leadAddr s.leadNum else bn s.net.valid * 0x8000 + s.net.addr % 4096) ∧
    slice a.data 8 16 = unitIdBytes ∧ slice a.data 24 12 = b4 s.leadEpoch ++ b4 (s.imgSlot 0).version ++ b4 (s.imgSlot 1).version ∧
    (∀ k, s.sec.running = some k → k < 2 → slice a.data 36 4 = b1 k ++ zeros 3)) ∧
  -- REG_READ
  (∀ s r, Ready s 0x0002 r → 1 ≤ u16 r.payload 4 → u16 r.payload 4 ≤ 1023 → s.rangeRefusal (u32 r.payload 0) (u16 r.payload 4) = none →
    Does (.regRead r) 0x0002 r s fun u =>
      let v := (capsRead (u32 r.payload 0) (u16 r.payload 4)).foldl State.popCap u
      let t := if (regRange (u32 r.payload 0) (u16 r.payload 4)).any (fun x => (regIdx Reg.tmuNow 4 12 x).isSome) then v.takeSnap else v
      (t.freeNext.freeNext, rspOk (wordBytes ((regRange (u32 r.payload 0) (u16 r.payload 4)).map t.regView)))) ∧
  -- HALT
  (∀ s r, Ready s 0x0004 r → Does (.halt r) 0x0004 r s fun u =>
    ({ u.goInert with pwr := { u.goInert.pwr with haltSafety := s.pwr.haltSafety || r.isSafety } }, rspOk)) ∧
  -- RESUME of a chip that is not a lapsed lead, and of one
  (∀ s r, Ready s 0x0005 r → s.pwr.inert = true → (s.pwr.haltSafety = true → r.isSafety = true) → s.inertCause = none →
    ¬(s.isLead = true ∧ s.pai.state = .lapsed) → Does (.resume r) 0x0005 r s fun u =>
      ({ u with pwr := { u.pwr with inert := false, haltSafety := false } }, rspOk)) ∧
  (∀ s r, Ready s 0x0005 r → s.pwr.inert = true → (s.pwr.haltSafety = true → r.isSafety = true) → s.inertCause = none →
    s.isLead = true → s.pai.state = .lapsed → Does (.resume r) 0x0005 r s fun u =>
      ({ u.enterStandby with pwr := { u.enterStandby.pwr with inert := false, haltSafety := false } }, rspOk)) ∧
  -- ARM: arming, and disarming
  (∀ s r role, Ready s 0x0006 r → (u16 r.payload 0, role) ∈ armIds → (role = 1 → s.isLead = true) → (role = 2 → s.isLead = false) →
    (u8 r.payload 2 = 1 → Does (.arm r) 0x0006 r s fun u =>
      ({ u with armed := u.armed.filter (· != u16 r.payload 0) ++ [u16 r.payload 0] }, rspOk)) ∧
    (u8 r.payload 2 = 0 → u16 r.payload 0 ≠ 0x0903 → Does (.arm r) 0x0006 r s fun u =>
      ({ u with armed := u.armed.filter (· != u16 r.payload 0) }, rspOk)) ∧
    (u8 r.payload 2 = 0 → u16 r.payload 0 = 0x0903 → Does (.arm r) 0x0006 r s fun u =>
      (({ u with armed := u.armed.filter (· != u16 r.payload 0) }).relayWatch, rspOk))) ∧
  -- CORE_RESTART
  (∀ s r, Ready s 0x0007 r → u8 r.payload 0 ≤ 1 → (s.pwr.cores.getD (u8 r.payload 0) {}).state = 2 → Does (.coreRestart r) 0x0007 r s fun u =>
    (({ u with pwr := { u.pwr with
        cores := u.pwr.cores.set (u8 r.payload 0) { u.pwr.cores.getD (u8 r.payload 0) {} with state := 1 },
        restarts := u.pwr.restarts + 1 } }).raise 34 1 (u8 r.payload 0), rspOk)) ∧
  -- WARM_RESET: the reply leaves first
  (∀ s r, Ready s 0x0008 r →
    let t := s.takeReq 0x0008 r
    let u := t.answer t 0x0008 r rspOk
    exec (.warmReset r) s = .next (((u.flushCells (u.net.tx.drop t.net.tx.length)).mainReset false 4).boot false false)) ∧
  -- CRED_STATUS
  (∀ s r, Ready s 0x0009 r → Does (.credStatus r) 0x0009 r s fun u =>
    (u, rspOk (b4 s.provMap ++ (List.range 15).flatMap (fun k => b2 (Map.at s.ks.masks 0 k)) ++ zeros 2 ++
      (List.range 256).flatMap (fun i => b4 (Map.at s.ks.floors 0 i)))))

/-- The commands of the event unit: each completes with its effect. -/
def Obligations.EventCommandsComplete : Prop :=
  -- EVENT_RING_HEAD_WRITE
  (∀ s data, s.isLead = true → s.alive = true → exec (.eventRingHeadWrite data) s = .next
    (if data.toNat % 65536 < s.evtRingSize then { s with evt := { s.evt with ringHead := data.toNat % 65536 } } else s.raise 23 3 16)) ∧
  -- EVT_RING_ENABLE, of a ring that was off
  (∀ s cfg, s.isLead = true → s.alive = true → cfg.toNat.testBit 0 = true → 6 ≤ bitsOf (cfg &&& 0x003F1F01#32).toNat 12 8 →
    bitsOf (cfg &&& 0x003F1F01#32).toNat 12 8 ≤ 16 → (s.reg Reg.evtRingCfg).toNat.testBit 0 = false →
    exec (.evtRingEnable cfg) s = .next (({ s with evt := { s.evt with ringTail := 0, ringHead := 0 } }).setReg Reg.evtRingCfg
      ((cfg &&& 0x003F1F01#32) ||| (if cfg.toNat.testBit 1 then 0#32 else s.reg Reg.evtRingCfg &&& 2#32)))) ∧
  -- EVENT_RING_WRITE of one record, and of a group event's two
  (∀ s r rest, s.isLead = true → s.alive = true → s.pwr.d3hot = false → s.bit Reg.evtRingCfg 0 = true → s.evt.lost = 0 →
    s.evt.heldRecs = r :: rest → (∀ b l, rest = b :: l → b.bitmap = none) → 1 ≤ s.ringFree →
    exec .eventRingWrite s = .next { s with
      evt := { s.evt with heldRecs := rest, ringTail := (s.evt.ringTail + 1) % s.evtRingSize },
      out := s.out ++ [.hostWrite (s.evtBase + 32 * s.evt.ringTail) r.bytes, .msix (s.fld Reg.evtRingCfg 21 16)] }) ∧
  (∀ s r b rest, s.isLead = true → s.alive = true → s.pwr.d3hot = false → s.bit Reg.evtRingCfg 0 = true → s.evt.lost = 0 →
    s.evt.heldRecs = r :: b :: rest → b.bitmap.isSome = true → 2 ≤ s.ringFree →
    exec .eventRingWrite s = .next { s with
      evt := { s.evt with heldRecs := rest, ringTail := ((s.evt.ringTail + 1) % s.evtRingSize + 1) % s.evtRingSize },
      out := s.out ++ [.hostWrite (s.evtBase + 32 * s.evt.ringTail) r.bytes,
        .hostWrite (s.evtBase + 32 * ((s.evt.ringTail + 1) % s.evtRingSize)) b.bytes, .msix (s.fld Reg.evtRingCfg 21 16)] }) ∧
  -- RATE_LIMIT_RELEASE
  (∀ s k, s.alive = true → (Map.at s.evt.srcs {} k).dirty = true → exec (.rateLimitRelease k) s = .next (s.tryRecord k)) ∧
  -- EVT_NOTIFY
  (∀ s m, s.alive = true → s.isLead = true → discardCase m.body = none → u16 m.body 2 = 0x0F04 →
    exec (.evtNotify m) s = .next ((notifyRecs m.body).foldl (fun t r => (t.mergeRec r).noteTileRec r) (s.takeMsgRow m))) ∧
  -- MERGE_WINDOW_CLOSE of a window in which one tile alone reported, and of a group event in a lead whose records go to the ring
  (∀ s m, s.evt.merges.find? (fun m => decide (m.close ≤ s.now)) = some m → m.held = [] → exec .mergeWindowClose s =
    .next { s with evt := { s.evt with merges := s.evt.merges.erase m } }) ∧
  (∀ s m, s.evt.merges.find? (fun m => decide (m.close ≤ s.now)) = some m → 2 ≤ m.latest.length → s.evt.sub = none →
    s.evt.heldRecs.length + 2 ≤ 256 →
    let b : EvRec := { rseq := (s.evt.rseq + 1) % 65536, src := m.src, bitmap := some (tileBitmap (m.latest.map (·.origin))) }
    let h := s.evt.history ++ [s.groupHead m, b]
    exec .mergeWindowClose s = .next { s with evt := { s.evt with
      merges := s.evt.merges.erase m, rseq := (s.evt.rseq + 2) % 65536, history := lastOf 1024 h,
      heldRecs := s.evt.heldRecs ++ [s.groupHead m, b] } }) ∧
  -- EVT_READ
  (∀ s r, Ready s 0x0F00 r → u8 r.payload 0 ≤ 1 → (u8 r.payload 0 = 1 → u16 r.payload 2 ≤ 1023) → 1 ≤ u16 r.payload 4 → u16 r.payload 4 ≤ 127 →
    Does (.evtRead r) 0x0F00 r s fun u =>
      let rs := if u8 r.payload 0 = 0 then s.readHistory (u16 r.payload 2) (u16 r.payload 4) else s.readSources (u16 r.payload 2) (u16 r.payload 4)
      (u, rspOk (b2 rs.length ++ zeros 2 ++ rs.flatMap EvRec.bytes))) ∧
  -- EVT_CLEAR
  (∀ s r, Ready s 0x0F01 r → u16 r.payload 0 ≤ u16 r.payload 2 → u16 r.payload 2 ≤ 1023 → Does (.evtClear r) 0x0F01 r s fun u =>
    ({ u with evt := { u.evt with srcs := u.evt.srcs.map (fun x =>
        if u16 r.payload 0 ≤ x.1 ∧ x.1 ≤ u16 r.payload 2 then (x.1, { x.2 with count := 0, dirty := false, armed := false }) else x) } }, rspOk)) ∧
  -- EVT_CONFIG
  (∀ s r, Ready s 0x0F02 r → 1 ≤ bitsOf (u32 r.payload 0) 12 8 → bitsOf (u32 r.payload 0) 12 8 ≤ 16 →
    1 ≤ bitsOf (u32 r.payload 0) 6 0 → bitsOf (u32 r.payload 0) 6 0 ≤ 100 → Answers (.evtConfig r) 0x0F02 r s fun u a =>
      a = rspOk ∧ u.fld Reg.evtCfg 12 8 = bitsOf (u32 r.payload 0) 12 8 ∧ u.fld Reg.evtCfg 6 0 = bitsOf (u32 r.payload 0) 6 0 ∧
      u.bit Reg.evtCfg 7 = (if s.isLead then (u32 r.payload 0).testBit 7 else true) ∧
      (∀ k, k < 32 → u.reg (Reg.evtMask + 4 * k) = BitVec.ofNat 32 (u32 r.payload (4 + 4 * k))) ∧
      Keeps [.admitted] (Reg.evtCfg :: (List.range 32).map (fun k => Reg.evtMask + 4 * k)) s u) ∧
  -- FAULT_EPOCH
  (∀ s r, Ready s 0x0F03 r → Does (.faultEpoch r) 0x0F03 r s fun u => ({ u with evt := { u.evt with fepoch := u32 r.payload 0 } }, rspOk)) ∧
  -- EVT_SUBSCRIBE, and the end of a subscription
  (∀ s r p ip port, Ready s 0x0F05 r → r.via = .udp p ip port → u32 r.payload 0 ≠ 0 → Does (.evtSubscribe r) 0x0F05 r s fun u =>
    let x : Subscriber := { ip := u32 r.payload 0, udpPort := u16 r.payload 4, port := p, src := r.src.toNat, auth := r.isAuth }
    ({ u with evt := { u.evt with sub := some x } }, rspOk)) ∧
  (∀ s r, Ready s 0x0F05 r → u32 r.payload 0 = 0 → Does (.evtSubscribe r) 0x0F05 r s fun u => ({ u with evt := { u.evt with sub := none } }, rspOk))

/-- The ways by which commands reach the chip, and what comes back from tiles: each row completes with its effect. -/
def Obligations.TransportCommandsComplete : Prop :=
  -- DOORBELL_WRITE of a command ring, and of the event ring
  (∀ s data c, s.isLead = true → s.alive = true → c < 16 → data.toNat % 65536 < s.ringSize c →
    exec (.doorbellWrite (0x1000 * c) data) s = .next { s with cmd := { s.cmd with ringTail := Map.put s.cmd.ringTail c (data.toNat % 65536) } }) ∧
  (∀ s data c, s.isLead = true → s.alive = true → c < 16 → s.ringSize c ≤ data.toNat % 65536 →
    exec (.doorbellWrite (0x1000 * c) data) s = .next (s.raise 23 3 c)) ∧
  (∀ s data, s.isLead = true → s.alive = true → data.toNat % 65536 < s.evtRingSize →
    exec (.doorbellWrite 0x10000 data) s = .next { s with evt := { s.evt with ringHead := data.toNat % 65536 } }) ∧
  -- DESCRIPTOR_FETCH: the packet of the next descriptor arrives; a PCIe error stops the ring
  (∀ s ring d p, s.ringRuns ring = true →
    let i := Map.at s.cmd.ringHead 0 ring
    exec (.descriptorFetch ring (some d) (some p)) s = .next
      (({ s with cmd := { s.cmd with ringHead := Map.put s.cmd.ringHead ring ((i + 1) % s.ringSize ring) } }).receivePacket
        (.pcie ring (u64 d 8) (u16 d 18) (s.descAddr ring i + 24) ((u8 d 20).testBit 0)) (p.take (u16 d 16)))) ∧
  (∀ s ring d, s.ringRuns ring = true → exec (.descriptorFetch ring d none) s = .next
    (({ s with cmd := { s.cmd with ringHold := ring :: s.cmd.ringHold } }).raise 23 3 ring)) ∧
  -- CMD_RING_ENABLE, and a disable
  (∀ s ring cfg, s.isLead = true → s.alive = true → ring < 16 → (cfg &&& 0x003F1F01#32).toNat.testBit 0 = true →
    6 ≤ bitsOf (cfg &&& 0x003F1F01#32).toNat 12 8 → bitsOf (cfg &&& 0x003F1F01#32).toNat 12 8 ≤ 16 →
    exec (.cmdRingEnable ring cfg) s = .next (s.setReg (Reg.cmdRingCfg + 0x20 * ring) (cfg &&& 0x003F1F01#32))) ∧
  (∀ s ring cfg, s.isLead = true → s.alive = true → ring < 16 → (cfg &&& 0x003F1F01#32).toNat.testBit 0 = false →
    exec (.cmdRingEnable ring cfg) s = .next (({ s with cmd := { s.cmd with
      ringHead := Map.put s.cmd.ringHead ring 0, ringTail := Map.put s.cmd.ringTail ring 0,
      ringHold := s.cmd.ringHold.filter (· != ring) } }).setReg (Reg.cmdRingCfg + 0x20 * ring) (cfg &&& 0x003F1F01#32))) ∧
  -- UDP_COMMAND_DATAGRAM: the packet of a whole datagram arrives; a fragment is discarded
  (∀ s port srcIp srcPort dstIp dstPort fragment data, s.alive = true → s.takesUdp port dstIp dstPort = true →
    exec (.udpCommandDatagram port srcIp srcPort dstIp dstPort fragment data) s = .next
      (if fragment then s.raise 26 1 port else s.receivePacket (.udp port srcIp srcPort) data)) ∧
  -- COMMAND_PACKET_DISCARD
  (∀ s via data c, s.alive = true → discardCase data = some c →
    exec (.commandPacketDiscard via data) s = .next (s.raise 16 2 (viaArrival via + c * 256))) ∧
  -- UNDEFINED_OPCODE
  (∀ s op r, s.alive = true → opRow op = none → exec (.undefinedOpcode op r) s = .next (s.answerPlain op r (rspErr stBadOpcode))) ∧
  -- TILE_REPLY_RECEIVED: a unicast command's reply is passed on, a broadcast's is folded, one after its time-out raises EV_22
  (∀ s m j, s.alive = true → s.isLead = true → discardCase m.body = none →
    s.cmd.jobs.find? (fun j => j.matches m.body (u16 m.body 6 % 4096) && !j.tooLate m.port) = some j → j.kind ≠ 1 →
    exec (.tileReplyReceived m) s = .next ((s.takeMsgRow m).passReply j m.body)) ∧
  (∀ s m j, s.alive = true → s.isLead = true → discardCase m.body = none →
    s.cmd.jobs.find? (fun j => j.matches m.body (u16 m.body 6 % 4096) && !j.tooLate m.port) = some j → j.kind = 1 → m.port ≠ 7 →
    let src := u16 m.body 6 % 4096
    let j' : Job := { j with replies := j.replies.filter (fun r => r.1 != src) ++ [(src, u16 m.body 24, u16 m.body 26)] }
    let t := ((s.takeMsgRow m).setJob j').noteReply j src (u16 m.body 24) (u16 m.body 26) (m.body.drop 28)
    exec (.tileReplyReceived m) s = .next (if j'.allIn then t.endBcast j' else t)) ∧
  -- the far lead's reply to a domain broadcast
  (∀ s m j, s.alive = true → s.isLead = true → discardCase m.body = none →
    s.cmd.jobs.find? (fun j => j.matches m.body (u16 m.body 6 % 4096) && !j.tooLate m.port) = some j → j.kind = 1 → m.port = 7 →
    let j' : Job := { j with farData := some (m.body.drop 24) }
    let t := (s.takeMsgRow m).setJob j'
    exec (.tileReplyReceived m) s = .next (if j'.allIn then t.endBcast j' else t)) ∧
  (∀ s m x, s.alive = true → s.isLead = true → discardCase m.body = none →
    s.cmd.jobs.find? (fun j => j.matches m.body (u16 m.body 6 % 4096) && !j.tooLate m.port) = none →
    s.cmd.late.find? (fun x => x.1 == u32 m.body 8 && x.2.1 == u16 m.body 14 && (x.2.2 == u16 m.body 6 % 4096 || x.2.2 == 4096)) = some x →
    exec (.tileReplyReceived m) s = .next
      (({ s.takeMsgRow m with cmd := { s.cmd with late := s.cmd.late.erase x } }).raise 22 1
        (u16 m.body 6 % 4096 * 65536 + u16 m.body 14))) ∧
  -- a damaged reply is discarded with EV_16
  (∀ s m c, s.alive = true → s.isLead = true → discardCase m.body = some c →
    exec (.tileReplyReceived m) s = .next ((s.takeMsgRow m).raise16 m.port c)) ∧
  -- TILE_TIMEOUT of a command to one tile of this lead other than PROBE_NEAREST
  (∀ s j, s.alive = true → s.isLead = true →
    s.cmd.jobs.find? (fun j => s.timedOut j && !j.told && !(j.kind == 1 && j.missing.isEmpty)) = some j → j.kind ≠ 1 → j.kind ≠ 3 →
    j.op ≠ 0x0100 → j.farGone = false →
    let u := (({ s with cmd := { s.cmd with late := s.cmd.late ++ j.lateKeys } }).raise 21 2
      (lowestAddr j.missing % 4096 * 65536 + j.req.tag.toNat)).dropJob j.id
    exec .tileTimeout s = .next (u.answer u j.op j.req (rspErr stTimeout))) ∧
  -- TILE_TIMEOUT of a broadcast: EV_21 once; it ends with the last reply that is still awaited
  (∀ s j, s.alive = true → s.isLead = true →
    s.cmd.jobs.find? (fun j => s.timedOut j && !j.told && !(j.kind == 1 && j.missing.isEmpty)) = some j → j.kind = 1 →
    j.farGone = false →
    let j' : Job := { j with told := true }
    let t := (({ s with cmd := { s.cmd with late := s.cmd.late ++ j.lateKeys } }).raise 21 2
        (lowestAddr j.missing % 4096 * 65536 + j.req.tag.toNat)).setJob j'
    exec .tileTimeout s = .next (if j'.allIn then t.endBcast j' else t)) ∧
  -- FAR_LEAD_REPLY_TIMEOUT: EV_21 unless this broadcast has raised it
  (∀ s j, s.alive = true → s.isLead = true →
    s.cmd.jobs.find? (fun j => j.farData.isNone && !j.farGone &&
      (match j.far with | some t => decide (t + 2 * s.tileTimeout ≤ s.now) | none => false)) = some j →
    let j' : Job := { j with farGone := true }
    let t := s.setJob j'
    let u := { t with cmd := { t.cmd with late := t.cmd.late ++ [(j.req.seq.toNat, j.req.tag.toNat, leadAddr j.farLead)] } }
    let v := if j.told then u else u.raise 21 2 (leadAddr j.farLead * 65536 + j.req.tag.toNat)
    exec .farLeadReplyTimeout s = .next (if j'.allIn then v.endBcast j' else v))

/-- Resets, supplies, clocks, management cores, test access and the PCIe function: each row completes with its effect. -/
def Obligations.PowerCommandsComplete : Prop :=
  -- POWER_ON_RESET and PORESET_N_ASSERT
  (∀ s, exec .powerOnReset s = .next (s.mainReset true 0)) ∧
  (∀ s, exec .poresetNAssert s = .next { s.mainReset true 1 with pwr := { (s.mainReset true 1).pwr with poresetLow := true } }) ∧
  -- PORESET_N_RISE: the straps are sampled; the boot runs unless a core supply holds the reset
  (∀ s role src, s.pwr.poresetLow = true →
    let t := { s with pwr := { s.pwr with poresetLow := false, roleStrap := role % 4, bootStrap := src % 4 } }
    exec (.poresetNRise role src) s = .next (if s.coreSupplyOut then t else t.boot true false)) ∧
  -- WRESET_N_ASSERT
  (∀ s low, s.alive = true → rawNs 10 ≤ low → exec (.wresetNAssert low) s = .next ((s.mainReset false 3).boot false false)) ∧
  -- SUPPLY_OUT_OF_RANGE: VDD_AON, the other core supplies, the supplies of blocks, the island's
  (∀ s n, n ≤ 10 → s.pwr.supplyOut.contains n = false →
    let t := { s with pwr := { s.pwr with supplyOut := n :: s.pwr.supplyOut } }
    (n = 0 → exec (.supplyOutOfRange n) s = .next ((t.mainReset true 0).stickSupply 0)) ∧
    (n = 1 ∨ n = 2 → exec (.supplyOutOfRange n) s = .next ((t.mainReset true 2).stickSupply n)) ∧
    (3 ≤ n → n ≤ 9 → s.alive = true → exec (.supplyOutOfRange n) s = .next (((t.stickSupply n).goInert.holdFed n).raise 35 4 n)) ∧
    (n = 10 → exec (.supplyOutOfRange n) s = .next (t.stickSupply 10))) ∧
  -- SUPPLY_BACK_IN_RANGE
  (∀ s n role src, s.pwr.supplyOut.contains n = true →
    let t := { s with pwr := { s.pwr with supplyOut := s.pwr.supplyOut.filter (· != n) } }
    (n < 3 → t.coreSupplyOut = false → s.pwr.poresetLow = false → exec (.supplyBackInRange n role src) s = .next
      (({ t with pwr := { t.pwr with roleStrap := role % 4, bootStrap := src % 4 } }).boot true false)) ∧
    (3 ≤ n → n ≤ 9 → s.alive = true → exec (.supplyBackInRange n role src) s = .next (t.raise 35 4 (n + 256)))) ∧
  -- PLL_LOSS_OF_LOCK of the TIME PLL and of the LAMP PLL, and PLL_LOCK_REGAINED
  (∀ s n, n ≤ 15 → s.pllLock n = true →
    let t := ({ s with pwr := { s.pwr with pllLost := n :: s.pwr.pllLost } }).setFld Reg.glbPllStatus (16 + n) (16 + n) 1
    (n = 1 → exec (.pllLossOfLock n) s = .next t.timeLost.lchHold) ∧
    (n = 2 → exec (.pllLossOfLock n) s = .next ((t.endEmission true).raise 519 3 1)) ∧
    (n ≠ 1 → n ≠ 2 → ∃ sev, exec (.pllLossOfLock n) s = .next (t.raiseIn (pllBlock n) sev n))) ∧
  (∀ s n, s.pwr.pllLost.contains n = true →
    let t := { s with pwr := { s.pwr with pllLost := s.pwr.pllLost.filter (· != n) } }
    exec (.pllLockRegained n) s = .next (if n = 2 then { t with ems := { t.ems with hold := false } } else t)) ∧
  -- FIFO_FAULT: the receiving block holds and a fatal event names the FIFO: the lamp port, a DRAM channel, any other block
  (∀ s, s.alive = true → s.isTile = true → exec (.fifoFault 0) s = .next (((s.endEmission true).raise 519 3 2).raiseIn 0x0A 4 0)) ∧
  (∀ s n, s.alive = true → n < 4 → (s.chan n).st ≠ .off → (s.chan n).st ≠ .hold → exec (.fifoFault (n + 1)) s = .next
    ((s.holdChan n false).raiseIn 0x0B 4 (n + 1))) ∧
  (∀ s b, s.alive = true → b < 17 → exec (.fifoFault (5 + b)) s = .next
    (({ s with pwr := { s.pwr with held := b :: s.pwr.held } }).raiseIn b 4 (5 + b))) ∧
  -- CORE_FAULT without the arming of an automatic restart, and with it
  (∀ s k cause, s.alive = true → k ≤ 1 → (s.pwr.cores.getD k {}).state = 1 → s.isArmed 0x0001 = false →
    let c := s.pwr.cores.getD k {}
    exec (.coreFault k cause) s = .next ((s.setCore k { c with
      state := 2, cause := cause % 4, autos := c.autos.filter (fun t => decide (s.now < t + rawSec 60)) }).raise 33 4 (k + cause % 4 * 2))) ∧
  (∀ s k cause, s.alive = true → k ≤ 1 → (s.pwr.cores.getD k {}).state = 1 → s.isArmed 0x0001 = true →
    let c := s.pwr.cores.getD k {}
    let recent := c.autos.filter (fun t => decide (s.now < t + rawSec 60))
    exec (.coreFault k cause) s = .next (if recent.length < 3
      then (s.setCore k { c with state := 3, cause := cause % 4, autos := s.now :: recent }).raise 33 4 (k + cause % 4 * 2)
      else (s.setCore k { c with state := 2, cause := cause % 4, autos := recent }).raise 33 4 (k + cause % 4 * 2 + 256))) ∧
  -- CORE_RESTART_COMPLETE
  (∀ s k, s.alive = true → k ≤ 1 → (s.pwr.cores.getD k {}).state = 3 → exec (.coreRestartComplete k) s = .next
    (({ s with pwr := { s.pwr with
      cores := s.pwr.cores.set k { s.pwr.cores.getD k {} with state := 1 },
      restarts := s.pwr.restarts + 1 } }).raiseA 34 1 k true)) ∧
  -- TEMPERATURE_MEASUREMENT
  (∀ s sensors, s.alive = true →
    let t := (List.range 12).foldl (fun t k => t.readSensor k (sensors.getD k none)) s
    let u := ({ t with cal := { t.cal with onDie := (onDieMean t.cal.temps t.cal.faults).getD t.cal.onDie } }).checkHot
    exec (.temperatureMeasurement sensors) s = .next (if u.overWake then u.wakeRequest 0 else u)) ∧
  -- AVS_MEASUREMENT
  (∀ s mv, s.alive = true → exec (.avsMeasurement mv) s = .next { s with pwr := { s.pwr with vmeas := mv % 4096 } }) ∧
  -- JTAG_INSTRUCTION_LOAD: any instruction but BYPASS, IDCODE and SAMPLE holds the lamps dark; IDCODE gives the device's number
  (∀ s, exec (.jtagInstructionLoad .other) s = .next { s.credit with
    pwr := { s.credit.pwr with jtagHold := true }, ems := { s.credit.ems with lit := none } }) ∧
  (∀ s, exec (.jtagInstructionLoad .idcode) s = .next { s.credit.emit (.tdo 0x19472963) with
    pwr := { s.credit.pwr with jtagHold := false } }) ∧
  (∀ s i, i ≠ .other → i ≠ .idcode → exec (.jtagInstructionLoad i) s = .next { s.credit with pwr := { s.credit.pwr with jtagHold := false } }) ∧
  -- PCIE_ENDPOINT_RESET
  (∀ s kind, s.isLead = true → s.alive = true → kind ≤ 2 → ∃ t, exec (.pcieEndpointReset kind) s = .next (t.raise 47 2 (2 ^ kind)) ∧
    t = { s with regs := t.regs, pwr := { s.pwr with d3hot := false, pmeEn := false } } ∧
    (∀ c, c < 16 → t.bit (Reg.cmdRingCfg + 0x20 * c) 0 = false) ∧ t.bit Reg.evtRingCfg 0 = false ∧
    Keeps [.pwr] (Reg.evtRingCfg :: (List.range 16).map (fun c => Reg.cmdRingCfg + 0x20 * c)) s t) ∧
  -- PCIE_POWER_STATE_CHANGE and PME_STATUS_CLEAR
  (∀ s en, s.isLead = true → s.alive = true → s.pwr.d3hot = false →
    exec (.pciePowerStateChange false en) s = .next { s with pwr := { s.pwr with d3hot := false, pmeEn := en } }) ∧
  (∀ s, s.isLead = true → s.alive = true → s.pwr.d3hot = false →
    exec (.pciePowerStateChange true true) s = .next { s with
      pwr := { s.pwr with d3hot := true, pmeEn := true }, evt := { s.evt with pmeSeen := s.evt.heldRecs.length } }) ∧
  -- the return to D0 repeats the records that have just been PME causes
  (∀ s en, s.isLead = true → s.alive = true → s.pwr.d3hot = true →
    exec (.pciePowerStateChange false en) s = .next { s.repeatCauses with pwr := { s.repeatCauses.pwr with d3hot := false, pmeEn := en } }) ∧
  (∀ s, s.isLead = true → s.alive = true → exec .pmeStatusClear s = .next { s with pwr := { s.pwr with pmeStatus := false, pmeCause := 0 } }) ∧
  -- PWR_SET
  (∀ s r, Ready s 0x0E00 r →
    let m := beNat r.payload % 2 ^ 152
    (∀ d, d ∈ [146, 147, 150, 151] → m.testBit d = false) → (∀ d, d < 152 → m.testBit d = true → s.domOn d = false) →
    Does (.pwrSet r) 0x0E00 r s fun u => (({ u with pwr := { u.pwr with domOff := m } }).raise 38 1 (min 255 (popCount 152 m)), rspOk)) ∧
  -- PWR_STATUS
  (∀ s r, Ready s 0x0E04 r → Does (.pwrStatus r) 0x0E04 r s fun u =>
    let hot : Int := match s.hottest with | some (_, v) => v | none => 0
    (u, rspOk (beBytes 20 (((List.range 5).map (fun k => s.domOnWord k * 2 ^ (32 * k))).sum) ++ beBytes 20 s.pwr.domOff ++
      b4 s.rstCauseWord ++ b4 s.supplyWord ++ b4 s.coreWord ++ b4 s.twiWord ++ b2 (unsigned 16 hot) ++ zeros 2)))

/-- Sleep, beacons, wake and resume: each row completes with its effect. -/
def Obligations.TwilightCommandsComplete : Prop :=
  -- SLEEP_PROPOSE in a tile: the proposal is held, and answered OK
  (∀ s r t, Ready s 0x0E01 r → s.isTile = true → timeAt r.payload 4 = some t → r.isBcast = true → r.epoch.toNat ≠ 0 →
    isAfter r.epoch.toNat (s.sleepAt 0).epoch = true → s.sec.upd = none → s.cal.run = none → s.ems.setups = [] →
    (s.sleepAt 0).state ≠ .twilight → (s.sleepAt 0).state ≠ .waking → Does (.sleepPropose r) 0x0E01 r s fun u =>
      let v := u.setSleep 0 { u.sleepAt 0 with epoch := r.epoch.toNat, at_ := t }
      (({ v with pwr := { v.pwr with wakeCause := 0 } }).sleepTo 0 .proposed, rspOk)) ∧
  -- SLEEP_PROPOSE in a lead of a chain with tiles: the reply is the aggregate of the broadcast
  (∀ s r t, Ready s 0x0E01 r → s.isTile = false → timeAt r.payload 4 = some t → u8 r.payload 0 < 4 →
    let x := s.sleepAt (u8 r.payload 0)
    r.epoch.toNat = nextSleep x.epoch → s.derivedNow + (1000 * rawMs 20 : Nat) ≤ t → (t : Int) ≤ s.derivedNow + (1000 * rawSec 10 : Nat) →
    s.pai.relay.testBit (u8 r.payload 0) = false → s.actDom.valid = true → (s.pai.state = .solo ∨ s.pai.state = .active) →
    s.ks.group.isSome = true → (x.state = .awake ∨ x.state = .proposed) →
    let f (u : State) := ((u.setSleep (u8 r.payload 0) { x with epoch := r.epoch.toNat, at_ := t, allOk := false, resuming := false }).sleepTo
      (u8 r.payload 0) .proposed).sleepJob 0x0E01 (u8 r.payload 0) 4 r.epoch.toNat (some r)
    ((f (s.takeReq 0x0E01 r)).2 = none → Holds (.sleepPropose r) 0x0E01 r s fun u => (f u).1) ∧
    -- of a chain without tiles: all have agreed at once
    (∀ a, (f (s.takeReq 0x0E01 r)).2 = some a → a.status = stOk → Does (.sleepPropose r) 0x0E01 r s fun u =>
      ((f u).1.setSleep (u8 r.payload 0) { (f u).1.sleepAt (u8 r.payload 0) with allOk := true }, a))) ∧
  -- SLEEP_COMMIT in a tile, and in a lead of a chain with tiles
  (∀ s r, Ready s 0x0E02 r → s.isTile = true → r.isBcast = true → r.epoch.toNat = (s.sleepAt 0).epoch → (s.sleepAt 0).state = .proposed →
    Does (.sleepCommit r) 0x0E02 r s fun u => (u.sleepTo 0 .committed, rspOk)) ∧
  (∀ s r, Ready s 0x0E02 r → s.isTile = false → u8 r.payload 0 < 4 →
    let x := s.sleepAt (u8 r.payload 0)
    r.epoch.toNat = x.epoch → x.epoch ≠ 0 → x.state = .proposed → x.allOk = true → s.derivedNow + commitMargin ≤ (x.at_ : Int) →
    let f (u : State) := u.sleepJob 0x0E02 (u8 r.payload 0) 4 r.epoch.toNat (some r)
    ((f (s.takeReq 0x0E02 r)).2 = none → Holds (.sleepCommit r) 0x0E02 r s fun u => (f u).1) ∧
    (∀ a, (f (s.takeReq 0x0E02 r)).2 = some a → a.status = stOk →
      Does (.sleepCommit r) 0x0E02 r s fun u => ((f u).1.sleepTo (u8 r.payload 0) .committed, a))) ∧
  -- SLEEP_RESUME in a tile that holds a proposal, and in a lead whose chain is in Twilight
  (∀ s r, Ready s 0x0E03 r → s.isTile = true → r.isBcast = true → (r.epoch.toNat = 0 ∨ r.epoch.toNat = (s.sleepAt 0).epoch) →
    ((s.sleepAt 0).state = .proposed ∨ (s.sleepAt 0).state = .committed) →
    Does (.sleepResume r) 0x0E03 r s fun u => (u.sleepTo 0 .awake, rspOk)) ∧
  (∀ s r, Ready s 0x0E03 r → s.isTile = false → u8 r.payload 0 < 4 →
    let c := u8 r.payload 0
    let x := s.sleepAt c
    (r.epoch.toNat = 0 ∨ r.epoch.toNat = x.epoch) → x.waiting = none → x.state = .twilight →
    Holds (.sleepResume r) 0x0E03 r s fun u =>
      if (s.dwellEnd c : Int) ≤ s.derivedNow then u.startResume c r.epoch.toNat (some r) else u.setSleep c { x with waiting := some r }) ∧
  -- TWILIGHT_ENTRY of a committed tile, of a tile that was told no commit, and of a lead's committed chain
  (∀ s, s.alive = true → s.isTile = true → (s.sleepAt 0).state = .committed → ((s.sleepAt 0).at_ : Int) ≤ s.derivedNow →
    exec .twilightEntry s = .next s.enterTwilight) ∧
  (∀ s, s.alive = true → s.isTile = true → (s.sleepAt 0).state = .proposed → ((s.sleepAt 0).at_ : Int) ≤ s.derivedNow →
    exec .twilightEntry s = .next ((s.setSleep 0 { s.sleepAt 0 with state := .awake }).raise 45 2 ((s.sleepAt 0).epoch % 65536 * 65536))) ∧
  (∀ s, s.alive = true → s.isTile = false → s.isLead = true → (s.sleepAt 0).state = .committed → ((s.sleepAt 0).at_ : Int) ≤ s.derivedNow →
    exec .twilightEntry s = .next (s.sleepTo 0 .twilight)) ∧
  -- BEACON_SEND of a lead with one chain asleep: one plain beacon with the chain's sleep epoch
  (∀ s c, s.pwr.plainAt + rawMs 10 ≤ s.now → s.isLead = true → (List.range 8).filter s.beaconMode = [c] →
    exec .beaconSend s = .next { s with pwr := { s.pwr with plainAt := s.now },
                                        out := s.out ++ [.beacon c (beaconBytes 1 0xFF (s.sleepAt c).epoch 0)] }) ∧
  -- PLAIN_BEACON_RECEIVED
  (∀ s p b, s.beaconMode p = true → beaconKind b = some 1 →
    exec (.plainBeaconReceived p b) s = .next { s with pwr := { s.pwr with beaconAt := Map.put s.pwr.beaconAt p s.now } }) ∧
  -- BEACON_LOSS: the tile latches a wake request with cause bit 1
  (∀ s p, s.isTile = true → s.isLead = false → s.beaconMode p = true → (s.sleepAt 0).state = .twilight →
    Map.at s.pwr.beaconAt 0 p + rawMs 35 ≤ s.now →
    exec (.beaconLoss p) s = .next { s with pwr := { s.pwr with
      wakeLatched := true, wakeCause := s.pwr.wakeCause ||| 2, wakePos := min s.pwr.wakePos (s.net.addr % 64) } }) ∧
  -- WAKE_BEACON_RECEIVED at the lead of a sleeping chain, without and with the armed resume
  (∀ s p b, s.alive = true → beaconKind b = some 2 → s.isTile = false → s.isLead = true → p < 4 → u16 b 4 = (s.sleepAt p).epoch % 65536 →
    (s.sleepAt p).state = .twilight → s.isArmed 0x0E01 = false →
    let t := s.raiseA 42 1 (p + u8 b 3 * 256 + u8 b 6 % 4 * 65536) false
    exec (.wakeBeaconReceived p b) s = .next (t.pmeCauseAt 0 (if t.evt.rseq = s.evt.rseq then none else t.evt.history.getLast?))) ∧
  (∀ s p b, s.alive = true → beaconKind b = some 2 → s.isTile = false → s.isLead = true → p < 4 → u16 b 4 = (s.sleepAt p).epoch % 65536 →
    (s.sleepAt p).state = .twilight → s.isArmed 0x0E01 = true → (s.sleepAt p).waiting = none →
    let v := s.raiseA 42 1 (p + u8 b 3 * 256 + u8 b 6 % 4 * 65536) true
    let t := v.pmeCauseAt 0 (if v.evt.rseq = s.evt.rseq then none else v.evt.history.getLast?)
    exec (.wakeBeaconReceived p b) s = .next
      (if (t.dwellEnd p : Int) ≤ t.derivedNow then t.startResume p (s.sleepAt p).epoch none
       else t.setSleep p { s.sleepAt p with armedWait := true })) ∧
  -- RESUME_DWELL_END of a sleeping chain 0 whose resume waits
  (∀ s, s.alive = true → s.isLead = true → ((s.sleepAt 0).armedWait = true ∨ (s.sleepAt 0).waiting.isSome = true) →
    (s.sleepAt 0).state = .twilight → (s.dwellEnd 0 : Int) ≤ s.derivedNow →
    exec .resumeDwellEnd s = .next (s.startResume 0 (s.sleepAt 0).epoch (s.sleepAt 0).waiting)) ∧
  -- RESUME_BEACON_REPEAT: a resume beacon goes out on exactly the chains being resumed whose time has come
  (∀ s, s.alive = true → s.isLead = true → s.pwr.sleep.length = 4 → ∃ t, exec .resumeBeaconRepeat s = .next t ∧
    t = { s with pwr := { s.pwr with sleep := t.pwr.sleep }, out := t.out } ∧
    t.out = s.out ++ ((List.range 4).filter (fun c => (s.sleepAt c).resuming && decide ((s.sleepAt c).nextBeacon ≤ s.now))).map
      (fun c => Out.beacon c (beaconBytes 3 0xFF (s.sleepAt c).beaconEpoch 0)) ∧
    ∀ c, c < 4 → t.sleepAt c = if (s.sleepAt c).resuming ∧ (s.sleepAt c).nextBeacon ≤ s.now
      then { s.sleepAt c with nextBeacon := s.now + rawUs 100 } else s.sleepAt c) ∧
  -- RESUME_BEACON_RECEIVED by a tile in Twilight
  (∀ s p b, s.alive = true → s.isTile = true → beaconKind b = some 3 → s.linkPorts.contains p = true → (s.sleepAt 0).state = .twilight →
    (u16 b 4 = 0 ∨ u16 b 4 = (s.sleepAt 0).epoch % 65536) → exec (.resumeBeaconReceived p b) s = .next
      (if s.downPort ≠ p ∧ s.portState s.downPort = .open_ then s.emit (.beacon s.downPort b) else s).wakeTile) ∧
  -- TILE_RESUME_COMPLETE
  (∀ s, s.alive = true → s.isTile = true → (s.sleepAt 0).state = .waking → s.pwr.qualifying = [] → exec .tileResumeComplete s = .next
    (let t := s.sleepTo 0 .awake
     if s.pwr.inertAtT then t.raise 43 1 0
     else if s.pwr.emitAtT then t.beginInit { via := .own }
     else ({ t with pwr := { t.pwr with inert := false, haltSafety := false } }).raise 43 1 0))

/-- Topology: each row completes with its effect. -/
def Obligations.TopologyCommandsComplete : Prop :=
  -- PROBE_NEAREST
  (∀ s r, Ready s 0x0100 r → r.isNearest = true → Does (.probeNearest r) 0x0100 r s fun u =>
    (u, rspOk (unitIdBytes ++ b4 0x947200A1 ++ b1 (viaPort r.via) ++ b1 (bn s.net.had) ++ b2 s.net.addr ++ b4 s.leadEpoch))) ∧
  -- ASSIGN_ADDRESS: the tile stores the address and the epoch; its arrival port is UP, the other CLOSED; its session keys are gone
  (∀ s r, Ready s 0x0101 r → u32 r.payload 20 ≠ 0 → u32 r.payload 20 = r.epoch.toNat →
    slice r.payload 0 16 = unitIdBytes → s.net.ports.length = 8 → Answers (.assignAddress r) 0x0101 r s fun u a =>
      let p := viaPort r.via % 2
      a = rspOk ∧ u.net.valid = true ∧ u.net.had = true ∧ u.net.transit = [] ∧ u.net.upPort = p ∧ u.net.addr = u16 r.payload 16 % 4096 ∧ u.reg Reg.glbTopoEpoch = r.epoch ∧
      u.portState p = .up ∧ u.portState (1 - p) = .closed ∧ u.key.sessA = none ∧ u.key.sessB = none ∧ u.key.lastId = none ∧
      Keeps ([.admitted, .net, .pai, .key] ++ eventParts) [Reg.glbTopoEpoch, Reg.evtRingCfg] s u) ∧
  -- PORT_OPEN of a CLOSED or LOST chain port: the reply follows
  (∀ s r, Ready s 0x0102 r → s.chainPortOk (u8 r.payload 0) = true → s.topoLocked = true → (s.isTile = true → s.net.valid = true) →
    let p := u8 r.payload 0
    (s.portState p = .closed ∨ s.portState p = .lost) → (s.port p).opening = none → Holds (.portOpen r) 0x0102 r s fun u =>
      let o : Opening :=
        { op := 0x0102, req := r, start := s.now, prev := s.portState p,
          wasUp := s.isTile && p == s.net.upPort && s.portState p == .lost }
      u.setPort p { u.port p with opening := some o }) ∧
  -- of a lead's chain port that is OFF, whose domain is not forced off: its function becomes 1 first
  (∀ s r, Ready s 0x0102 r → s.chainPortOk (u8 r.payload 0) = true → s.topoLocked = true → s.isTile = false →
    let p := u8 r.payload 0
    s.portState p = .off → (s.port p).opening = none → s.portForcedOff p = false → Holds (.portOpen r) 0x0102 r s fun u =>
      let v := u.setFunc p 1
      let o : Opening := { op := 0x0102, req := r, start := s.now, prev := (v.port p).state, wasUp := false }
      v.setPort p { v.port p with opening := some o }) ∧
  -- PORT_OPEN of a port that is OPEN
  (∀ s r, Ready s 0x0102 r → s.chainPortOk (u8 r.payload 0) = true → s.topoLocked = true → (s.isTile = true → s.net.valid = true) →
    s.portState (u8 r.payload 0) = .open_ → Does (.portOpen r) 0x0102 r s fun u => (u, rspOk)) ∧
  -- PORT_CLOSE of an OPEN or LOST port
  (∀ s r, Ready s 0x0103 r → s.chainPortOk (u8 r.payload 0) = true → s.topoLocked = true → (s.isTile = true → s.net.valid = true) →
    (s.portState (u8 r.payload 0) = .open_ ∨ s.portState (u8 r.payload 0) = .lost) → Does (.portClose r) 0x0103 r s fun u =>
      let p := u8 r.payload 0
      let t := u.setPort p { u.port p with
        state := .closed, asm := [], near := [], opening := (u.port p).opening.map (fun o => { o with dead := true }) }
      ((({ t with net := { t.net with transit := t.net.transit.filter (fun x => x.inPort != p && x.outPort != p) } }).raise 97 1
        (ev97 p .closed false)).startStalled, rspOk)) ∧
  -- RELEASE_ADDRESS: the reply leaves first, then the tile is inert without an address, its ports in LISTEN
  (∀ s r, Ready s 0x0104 r → s.portState s.downPort ≠ .open_ →
    let u := s.takeReq 0x0104 r
    let t := (u.answer u 0x0104 r rspOk).goInert
    let v := { t with net := { t.net with valid := false } }
    let lis (w : State) (p : Nat) : State := if w.func p = 1 then w.setPort p { w.port p with
      state := .listen, opening := (w.port p).opening.map (fun o => { o with dead := true }) } else w
    exec (.releaseAddress r) s = .next (lis (lis v 0) 1)) ∧
  -- TOPO_READ
  (∀ s r, Ready s 0x0105 r → u8 r.payload 0 < 4 → s.topoLocked = true → Does (.topoRead r) 0x0105 r s fun u =>
    let c := u8 r.payload 0
    let es := (List.range 64).filterMap (fun p => s.net.table.find? (fun e => e.chain == c && e.pos == p))
    (u, rspOk (b1 c ++ b1 es.length ++ b1 (Map.at s.net.ends 0 c) ++ zeros 1 ++
      es.flatMap (fun e => fit 16 e.unit ++ b2 (s.leadField * 256 + c * 64 + e.pos) ++ b1 e.flags ++ zeros 1)))) ∧
  -- GLB_TOPO_EPOCH_WRITE
  (∀ s w, s.alive = true → s.isLead = true → s.epochIgnored w = false → ∃ t, exec (.glbTopoEpochWrite w) s = .next t ∧
    t.reg Reg.glbTopoEpoch = w ∧ t.net.table = [] ∧ t.net.ends = [] ∧ t.pai.tails = 0 ∧
    t.net.ports = s.net.ports ∧ Keeps [.net, .pai] [Reg.glbTopoEpoch] s t) ∧
  (∀ s w, s.alive = true → s.isLead = true → s.epochIgnored w = true →
    exec (.glbTopoEpochWrite w) s = .next (s.raise 25 1 Reg.glbTopoEpoch)) ∧
  -- PRT_CFG_FUNC_WRITE: a new function sets the port's state at once
  (∀ s p f, s.alive = true → p < 8 → (s.isTile = true → p < 2) → s.funcRefusal p f = 0 → s.func p ≠ f →
    let t := (s.setFld (Reg.prtCfg + 0x10000 * p) 11 8 f).setPort p
      { state := s.funcState f, opening := ((s.port p).opening).map (fun o => { o with dead := true }) }
    exec (.prtCfgFuncWrite p f) s = .next (State.noteLeadLink s
      { t with net := { t.net with transit := t.net.transit.filter (fun x => x.inPort != p && x.outPort != p) } })) ∧
  -- PRT_CFG_FEC_EN_WRITE
  (∀ s p en, s.alive = true → p < 8 → (s.isTile = true → p < 2) → s.fecFixed p = false →
    exec (.prtCfgFecEnWrite p en) s = .next (s.setFld (Reg.prtCfg + 0x10000 * p) 0 0 (bn en))) ∧
  -- PORT_QUALIFIED: a PORT_OPEN ends with its port OPEN, or UP again; a port that qualifies after a resume is no longer waited for
  (∀ s p o, s.alive = true → (s.port p).opening = some o → o.dead = false →
    let st : PortState := if o.wasUp then .up else .open_
    let t := ((s.setPort p { s.port p with state := st, opening := none, again := false, pcsLock := true, c1Run := 0 }).replayHolds p).raise 97 1
      (ev97 p st false)
    let v := if s.isLead then t.reachable p 0 none else t
    exec (.portQualified p) s = .next (v.answer v o.op o.req rspOk)) ∧
  (∀ s p, s.alive = true → (s.port p).opening = none → (Map.find s.pwr.qualifying p).isSome = true →
    let t := (({ s with pwr := { s.pwr with qualifying := Map.del s.pwr.qualifying p } }).setPort p
        { s.port p with pcsLock := true, c1Run := 0 }).replayHolds p
    exec (.portQualified p) s = .next (if s.isLead then t.resumeBroadcast p else t)) ∧
  -- PORT_OPEN_TIMEOUT
  (∀ s p o locked, s.alive = true → (s.port p).opening = some o → o.start + rawMs 20 ≤ s.now →
    let v := s.setPort p { s.port p with opening := none }
    let t := if s.isLead && !locked then v.noLink p else v
    exec (.portOpenTimeout p locked) s = .next (t.answer t o.op o.req (rspErr stWrongState (if locked then 0x0104 else 0x0103)))) ∧
  -- LINK_QUALIFIES_AGAIN
  (∀ s p, s.alive = true → s.portState p = .lost → (s.port p).again = false → exec (.linkQualifiesAgain p) s = .next
    ((s.setPort p { s.port p with again := true, pcsLock := true }).raise 97 1 (ev97 p .lost true)))

/-- Links, cells and Eclipse: each row completes with its effect. -/
def Obligations.LinkCommandsComplete : Prop :=
  -- LINK_LOST of an OPEN or UP port that does not sleep: the port is LOST, EV_98 or EV_99 says so, and a lead cuts its chain off
  (∀ s p c1, s.alive = true → p < 8 → (s.portState p = .open_ ∨ s.portState p = .up) →
    (if s.isTile then (s.pwr.sleep.getD 0 {}).state == .twilight else decide (p < 4) && s.chainAsleep p) = false →
    let q : PortS :=
      { s.port p with state := .lost, sfLock := false, pcsLock := false, c1Run := 0, sfGood := 0, again := false, asm := [], near := [] }
    let t := s.setPort p q
    let t := ({ t with net := { t.net with transit := t.net.transit.filter (fun x => x.inPort != p && x.outPort != p) } }).raise
      (if s.isTile ∧ p = s.net.upPort then 99 else 98) 3 (p + bn c1 * 256)
    exec (.linkLost p c1) s = .next (if s.isLead then t.cutOff p 0 none else t).startStalled) ∧
  -- SYNC_MARKER_RECEIVED with the next counter and fewer than five FILL markers
  (∀ s p fills b x, s.alive = true → p < 8 → s.portState p ≠ .off → markerOk b = true → u8 b 1 = 0x56 → fills < 5 → (s.port p).sfRx = some x →
    u8 b 2 * 256 + u8 b 3 = (x + 1) % 65536 →
    let q : PortS :=
      { s.port p with
        sfRx := some ((x + 1) % 65536), sfGood := (s.port p).sfGood + 1, sfBad := 0, pcsLock := true, syncAt := s.now,
        sfLock := (s.port p).sfLock || decide (4 ≤ (s.port p).sfGood + 1),
        farId := some (decide (128 ≤ u8 b 5), u8 b 5 % 16, u8 b 6) }
    exec (.syncMarkerReceived p fills b) s = .next (State.noteLeadLink s (s.setPort p q))) ∧
  -- SUPERFRAME_LOCK_LOST after three superframes without a readable SYNC in its place
  (∀ s p, s.alive = true → p < 8 → (s.port p).sfLock = true → (s.port p).syncGone s.now = true → exec (.superframeLockLost p) s = .next
    (((s.setPort p { s.port p with sfLock := false }).raise 71 2 (p + 256)).linkFault p false)) ∧
  -- MARKER_ERROR
  (∀ s p b, s.alive = true → p < 8 → s.portState p ≠ .off → exec (.markerError p b) s = .next
    (((if u8 b 0 = 0x4B ∧ u8 b 1 = 0x56 then s.setPort p { s.port p with sfBad := (s.port p).sfBad + 1 } else s).bump (Reg.prtMarkErr + 0x10000 * p)).raise 69 2 (p + (if u8 b 0 = 0x4B then u8 b 1 else u8 b 0) * 256))) ∧
  -- SLOT_TRANSMIT of a port that does not send on what arrives: its next cell, or an IDLE cell; slot 0 is preceded by SYNC and one FILL marker
  (∀ s p stamp, s.alive = true → p < 8 → s.portSends p = true → s.laneIdle p = false → s.fed p = false →
    let q := s.port p
    let at_ := s.atBalls p stamp true
    let t := s.setPort p { q with slot := (q.slot + 1) % 16, sfTx := if q.slot = 15 then (q.sfTx + 1) % 65536 else q.sfTx }
    let u := if q.slot = 0 then t.emits [.marker p (s.syncMarker q.sfTx), .marker p (markerBytes 0x1D 0 0 0 0)] else t
    (u.choose p q.slot = none → exec (.slotTransmit p stamp) s = .next (u.emit (.cell p q.slot idleCell))) ∧
    (∀ m, u.choose p q.slot = some m → u.net.tx.contains m = true → exec (.slotTransmit p stamp) s = .next (u.sendCell m q.slot at_)) ∧
    (∀ m n v, u.choose p q.slot = some m → u.net.tx.contains m = false → u.notifyMsg = some (n, v) →
      exec (.slotTransmit p stamp) s = .next ((v.send n).sendCell n q.slot at_))) ∧
  -- CELL_RECEIVED: an IDLE cell; a cell for this chip, and one that is sent on; a cell whose check fails, short of the eighth; a CLOSED port
  (∀ s p slot stamp c, s.alive = true → p < 8 → s.laneIdle p = false → (s.portState p = .open_ ∨ s.portState p = .up) → c.length = 276 →
    let at_ := s.atBalls p stamp false
    let t := s.setPort p { s.port p with c1Run := 0 }
    (u8 c 0 / 16 = 0 → crcState c = 0 → exec (.cellReceived p slot stamp c) s = .next (t.passOn p slot at_ false c .consume)) ∧
    (u8 c 0 / 16 ≠ 0 → u8 c 0 / 16 < 7 → ¬(slot = 15 ∧ (u8 c 0 / 16 = 1 ∨ u8 c 0 / 16 = 6)) → ¬(u8 c 0 / 16 = 6 ∧ p ≠ 6) →
      crcState c = 0 →
      let u := (if (t.nearRoute p c).isSome then t.noteNear p c else t).passOn p slot at_ false c (s.routeCell p c)
      (s.routeCell p c = .consume → exec (.cellReceived p slot stamp c) s = .next (u.consumeCell p at_ c)) ∧
      (∀ o, s.routeCell p c = .copy o → exec (.cellReceived p slot stamp c) s = .next (u.consumeCell p at_ c)) ∧
      (∀ o, s.routeCell p c = .forward o → s.isLead = false → exec (.cellReceived p slot stamp c) s = .next u)) ∧
    (crcState c = 2 → (s.port p).c1Run < 7 → s.routeCell p c = .consume → exec (.cellReceived p slot stamp c) s = .next
      (((((s.setPort p { s.port p with c1Run := (s.port p).c1Run + 1 }).bump (Reg.prtC1Bad + 0x10000 * p)).raise 64 2
        (evC1 p slot c)).spoilAsm p c).passOn p slot at_ true c .consume))) ∧
  (∀ s p slot stamp c, s.alive = true → p < 8 → s.laneIdle p = false → s.portState p = .closed → nearFirst (fit 276 c) = false →
    exec (.cellReceived p slot stamp c) s = .next (s.bump (Reg.prtClosedDisc + 0x10000 * p))) ∧
  -- TRANSIT_EGRESS in a tile: the oldest slot in transit leaves in its place, the residence added to CORR of a TIME cell; one that leaves IDLE is
  -- free for the tile's own cells
  (∀ s p stamp fills x, s.alive = true → p < 8 → s.isTile = true → s.isLead = false →
    s.net.transit.find? (fun x => x.outPort == p) = some x →
    let at_ := s.atBalls p stamp true
    let res := s.residence x at_
    let t := (({ s with net := { s.net with transit := s.net.transit.erase x } }).setPort p { s.port p with slot := x.slot }).nextSlot p
      (min 4 fills)
    (x.bytes = [] → exec (.transitEgress p stamp fills) s = .next (t.fillSlot p x.slot at_)) ∧
    (x.bytes ≠ [] → exec (.transitEgress p stamp fills) s = .next
      ((if u8 x.bytes 0 / 16 = 3 then t.noteResidence p res else t).emit (.cell p x.slot (transitBytes x res))))) ∧
  -- ECLIPSE_MARKER_RECEIVED in a tile
  (∀ s p b, s.alive = true → p < 8 → s.isTile = true → s.isLead = false → (s.portState p = .up ∨ s.portState p = .open_) →
    markerOk b = true → u8 b 1 = 0xEC → (u8 b 2 / 64 = 0 ∨ u8 b 2 / 64 = 2) →
    s.net.ecl.acted.any (fun x => x.1 == u8 b 2 % 16 && x.2.1 == u8 b 3 && decide (s.now < x.2.2 + eclipseWindow)) = false →
    let origin := u8 b 2 % 16
    let hold := (u8 b 2).testBit 5
    let h : HoldOff :=
      { eseq := u8 b 3, safe := (u8 b 2).testBit 4, scope := u8 b 2 / 64, chain := u8 b 5 % 4, domain := u8 b 6 }
    let e : EclS :=
      { s.net.ecl with
        acted := (origin, h.eseq, s.now) :: s.net.ecl.acted.filter (fun x => s.now < x.2.2 + eclipseWindow),
        last := (h.scope, origin, h.chain, h.eseq) }
    exec (.eclipseMarkerReceived p b) s = .next
      (((({ s with net := { s.net with ecl := e } }).sendMarkers (s.markerPorts (some p)) b).eclipseTile origin h hold).raise 72 2
        (origin + bn h.safe * 16 + bn hold * 32 + h.scope * 64 + h.eseq * 256 + p * 65536))) ∧
  -- ECLIPSE_SEND to the wall: three markers on every OPEN chain port, on an ACTIVE P6 and over P7 to another lead
  (∀ s r, Ready s 0x0705 r → u8 r.payload 0 = 2 →
    let e := s.net.ecl.nextEseq
    s.net.ecl.sentAt.any (fun x => x.1 == e && decide (s.now < x.2 + eclipseWindow)) = false →
    let hold := (u8 r.payload 2).testBit 0
    let h : HoldOff := { eseq := e, safe := r.isSafety, scope := 2, chain := 0, domain := s.domainId }
    let ports := (List.range 4).filter (fun p => s.portState p == .open_) ++ (if s.portState 6 = .active then [6] else []) ++
      (if s.farLead.isSome then [7] else [])
    let x : EclS :=
      { s.net.ecl with
        nextEseq := (e + 1) % 256,
        sentAt := (e, s.now) :: s.net.ecl.sentAt.filter (fun x => s.now < x.2 + eclipseWindow),
        acted := (s.leadNum, e, s.now) :: s.net.ecl.acted.filter (fun x => s.now < x.2.2 + eclipseWindow),
        holds := if hold then Map.put s.net.ecl.holds s.leadNum h else s.net.ecl.holds }
    Does (.eclipseSend r) 0x0705 r s fun u =>
      (({ u with net := { u.net with ecl := x } }).sendMarkers ports (eclipseMarker h hold s.leadNum), rspOk)) ∧
  -- ECLIPSE_CLEAR of a tile's last hold-off
  (∀ s r h, Ready s 0x0706 r → s.isTile = true → (u8 r.payload 0 = 2 ∨ (u8 r.payload 0 = 0 ∧ u8 r.payload 1 < 4)) → u8 r.payload 2 < 16 →
    Map.find s.net.ecl.holds (u8 r.payload 2) = some h → h.eseq = u8 r.payload 3 → (h.safe = true → r.isSafety = true) →
    Map.del s.net.ecl.holds (u8 r.payload 2) = [] → Does (.eclipseClear r) 0x0706 r s fun u =>
      (({ u with net := { u.net with ecl := { u.net.ecl with holds := [], markAt := s.now } } }).raise 73 1
        (u8 r.payload 2 + bn h.safe * 16 + u8 r.payload 3 * 256), rspOk))

/-- The CNT_CLR registers: bit k of the word written clears the k-th counter; every other counter and register, and every part of the state,
keeps its value. -/
def Obligations.CounterClears : Prop :=
  ∀ s w, s.alive = true →
    (∀ p, p < 8 → (s.isTile = true → p < 2) → Clears (.prtCntClr p w) s (Reg.prtC1Bad + 0x10000 * p) 9 w) ∧
    Clears (.lchCntClr w) s Reg.lchAbortCnt 6 w ∧
    (∀ m, m < 4 → s.isLead = true → s.strOn m = false → Clears (.ingStrCntClr m w) s (Reg.ingStrPkt0 + 0x100 * m) 8 w) ∧
    -- ignored with EV_25 while the stream is enabled
    (∀ m, m < 4 → s.isLead = true → s.strOn m = true → exec (.ingStrCntClr m w) s = .next (s.raise 25 1 (Reg.ingStrCntClr + 0x100 * m))) ∧
    Clears (.cmpCntClr w) s Reg.cmpFlipCnt 3 w ∧
    (w.toNat.testBit 7 = false → Clears (.bcdCntClr w) s Reg.bcdC2Trn 7 w) ∧
    (w.toNat.testBit 7 = true → ∃ t, exec (.bcdCntClr w) s = .next t ∧ t.reg Reg.bcdSmax = 0 ∧
      (∀ k, k < 7 → t.reg (Reg.bcdC2Trn + 4 * k) = if w.toNat.testBit k then 0 else s.reg (Reg.bcdC2Trn + 4 * k)) ∧
      Keeps [] (Reg.bcdSmax :: (List.range 7).map (fun k => Reg.bcdC2Trn + 4 * k)) s t) ∧
    (s.isTile = true → Clears (.lppCntClr w) s Reg.lppSfDone 5 w) ∧
    (s.isTile = true → Clears (.emsCntClr w) s Reg.emsWinCut 6 w) ∧
    (∀ ch, ch < 4 → (s.isTile = true → ch = 0) → Clears (.memChCntClr ch w) s (Reg.memCe + 0x40000 * ch) 10 w) ∧
    (s.isLead = true → Clears (.paiCntClr w) s Reg.paiRenewMiss 5 w)

/-- Register writes by command and over BAR0: each row completes, and what the access codes say happens to the word. -/
def Obligations.RegisterWritesComplete : Prop :=
  -- REG_WRITE: the words are checked, then all written; a background register holds the reply (R293)
  (∀ s r t, Ready s 0x0003 r → u32 r.payload 0 % 4 = 0 →
    (s.takeReq 0x0003 r).firstRefused r (u32 r.payload 0) 0 (words32 (r.payload.drop 4)) = none →
    (s.takeReq 0x0003 r).writeWords r (u32 r.payload 0) 0 (words32 (r.payload.drop 4)) = (t, none) →
    ¬(touchesBg (u32 r.payload 0) (words32 (r.payload.drop 4)).length = true ∧ s.derived < s.holdUntil) →
    Does (.regWrite r) 0x0003 r s fun _ => (t, rspOk)) ∧
  (∀ s r t, Ready s 0x0003 r → u32 r.payload 0 % 4 = 0 →
    (s.takeReq 0x0003 r).firstRefused r (u32 r.payload 0) 0 (words32 (r.payload.drop 4)) = none →
    (s.takeReq 0x0003 r).writeWords r (u32 r.payload 0) 0 (words32 (r.payload.drop 4)) = (t, none) →
    touchesBg (u32 r.payload 0) (words32 (r.payload.drop 4)).length = true → s.derived < s.holdUntil →
    Holds (.regWrite r) 0x0003 r s fun _ => { t with pix := { t.pix with
      heldReplies := t.pix.heldReplies ++ [{ op := 0x0003, req := r, status := stOk, until_ := s.holdUntil }] } }) ∧
  -- A REG_WRITE of which one word is refused writes none
  (∀ s r t x, Ready s 0x0003 r → u32 r.payload 0 % 4 = 0 →
    (s.takeReq 0x0003 r).firstRefused r (u32 r.payload 0) 0 (words32 (r.payload.drop 4)) = some (t, x) →
    Does (.regWrite r) 0x0003 r s fun _ => (t, x)) ∧
  -- REGISTER_WRITE
  (∀ s a be data, s.alive = true → a < 0x00E00000 → (regRow (a / 4 * 4)).isSome = true → s.regOff (a / 4 * 4) = false →
    exec (.registerWrite a be data) s = .next
      (match s.writeReg (a / 4 * 4) (s.mergeBytes (a / 4 * 4) be data) with
        | (t, none) => t
        | (t, some (.time _)) => t
        | (t, some _) => t.raise 25 1 (a / 4 * 4))) ∧
  -- a register with a value stores it whole, and nothing else changes
  (∀ s (data : Word), s.alive = true →
    ∃ t, exec (.registerWrite Reg.tmuStgRate 15 data) s = .next t ∧ t.reg Reg.tmuStgRate = data ∧ Keeps [] [Reg.tmuStgRate] s t) ∧
  -- the mailbox and SEC cannot be written over BAR0, and say so
  (∀ s a be data, s.alive = true → 0x00E00000 ≤ a → a < 0x01000000 → exec (.registerWrite a be data) s = .next (s.raise 25 1 (a / 4 * 4))) ∧
  -- an address without a register, or of a function that is off, takes a write in silence
  (∀ s a be data, s.alive = true → a < 0x00E00000 → (regRow (a / 4 * 4)).isNone = true ∨ s.regOff (a / 4 * 4) = true →
    exec (.registerWrite a be data) s = .next s)

/-- Meridian, commands and reads: each row completes with its effect. -/
def Obligations.MeridianCommandsComplete : Prop :=
  -- TMU_NOW_READ: a word read before, a snapshot not taken since power-on or one over 100 µs old latches a new one; otherwise the old one stands
  -- with every pending write whose instant has come; the read of TMU_NOW_SEQ never latches
  (∀ s k, s.alive = true → 1 ≤ k → k < 12 →
    (s.tmu.snap.fresh = false ∨ k ∈ s.tmu.snap.read ∨ s.tmu.snap.raw + rawUs 100 < s.now) →
    let t := s.settle
    let n : Snap := { seq := (s.tmu.snap.seq + 1) % 2 ^ 32, raw := t.now / 64 * 64, m0 := t.timeOf false, m1 := t.timeOf true, v0 := t.tmu.d0.valid,
                      v1 := t.tmu.d1.valid, read := [k], fresh := true }
    exec (.tmuNowRead (4 * k)) s = .next (State.emit { t with tmu := { t.tmu with snap := n } } (.readData (Reg.tmuNow + 4 * k) (n.word k)))) ∧
  (∀ s k, s.alive = true → 1 ≤ k → k < 12 → s.tmu.snap.fresh = true → k ∉ s.tmu.snap.read → s.now ≤ s.tmu.snap.raw + rawUs 100 →
    exec (.tmuNowRead (4 * k)) s = .next (State.emit { s with tmu := { s.tmu with snap := { s.tmu.snap with read := k :: s.tmu.snap.read } } }
      (.readData (Reg.tmuNow + 4 * k) (s.tmu.snap.word k)))) ∧
  (∀ s, s.alive = true → exec (.tmuNowRead 0) s = .next (s.emit (.readData Reg.tmuNow (s.tmu.snap.seq % 2 ^ 32)))) ∧
  -- TMU_STG_GO: a value, a rate or both go to the pending slot of DOMAIN; a refused one sets REFUSED and raises EV_132
  (∀ s ctl, s.alive = true → ctl.toNat % 4 ≠ 0 →
    let t := s.storeStgCtl (ctl ||| 0x80000000#32)
    let value := if ctl.toNat.testBit 0 then s.stgValue else none
    let rate := if ctl.toNat.testBit 1 then some s.stgRate else none
    let why := if ctl.toNat.testBit 0 ∧ s.stgValue.isNone then some 3
      else s.stageRefusal (ctl.toNat.testBit 4) value rate s.stgAt (ctl.toNat.testBit 5)
    (why = none → exec (.tmuStgGo ctl) s = .next (t.stage (ctl.toNat.testBit 4) value rate s.stgAt (ctl.toNat.testBit 5))) ∧
    (∀ c, why = some c →
      exec (.tmuStgGo ctl) s = .next ((t.setFld Reg.tmuStgCtl 10 10 1).raise 132 2 (bn (ctl.toNat.testBit 4) +
        (if c = 2 then 40 else if c < 4 then 28 else c % 256) * 256)))) ∧
  -- TMU_STG_CANCEL
  (∀ s ctl, s.alive = true →
    let t := s.storeStgCtl ((ctl &&& 0xFFFFFFFC#32) ||| 0x80000000#32)
    exec (.tmuStgCancel ctl) s = .next (t.setDom (ctl.toNat.testBit 4) { s.dom (ctl.toNat.testBit 4) with pend := none })) ∧
  -- STAGED_WRITE_APPLY
  (∀ s d w, s.alive = true → (s.dom d).pend = some w → w.at_ ≤ s.now →
    let t := s.setDom d { (s.dom d).apply w with pend := none }
    let u := if w.value.isSome && !d then { t with tmu := { t.tmu with kl05 := some w.at_ } } else t
    exec (.stagedWriteApply d) s = .next ((u.setFld Reg.tmuStgCtl 9 9 1).raise 131 1
      (bn d + bn w.value.isSome * 2 + bn w.rate.isSome * 4 + bn w.atOnce * 8))) ∧
  -- TIME_READ
  (∀ s r, Ready s 0x0200 r → Answers (.timeRead r) 0x0200 r s fun u a =>
    let t := (s.takeReq 0x0200 r).settle
    u.tmu.snap = t.tmu.snap ∧ u = { t with tmu := u.tmu } ∧ a.status = stOk ∧ a.data = b4 ((s.tmu.fw.seq + 1) % 2 ^ 32) ++
      beBytes 12 (t.now / 64 * 64) ++ timeBytes (t.timeOf false) ++ timeBytes (t.timeOf true) ++
      b4 (bn s.tmu.active + bn t.tmu.d0.valid * 2 + bn t.tmu.d1.valid * 4)) ∧
  -- TIME_SET and TIME_RATE: the write goes to the pending slot of the domain
  (∀ s r v, Ready s 0x0201 r → u8 r.payload 0 ≤ 1 → u8 r.payload 1 ≤ 1 → timeAt r.payload 4 = some v →
    (u8 r.payload 1 = 0 → fieldAt r.payload 16 3 = 0) → s.stageRefusal (u8 r.payload 0 == 1) (some v) none (fieldAt r.payload 16 12) (u8 r.payload 1 == 1) = none →
    Does (.timeSet r) 0x0201 r s fun u =>
      (u.stage (u8 r.payload 0 == 1) (some v) none (fieldAt r.payload 16 12) (u8 r.payload 1 == 1), rspOk)) ∧
  (∀ s r, Ready s 0x0202 r → u8 r.payload 0 ≤ 1 → u8 r.payload 1 ≤ 1 →
    (u8 r.payload 1 = 0 → fieldAt r.payload 12 3 = 0) → s.stageRefusal (u8 r.payload 0 == 1) none (some (u64 r.payload 4)) (fieldAt r.payload 12 12) (u8 r.payload 1 == 1) = none →
    Does (.timeRate r) 0x0202 r s fun u =>
      (u.stage (u8 r.payload 0 == 1) none (some (u64 r.payload 4)) (fieldAt r.payload 12 12) (u8 r.payload 1 == 1), rspOk)) ∧
  -- TIME_SELECT: the active domain named; a tile without launches; a lead without a held launch; a lead that holds one
  (∀ s r, Ready s 0x0203 r → u8 r.payload 0 ≤ 1 → u8 r.payload 1 ≤ 1 → (u8 r.payload 0 == 1) = s.tmu.active →
    Does (.timeSelect r) 0x0203 r s fun u => (u, rspOk)) ∧
  (∀ s r, Ready s 0x0203 r → u8 r.payload 0 ≤ 1 → u8 r.payload 1 ≤ 1 → (u8 r.payload 0 == 1) ≠ s.tmu.active → s.tmu.bridge = none → s.tmu.switch = none →
    s.isTile = true → s.lch.table = [] → s.kl05Blocks (u8 r.payload 0) s.now = false →
    Does (.timeSelect r) 0x0203 r s fun u => ({ u with tmu := { u.tmu with active := u8 r.payload 0 == 1 } }, rspOk)) ∧
  (∀ s r, Ready s 0x0203 r → u8 r.payload 0 ≤ 1 → u8 r.payload 1 ≤ 1 → (u8 r.payload 0 == 1) ≠ s.tmu.active → s.tmu.bridge = none → s.tmu.switch = none →
    s.isTile = false → s.waitsForLaunch = false → (s.dom (u8 r.payload 0 == 1)).valid = true →
    s.kl05Blocks (u8 r.payload 0) s.now = false →
    Does (.timeSelect r) 0x0203 r s fun u =>
      ((({ u with tmu := { u.tmu with active := u8 r.payload 0 == 1, bridge := none, switch := none },
                  lch := { u.lch with sw := some ((u.lch.count + 1) % 2 ^ 32, 0, u8 r.payload 0 == 1, true) } }).raise 133 1 (u8 r.payload 0 + 2)).complete
        r stOk, rspAccepted)) ∧
  (∀ s r, Ready s 0x0203 r → u8 r.payload 0 ≤ 1 → u8 r.payload 1 ≤ 1 → (u8 r.payload 0 == 1) ≠ s.tmu.active → s.tmu.bridge = none → s.tmu.switch = none →
    s.isTile = false → s.waitsForLaunch = true →
    Does (.timeSelect r) 0x0203 r s fun u =>
      ({ u with tmu := { u.tmu with switch := some { new := u8 r.payload 0, stepOk := u8 r.payload 1 == 1, req := some r } } }, rspAccepted)) ∧
  -- PTP_CONFIG
  (∀ s r, Ready s 0x0204 r → u8 r.payload 0 = 4 ∨ u8 r.payload 0 = 5 ∨ u8 r.payload 0 = 7 → u8 r.payload 1 ≤ 1 → u8 r.payload 2 ≤ 127 →
    ¬((u8 r.payload 3).testBit 0 = true ∧ (s.ptp (u8 r.payload 1 == 0)).enabled = true ∧ (s.ptp (u8 r.payload 1 == 0)).domain = u8 r.payload 2) →
    2 ≤ u8 r.payload 4 → u8 r.payload 4 ≤ 10 →
    Does (.ptpConfig r) 0x0204 r s fun u =>
      let x := s.ptp (u8 r.payload 1 == 1)
      let y : PtpPort := { enabled := (u8 r.payload 3).testBit 0, unicast := (u8 r.payload 3).testBit 1, timeout := u8 r.payload 4 }
      (u.setPtp (u8 r.payload 1 == 1) { x with
        domain := u8 r.payload 2, ports := x.ports.set (ingIdx (u8 r.payload 0)) y,
        best := if x.best = some (u8 r.payload 0) then none else x.best }, rspOk)) ∧
  -- PATH_CAL: a run along one link, and along the ring
  (∀ s r, Ready s 0x0205 r → u8 r.payload 0 < 8 → (s.isTile = true → u8 r.payload 0 < 2) → s.volziaPort (u8 r.payload 0) = true →
    s.tmu.pathCal = none → s.ringCal (u8 r.payload 0) = false →
    Does (.pathCal r) 0x0205 r s fun u =>
      ((List.range 64).foldl (fun t _ => t.sendPdreq (u8 r.payload 0))
        { u with tmu := { u.tmu with pathCal := some { req := r, port := u8 r.payload 0, ring := false } } }, rspAccepted)) ∧
  (∀ s r, Ready s 0x0205 r → u8 r.payload 0 < 8 → (s.isTile = true → u8 r.payload 0 < 2) → s.volziaPort (u8 r.payload 0) = true →
    s.tmu.pathCal = none → s.ringCal (u8 r.payload 0) = true →
    Does (.pathCal r) 0x0205 r s fun u =>
      ((u.loopCells (u8 r.payload 0) false).foldl State.send
        { u with tmu := { u.tmu with pathCal := some { req := r, port := u8 r.payload 0, ring := true } } }, rspAccepted)) ∧
  -- TIME_STATUS
  (∀ s r, Ready s 0x0206 r → Answers (.timeStatus r) 0x0206 r s fun u a =>
    Keeps [.admitted] [] s u ∧ a.status = stOk ∧ a.data.length = 76 ∧ a.data.drop 68 = b8 (s64 s.bridgeNow) ∧
    slice a.data 0 4 = b1 s.tmu.d0.servo.code ++ b1 (s.domSrc false) ++ b1 s.tmu.d0.lhops ++ zeros 1 ∧
    slice a.data 4 24 = b8 (s64 s.tmu.d0.theta) ++ b8 (s64 s.tmu.d0.mpd) ++ b8 s.tmu.d0.rate ∧
    slice a.data 32 4 = b1 s.tmu.d1.servo.code ++ b1 (s.domSrc true) ++ b1 s.tmu.d1.lhops ++ zeros 1 ∧
    slice a.data 36 24 = b8 (s64 s.tmu.d1.theta) ++ b8 (s64 s.tmu.d1.mpd) ++ b8 s.tmu.d1.rate ∧
    slice a.data 64 4 = b1 (bn s.tmu.active) ++ b1 (bn s.tmu.bridge.isSome) ++ zeros 2) ∧
  -- TMU_CAP_POP
  (∀ s n e rest, s.alive = true → n < 4 → (s.tmu.caps.getD n {}).entries = e :: rest →
    exec (.tmuCapPop n) s = .next 
      ((s.setCap n { s.tmu.caps.getD n {} with entries := rest, shown := e }).emit (.readData (Reg.tmuCapRawHi + 32 * n) (e.1 / 2 ^ 64)))) ∧
  -- SERVO_HOLDOVER_TIMEOUT
  (∀ s d, s.alive = true → (s.dom d).servo = .acquire ∨ (s.dom d).servo = .locked →
    (s.dom d).sampleAt + 16 * s.sampleInterval d ≤ s.now →
    exec (.servoHoldoverTimeout d) s = .next (s.toHoldover d (if s.sourceLost d then 2 else 0))) ∧
  -- ANNOUNCE_RECEIPT_TIMEOUT: of a domain steered by PTP, and of one that is not
  (∀ s d q, s.alive = true → s.isLead = true → (s.ptp d).best = some q → ((s.ptp d).port q).enabled = true → ((s.ptp d).port q).expired s.now = true →
    let x := s.ptp d
    let t := (s.setPtp d { x with best := none, sync := none, dreq := none, lastSync := none,
                                  ports := x.ports.set (ingIdx q) { x.port q with master := none } }).raise 136 2 (q + bn d * 16 + 32)
    (s.domSrc d = 1 → (s.dom d).servo ≠ .holdover → (s.dom d).servo ≠ .free →
      exec (.announceReceiptTimeout d) s = .next ((t.toHoldover d 1).rechoose d)) ∧
    (s.domSrc d ≠ 1 → exec (.announceReceiptTimeout d) s = .next (t.rechoose d))) ∧
  -- BRIDGE_COMPLETE
  (∀ s, s.alive = true → s.tmu.bridge.isSome = true → s.bridgeNow = 0 →
    exec .bridgeComplete s = .next (({ s with tmu := { s.tmu with bridge := none } }).raise 134 0 (bn s.tmu.active)))

/-- Meridian, TIME cells and PTP messages: each row completes with its effect. -/
def Obligations.MeridianCellsComplete : Prop :=
  -- TIME_SYNC_SEND: a SYNC of a valid domain leaves on a port that distributes it
  (∀ s port d, s.alive = true → s.isLead = true → s.tmuOn = true → port < 8 → s.bit Reg.tmuCfg (24 + port) = true → (s.dom d).valid = true →
    s.portState port = .open_ → exec (.timeSyncSend port d) s = .next
      ((s.setDom d { s.dom d with mseq := ((s.dom d).mseq + 1) % 65536 }).send
        { port := port, typ := 3, dest := (s.timeDest port).1, bcast := (s.timeDest port).2, key := 3, mark := 1,
          body := timeBody 1 (s.mflags d) (s.dom d).mseq (leadAddr s.leadNum) 0 0 0 (unsigned 16 (s.dom d).utcOffset) (s.dom d).lhops })) ∧
  -- DREQ_SEND: a tile asks its time source lead
  (∀ s d, s.alive = true → s.isTile = true → s.tmuOn = true → s.net.valid = true → s.domSrc d = 4 →
    exec (.dreqSend d) s = .next
      ((s.setDom d { s.dom d with dseq := ((s.dom d).dseq + 1) % 65536, dreq := some ((s.dom d).dseq, none) }).send
        { port := s.ownPath.1, typ := 3, dest := s.sourceLead d, dir := s.ownPath.2, relay := false, key := 3, mark := 2,
          body := timeBody 3 (s.mflags d) (s.dom d).dseq s.net.addr 0 0 0 0 0 })) ∧
  -- PDREQ_SEND, and the answer of the neighbour
  (∀ s port, s.alive = true → s.tmuOn = true → port < 8 → s.volziaPort port = true →
    exec (.pdreqSend port) s = .next
      (({ s with tmu := { s.tmu with pseq := (s.tmu.pseq + 1) % 65536 } }).send
        { port := port, typ := 3, dest := 0, dir := s.isTile && port == s.net.upPort, key := 3, mark := 3,
          body := timeBody 5 (s.mflags s.tmu.active) s.tmu.pseq (s.sourceLead s.tmu.active) 0 0 0 0 0 })) ∧
  (∀ s m, s.alive = true → u8 m.body 0 = 5 → exec (.pdreqReceived m) s = .next ((s.takeMsgRow m).send
    { port := m.port, typ := 3, dest := 0, dir := s.isTile && m.port == s.net.upPort, key := 3, mark := 4, arg := m.stamp,
      body := timeBody 6 (s.mflags ((u8 m.body 1).testBit 0)) (u16 m.body 2) (s.sourceLead ((u8 m.body 1).testBit 0)) 0 0 0 0 0 })) ∧
  -- PDRESP_RECEIVED: the mean delay of the port over the last 16 exchanges
  (∀ s m (tx : Nat), s.alive = true → s.coreFaulted 1 = false → u8 m.body 0 = 6 →
    Map.find s.tmu.pdreq (65536 * m.port + u16 m.body 2) = some tx →
    let v : Int := (m.stamp : Int) - tx - fieldAt m.body 18 6
    let l := (v :: Map.at s.tmu.pdelay [] m.port).take 16
    ∃ t, exec (.pdrespReceived m) s = .next t ∧ Map.at t.tmu.pdelay [] m.port = l ∧
      t.reg (Reg.tmuPortDly + 0x10 * m.port) = BitVec.ofInt 32 (avgHalves 1 l) ∧
      Keeps [.net, .tmu] [Reg.tmuPortDly + 0x10 * m.port] s t ∧ t.tmu.raw = s.tmu.raw ∧ t.tmu.d0 = s.tmu.d0 ∧ t.tmu.d1 = s.tmu.d1 ∧
      -- an exchange of a running calibration of that link counts for it
      (∀ c, s.tmu.pathCal = some c → c.port = m.port → c.ring = false → t.tmu.pathCal = some { c with cw := v :: c.cw })) ∧
  -- TIME_SYNC_RECEIVED
  (∀ s m, s.alive = true → s.tmuOn = true → u8 m.body 0 = 1 →
    let d := (u8 m.body 1).testBit 0
    exec (.timeSyncReceived m) s = .next ((s.takeMsgRow m).setDom d { (s.takeMsgRow m).dom d with
      sync := some (u16 m.body 2, m.stamp, m.corr), src := u16 m.body 4 % 4096 })) ∧
  -- FOLLOW_RECEIVED within a SYNC interval: one offset sample, θ = t2 - t1 - c_s - delay; without a path delay yet, none
  (∀ s m (stamp cs t1 : Nat), s.alive = true → s.tmuOn = true → u8 m.body 0 = 2 → timeAt m.body 6 = some t1 →
    let d := (u8 m.body 1).testBit 0
    let x := (s.takeMsgRow m).dom d
    let t := (s.takeMsgRow m).setDom d
      { x with sync := none, lastSync := some (t1, stamp, cs), utcOffset := signed 16 (u16 m.body 28),
               lhops := if s.isTile then u8 m.body 30 else u8 m.body 30 + 1 }
    x.sync = some (u16 m.body 2, stamp, cs) → s.takesTime d m.port = true → m.stamp ≤ stamp + s.sampleInterval d →
    (∀ delay, s.pathDelay d m.port = some delay → s.coreFaulted 1 = false → (u8 m.body 1).testBit 1 = true →
      exec (.followReceived m) s = .next (t.servoSample d (x.at stamp - t1 - (cs : Int) * 1000 - delay))) ∧
    (s.pathDelay d m.port = none → exec (.followReceived m) s = .next t)) ∧
  -- DREQ_RECEIVED: HOPS, CORR and the source lead fit, and a DRESP with t4 goes back; otherwise EV_68
  (∀ s m, s.alive = true → s.isLead = true → u8 m.body 0 = 3 → m.port ≠ 6 → s.pai.tails = 0 →
    let req := u16 m.body 4 % 4096
    let d := (u8 m.body 1).testBit 0
    (m.hops = req % 64 → m.corr ≤ m.hops * 26214 → s.isSourceFor m = true →
      exec (.dreqReceived m) s = .next ((s.takeMsgRow m).send
        { port := m.port, typ := 3, dest := req, dir := false, relay := false, key := 3,
          body := timeBody 4 (s.mflags d) (u16 m.body 2) req ((s.dom d).at m.stamp).toNat m.corr (unsigned 32 (s.asymFor req false false))
            (unsigned 16 (s.dom d).utcOffset) (s.dom d).lhops })) ∧
    (m.hops ≠ req % 64 → exec (.dreqReceived m) s = .next ((s.takeMsgRow m).raise 68 3
      (m.port + 16 + bn (decide (m.hops * 26214 < m.corr)) * 32 + m.hops * 256)))) ∧
  -- DRESP_RECEIVED: a sample within 10 ns of the average joins it; one further off is discarded with EV_137
  (∀ s m (st3 t1 st2 cs t4 : Nat), s.alive = true → s.isTile = true → s.coreFaulted 1 = false → u8 m.body 0 = 4 → timeAt m.body 6 = some t4 →
    let d := (u8 m.body 1).testBit 0
    let x := (s.takeMsgRow m).dom d
    let m2 : Int := (x.at st2 - x.at st3) + ((t4 : Int) - t1) - (cs : Int) * 1000 - (fieldAt m.body 18 6 : Int) * 1000
    let asym := signed 32 (u32 m.body 24)
    x.dreq = some (u16 m.body 2, some st3) → x.lastSync = some (t1, st2, cs) →
    (x.mpds = [] ∨ (m2 - 2 * x.mpd).natAbs ≤ 2 * 655360 → exec (.drespReceived m) s = .next
      (((s.takeMsgRow m).setDom d
        { x with dreq := none, asym := asym, mpds := (m2 :: x.mpds).take 16, mpd := avgHalves 1 ((m2 :: x.mpds).take 16) }).setReg
          Reg.tmuPathAsym (BitVec.ofInt 32 asym))) ∧
    (x.mpds ≠ [] → 2 * 655360 < (m2 - 2 * x.mpd).natAbs → exec (.drespReceived m) s = .next
      (((s.takeMsgRow m).setDom d { x with dreq := none, rej := min 255 (x.rej + 1) }).raise 137 1
        (bn d + (min 0xFFFFFF ((m2 - 2 * x.mpd).natAbs / 131072)) * 256)))) ∧
  -- LOOP_CELL_RETURN of step 1, before its last cell, and of step 2
  (∀ s m c (sent : Nat), s.alive = true → u8 m.body 0 = 7 → s.tmu.pathCal = some c → c.ring = true →
    let p6 := (u8 m.body 1).testBit 3
    let k := u16 m.body 2 * 2 + bn p6
    let v : Int := (m.stamp : Int) - sent - m.corr
    let t := s.takeMsgRow m
    Map.find c.loops k = some sent →
    (p6 = true → exec (.loopCellReturn m) s = .next { t with tmu := { t.tmu with
      pathCal := some { c with loops := Map.del c.loops k, ccw := v :: c.ccw } } }) ∧
    (p6 = false → c.cw.length ≠ 63 → exec (.loopCellReturn m) s = .next { t with tmu := { t.tmu with
      pathCal := some { c with loops := Map.del c.loops k, cw := v :: c.cw } } })) ∧
  -- PATH_CAL_COMPLETE of a link after 64 exchanges; of a ring whose deviation is over 40 ps
  (∀ s l c, s.alive = true → s.coreFaulted 0 = false → s.tmu.pathCal = some c → c.ring = false → 64 ≤ c.cw.length →
    exec (.pathCalComplete l) s = .next (({ s with tmu := { s.tmu with pathCal := none } }).complete c.req stOk)) ∧
  (∀ s l c, s.alive = true → s.coreFaulted 0 = false → s.tmu.pathCal = some c → c.ring = true → 64 ≤ c.cw.length → 64 ≤ c.ccw.length →
    64 * 64 * 64 * 687195 < spread (List.zipWith (· - ·) (c.cw.take 64) (c.ccw.take 64)) * 100000 →
    exec (.pathCalComplete l) s = .next ((({ s with tmu := { s.tmu with pathCal := none } }).raise 138 1 (c.port + 16)).complete c.req stWrongState)) ∧
  -- PTP_MESSAGE_RECEIVED: an Announce of a port's first master; a Sync of two steps of the chosen master
  (∀ s port p, s.alive = true → s.isLead = true → s.func port = 2 → s.tmu.ptp1.enabled = false →
    (s.tmu.ptp0.port port).enabled = true → s.tmu.ptp0.domain = p.domain → p.kind = 3 → (s.tmu.ptp0.port port).master = none →
    ∀ y : PtpMaster, y = ⟨p.rank, p.gm, p.sender, p.ip, p.utcOffset, p.logInterval, s.now⟩ →
    exec (.ptpMessageReceived port p) s = .next
      ((s.setPtp false { s.tmu.ptp0 with
        ports := s.tmu.ptp0.ports.set (ingIdx port) { s.tmu.ptp0.port port with master := some y } }).rechoose false)) ∧
  (∀ s port p c, s.alive = true → s.isLead = true → s.func port = 2 → s.tmu.ptp1.enabled = false →
    (s.tmu.ptp0.port port).enabled = true → s.tmu.ptp0.domain = p.domain → p.kind = 0 → p.twoStep = true → s.tmu.ptp0.best = some port →
    (s.tmu.ptp0.port port).master = some c → c.sender = p.sender → s.domSrc false = 1 → s.tmuOn = true → s.coreFaulted 1 = false →
    exec (.ptpMessageReceived port p) s = .next
      { s with tmu := { s.tmu with ptp0 := { s.tmu.ptp0 with
        syncLog := p.logInterval, sync := some (p.seq, s.atBalls port p.stamp false, p.corr) } } })

/-- Ephemeris: each row completes with its effect. -/
def Obligations.LaunchCommandsComplete : Prop :=
  -- SHREF_EDGE_CAPTURE on an input that is not the reference; on the reference the edge also feeds the servo
  (∀ s input stamp, s.alive = true → s.isLead = true → s.tmuOn = true → input < 4 → (u8 (s.lch.shref.getD input []) 1).testBit 0 = true →
    ((u8 (s.lch.shref.getD input []) 1).testBit 2 = false → exec (.shrefEdgeCapture input stamp) s = .next
      ((s.capture input stamp).monitorPhase input (s.actDom.at stamp))) ∧
    ((u8 (s.lch.shref.getD input []) 1).testBit 2 = true →
      let t := s.capture input stamp
      exec (.shrefEdgeCapture input stamp) s = .next
        (({ t with lch := { t.lch with edge := some (s.actDom.at stamp).toNat } }).monitorPhase input (s.actDom.at stamp)))) ∧
  -- LCH_CONFIG in a lead, and in a tile
  (∀ s r, Ready s 0x0300 r → s.isLead = true → lchFault true r.payload = none → (s.takeReq 0x0300 r).lchOver r.payload = none → s.lch.state ≠ .run →
    s.lch.state ≠ .stopping → s.lch.state ≠ .tRun → s.lch.state ≠ .tCoast →
    Does (.lchConfig r) 0x0300 r s fun u =>
      (if lchMode r.payload = 1 then { u with lch := { u.lch with cfg := r.payload } }
       else ({ u with lch := { u.lch with cfg := r.payload } }).setLaunchServo .free, rspOk)) ∧
  (∀ s r, Ready s 0x0300 r → s.isLead = false → lchFault false r.payload = none → (s.takeReq 0x0300 r).lchMisfit r.payload = none → s.lch.state ≠ .run →
    s.lch.state ≠ .stopping → s.lch.state ≠ .tRun → s.lch.state ≠ .tCoast →
    Does (.lchConfig r) 0x0300 r s fun u => ({ u with lch := { u.lch with
      cfg := r.payload, state := .idle, table := [], stopN := none, coasts := 0, coastNext := none, checked := [] } }, rspOk)) ∧
  -- LCH_START: EV_192, and the first launch is announced at the instant named
  (∀ s r l, Ready s 0x0301 r → timeAt r.payload 0 = some l → s.derivedNow + 1000 * rawUs 500 ≤ (l : Int) → s.bit Reg.glbTopoCfg 31 = true →
    s.lch.state ≠ .run → s.lch.state ≠ .stopping → s.lch.cfg ≠ [] → s.actDom.valid = true → (s.paired = true → s.pai.state = .active) →
    s.pwr.inert = false → Does (.lchStart r) 0x0301 r s fun u =>
      let t := ({ u with lch := { u.lch with state := .run, stopN := none, edge := none, sinceEdge := 0 } }).raise 192 1 0
      (t.announce l l t.derived, rspOk)) ∧
  -- LCH_STOP ahead of the newest launch, and at it
  (∀ s r l m, Ready s 0x0302 r → timeAt r.payload 0 = some l → s.newest = some m → s.lch.state = .run →
    let k := (l - m.at_) / (1000 * s.schedStep)
    Does (.lchStop r) 0x0302 r s fun u =>
      let t := ({ u with lch := { u.lch with state := .stopping, stopN := some ((s.lch.count + k) % 2 ^ 32) } }).setLaunchServo .free
      (if k = 0 then ({ t with lch := { t.lch with repeats := [] } }).announceCell else t, rspOk (b4 ((s.lch.count + k) % 2 ^ 32)))) ∧
  -- SHREF_CONFIG
  (∀ s r, Ready s 0x0303 r → u8 r.payload 0 ≤ 3 →
    ((u8 r.payload 1).testBit 2 = true → ∀ k, k < 4 → k ≠ u8 r.payload 0 → (u8 (s.lch.shref.getD k []) 1).testBit 2 = false) →
    u8 r.payload 2 ≤ 3 → (s.lch.cfg ≠ [] → u8 r.payload 2 < lchSlots s.lch.cfg) → 1 ≤ u8 r.payload 3 → u8 r.payload 3 ≤ 8 →
    (s.lch.cfg ≠ [] → 2 * (signed 32 (u32 r.payload 4)).natAbs < lchPcoast s.lch.cfg) →
    signed 32 (u32 r.payload 8) ≤ signed 32 (u32 r.payload 12) →
    Does (.shrefConfig r) 0x0303 r s fun u => ({ u with lch := { u.lch with shref := u.lch.shref.set (u8 r.payload 0) r.payload } }, rspOk)) ∧
  -- LCH_STATUS
  (∀ s r, Ready s 0x0304 r → Answers (.lchStatus r) 0x0304 r s fun u a =>
    Keeps [.admitted] [] s u ∧ a.status = stOk ∧ u8 a.data 0 = s.lch.state.code ∧ u8 a.data 2 = s.lch.servo.code ∧
    (s.lch.cfg ≠ [] → s.lch.past = [] → s.lch.table = [] → slice a.data 4 32 = zeros 32)) ∧
  -- LAUNCH_ANNOUNCE at the instant of the next announcement
  (∀ s t, s.alive = true → s.isLead = true → s.announces = true → s.actDom.valid = true → s.announceNext = some t →
    exec .launchAnnounce s = .next t) ∧
  -- in mode 0 without a domain switch, the newest launch plus PERIOD, announced ANN_LEAD before
  (∀ s l, s.alive = true → s.isLead = true → s.announces = true → s.actDom.valid = true → lchMode s.lch.cfg = 0 → s.newest = some l →
    s.tmu.switch = none → s.tmu.bridge = none →
    let late : Int := s.domNow s.lch.count - ((l.at_ : Int) + 1000 * lchPeriod s.lch.cfg - 1000 * lchAnn s.lch.cfg)
    0 ≤ late →
    exec .launchAnnounce s = .next (s.announce (s.lch.sched + 1000 * lchPeriod s.lch.cfg) (s.lch.sched + 1000 * lchPeriod s.lch.cfg)
      (s.derivedNow - late).toNat)) ∧
  -- LNCH_REPEAT: each announced cell goes out again 25 µs and 50 µs after it
  (∀ s a k b, s.alive = true → s.isLead = true → s.repeatDue = some (a, k, b) →
    (k = 0 → exec .lnchRepeat s =
      .next (({ s with lch := { s.lch with repeats := (a, 1, b) :: s.lch.repeats.erase (a, 0, b) } }).sendLnch b)) ∧
    (k ≠ 0 → exec .lnchRepeat s = .next (({ s with lch := { s.lch with repeats := s.lch.repeats.erase (a, k, b) } }).sendLnch b))) ∧
  (∀ (s : State) a b, s.lch.repeats = [(a, 0, b)] → (s.repeatDue = some (a, 0, b) ↔ a + rawUs 25 ≤ s.now)) ∧
  (∀ (s : State) a b, s.lch.repeats = [(a, 1, b)] → (s.repeatDue = some (a, 1, b) ↔ a + rawUs 50 ≤ s.now)) ∧
  -- STOPPING_END
  (∀ s l, s.alive = true → s.isLead = true → s.newest = some l → s.lch.state = .stopping → s.lch.stopN = some l.n →
    ((l.at_ + 1000 * lchPcoast s.lch.cfg : Nat) : Int) ≤ s.domNow l.n →
    exec .stoppingEnd s = .next (({ s with lch := { s.lch with state := .idle, stopN := none } }).raise 192 1 1).runSwitch) ∧
  -- LEAD_SUBFRAME_CUT
  (∀ s chain slot frame l a, s.alive = true → s.isLead = true → s.known.find? (fun l => l.n % 8192 == frame) = some l →
    (s.unsentSubs chain slot frame).head? = some a → (l.at_ : Int) - 1000 * lchGuard s.lch.cfg < s.domNow l.n →
    exec (.leadSubframeCut chain slot frame) s = .next (((s.cutSub l.n slot chain (a % 64)).bump Reg.lchLateCnt).raise 198 2
      (frame % 8192 + slot % 4 * 8192 + chain % 4 * 65536))) ∧
  -- LNCH_CELL_RECEIVED: a cell of another epoch is discarded; one of this epoch is taken entry by entry
  (∀ s m, s.alive = true → s.isTile = true → s.net.valid = false ∨ u32 m.body 4 ≠ s.leadEpoch →
    exec (.lnchCellReceived m) s = .next ((s.takeMsgRow m).discardEntry (u32 m.body 36) 1 (min 4 (u8 m.body 2)))) ∧
  (∀ s m l, s.alive = true → s.isTile = true → s.net.valid = true → u32 m.body 4 = s.leadEpoch → s.lch.cfg ≠ [] → u8 m.body 2 = 1 →
    (u8 m.body 1).testBit 2 = false → (u8 m.body 32).testBit 2 = false → timeAt m.body 40 = some l →
    let t := (s.takeMsgRow m).setFaultEpoch (u32 m.body 8)
    exec (.lnchCellReceived m) s = .next
      (({ t with lch := { t.lch with pcoast := u32 m.body 12, smin := u32 m.body 16, sw := none } }).takeEntry
        { n := u32 m.body 36, at_ := l, cfgOk := u8 m.body 3 == lchId s.lch.cfg })) ∧
  -- UNDERRUN_CHECK: every slot complete, and the decision noted
  (∀ s l, s.alive = true → s.isTile = true → s.ems.enabled = true → s.lch.table.find? (fun l => (s.checkOf l.n).isNone) = some l →
    (s.guardOf l : Int) ≤ s.derivedNow → (∀ k ∈ s.slots, s.slotFault l k = none) →
    exec .underrunCheck s = .next ({ s with lch := { s.lch with
      checked := s.lch.checked ++ [(l.n, s.slots.map (fun _ => SlotNext.frame))] } }).sampleCodes) ∧
  -- LAUNCH in a lead without a domain switch, and in a tile
  (∀ s l, s.alive = true → s.isLead = true → s.lch.table.head? = some l → s.tmu.switch = none → (l.at_ : Int) ≤ s.domNow l.n →
    exec .launch s = .next { s with lch := { s.lch with table := s.lch.table.drop 1, past := (l :: s.lch.past).take 16 } }) ∧
  (∀ s l, s.alive = true → s.isLead = false → s.lch.table.head? = some l → s.inActive l ≤ s.derivedNow →
    exec .launch s = .next (s.launchTile l)) ∧
  -- MISSING_LAUNCH_DECISION without coast armed; with it armed and a coast left
  (∀ (s : State) (l : Launch), s.alive = true → s.isTile = true → s.lch.past.head? = some l → s.lch.state = .tRun ∨ s.lch.state = .tCoast → s.lch.table = [] →
    s.lch.coastNext = none → s.lch.stopN ≠ some l.n → s.inActive l + 1000 * s.lch.pcoast - 1000 * rawUs 250 ≤ s.derivedNow →
    (s.isArmed 0x0302 = false → exec .missingLaunchDecision s = .next ((s.restTile .tWait).raise 195 3 ((l.n + 1) % 2 ^ 32 % 8192))) ∧
    (s.isArmed 0x0302 = true → s.ems.enabled = false → s.lch.coasts = 0 → 0 < lchCoastMax s.lch.cfg →
      exec .missingLaunchDecision s = .next (({ s with lch := { s.lch with
        state := .tCoast, coasts := 1, coastNext := some ((l.n + 1) % 2 ^ 32, l.at_ + 1000 * s.lch.pcoast, s.isArmed 0x0301) } }).raiseA 194 2
          ((l.n + 1) % 2 ^ 32 % 8192) true))) ∧
  -- COAST_LAUNCH: dark where 0x0301 was not armed at the decision, the slots' present frames again where it was
  (∀ s n at_, s.alive = true → s.isTile = true → s.lch.coastNext = some (n, at_, false) →
    let l : Launch := { n := n, at_ := at_ }
    s.inActive l ≤ s.derivedNow → s.ems.enabled = false →
    let t := (((s.switchAt l).relight l).passLaunch n).bump Reg.lchCoastCnt
    exec .coastLaunch s = .next (({ t with lch := { t.lch with past := (l :: t.lch.past).take 16, coastNext := none } }).beginEmission l
      [none, none, none, none])) ∧
  (∀ s n at_, s.alive = true → s.isTile = true → s.lch.coastNext = some (n, at_, true) →
    let l : Launch := { n := n, at_ := at_ }
    s.inActive l ≤ s.derivedNow → s.ems.enabled = true →
    let u := ((s.switchAt l).relight l).passLaunch n
    let shows := (List.range 4).map (fun k => if k < lchSlots s.lch.cfg then u.currentRegion k else none)
    let t := (u.bump Reg.lchCoastCnt).bumpBy Reg.lchRepeatCnt (shows.filter Option.isSome).length
    exec .coastLaunch s = .next (({ t with lch := { t.lch with past := (l :: t.lch.past).take 16, coastNext := none } }).beginEmission l
      shows)) ∧
  -- TILE_STOP_PERIOD_END
  (∀ (s : State) (l : Launch), s.alive = true → s.isTile = true → s.lch.past.head? = some l → s.lch.stopN = some l.n → s.lch.table = [] →
    s.lch.state = .tRun ∨ s.lch.state = .tCoast → s.inActive l + 1000 * s.lch.pcoast ≤ s.derivedNow →
    exec .tileStopPeriodEnd s = .next { s.restTile .idle with lch := { (s.restTile .idle).lch with stopN := none } })

/-- The ingest unit: each row completes with its effect. -/
def Obligations.IngestCommandsComplete : Prop :=
  -- INGEST_FRAME_RECEIVED: a bad FCS, a frame the filter takes out, an ARP request for the port's address, an ARP reply that is awaited
  (∀ s port f, s.alive = true → s.isLead = true → port = 4 ∨ port = 5 ∨ port = 7 → s.func port = 2 → f.fcsOk = false →
    exec (.ingestFrameReceived port f) s = .next (s.bump (ingReg Reg.ingRxBad port))) ∧
  (∀ s port f, s.alive = true → s.isLead = true → port = 4 ∨ port = 5 ∨ port = 7 → s.func port = 2 → f.fcsOk = true →
    s.ethFilter port f = false → exec (.ingestFrameReceived port f) s = .next (s.bump (ingReg Reg.ingRxDisc port))) ∧
  (∀ s port f sender mac, s.alive = true → s.isLead = true → port = 4 ∨ port = 5 ∨ port = 7 → s.func port = 2 → f.fcsOk = true →
    s.ethFilter port f = true → f.kind = .arpRequest (s.ingIp port) sender mac → s.ingIp port ≠ 0 →
    exec (.ingestFrameReceived port f) s = .next (if s.arpAnswers then s.emit (.eth port 1 (s.txTag port) mac sender 0) else s)) ∧
  (∀ s port f sender mac w, s.alive = true → s.isLead = true → port = 4 ∨ port = 5 ∨ port = 7 → s.func port = 2 → f.fcsOk = true →
    s.ethFilter port f = true → f.kind = .arpReply sender mac → s.ingIp port ≠ 0 →
    s.pix.arpWait.find? (fun w => w.port == port && w.ip == sender) = some w →
    exec (.ingestFrameReceived port f) s = .next (({ s with pix := { s.pix with
      arpWait := s.pix.arpWait.erase w,
      arp := s.pix.arp ++ [({ port := port, ip := sender, mac := mac, at_ := s.now } : ArpEntry)] } }).emits
      (w.packets.map (fun (p : Nat × Nat × List Byte) => Out.udp port (s.txTag port) mac p.1 p.2.1 p.2.2)))) ∧
  -- ARP_REQUEST_RETRY: again up to three times, then the packets are dropped
  (∀ s w, s.alive = true → s.pix.arpWait.find? (fun w => decide (w.last + rawSec 1 ≤ s.now)) = some w →
    (w.tries < 3 → exec .arpRequestRetry s = .next (({ s with pix := { s.pix with
      arpWait := s.pix.arpWait.map (fun x => if x = w then { w with tries := w.tries + 1, last := s.now } else x) } }).emit
      (.eth w.port 0 (s.txTag w.port) macAll w.ip 0))) ∧
    (3 ≤ w.tries → exec .arpRequestRetry s = .next (({ s with pix := { s.pix with arpWait := s.pix.arpWait.erase w } }).raise 266 1
      (ingIdx w.port)))) ∧
  -- ARP_ENTRY_EXPIRY
  (∀ s, s.alive = true → exec .arpEntryExpiry s = .next { s with pix := { s.pix with
    arp := s.pix.arp.filter (fun e => decide (s.now < e.at_ + rawSec 60)) } }) ∧
  -- STREAM_ENABLE: a stream that runs stops first; accepted, it starts without packets, its groups are joined, and EV_256; refused, ENABLE stays 0
  -- and EV_25; a reserved port code leaves its field as it is, with EV_25
  (∀ s m ctl, s.alive = true → s.isLead = true → m < 4 → ctl.toNat.testBit 31 = true →
    let v := ctl &&& 0xC3C000FF#32
    let a := strReg Reg.ingStrCtl m
    let t := s.stopStream m
    (s.strOn m = false → t = s) ∧
    (bitsOf ctl.toNat 25 24 ≠ 3 → bitsOf ctl.toNat 23 22 ≠ 3 → s.forced (144 + m / 2) = false →
      (s.strRefusal m v.toNat = 0 → exec (.streamEnable m ctl) s = .next
        ((((t.setReg a v).setStrm m { conf := (t.strm m).conf, since := t.now, curBuf := (t.strm m).curBuf,
                                      legOk := [true, (legsOf v.toNat).length == 2] }).igmp m false (fun _ _ => true)).raise 256 0 m)) ∧
      (s.strRefusal m v.toNat ≠ 0 → exec (.streamEnable m ctl) s = .next ((t.setReg a (v &&& 0x7FFFFFFF#32)).raise 25 1 a))) ∧
    (∀ w, s.keepRanges a ctl.toNat = (w, true) →
      exec (.streamEnable m ctl) s = .next ((s.writeStrCtl m (BitVec.ofNat 32 w)).1.raise 25 1 a))) ∧
  -- STREAM_DISABLE of a stream that runs, and of one that does not
  (∀ s m ctl, s.alive = true → s.isLead = true → m < 4 → ctl.toNat.testBit 31 = false → bitsOf ctl.toNat 25 24 ≠ 3 → bitsOf ctl.toNat 23 22 ≠ 3 →
    let v := ctl &&& 0xC3C000FF#32
    let a := strReg Reg.ingStrCtl m
    (s.strOn m = true → exec (.streamDisable m ctl) s = .next
      ((((s.igmp m true (fun _ _ => true)).setStrm m { conf := (s.strm m).conf, curBuf := (s.strm m).curBuf }).raise 256 0 (m + 2 * 256)).setReg a v)) ∧
    (s.strOn m = false → exec (.streamDisable m ctl) s = .next (s.setReg a v))) ∧
  -- STREAM_PACKET_RECEIVED: the next number on a leg in use goes to the de-packetiser; a copy of a number already used only counts
  (∀ s m leg p h, s.alive = true → s.isLead = true → m < 4 → s.strOn m = true → leg ∈ legsOf (s.strCtl m) → (s.strm m).legOk.getD leg false = true →
    p.seq ∉ (s.strm m).lost → p.seq ∉ (s.strm m).got → (s.strm m).high = some h → p.seq = (h + 1) % 2 ^ 32 → h < 2 ^ 32 →
    (s.strm m).legOk.set leg true = (s.strm m).legOk → m < s.pix.streams.length →
    let x := s.strm m
    let t := s.bump (strReg Reg.ingStrPkt0 m + 4 * leg)
    let y : Strm := { x with
      legAt := x.legAt.set leg (some s.now), high := some p.seq, missing := x.missing.filter (fun e => e.1 != p.seq),
      got := (p.seq :: x.got).filter (nearSeq p.seq), lost := x.lost.filter (nearSeq p.seq), queue := x.queue ++ [(p, s.now)] }
    let u := (t.setStrm m { x with legAt := x.legAt.set leg (some s.now) }).setStrm m y
    exec (.streamPacketReceived m leg p) s = .next (u.releaseAll m) ∧
    -- with nothing missing before it, the packet goes on at once
    (x.queue = [] → (∀ e ∈ x.missing, isAfter p.seq e.1 = false) →
      u.releaseAll m = (u.setStrm m { y with queue := [] }).depacketise m p s.now)) ∧
  (∀ s m leg p, s.alive = true → s.isLead = true → m < 4 → s.strOn m = true → leg ∈ legsOf (s.strCtl m) → (s.strm m).legOk.getD leg false = true →
    p.seq ∉ (s.strm m).lost → p.seq ∈ (s.strm m).got → m < s.pix.streams.length →
    exec (.streamPacketReceived m leg p) s = .next ((s.bump (strReg Reg.ingStrPkt0 m + 4 * leg)).setStrm m
      { s.strm m with legAt := (s.strm m).legAt.set leg (some s.now), legOk := (s.strm m).legOk.set leg true })) ∧
  -- PACKET_LOSS_DECLARED: the numbers due are lost, each counted, and charged to the frame in progress
  (∀ s m, s.alive = true → s.isLead = true → m < 4 → s.strOn m = true →
    let due := (s.strm m).missing.filter (fun e => decide (e.2 ≤ s.now))
    due ≠ [] → exec (.packetLossDeclared m) s = .next (due.foldl (fun t e => t.loseNumber m e.1) s)) ∧
  (∀ (s : State) m q, m < s.pix.streams.length → (s.strm m).queue = [] → (s.strm m).lock = [] →
    s.loseNumber m q = ((s.setStrm m { s.strm m with
      missing := (s.strm m).missing.filter (fun e => e.1 != q), lost := q :: (s.strm m).lost }).bump (strReg Reg.ingStrLost m)).updFrame m
        (fun f => { f with lost := f.lost + 1 })) ∧
  -- LEG_LOSS
  (∀ s m leg, s.alive = true → s.isLead = true → m < 4 → s.strOn m = true → leg ∈ legsOf (s.strCtl m) → (s.strm m).legOk.getD leg false = true →
    ((s.strm m).legAt.getD leg none).getD (s.strm m).since + rawMs 10 ≤ s.now →
    exec (.legLoss m leg) s = .next ((s.setStrm m { s.strm m with legOk := (s.strm m).legOk.set leg false }).raise 258 2 (m + leg * 4))) ∧
  -- LOCK_WINDOW_END: the tiles of the layer are cut, once a second with EV_264
  (∀ s m l, s.alive = true → s.isLead = true → m < 4 → (s.strm m).lock ≠ [] → (s.strm m).noLockAt = none →
    let x := s.strm m
    s.lch.table.find? (fun l => decide (s.annOf l + (lockPost x.lock : Int) < s.derivedNow) && (s.lockFrame x l).isNone && !x.noFrame.contains l.n) =
      some l →
    exec (.lockWindowEnd m) s = .next (((s.cutLines l.n (u8 x.lock 2) (fun _ _ => true)).setStrm m
      { x with
        locked := false, noFrame := l.n :: x.noFrame.filter (fun n => s.lch.table.any (fun a => a.n == n)), noLockAt := some s.now }).raise
        264 2 (m + l.n % 8192 * 256))) ∧
  -- STREAM_CONFIG that unlocks a stream
  (∀ s r, Ready s 0x0406 r → u8 r.payload 0 < 4 → s.lch.state ≠ .run → s.lch.state ≠ .stopping → (u8 r.payload 1).testBit 0 = false →
    Does (.streamConfig r) 0x0406 r s fun u => (u.setStrm (u8 r.payload 0)
      { u.strm (u8 r.payload 0) with conf := r.payload, locked := false, frame := none, prev := none, raw := [], noFrame := [] }, rspOk)) ∧
  -- SURFACE_BLOCK_PACK: a block whose rows are complete is packed
  (∀ s m block f u, s.alive = true → s.isLead = true → s.strOn m = true → (s.strm m).lock = [] → (s.strm m).frame = some f →
    s.strSurf m = some u → f.drop = false → f.done = false → block < surfBlocks u.w u.h → block ∉ f.packed →
    (∀ j, j < 4 → block / surfBw u.w * 4 + j < u.h → rowDone u f (block / surfBw u.w * 4 + j) = true) →
    exec (.surfaceBlockPack m block) s = .next ((s.packBlock m u block).updFrame m (fun f => { f with packed := block :: f.packed }))) ∧
  -- DEFERRED_CHANGE_REPLY
  (∀ s h, s.alive = true → s.pix.heldReplies.find? (fun h => decide (h.until_ ≤ s.derived)) = some h →
    let t := { s with pix := { s.pix with heldReplies := s.pix.heldReplies.erase h } }
    exec .deferredChangeReply s = .next (t.answer t h.op h.req { status := h.status }))

/-- Surfaces, layers, flips, composition and the block coder: each row completes with its effect. -/
def Obligations.PictureCommandsComplete : Prop :=
  -- SURFACE_ALLOC in a lead: a new surface, and one removed
  (∀ s r, Ready s 0x0403 r → s.isTile = false → u16 r.payload 0 ≤ 255 → 1 ≤ u8 r.payload 2 → u8 r.payload 2 ≤ 6 →
    colourOk false (u8 r.payload 2) (u8 r.payload 3) = true → 16 ≤ u16 r.payload 4 → u16 r.payload 4 ≤ 8192 →
    (u8 r.payload 2 = 1 → u16 r.payload 4 % 2 = 0) → 16 ≤ u16 r.payload 6 → u16 r.payload 6 ≤ 8192 → 1 ≤ u8 r.payload 8 → u8 r.payload 8 ≤ 3 →
    u64 r.payload 12 % 256 = 0 →
    s.regionBad (u16 r.payload 0) (u64 r.payload 12) (u8 r.payload 8 * foot (u8 r.payload 2) (u16 r.payload 4) (u16 r.payload 6)) = false →
    s.surf (u16 r.payload 0) = none →
    Does (.surfaceAlloc r) 0x0403 r s fun u => (u.setSurf (u16 r.payload 0)
      { fmt := u8 r.payload 2, colour := u8 r.payload 3 % 16, w := u16 r.payload 4, h := u16 r.payload 6, bufs := u8 r.payload 8,
        addr := u64 r.payload 12 }, rspOk)) ∧
  (∀ s r, Ready s 0x0403 r → s.isTile = false → u16 r.payload 0 ≤ 255 → u16 r.payload 4 = 0 → u16 r.payload 6 = 0 →
    s.surfShown (u16 r.payload 0) = false → s.streamTarget (u16 r.payload 0) = false →
    Does (.surfaceAlloc r) 0x0403 r s fun u => ({ u with pix := { u.pix with surfs := Map.del u.pix.surfs (u16 r.payload 0) } }, rspOk)) ∧
  -- SURFACE_WRITE
  (∀ s r x t, Ready s 0x0404 r → s.isTile = false → s.surf (u16 r.payload 0) = some x → s.streamTarget (u16 r.payload 0) = false →
    s.surfShown (u16 r.payload 0) = false →
    let o := u32 r.payload 4
    let data := r.payload.drop 8
    let total := rawBytes x.fmt x.w x.h
    o % 8 = 0 → o + data.length ≤ total → data.length % 8 = 0 ∨ o + data.length = total →
    (s.takeReq 0x0404 r).mergeBlocks x o data (touched x o data.length) = .ok t →
    let w := addRange o (o + data.length) x.written
    Does (.surfaceWrite r) 0x0404 r s fun _ =>
      (t.setSurf (u16 r.payload 0) { x with written := w, cur := if covers w total then some 0 else x.cur }, rspOk)) ∧
  -- SURFACE_BLOCK_DECODE
  (∀ s n b k x, s.alive = true → s.surf n = some x → b < x.bufs → k < surfBlocks x.w x.h →
    exec (.surfaceBlockDecode n b k) s = .next (s.noteBlock n b k (s.readBlock x b k))) ∧
  -- LAYER_CONFIG, PROT_LAYER_SET of no surface, PROT_LAYER_CLEAR
  (∀ s r, Ready s 0x0400 r → (s.takeReq 0x0400 r).layerRefusal r = none → Stages (.layerConfig r) 0x0400 r s (.layer r.payload)) ∧
  (∀ s r, Ready s 0x0407 r → u8 r.payload 0 = 2 →
    u16 r.payload 4 + u16 r.payload 8 ≤ lppW (s.takeReq 0x0407 r).viewAll.lpp.cfg →
    u16 r.payload 6 + u16 r.payload 10 ≤ lppH (s.takeReq 0x0407 r).viewAll.lpp.cfg → Stages (.protLayerSet r) 0x0407 r s (.prot r.payload)) ∧
  (∀ s r, Ready s 0x0408 r → Stages (.protLayerClear r) 0x0408 r s (.prot [])) ∧
  -- FLIP of a group in a lead: ready at once without a fence
  (∀ s r, Ready s 0x0401 r → s.isTile = false → s.isLead = true → u8 r.payload 0 < 16 →
    u8 r.payload 1 ≠ 0 → u8 r.payload 1 ≤ s.nLayers → u16 r.payload 4 ≤ 1023 →
    (s.takeReq 0x0401 r).flipEntryBad (flipEntries r.payload) = none → Map.find s.pix.flips (u8 r.payload 0) = none →
    (∀ e ∈ flipEntries r.payload, s.layerFlipping e.1 = false) →
    decodeOver s.lch.cfg ((s.takeReq 0x0401 r).viewAll.pix.layers.map Prod.snd) = false →
    Does (.flip r) 0x0401 r s fun u =>
      let f : Flip :=
        { req := r, entries := flipEntries r.payload, fence := u16 r.payload 4, wait := u32 r.payload 8,
          ready := decide (u16 r.payload 4 = 0 ∨ fenceOk (Map.at u.pix.fences 0 (u16 r.payload 4)) (u32 r.payload 8) = true),
          deadline := if u16 r.payload 2 = 0 then none else some (u.now + rawMs (u16 r.payload 2)),
          readyAt := u.derived, first := none }
      ({ u with pix := { u.pix with flips := Map.put u.pix.flips (u8 r.payload 0) f } }, rspAccepted)) ∧
  -- FENCE_SIGNAL: the value now, a later one, an earlier one
  (∀ s r, Ready s 0x0402 r → 1 ≤ u16 r.payload 0 → u16 r.payload 0 ≤ 1023 →
    let f := u16 r.payload 0
    let v := u32 r.payload 4
    (v = Map.at s.pix.fences 0 f → Does (.fenceSignal r) 0x0402 r s fun u => (u, rspOk)) ∧
    (v ≠ Map.at s.pix.fences 0 f → fenceOk v (Map.at s.pix.fences 0 f) = true → Does (.fenceSignal r) 0x0402 r s fun u =>
      (({ u with pix := { u.pix with fences := Map.put u.pix.fences f v } }).readyGroups f v, rspOk)) ∧
    (v ≠ Map.at s.pix.fences 0 f → fenceOk v (Map.at s.pix.fences 0 f) = false → Does (.fenceSignal r) 0x0402 r s fun u => (u, rspParam 4))) ∧
  -- FENCE_TIMEOUT: the group is discarded; with 0x0401 armed it becomes ready
  (∀ s g f, s.alive = true →
    s.pix.flips.find? (fun f => !f.2.ready && (match f.2.deadline with | some d => decide (d < s.now) | none => false)) = some (g, f) →
    (s.isArmed 0x0401 = false →
      let t := (s.bump Reg.cmpFenceToCnt).raiseA 321 2 (g + f.fence * 32) false
      exec .fenceTimeout s = .next (({ t with pix := { t.pix with flips := Map.del t.pix.flips g } }).complete f.req stWrongState)) ∧
    (s.isArmed 0x0401 = true →
      let t := (s.bump Reg.cmpFenceToCnt).raiseA 321 2 (g + 16 + f.fence * 32) true
      exec .fenceTimeout s = .next { t with pix := { t.pix with flips := Map.put t.pix.flips g { f with ready := true, readyAt := s.derived } } })) ∧
  -- MESH_LOAD
  (∀ s r, Ready s 0x0405 r → u8 r.payload 0 < 32 → u16 r.payload 2 % 8 = 0 → u16 r.payload 2 + (r.payload.drop 4).length ≤ 33800 →
    s.pix.staged.any (fun p => match p.change with
      | .layer q => layerNo q == u8 r.payload 0 && (u8 q 1).testBit 1
      | _ => false) = false →
    let l := u8 r.payload 0
    let o := u16 r.payload 2
    let data := r.payload.drop 4
    -- the nodes go to the layer's waiting mesh in DRAM
    Does (.meshLoad r) 0x0405 r s fun u =>
      let t := u.memWrite (u.meshAddr l true + o) data
      ({ t with pix := { t.pix with meshes := Map.put t.pix.meshes l (addRange o (o + data.length) (Map.at t.pix.meshes [] l)) } }, rspOk)) ∧
  -- CMP_ENABLE: off, on, refused
  (∀ s cfg, s.alive = true → cfg.toNat.testBit 0 = false → exec (.cmpEnable cfg) s = .next (s.setFld Reg.cmpCfg 0 0 0)) ∧
  (∀ s cfg, s.alive = true → cfg.toNat.testBit 0 = true → s.cmpRefusal = 0 → exec (.cmpEnable cfg) s = .next (s.setFld Reg.cmpCfg 0 0 1)) ∧
  (∀ s cfg, s.alive = true → cfg.toNat.testBit 0 = true → s.cmpRefusal ≠ 0 →
    exec (.cmpEnable cfg) s = .next ((s.setFld Reg.cmpCfg 0 0 0).raise 25 1 Reg.cmpCfg)) ∧
  -- COMPOSE_TILE: the region composed, and an integrity failure of a source
  (∀ s n slot chain pos l, s.composes n slot = true → s.composeNext n = some (slot, chain, pos) →
    s.lch.table.find? (fun l => l.n == n) = some l → s.lockState l slot chain pos = .ready →
    (∀ px, (s.useFrames l).tilePixels slot chain pos = .ok px → exec (.composeTile n slot chain pos) s = .next
      { s with pix := { s.pix with
        composed := s.pix.composed ++ [{ n := n, slot := slot, chain := chain, pos := pos, pixels := px }],
        made := (n, slot, s.tileAddr chain pos) :: s.pix.made } }) ∧
    (∀ bad, (s.useFrames l).tilePixels slot chain pos = .error bad → exec (.composeTile n slot chain pos) s = .next
      (s.cutFed n slot chain pos bad))) ∧
  -- where the failed read feeds no other tile, that tile alone is cut
  (∀ (s : State) n slot chain pos (bad : BadRead), (∀ e ∈ s.tileMap, (e.1, e.2.1) = (chain, pos) ∨ s.feeds bad slot e.1 e.2.1 = false) →
    s.cutFed n slot chain pos bad =
      (((s.noteBad bad).cutSub n slot chain pos).bump Reg.cmpCutCnt).raise 325 3 (bad.stage + 4 + bad.source)) ∧
  -- CODER_CONFIG: staged for the launch
  (∀ s r, Ready s 0x0500 r → u8 r.payload 0 < 4 → u8 r.payload 1 < 4 → u8 r.payload 2 < 2 → (u8 r.payload 1 = 0 → u8 r.payload 2 = 0) →
    (u8 r.payload 1 = 0 ∨ u8 r.payload 2 = 0 → u8 r.payload 3 = 0) →
    (u8 r.payload 2 = 1 → 1 ≤ u8 r.payload 3 ∧ u8 r.payload 3 ≤ sMax (u8 r.payload 1)) → s.lch.cfg = [] →
    Does (.coderConfig r) 0x0500 r s fun u =>
      (u.addChange (.coder (u8 r.payload 0) (u8 r.payload 1) (u8 r.payload 2) (u8 r.payload 3)) u.derived none, rspOk)) ∧
  -- CODER_STATUS
  (∀ s r, Ready s 0x0501 r → Answers (.coderStatus r) 0x0501 r s fun u a =>
    Keeps [.admitted, .free] [] s u ∧ a.status = stOk ∧ a.data.take 16 = (List.range 4).flatMap (fun c => b4 (s.chainWord c)) ∧
    a.data.drop 24 = (List.range 7).flatMap (fun k => b4 (s.reg (Reg.bcdC2Trn + 4 * k)).toNat) ++ b4 (s.reg Reg.bcdSmax).toNat) ∧
  -- ENCODE_SUBFRAME: the check fails; a tile without a session key; a sub-frame of one run
  (∀ s slice c rest, s.alive = true → s.isLead = true → slice < 8 → s.pix.composed = c :: rest →
    let u := { s with pix := { s.pix with composed := rest } }
    let a := s.tileAddr c.chain c.pos
    let reg := Reg.cmpTmap1 + 8 * (64 * c.chain + c.pos)
    let w := s.fld reg 9 0
    let h := s.fld reg 19 10
    let x := s.pix.coder.getD c.chain (0, 0, 0)
    let ks := (List.range (nBlk w h)).map (fun k => blkShift x.1 x.2.1 x.2.2 (blkPixels w h c.pixels k))
    let runs := pixRuns (encodeSub x.1 x.2.1 x.2.2 c.slot w h c.n c.pixels)
    let close (t : State) : State :=
      let t := t.bumpBy Reg.bcdLossy (ks.filter (· != 0)).length
      t.setFld Reg.bcdSmax (4 * c.chain + 3) (4 * c.chain) (max (t.fld Reg.bcdSmax (4 * c.chain + 3) (4 * c.chain)) (maxOf ks))
    exec (.encodeSubframe slice true) s = .next (((u.cutSub c.n c.slot c.chain c.pos).bump Reg.bcdEncMismatch).raise 386 3
      (slice + c.slot * 8 + a * 65536)) ∧
    (s.tileKey a = 0 → exec (.encodeSubframe slice false) s = .next (close u)) ∧
    (s.tileKey a ≠ 0 → runs.length = 1 → exec (.encodeSubframe slice false) s = .next (close (u.send
      { port := c.chain, typ := 1, dest := a, key := s.tileKey a, xt := pixXt c.slot c.n 0 true, body := runs.getD 0 [] }))))

/-- The lamp pipeline: each row completes with its effect. -/
def Obligations.LampCommandsComplete : Prop :=
  -- TRANSPORT_GROUP_DECODE: a refused header; a group whose C2 fails; a group released
  (∀ s slot frame group h, s.pipeRuns = true → s.failReason slot frame = none →
    group ∉ ((s.subOf slot frame).getD { slot := slot, frame := frame }).groups → s.pixHeader slot frame = some h →
    s.headerFault slot frame h ≠ 0 →
    exec (.transportGroupDecode slot frame group) s = .next (((s.bump Reg.bcdHdrErr).raise 387 2 (frame + s.headerFault slot frame h * 8192)).failSub
      slot frame 1)) ∧
  (∀ s slot frame group h b, s.pipeRuns = true → s.failReason slot frame = none →
    let x := (s.subOf slot frame).getD { slot := slot, frame := frame }
    let ratio := u8 h 1 % 4
    let first := 32 * group
    let count := min 32 (nBlk (u16 h 4) (u16 h 6) - first)
    let len := (if group = 0 then 16 else 0) + count * blkBytes ratio
    group ∉ x.groups → s.pixHeader slot frame = some h → s.headerFault slot frame h = 0 → first < nBlk (u16 h 4) (u16 h 6) →
    s.pixBytes slot frame (if group = 0 then 0 else blkOffset ratio first) (len + 2) = some b →
    -- the decoded block buffers are full of sub-frames without a region: the group waits where a region can be freed, else all is discarded
    (x.begun = none → s.buffersFull count = true →
      (s.freeRegion.isSome = true ∨ s.releasable.isSome = true → exec (.transportGroupDecode slot frame group) s = .next s) ∧
      (s.freeRegion = none → s.releasable = none → exec (.transportGroupDecode slot frame group) s = .next
        (((s.bump Reg.lppSfDisc).raise 454 2 (frame + slot * 8192 + 0x20000)).failSub slot frame 1))) ∧
    ((x.begun.isNone && s.buffersFull count) = false →
    (crc16 (b.take len) ≠ u16 b len → exec (.transportGroupDecode slot frame group) s = .next
      (((s.bump Reg.bcdC2Trn).raise 384 3 (group % 256 + slot * 256 + frame * 1024)).failSub slot frame 0x12)) ∧
    (crc16 (b.take len) = u16 b len →
      (∀ i, i < count → (decodeBlk ratio (slice (b.drop (if group = 0 then 16 else 0)) (i * blkBytes ratio) (blkBytes ratio))).isSome = true) →
      ∃ t, exec (.transportGroupDecode slot frame group) s = .next t ∧ Keeps [.lpp] [] s t))) ∧
  -- LPP_CONFIG
  (∀ s r, Ready s 0x0600 r → lppPrims r.payload = 3 ∨ lppPrims r.payload = 4 → u8 r.payload 1 ≤ 4 → (lppPrims r.payload = 3 → u8 r.payload 1 = 0) →
    1 ≤ lppW r.payload → lppW r.payload ≤ 512 → 1 ≤ lppH r.payload → lppH r.payload ≤ 512 → 1 ≤ u8 r.payload 7 → u8 r.payload 7 ≤ 10 →
    (∀ k, k < 16 → 0x4000 ≤ u16 r.payload (8 + 2 * k)) → (∀ k, k < lppPrims r.payload → s.forced (72 + k) = false) →
    let v := (s.takeReq 0x0600 r).viewAll
    tileOver s.lch.cfg r.payload (v.pix.layers.map Prod.snd) v.pix.prot = false → v.lpp.cfg = [] →
    Stages (.lppConfig r) 0x0600 r s (.lpp r.payload)) ∧
  -- LUT_LOAD without COMMIT fills the pending table; COMMIT alone stages it
  (∀ s r, Ready s 0x0601 r → u8 r.payload 0 ≤ 2 → (u8 r.payload 1).testBit 0 = false →
    let count := (r.payload.length - 4) / 3
    1 ≤ count → u16 r.payload 2 + count ≤ 4096 →
    s.pix.staged.any (fun q => match q.change with | .lut k => k == u8 r.payload 0 | _ => false) = false →
    Does (.lutLoad r) 0x0601 r s fun u =>
      let m := (List.range count).foldl (fun m e => u.lutStore m (u16 r.payload 2 + e) (u24 r.payload (4 + 3 * e)))
        (u.lpp.lutPend.getD (u8 r.payload 0) [])
      ({ u with lpp := { u.lpp with lutPend := u.lpp.lutPend.set (u8 r.payload 0) m } }, rspOk)) ∧
  -- ALMANAC_LOAD; while the memory controller is disabled it waits
  (∀ s r, Ready s 0x0602 r → u8 r.payload 0 ≤ 3 → -160 ≤ signed 16 (u16 r.payload 2) → signed 16 (u16 r.payload 2) ≤ 1280 →
    let k := u8 r.payload 0
    let o := u32 r.payload 4
    let data := r.payload.drop 8
    let z := setBytes (s.takeReq 0x0602 r).viewAll.lpp.cfg
    let x := s.lpp.sets.getD k {}
    o % 64 = 0 → o + data.length ≤ z → data.length % 64 = 0 ∨ o + data.length = z → s.setInUse k = false →
    (s.mem.enabled = true → Does (.almanacLoad r) 0x0602 r s fun u =>
      let y : AlmSet :=
        { temp := signed 16 (u16 r.payload 2), written := addRange o (o + data.length) x.written,
          loaded := x.loaded || covers (addRange o (o + data.length) x.written) z }
      let t := u.memWrite (u.almAddr k + o) data
      ({ t with lpp := { t.lpp with sets := t.lpp.sets.set k y } }, rspOk)) ∧
    (s.mem.enabled = false → Holds (.almanacLoad r) 0x0602 r s fun u =>
      { u with mem := { u.mem with waiting := u.mem.waiting ++ [(0x0602, r)] } })) ∧
  -- ALMANAC_ENABLE: a regeneration for the mask begins and its reply waits; the mask 0 is staged
  (∀ s r, Ready s 0x0603 r → s.stagedMask = none → (∀ g, s.lpp.regen = some g → g.enable = none) →
    let m := u8 r.payload 0 % 16
    (∀ k ∈ s.maskSets m, (s.lpp.sets.getD k {}).loaded = true) →
    (∀ a ∈ s.maskSets m, ∀ b ∈ s.maskSets m, a ≠ b → (s.lpp.sets.getD a {}).temp ≠ (s.lpp.sets.getD b {}).temp) →
    m ≠ 0 → Holds (.almanacEnable r) 0x0603 r s fun u =>
      { u with lpp := { u.lpp with regen := some (u.regenOf m (some r)), regenAt := u.now } }) ∧
  (∀ s r, Ready s 0x0603 r → s.stagedMask = none → s.lpp.regen = none → u8 r.payload 0 % 16 = 0 →
    Stages (.almanacEnable r) 0x0603 r s (.mask 0)) ∧
  -- ZONE_READ
  (∀ s r, Ready s 0x0604 r → Answers (.zoneRead r) 0x0604 r s fun u a =>
    Keeps [.admitted] [] s u ∧ a.status = stOk ∧ a.data.length = 520 ∧ u32 a.data 0 = (s.lpp.bufs.getD s.lpp.active {}).seq % 2 ^ 32) ∧
  -- SUBFRAME_PROCESS_BEGIN: in a free region; a launch number out of range is discarded
  (∀ s slot frame h r, s.pipeRuns = true → s.firstToBegin slot frame = true → s.pixHeader slot frame = some h → s.headerFault slot frame h = 0 →
    s.nInRange (u32 h 8) = true → s.freeRegion = some r →
    let u := s.setRegion r { st := .filling, slot := slot, n := u32 h 8 }
    exec (.subframeProcessBegin slot frame) s = .next
      ((u.setSub { (u.subOf slot frame).getD { slot := slot, frame := frame } with begun := some (u32 h 8, r) }).beginLaunch (u32 h 8))) ∧
  (∀ s slot frame h, s.pipeRuns = true → s.firstToBegin slot frame = true → s.pixHeader slot frame = some h → s.headerFault slot frame h = 0 →
    s.nInRange (u32 h 8) = false → exec (.subframeProcessBegin slot frame) s = .next
      (((s.bump Reg.lppSfDisc).raise 454 2 (frame + slot * 8192 + 0x10000)).failSub slot frame 1)) ∧
  -- SUBFRAME_WRITE_COMPLETE: the region becomes PENDING with the codes of the sub-frame
  (∀ (s : State) slot n corrected f r codes, s.pipeRuns = true → s.subOf slot (frameOfN n) = some f → f.begun = some (n, r) →
    (∀ g, g < (nBlk (lppW (s.viewFor n).lpp.cfg) (lppH (s.viewFor n).lpp.cfg) + 31) / 32 → g ∈ f.groups) →
    s.pixWhole slot (frameOfN n) = true → (s.bumpBy Reg.lppC3Corr corrected).subCodes f n = .ok codes →
    let t := ((s.bumpBy Reg.lppC3Corr corrected).setRegion r { st := .pending, slot := slot, n := n, codes := codes }).dropPix slot (frameOfN n)
    exec (.subframeWriteComplete slot n corrected) s = .next (({ t with lpp := { t.lpp with subs := t.lpp.subs.erase f } }).bump Reg.lppSfDone)) ∧
  -- PIPELINE_CHECK_FAILURE
  (∀ s slot n source dis x r, s.pipeRuns = true → s.subOf slot (frameOfN n) = some x → x.begun = some (n, r) →
    exec (.pipelineCheckFailure slot n source dis) s = .next (((s.bump Reg.lppCheckFail).raise 453 3
      (n % 8192 + slot * 8192 + bn dis * 32768 + source % 4 * 65536)).failSub slot (frameOfN n) 0x13)) ∧
  -- ZONE_STALE
  (∀ s z, s.alive = true → s.isTile = true → z < 64 → s.zoneSrc z = 0 → (s.lpp.zones.getD z {}).stale = false → s.freshReports z = [] →
    exec (.zoneStale z) s = .next (({ s with lpp := { s.lpp with
      zones := s.lpp.zones.set z { stale := true, fallback := s.isArmed 0x0601 } } }).raiseA 450 2 (z + bn (s.isArmed 0x0601) * 64) (s.isArmed 0x0601))) ∧
  -- ALMANAC_REGENERATION_START
  (∀ s, s.alive = true → s.isTile = true → s.lpp.mask ≠ 0 → s.lpp.regen = none → s.stagedMask = none →
    s.lpp.regenAt + rawMs (100 * u8 s.lpp.cfg 7) ≤ s.now →
    exec .almanacRegenerationStart s = .next { s with lpp := { s.lpp with regen := some (s.regenOf s.lpp.mask none), regenAt := s.now } }) ∧
  -- ALMANAC_REGENERATION_COMPLETE in time, and stopped by C3, of a periodic regeneration
  (∀ s g, s.alive = true → s.lpp.regen = some g → g.enable = none →
    ((s.maskSets g.buf.mask).find? s.almBad = none → s.now < g.start + rawMs (100 * u8 s.lpp.cfg 7) → exec (.almanacRegenerationComplete none) s = .next { s with lpp := { s.lpp with
      regen := none, bufs := s.lpp.bufs.set (1 - s.lpp.active) g.buf, almSeq := g.buf.seq, fresh := true } }) ∧
    (∀ k, exec (.almanacRegenerationComplete (some k)) s = .next
      (((({ s with lpp := { s.lpp with regen := none } }).bump Reg.lppRegenFail).raise 449 2 (1 + k % 4 * 16)))))

/-- The emission scheduler and the lamp port: each row completes with its effect. -/
def Obligations.EmissionCommandsComplete : Prop :=
  -- EMS_CONFIG before an LCH_CONFIG
  (∀ s r, Ready s 0x0700 r → s.ems.enabled = false → s.ems.init = none → s.lch.cfg = [] → emsFieldBad [] r.payload = none →
    (∀ b, b < 4 → (emsBanks r.payload).testBit b = true → s.forced (76 + b) = false) →
    Does (.emsConfig r) 0x0700 r s fun u => ({ u with ems := { u.ems with cfg := r.payload } }, rspOk)) ∧
  -- EMIT_ENABLE: the delay is taken, the transfers of the initialisation wait, the reply is held
  (∀ s r, Ready s 0x0701 r → s.ems.enabled = false → s.ems.init = none → s.ems.cfg ≠ [] → s.pwr.inert = false → s.ems.hold = false →
    s.pllLock 2 = true → u32 r.payload 0 ≤ 65536000 → s.lch.cfg = [] →
    (∀ b, b < 4 → (emsBanks s.ems.cfg).testBit b = true → s.forced (76 + b) = false) → s.forced 148 = false → s.mapScan = 0 →
    Holds (.emitEnable r) 0x0701 r s fun u =>
      (({ u with lpp := { u.lpp with mapScan := some 0 } }).setReg Reg.emsEmitDelay (BitVec.ofNat 32 (u32 r.payload 0))).beginInit r) ∧
  -- a delay beyond 65,536,000, or with which the last window does not end within S_min, is refused whatever the state
  (∀ s r, Ready s 0x0701 r → 65536000 < u32 r.payload 0 ∨ (s.lch.cfg ≠ [] ∧ windowsEnd s.lch.cfg (u32 r.payload 0) = false) →
    Does (.emitEnable r) 0x0701 r s fun u => (u, rspParam 0)) ∧
  -- EMIT_DISABLE
  (∀ s r, Ready s 0x0702 r → Does (.emitDisable r) 0x0702 r s fun u => (u.endEmission false, rspOk)) ∧
  -- SETUP_TRANSFER to every lane with one value
  (∀ s r, Ready s 0x0703 r → s.ems.cfg ≠ [] → u8 r.payload 4 = 0 → r.payload.length = 8 →
    (∀ b, b < 4 → (u8 r.payload 0).testBit b = true → (emsBanks s.ems.cfg).testBit b = true) → u8 r.payload 3 ≠ 1 →
    Does (.setupTransfer r) 0x0703 r s fun u =>
      let x : Setup :=
        { banks := u8 r.payload 0 % 16, ret := if (u8 r.payload 1).testBit 7 then none else some (u8 r.payload 1 % 8), op := u8 r.payload 2,
          addr := u8 r.payload 3, mode := 0, lane := u8 r.payload 5, data := u8 r.payload 6, perDriver := [], kind := 0, req := some r,
          since := u.now }
      ({ u with ems := { u.ems with setups := u.ems.setups ++ [x] } }, rspAccepted)) ∧
  -- DRIVER_STATUS
  (∀ s r, Ready s 0x0704 r → 1 ≤ u16 r.payload 2 → u16 r.payload 2 ≤ 511 → u16 r.payload 0 + u16 r.payload 2 ≤ 16384 →
    Does (.driverStatus r) 0x0704 r s fun u =>
      (u, rspOk ((List.range (u16 r.payload 2)).flatMap (fun i => b8 (Map.at s.ems.drv 0 (u16 r.payload 0 + i)))))) ∧
  -- WINDOW_PRESHIFT: it ends at the edge of F_w, and does not begin before L - GUARD + 5 µs
  (∀ s corrected n w (f : Nat) codes, s.alive = true → s.isTile = true → s.ems.enabled = true → s.ems.hold = false → s.nextWindow = some (n, w, f, codes) →
    s.ems.pre ≠ some (n, w) → s.edgeOf f ≤ s.nowFine + cycleTime (emsTsh s.ems.cfg) →
    (s.shiftAllowed w f = true → exec (.windowPreshift corrected) s = .next ((({ s with ems := { s.ems with pre := some (n, w) } }).emits
      (unitShift s.ems.cfg codes ((unitsOf s.ems.cfg false).headD { word := 0, lit := 0, scale := 0 }).word)).bumpBy Reg.lppC3Corr corrected)) ∧
    (s.shiftAllowed w f = false → exec (.windowPreshift corrected) s = .next s)) ∧
  -- UNIT_SHOW: the first unit of a window, and a later one
  (∀ s corrected w u, s.alive = true → s.isTile = true → s.ems.enabled = true → s.ems.hold = false → s.ems.win = none → s.opensNow = some w →
    (s.planOf w).head? = some u → exec (.unitShow corrected) s = .next (s.showUnit w u)) ∧
  (∀ s corrected w u, s.alive = true → s.isTile = true → s.ems.enabled = true → s.ems.hold = false → s.ems.win = some w →
    (s.planOf w)[w.next]? = some u → w.edge u.show_ ≤ s.nowFine → w.open_ = (!u.dark && decide (0 < w.next)) →
    exec (.unitShow corrected) s = .next ((s.showUnit w u).bumpBy Reg.lppC3Corr (if w.next = 0 then 0 else corrected))) ∧
  -- DARK_LATCH inside a window, and at its last unit
  (∀ s w u v, s.alive = true → s.ems.enabled = true → s.ems.hold = false → s.ems.win = some w → w.open_ = true →
    (s.planOf w)[w.next - 1]? = some u → (s.planOf w)[w.next]? = some v → v.dark = true →
    w.edge u.stop ≤ s.nowFine →
    let t := (s.credit.emit (.latch (emsBanks s.ems.cfg) 3 (s.llatEdges (w.edge u.stop) w.phase))).applyCodes
    exec .darkLatch s = .next { t with ems := { t.ems with lit := none, win := some { w with open_ := false }, scale := v.u.scale } }) ∧
  (∀ s w u, s.alive = true → s.ems.enabled = true → s.ems.hold = false → s.ems.win = some w → w.open_ = true →
    (s.planOf w)[w.next - 1]? = some u → (s.planOf w)[w.next]? = none → w.edge u.stop ≤ s.nowFine →
    let t := (s.credit.emit (.latch (emsBanks s.ems.cfg) 3 (s.llatEdges (w.edge u.stop) w.phase))).applyCodes
    exec .darkLatch s = .next
      ((({ t with ems := { t.ems with lit := none, win := some { w with open_ := false }, scale := 0 } } : State)).endWindow w)) ∧
  -- FILL_START
  (∀ s corrected n l, s.alive = true → s.isTile = true → s.ems.enabled = true → s.ems.hold = false → s.ems.emits = true → emsFill s.ems.cfg = true →
    s.ems.fillDone = false → s.ems.win = none → s.windowsLeft = [] → s.ems.launch = some (n, l) →
    let c := s.ems.cfg
    let g := (s.ems.grid.1 + fillStart c, s.ems.grid.2)
    gridEdge g 0 ≤ s.nowFine + cycleTime (emsTsh c) →
    let codes := if s.ems.fillCut then none else s.regionCodes (s.ems.shows.getD (emsFillSlot c) none)
    exec (.fillStart corrected) s = .next ((({ s with ems := { s.ems with
      win := some { slot := emsFillSlot c, n := n, start := g.1, phase := g.2, fill := true, codes := codes } } }).emits
        (unitShift c codes ((unitsOf c true).headD { word := 0, lit := 0, scale := 0 }).word)).bumpBy Reg.lppC3Corr corrected)) ∧
  -- WINDOW_CUT by C3 of a window of a launch
  (∀ s w lane, s.alive = true → s.ems.enabled = true → s.ems.win = some w → w.fill = false → w.cut = false →
    let t := (s.credit.bump Reg.emsWinCut).raise 513 3 (w.n % 8192 + w.slot * 8192 + lane % 64 * 65536)
    exec (.windowCut false lane) s = .next
      (({ t with ems := { t.ems with win := some { w with cut := true }, lit := none } }).noteAborted w.n (2 ^ w.slot) 0x06 0)) ∧
  -- STATUS_COLLECTION
  (∀ s, s.alive = true → s.isTile = true → s.ems.enabled = true → emsStat s.ems.cfg ≠ 0 → s.ems.collectAt + rawMs (emsStat s.ems.cfg) ≤ s.now →
    let x : Setup :=
      { banks := emsBanks s.ems.cfg, ret := some (s.ems.k % 8), op := 0xA5, addr := 1, mode := 0, lane := 0, data := 1, kind := 1, since := s.now }
    exec .statusCollection s = .next { s with ems := { s.ems with setups := s.ems.setups ++ [x], collectAt := s.now } }) ∧
  -- SETUP_TRANSFER_RUN of a host's transfer while emission is disabled, with nothing selected to return
  (∀ s words x rest r, s.alive = true → s.isTile = true → s.ems.hold = false → s.ems.enabled = false → s.pwr.inert = false →
    s.ems.setups = x :: rest → x.kind = 0 → x.req = some r → (∀ b, s.ems.selected.getD b none = none) →
    let t := (s.emits ((lanesOf x.banks).map (fun l => .shift l (x.words (emsDpl s.ems.cfg) l)) ++ [.latch x.banks 8])).bump Reg.emsSetupDone
    exec (.setupTransferRun words) s = .next (({ t with ems := { t.ems with
      setups := rest, selected := (List.range 4).map (fun b => if x.banks.testBit b then x.ret else none), k := s.ems.k + 1 } }).complete r
        stOk)) ∧
  -- SETUP_TRANSFER_DROP
  (∀ s x rest r, s.alive = true → s.isTile = true → s.ems.enabled = true → s.ems.setups = x :: rest → x.since + rawSec 1 ≤ s.now →
    x.kind = 0 → x.req = some r → exec .setupTransferDrop s = .next
      (((({ s with ems := { s.ems with setups := rest } }).bump Reg.emsSetupDefer).raise 516 2 (s.ems.k % 8 * 256)).complete r stWrongState))

/-- Calibration and output currents: each row completes with its effect. -/
def Obligations.CalibrationCommandsComplete : Prop :=
  -- CAL_RUN: a stored-data target, a bank or output, a lane latency, a port delay
  (∀ s r, Ready s 0x0A00 r → s.cal.run = none → u8 r.payload 0 = 0x40 →
    Does (.calRun r) 0x0A00 r s fun u =>
      ({ u with cal := { u.cal with run := some { req := r, target := 0x40, set := u8 r.payload 1 % 4, out := 0 } } }, rspAccepted)) ∧
  (∀ s r, Ready s 0x0A00 r → s.cal.run = none → u8 r.payload 0 < 0x14 → s.isLead = false → u8 r.payload 1 ≤ 3 →
    (s.ems.enabled = true → emsNcw s.ems.cfg = 0) →
    Does (.calRun r) 0x0A00 r s fun u => ({ u with cal := { u.cal with
      run := some { req := r, target := u8 r.payload 0, set := u8 r.payload 1 % 4,
                    out := if u8 r.payload 0 < 0x10 then u8 r.payload 0 else 4 * (u8 r.payload 0 - 0x10) } } }, rspAccepted)) ∧
  (∀ s r, Ready s 0x0A00 r → s.cal.run = none → 0x20 ≤ u8 r.payload 0 → u8 r.payload 0 ≤ 0x23 → s.isLead = false →
    s.lclkRuns (u8 r.payload 0 - 0x20) = true →
    Does (.calRun r) 0x0A00 r s fun u => ({ u with cal := { u.cal with
      run := some { req := r, target := u8 r.payload 0, set := u8 r.payload 1 % 4, out := 0 } } }, rspAccepted)) ∧
  (∀ s r, Ready s 0x0A00 r → s.cal.run = none → 0x30 ≤ u8 r.payload 0 → u8 r.payload 0 ≤ 0x37 → s.portPresent (u8 r.payload 0 - 0x30) = true →
    s.portState (u8 r.payload 0 - 0x30) ≠ .up → s.portState (u8 r.payload 0 - 0x30) ≠ .open_ → s.portState (u8 r.payload 0 - 0x30) ≠ .active →
    Does (.calRun r) 0x0A00 r s fun u => ({ u with cal := { u.cal with
      run := some { req := r, target := u8 r.payload 0, set := u8 r.payload 1 % 4, out := 0 } } }, rspAccepted)) ∧
  -- SPARE_HANDOVER releases the pin of an output that is measured no longer
  (∀ s n, s.alive = true → s.isTile = true → s.ems.enabled = true → s.ems.lit = none → s.ems.scale = 0 → s.nextShow = none →
    s.cal.spare = some n → s.cal.run = none → exec .spareHandover s = .next { s with cal := { s.cal with spare := none } }) ∧
  (∀ s q, s.alive = true → s.isTile = true → s.ems.enabled = true → s.ems.lit = none → s.ems.scale = 0 → s.nextShow = none →
    s.cal.spare = none → s.cal.run = some q → q.target < 0x14 → q.abort = false →
    exec .spareHandover s = .next { s with cal := { s.cal with spare := some q.out } }) ∧
  -- CAL_RUN_COMPLETE: rejected; accepted as the only or last output
  (∀ s q c a b pa pb ta tb, s.alive = true → s.cal.run = some q → s.ems.enabled = false →
    s.runFault q { spareA := a, spareB := b, a := pa, b := pb, tA := ta, tB := tb } = some c →
    exec (.calRunComplete a b pa pb ta tb) s = .next
      ((({ s with cal := { s.cal with spare := none, run := none, last := (q.target, q.set, c % 256, pa, pb), lastDetail := c } }).raise 705 2
        (q.target + q.set * 256 + c * 65536)).complete q.req stWrongState)) ∧
  (∀ s q a b pa pb ta tb, s.alive = true → s.cal.run = some q → s.ems.enabled = false →
    s.runFault q { spareA := a, spareB := b, a := pa, b := pb, tA := ta, tB := tb } = none →
    ¬(0x10 ≤ q.target ∧ q.target < 0x14 ∧ q.out % 4 < 3) →
    let u := ({ s with cal := { s.cal with spare := none } }).acceptRun q { spareA := a, spareB := b, a := pa, b := pb, tA := ta, tB := tb }
    exec (.calRunComplete a b pa pb ta tb) s = .next
      (({ u with cal := { u.cal with run := none, last := (q.target, q.set, 0, pa, pb), lastDetail := 0 } }).complete q.req stOk)) ∧
  -- CAL_TRIM_LOAD: a gain set, the lane latencies, a port's delays
  (∀ s r, Ready s 0x0A01 r → u8 r.payload 0 = 0 → s.isLead = false → u8 r.payload 1 ≤ 3 → u8 r.payload 2 ≤ 3 →
    -640 ≤ signed 16 (u16 r.payload 4) → signed 16 (u16 r.payload 4) ≤ 2000 →
    nearOther (s.takeReq 0x0A01 r).viewAll.cal.sets (u8 r.payload 1) (u8 r.payload 2) (signed 16 (u16 r.payload 4)) = false → s.cal.run = none →
    Does (.calTrimLoad r) 0x0A01 r s fun u => (u.calChange true (.irefSet (4 * u8 r.payload 1 + u8 r.payload 2)
      { t := signed 16 (u16 r.payload 4), valid := u8 r.payload 3 % 16,
        g := (List.range 4).map (fun c => signed 16 (u16 r.payload (6 + 2 * c))) }), rspOk)) ∧
  (∀ s r, Ready s 0x0A01 r → u8 r.payload 0 = 1 → s.isLead = false →
    Does (.calTrimLoad r) 0x0A01 r s fun u => (u.calChange false (.trim 1 Reg.calLlat
      (BitVec.ofNat 32 ((List.range 4).map (fun b => u8 r.payload (4 + b) * 2 ^ (8 * b))).sum)), rspOk)) ∧
  (∀ s r, Ready s 0x0A01 r → u8 r.payload 0 = 2 → s.portPresent (u8 r.payload 1) = true →
    Does (.calTrimLoad r) 0x0A01 r s fun u =>
      (u.calChange false (.trim 2 (Reg.calPortDly + 4 * u8 r.payload 1) (BitVec.ofNat 32 (u32 r.payload 4))), rspOk)) ∧
  -- CAL_STATUS
  (∀ s r, Ready s 0x0A02 r → Answers (.calStatus r) 0x0A02 r s fun u a =>
    Keeps [.admitted] [] s u ∧ a.status = stOk ∧ u32 a.data 0 = s.calStatus % 2 ^ 32 ∧ u8 a.data 4 = s.cal.last.1 % 256) ∧
  -- REF_IN_COMPARE within 2 %, and beyond it
  (∀ s diff, s.alive = true → s.bit Reg.calCfg 0 = true → s.cal.refAt + rawMs 100 ≤ s.now →
    (diff.natAbs ≤ 200 → exec (.refInCompare diff) s = .next { s with cal := { s.cal with refAt := s.now, refOk := true } }) ∧
    (200 < diff.natAbs → exec (.refInCompare diff) s = .next
      (({ s with cal := { s.cal with refAt := s.now, refOk := false } }).raise 708 3 (sat16 diff)))) ∧
  -- REF_SEL_WRITE: REF_SEL changes and every gain set is dropped; TOL alone; refused while emission is enabled; a TOL out of its range stays
  (∀ s (data : Word), s.alive = true → 5 ≤ bitsOf data.toNat 15 8 → bitsOf data.toNat 15 8 ≤ 100 →
    let w : Word := BitVec.ofNat 32 (bitsOf data.toNat 15 8 * 256 + bn (data.toNat.testBit 0))
    let t := s.setReg Reg.calCfg w
    (data.toNat.testBit 0 = s.bit Reg.calCfg 0 → exec (.refSelWrite data) s = .next t) ∧
    (data.toNat.testBit 0 ≠ s.bit Reg.calCfg 0 → s.ems.enabled = false → exec (.refSelWrite data) s = .next
      { t with cal := { t.cal with sets := t.cal.sets.map (fun (x : CalSet) => { x with valid := 0 }), refOk := false, refAt := s.now } }) ∧
    (data.toNat.testBit 0 ≠ s.bit Reg.calCfg 0 → s.ems.enabled = true → exec (.refSelWrite data) s = .next (s.raise 25 1 Reg.calCfg))) ∧
  (∀ s (data : Word), s.alive = true → bitsOf data.toNat 15 8 < 5 ∨ 100 < bitsOf data.toNat 15 8 → data.toNat.testBit 0 = s.bit Reg.calCfg 0 →
    exec (.refSelWrite data) s = .next
      ((s.setReg Reg.calCfg (BitVec.ofNat 32 (s.fld Reg.calCfg 15 8 * 256 + bn (data.toNat.testBit 0)))).raise 25 1 Reg.calCfg)) ∧
  -- IREF_TARGET_WRITE
  (∀ s n data, s.alive = true → s.isTile = true → n < 16 →
    exec (.irefTargetWrite n data) s = .next (s.calChange true (.trim 3 (Reg.calIrefTgt + 4 * n) (data &&& 0xFFFF#32)))) ∧
  -- IREF_CODE_UPDATE while idle
  (∀ s, s.alive = true → s.isTile = true → s.calIdle = true → s.cal.updAt + rawMs 100 ≤ s.now →
    exec .irefCodeUpdate s = .next s.sampleCodes.applyCodes)

/-- The memory controller: each row completes with its effect. -/
def Obligations.MemoryCommandsComplete : Prop :=
  -- MEM_CONFIG: the channels train and the reply waits; during a training it waits itself
  (∀ s r, Ready s 0x0800 r → s.mem.enabled = false → s.mem.training = none → s.memConfigBad r.payload = none →
    s.memForced (memNch r.payload) = false →
    (memKeepFlag r.payload = true → bitsOf (s.reg Reg.memKeep).toNat 3 0 &&& chanMask (memNch r.payload) = chanMask (memNch r.payload) ∧
      bitsOf (s.reg Reg.memKeep).toNat 31 16 = memSig r.payload) →
    Holds (.memConfig r) 0x0800 r s fun u => { u with mem := { u.mem with
      cfg := r.payload, training := some (r, none),
      chans := (List.range 4).map (fun n => if n < memNch r.payload then { u.chan n with st := .init } else {}) } }) ∧
  (∀ s r x, Ready s 0x0800 r → s.mem.enabled = false → s.mem.training = some x →
    Holds (.memConfig r) 0x0800 r s fun u => { u with mem := { u.mem with waiting := u.mem.waiting ++ [(0x0800, r)] } }) ∧
  -- MEM_TRAINING_COMPLETE: every channel runs, memory is cleared without KEEP and kept with it, EV_576, with KEEP EV_585, and the waiting requests go on
  (∀ s r, s.alive = true → s.mem.training = some (r, none) →
    let t := ({ s with mem := { s.mem with training := none } } : State).resumeWaiting
    let go (m : MemS) : State := (((List.range (memNch s.mem.cfg)).foldl State.runChan { t with mem := m }).setReg Reg.memKeep 0).raise 576 0
      (chanMask (memNch s.mem.cfg))
    (memKeepFlag s.mem.cfg = false →
      let u := go { t.mem with enabled := true, dram := [], bad := [] }
      exec (.memTrainingComplete none) s = .next (u.answer u 0x0800 r rspOk)) ∧
    (memKeepFlag s.mem.cfg = true →
      let u := (go { t.mem with enabled := true }).raise 585 0 (chanMask (memNch s.mem.cfg) + 256)
      exec (.memTrainingComplete none) s = .next (u.answer u 0x0800 r rspOk)) ∧
    (∀ n lane, n < memNch s.mem.cfg → lane < 256 →
      let off := ({ t with mem := { t.mem with chans := [{}, {}, {}, {}] } }).setReg Reg.memKeep 0
      let u := (off.holdChan n false).raise 577 3 (n + lane * 256)
      exec (.memTrainingComplete (some (n, lane))) s = .next (u.answer u 0x0800 r (rspErr stHwFault 0x0B)))) ∧
  (∀ s r n, s.alive = true → s.mem.training = some (r, some n) →
    let t := ({ s with mem := { s.mem with training := none } } : State).resumeWaiting
    let u := (t.runChan n).raise 576 0 (2 ^ n + 256)
    exec (.memTrainingComplete none) s = .next (u.answer u 0x0802 r rspOk) ∧
    ∀ f, exec (.memTrainingComplete (some f)) s = .next (t.answer t 0x0802 r (rspErr stHwFault 0x0B))) ∧
  -- MEM_STATUS
  (∀ s r, Ready s 0x0801 r → Answers (.memStatus r) 0x0801 r s fun u a =>
    Keeps [.admitted] [] s u ∧ a.status = stOk ∧ (s.mem.enabled = false → a.data = zeros 208)) ∧
  -- MEM_RELEASE of a channel in HOLD: it trains again
  (∀ s r, Ready s 0x0802 r → u8 r.payload 0 < 4 → (s.chan (u8 r.payload 0)).st = .hold →
    (s.mem.enabled = false → Does (.memRelease r) 0x0802 r s fun u => (u.setChan (u8 r.payload 0) {}, rspOk)) ∧
    (s.mem.enabled = true → s.mem.training = none →
      Holds (.memRelease r) 0x0802 r s fun u => { u with mem := { u.mem with training := some (r, some (u8 r.payload 0)) } })) ∧
  -- SCRUB_CONFIG
  (∀ s r, Ready s 0x0803 r → u8 r.payload 0 ≤ 48 →
    Does (.scrubConfig r) 0x0803 r s fun u => (u.setReg Reg.memScrub (BitVec.ofNat 32 (u8 r.payload 0)), rspOk)) ∧
  -- DRAM_REQUEST_ISSUE: in RUN the best candidate is issued; in HOLD writes are dropped; outside installed DRAM it faults
  (∀ s ch arrived, s.alive = true → ch < 4 → s.mem.enabled = true → (∀ r ∈ arrived, r.addr + 64 ≤ s.installed) →
    let mine := arrived.filter (fun r => s.hasClient r.client && s.chanOf r.addr == ch && r.addr % 64 == 0)
    let t := s.arrive ch mine
    ((s.chan ch).st = .run → (∀ q, bestQueued (t.chan ch).candidates = some q →
      exec (.dramRequestIssue ch arrived) s = .next ((t.issue ch q).payRefresh ch)) ∧
      (bestQueued (t.chan ch).candidates = none → exec (.dramRequestIssue ch arrived) s = .next t)) ∧
    ((s.chan ch).st = .hold → exec (.dramRequestIssue ch arrived) s = .next ((mine.filter (·.write)).foldl (fun t _ => t.dropWrite ch) s))) ∧
  (∀ s ch r, s.alive = true → ch < 4 → s.mem.enabled = true → s.installed < r.addr + 64 →
    exec (.dramRequestIssue ch [r]) s = .fault (.dramAddress r.addr)) ∧
  -- REQUEST_PROMOTION
  (∀ s ch, s.alive = true → ch < 4 →
    let c := s.chan ch
    let old (q : Queued) : Bool := q.promoted.isNone && decide (q.entry + s.ageLimit (reqClass q.req) < s.now)
    let up (q : Queued) : Queued := if old q then { q with promoted := some s.now } else q
    exec (.requestPromotion ch) s = .next ((s.setChan ch { c with reads := c.reads.map up, writes := c.writes.map up }).bumpBy
      (memReg Reg.memPromo ch) ((c.reads ++ c.writes).filter old).length)) ∧
  -- DRAM_READ_COMPLETE without a corrected word, and with one: the burst is written back in class 2
  (∀ s ch words r rest, s.alive = true → ch < 4 → (s.chan ch).flight = r :: rest →
    let ws := (words ++ List.replicate 8 0).take 8
    1 ∉ ws → exec (.dramReadComplete ch words) s = .next ((s.setChan ch { s.chan ch with flight := rest }).checkWords ch r 0 ws)) ∧
  (∀ s ch words r rest, s.alive = true → ch < 4 → (s.chan ch).flight = r :: rest →
    let ws := (words ++ List.replicate 8 0).take 8
    let t := (s.setChan ch { s.chan ch with flight := rest }).checkWords ch r 0 ws
    1 ∈ ws → (∀ i, i < 8 → r.addr / 8 + i ∉ t.mem.bad) → (∀ w ∈ (t.chan ch).writes, w.req.addr ≠ r.addr) → (t.chan ch).writes.length < 64 →
    exec (.dramReadComplete ch words) s = .next (t.enqueue ch
      [{ addr := r.addr, client := .scrub, write := true, data := (List.range 64).map (fun i => t.memByte (r.addr + i)) }])) ∧
  -- REFRESH_DUE: issued, postponed, forced
  (∀ s ch rank, s.alive = true → ch < 4 → rank < memRanks s.mem.cfg → (s.chan ch).st = .run → (s.chan ch).refAt.getD rank 0 ≤ s.now →
    let c := s.chan ch
    let at_ := c.refAt.set rank (c.refAt.getD rank 0 + s.trefi)
    (c.q0 = 0 → exec (.refreshDue ch rank) s = .next (s.setChan ch { c with refAt := at_, debt := c.debt.map (fun _ => 0) })) ∧
    (c.q0 ≠ 0 → c.debt.getD rank 0 < 8 → exec (.refreshDue ch rank) s = .next
      (s.setChan ch { c with refAt := at_, debt := c.debt.set rank (c.debt.getD rank 0 + 1) })) ∧
    (c.q0 ≠ 0 → 8 ≤ c.debt.getD rank 0 → exec (.refreshDue ch rank) s = .next
      (((s.setChan ch { c with refAt := at_, debt := c.debt.set rank 0 }).bump (memReg Reg.memRefForced ch)).raise 583 1 (ch + rank * 4)))) ∧
  -- RETRAIN_DUE, RETRAIN_WINDOW, RETRAIN_FORCED
  (∀ s ch, s.alive = true → ch < 4 → (s.chan ch).st = .run → (s.chan ch).trainDue = none → (s.chan ch).trainedAt + rawMs 100 ≤ s.now →
    exec (.retrainDue ch) s = .next (s.setChan ch
      { s.chan ch with trainDue := some s.now, trainedAt := (s.chan ch).trainedAt + rawMs 100 })) ∧
  (∀ s ch, s.alive = true → ch < 4 → (s.chan ch).st = .run → (s.chan ch).trainDue.isSome = true → (s.chan ch).q0 = 0 →
    s.backlog ch < s.fld Reg.memRetrain 15 0 →
    let t := (s.setChan ch { s.chan ch with trainDue := none }).bump (memReg Reg.memRetrained ch)
    exec (.retrainWindow ch none) s = .next t ∧
    ∀ l, l < 256 → exec (.retrainWindow ch (some l)) s = .next (t.raise 582 2 (ch + 256 + l * 65536))) ∧
  (∀ s ch badLane d, s.alive = true → ch < 4 → (s.chan ch).st = .run → (s.chan ch).flight = [] → (s.chan ch).trainDue = some d →
    d + rawSec 1 ≤ s.now →
    exec (.retrainForced ch badLane) s = .next (((s.bump (memReg Reg.memRetrainForced ch)).raise 582 2 ch).retrain ch badLane)) ∧
  -- POWER_DOWN_ENTRY
  (∀ s ch rank, s.alive = true → ch < 4 → rank < memRanks s.mem.cfg → (s.chan ch).st = .run → s.fld Reg.memCfg 15 0 ≠ 0 →
    (∀ q ∈ (s.chan ch).reads ++ (s.chan ch).writes, s.rankOf q.req.addr ≠ rank) → rank ∉ (s.chan ch).pd →
    (s.chan ch).lastReq.getD rank 0 + roundDivN (s.fld Reg.memCfg 15 0 * 5 * 65536) 4000 ≤ s.now →
    exec (.powerDownEntry ch rank) s = .next (s.setChan ch { s.chan ch with pd := rank :: (s.chan ch).pd })) ∧
  -- CA_PARITY_ALERT: a replay; the fourth in an episode, and the first of stacked devices, stop the channel
  (∀ s ch, s.alive = true → ch < 4 → (s.chan ch).st = .run →
    let c := s.chan ch
    let k := if c.since < 32 then c.alerts + 1 else 1
    (memStack s.mem.cfg = 1 → k < 4 → exec (.caParityAlert ch) s = .next
      (((s.setChan ch { c with alerts := k, since := 0 }).bump (memReg Reg.memReplay ch)).raise 580 2 (ch + k * 16))) ∧
    (memStack s.mem.cfg = 1 → 4 ≤ k → exec (.caParityAlert ch) s = .next ((s.setChan ch { c with alerts := k }).holdChan ch false)) ∧
    (memStack s.mem.cfg ≠ 1 → exec (.caParityAlert ch) s = .next (s.holdChan ch true))) ∧
  -- SCRUB_READ inside a pass, and at its end
  (∀ s ch, s.alive = true → ch < 4 → s.mem.enabled = true → (s.chan ch).st = .run → s.fld Reg.memScrub 5 0 ≠ 0 → (s.chan ch).reads.length < 64 →
    (s.chan ch).scrubAt ≤ s.now →
    let t := s.enterQueue ch { addr := s.globalAddr ch (s.chan ch).scrub, client := .scrub, write := false }
    let nxt := (s.chan ch).scrub + 64
    (nxt < chanBytes s.mem.cfg → exec (.scrubRead ch) s = .next (t.setChan ch { t.chan ch with scrub := nxt, scrubAt := s.now + s.scrubStep })) ∧
    (chanBytes s.mem.cfg ≤ nxt → exec (.scrubRead ch) s = .next
      (((t.setChan ch { t.chan ch with scrub := 0, scrubAt := s.now + s.scrubStep }).bump (memReg Reg.memScrubPass ch)).raise 586 0 ch)))

/-- Lead pairs: each row completes with its effect. -/
def Obligations.PairCommandsComplete : Prop :=
  -- PAIR_CONFIG: the lead enters Standby, or claims
  (∀ s r, Ready s 0x0900 r → u8 r.payload 0 = s.partnerNum → s.topoLocked = true → s.paired = true → s.pai.state = .solo →
    let lease := if u8 r.payload 2 = 0 then 2 else u8 r.payload 2
    let guard_ := if u8 r.payload 3 = 0 then 4 else u8 r.payload 3
    let ring := u8 r.payload 4 % 16
    2 ≤ lease → lease ≤ 16 → guard_ ≤ 4 → ring ≠ 0 →
    (u8 r.payload 1 = 1 → Does (.pairConfig r) 0x0900 r s fun u =>
      let t := u.setReg Reg.paiLeaseCfg (BitVec.ofNat 32 (lease * 65536 + guard_ * 256 + ring))
      (({ t with pai := { t.pai with partner := 7 } }).enterStandby, rspOk)) ∧
    (u8 r.payload 1 = 2 → Does (.pairConfig r) 0x0900 r s fun u =>
      let t := u.setReg Reg.paiLeaseCfg (BitVec.ofNat 32 (lease * 65536 + guard_ * 256 + ring))
      let t := ({ t with pai := { t.pai with partner := 7 } }).setPair .takeover
      ({ t with pai := { t.pai with claimEnd := t.now + (t.leaseLen + (t.leaseGuard + 3) / 4 + 1) * t.leaseUnit, claimAt := none } }, rspOk))) ∧
  -- PAIR_STATUS
  (∀ s r, Ready s 0x0901 r → Does (.pairStatus r) 0x0901 r s fun u =>
    (u, rspOk (b4 s.paiStatus ++ b4 s.leaseLeft ++ b4 s.pai.bseq ++ b4 s.mseqShown ++ b4 s.pai.mseqAck ++
      (List.range 5).flatMap (fun k => b4 (s.reg (Reg.paiRenewMiss + 4 * k)).toNat)))) ∧
  -- PAIR_HANDOVER
  (∀ s r h, Ready s 0x0902 r → timeAt r.payload 0 = some h → s.pai.state = .active → s.pai.handover = none →
    Does (.pairHandover r) 0x0902 r s fun u => ({ u with pai := { u.pai with handover := some (r, h) } }, rspAccepted)) ∧
  -- STATE_SAVE and its completion: the record commits where it fits half the state area, else the record before it stands
  (∀ s r, Ready s 0x0903 r → s.pai.save = none →
    Does (.stateSave r) 0x0903 r s fun u => ({ u with pai := { u.pai with save := some r } }, rspAccepted)) ∧
  (∀ s r, s.alive = true → s.coreFaulted 0 = false → s.pai.save = some r →
    (s.pwr.flashBad = false → exec .stateSaveComplete s = .next
      (if recordFits s.savedItems then (({ s with pai := { s.pai with save := none } }).putRecord (.state s.savedItems) true).complete r stOk
        else ({ s with pai := { s.pai with save := none } }).complete r stWrongState)) ∧
    (s.pwr.flashBad = true → exec .stateSaveComplete s = .next
      ((({ s with pai := { s.pai with save := none } }).spoil (.state s.savedItems)).complete r stHwFault))) ∧
  -- STATE_RESTORE and its completion: without a record, into a Solo lead, and into a Standby's mirror, which waits for the Active lead's baseline
  (∀ s r, Ready s 0x0904 r → s.pai.state = .solo ∨ s.pai.state = .standby → s.pai.restore = none →
    Does (.stateRestore r) 0x0904 r s fun u => ({ u with pai := { u.pai with restore := some r } }, rspAccepted)) ∧
  (∀ s r, s.alive = true → s.coreFaulted 0 = false → s.pai.restore = some r → s.savedState = none →
    exec .stateRestoreComplete s = .next (({ s with pai := { s.pai with restore := none } }).complete r stWrongState)) ∧
  (∀ s r l, s.alive = true → s.coreFaulted 0 = false → s.pai.restore = some r → s.savedState = some l → s.pai.state ≠ .standby →
    let t := l.foldl State.applyRest ((liveOrder l).foldl State.applyLive { s with pai := { s.pai with restore := none } })
    exec .stateRestoreComplete s = .next (({ t with pai := { t.pai with tails := s.pai.tails } }).complete r stOk)) ∧
  (∀ s r l, s.alive = true → s.coreFaulted 0 = false → s.pai.restore = some r → s.savedState = some l → s.pai.state = .standby →
    let t := (liveOrder l).foldl State.applyLive { s with pai := { s.pai with restore := none } }
    exec .stateRestoreComplete s = .next
      (({ t with pai := { t.pai with mirror := l, begun := false, baseline := false } }).watchMirror.complete r stOk)) ∧
  -- CLAIM_SEND and the end of the claim window
  (∀ s, s.alive = true → s.isLead = true → s.pai.state = .takeover → s.now < s.pai.claimEnd → (∀ a, s.pai.claimAt = some a → a + s.leaseUnit ≤ s.now) →
    exec .claimSend s = .next (({ s with pai := { s.pai with bseq := (s.pai.bseq + 1) % 2 ^ 32, claimAt := some s.now } }).sendBeat 3
      ((s.pai.bseq + 1) % 2 ^ 32) 0 0 0 0 false)) ∧
  (∀ s, s.alive = true → s.isLead = true → s.pai.state = .takeover → s.pai.claimEnd ≤ s.now →
    exec .claimWindowEnd s = .next s.enterActive.unbindCheck) ∧
  -- CLAIM_RECEIVED: an odd claimant yields, an even one does not, a Standby answers
  (∀ s m, s.beatFrom m 3 = true →
    let t := (s.takeMsgRow m).notePartner 1
    (s.pai.state = .takeover → s.leadNum % 2 = 1 → exec (.claimReceived m) s = .next (t.yieldClaim.sendAck m)) ∧
    (s.pai.state = .takeover → s.leadNum % 2 = 0 → exec (.claimReceived m) s = .next t) ∧
    (s.pai.state = .standby → exec (.claimReceived m) s = .next (t.sendAck m))) ∧
  -- RENEW_SEND: the RENEW before it acknowledged, and not
  (∀ s, s.alive = true → s.isLead = true → s.pai.state = .active → s.renewDue = true →
    let b := (s.pai.bseq + 1) % 2 ^ 32
    let go (t : State) : State := ({ t with pai := { t.pai with
      bseq := b, renewAt := some s.now, renewAcked := false, renews := (b, s.now) :: t.pai.renews.take 63 } }).sendBeat 1 b 0 s.pai.mseqSent
        s.lastAnnounced.1 s.lastAnnounced.2 false
    (s.pai.renewAcked = true → exec .renewSend s = .next (go s)) ∧
    (s.pai.renewAcked = false → exec .renewSend s = .next (go ((({ s with pai := { s.pai with missed := s.pai.missed + 1 } }).bump
      Reg.paiRenewMiss).raise 769 2 (s.pai.bseq % 2 ^ 23 * 512))))) ∧
  -- RENEW_RECEIVED
  (∀ s m, s.beatFrom m 1 = true →
    let t := (s.takeMsgRow m).notePartner 2
    (s.pai.state = .takeover → exec (.renewReceived m) s = .next (t.yieldClaim.takeRenew m)) ∧
    (s.pai.state = .standby → exec (.renewReceived m) s = .next (t.takeRenew m))) ∧
  -- ACK_RECEIVED of the latest RENEW: the lead is bound and counts from when it sent that RENEW
  (∀ s m a, s.beatFrom m 2 = true → s.pai.state = .active → s.pai.renews.find? (fun x => x.1 == u32 m.body 8) = some (u32 m.body 8, a) →
    u32 m.body 16 = s.pai.mseqAck → s.pai.tHold = none → s.pai.handover = none →
    let t := (s.takeMsgRow m).notePartner 3
    s.pai.relay = 0 → exec (.ackReceived m) s = .next (({ t with pai := { t.pai with
      bound := true, tHold := some a, renewAcked := s.pai.renewAcked || u32 m.body 8 == s.pai.bseq, missed := 0 } }).unbindCheck)) ∧
  -- LEASE_LAPSE
  (∀ s, s.alive = true → s.isLead = true → s.pai.state = .active → s.leaseOver = true →
    exec .leaseLapse s = .next ((((s.leaveActive.setPair .lapsed).goInert).bump Reg.paiLapses).raise 770 4 (min 255 s.pai.missed))) ∧
  -- TAKEOVER_ATTEMPT on a ring that answers nothing, not armed: EV_772 once
  (∀ s, s.alive = true → s.isLead = true → s.pai.state = .standby → s.pwr.inert = false → (∃ x, s.expiry = some x ∧ x ≤ s.now) →
    s.pai.lastTry = none → s.isArmed 0x0901 = false → (∀ c ∈ s.ringChains, s.portState c ≠ .open_) →
    let t := { s with pai := { s.pai with ringSeen := 0, lastTry := some s.now } }
    exec (.takeoverAttempt []) s = .next (if s.pai.told then t else ({ t with pai := { t.pai with told := true } }).raise 772 3 1)) ∧
  -- and an attempt that takes the token
  (∀ s, s.alive = true → s.isLead = true → s.pai.state = .standby → s.pwr.inert = false → (∃ x, s.expiry = some x ∧ x ≤ s.now) →
    s.pai.lastTry = none → s.isArmed 0x0901 = true → s.mirrorCur = true → s.ringChains = [] →
    exec (.takeoverAttempt []) s = .next (({ s with pai := { s.pai with ringSeen := 0, lastTry := some s.now } }).takeToken false)) ∧
  -- HANDOVER_START, HANDOVER_ACK_TIMEOUT, HANDOVER_RECEIVED
  (∀ s r (h : Nat), s.alive = true → s.pai.handover = some (r, h) → s.pai.flushing = none → (h : Int) ≤ s.derivedNow →
    (s.pai.state = .active → s.pai.partner = 3 → s.pai.bound = true →
      exec .handoverStart s = .next ({ s with pai := { s.pai with flushing := some s.now } }).sendDelta) ∧
    (s.pai.partner ≠ 3 → exec .handoverStart s = .next
      (({ s with pai := { s.pai with handover := none, flushing := none } }).complete r stWrongState))) ∧
  (∀ s r h a, s.alive = true → s.pai.handover = some (r, h) → s.pai.flushing = some a → a + s.leaseTime ≤ s.now →
    exec .handoverAckTimeout s = .next (({ s with pai := { s.pai with handover := none, flushing := none } }).complete r stWrongState)) ∧
  (∀ s m l, s.beatFrom m 6 = true → s.pai.state = .standby → timeAt m.body 24 = some l →
    let t := s.takeMsgRow m
    exec (.handoverReceived m) s = .next (({ t with pai := { t.pai with lastN := u32 m.body 20, lastL := l } }).takeToken true)) ∧
  -- TAKE_RECEIVED: a tile takes the new epoch and its relay map, or discards it
  (∀ s m, s.alive = true → s.isLead = false →
    let t := s.takeMsgRow m
    let e := u32 m.body 4
    (u8 m.body 1 = 4 → s.fromPair m = true → u32 m.body 12 = s.leadEpoch → e ≠ 0 → e ≠ s.leadEpoch →
      let u := (t.setReg Reg.glbTopoEpoch (BitVec.ofNat 32 e)).applyRmap m
      exec (.takeReceived m) s = .next (u.raise 778 1 (u.ev778 true))) ∧
    (s.fromPair m = false → exec (.takeReceived m) s = .next (t.raise 70 2 (ev70 m)))) ∧
  -- RMAP_RECEIVED
  (∀ s m, s.alive = true → s.isTile = true →
    let t := s.takeMsgRow m
    (u8 m.body 1 = 5 → s.fromPair m = true → u32 m.body 4 = s.leadEpoch → m.relay = true → m.port = s.downPort →
      let u := t.applyRmap m
      exec (.rmapReceived m) s = .next (if u.relayRx = s.relayRx then u else u.raise 778 1 (u.ev778 false))) ∧
    (m.relay = false → exec (.rmapReceived m) s = .next (t.raise 70 2 (ev70 m)))) ∧
  -- MIRROR_DELTA_SEND
  (∀ s, s.alive = true → s.isLead = true → s.pai.state = .active → s.portState 6 = .active →
    (∀ a, s.pai.deltaAt = some a → a + s.leaseUnit ≤ s.now) → exec .mirrorDeltaSend s = .next s.sendDelta) ∧
  -- MIRROR_DELTA_APPLY of the next delta, and of one out of order
  (∀ s d, s.alive = true → s.isLead = true → s.pai.state = .standby → d.first = false →
    (s.pai.begun = true → d.mseq = (s.pai.mseqAck + 1) % 2 ^ 32 →
      let t := (liveOrder d.items).foldl State.applyLive s.takeMirr
      exec (.mirrorDeltaApply d) s = .next ({ t with pai := { t.pai with
        mirror := mergeItems s.pai.mirror d.items, begun := true, mseqAck := d.mseq, baseline := s.pai.baseline || d.last } }).watchMirror) ∧
    (d.mseq ≠ (s.pai.mseqAck + 1) % 2 ^ 32 → exec (.mirrorDeltaApply d) s = .next s.takeMirr)) ∧
  -- MIRROR_STALE
  (∀ s a, s.alive = true → s.isLead = true → s.pai.mirrorStale = false → s.pai.state = .standby → s.pai.behind = some a → a + s.leaseTime ≤ s.now →
    exec .mirrorStale s = .next (({ s with pai := { s.pai with mirrorStale := true } }).raise 773 2 0)) ∧
  (∀ s, s.alive = true → s.isLead = true → s.pai.mirrorStale = false → s.pai.state = .active → s.pai.ackAt + s.leaseTime ≤ s.now →
    exec .mirrorStale s = .next ((({ s with pai := { s.pai with mirrorStale := true } }).raise 773 2 2).release (fun _ => true)))

/-- The metrology island's own rows: each completes with its effect while the island runs, and stands still while it does not. -/
def Obligations.IslandRowsComplete : Prop :=
  -- INTEGRATION_BOUNDARY: one second is added; the period closes and waiting parameters take effect only when they must
  (∀ s xs n, s.met.run = true →
    let m := s.met.accumulate xs
    (s.met.meter.mono + 1 < s.met.perStart + s.met.par.perLen → s.met.params = [] →
      exec (.integrationBoundary xs n) s = .next { s with met := (m.stepCal n).snapshot }) ∧
    (s.met.perStart + s.met.par.perLen ≤ s.met.meter.mono + 1 → s.met.params = [] →
      exec (.integrationBoundary xs n) s = .next { s with met := (m.closePeriod.stepCal n).snapshot }) ∧
    (∀ x, s.met.params = [x] → s.met.sealPin = false →
      exec (.integrationBoundary xs n) s = .next { s with met := (((({ m.closePeriod with params := [] }).applyParams x)).stepCal n).snapshot }) ∧
    (∀ x, s.met.params = [x] → s.met.sealPin = true → s.met.meter.mono + 1 < s.met.perStart + s.met.par.perLen →
      exec (.integrationBoundary xs n) s = .next { s with met := (({ m with
        params := [], rsp := (stNotAuthorized, 0x0B15), rspSeq := x.1, dropped := m.dropped + 1 }).stepCal n).snapshot })) ∧
  (∀ s xs n, s.met.run = false → exec (.integrationBoundary xs n) s = .next s) ∧
  -- SELF_CALIBRATION_START: the first channel whose offset in the cycle has come
  (∀ s n ch, s.met.run = true → s.met.cal = none → ch < 4 → s.met.meter.mono % s.met.par.calInt = ch * s.met.par.calInt / 4 →
    (∀ k < ch, s.met.meter.mono % s.met.par.calInt ≠ k * s.met.par.calInt / 4) →
    exec (.selfCalibrationStart n) s = .next { s with met := { s.met with cal := some { ch := ch, spare := n } } }) ∧
  (∀ s n, s.met.run = false ∨ s.met.cal.isSome = true → exec (.selfCalibrationStart n) s = .next s) ∧
  -- CHECKPOINT
  (∀ s, s.met.run = true → s.met.saved.mono + 900 ≤ s.met.meter.mono → exec .checkpoint s = .next { s with met := { s.met with saved := s.met.meter } }) ∧
  (∀ s, s.met.run = false ∨ s.met.meter.mono < s.met.saved.mono + 900 → exec .checkpoint s = .next s) ∧
  -- DUTY_FRAME: the zones' duty of the interval, or a bad CRC counted
  (∀ s d i, s.met.run = true → s.met.duty = none →
    (i = false → exec (.dutyFrame d i true) s = .next { s with met := { s.met with duty := some ((List.range 64).map (fun z => min 0xFFFF (d.getD z 0))) } }) ∧
    (i = true → exec (.dutyFrame d i true) s = .next { s with met := { s.met with duty := some (List.replicate 64 0) } })) ∧
  (∀ s d i, s.met.run = true →
    exec (.dutyFrame d i false) s = .next { s with met := { s.met with linkErr := min 65535 (s.met.linkErr + 1) } }) ∧
  -- LABEL_FRAME: the first label, one within 2 s of the one before, one further away
  (∀ s t v, s.met.run = true → s.met.label = none →
    exec (.labelFrame t v true) s = .next { s with met := { s.met with label := some { time := t, valid := v, mono := s.met.meter.mono } } }) ∧
  (∀ s t v l, s.met.run = true → s.met.label = some l →
    let want := l.time + (s.met.meter.mono - l.mono) * unitsPerSec
    (want ≤ t + 2 * unitsPerSec → t ≤ want + 2 * unitsPerSec →
      exec (.labelFrame t v true) s = .next { s with met := { s.met with label := some { time := t, valid := v, mono := s.met.meter.mono } } }) ∧
    (want + 2 * unitsPerSec < t → exec (.labelFrame t v true) s = .next { s with met := { s.met.write 0x03 0 (timeBytes want ++ timeBytes t) with
      label := some { time := t, valid := v, mono := s.met.meter.mono } } })) ∧
  (∀ s t v, s.met.run = true →
    exec (.labelFrame t v false) s = .next { s with met := { s.met with linkErr := min 65535 (s.met.linkErr + 1) } }) ∧
  -- LOGSEL_FRAME
  (∀ s q, s.met.run = true → exec (.logselFrame q true) s = .next { s with met := { s.met with logSel := q } }) ∧
  (∀ s q, s.met.run = true →
    exec (.logselFrame q false) s = .next { s with met := { s.met with linkErr := min 65535 (s.met.linkErr + 1) } }) ∧
  (∀ s, s.met.run = false → (∀ d i c, exec (.dutyFrame d i c) s = .next s) ∧ (∀ t v c, exec (.labelFrame t v c) s = .next s) ∧
    (∀ q c, exec (.logselFrame q c) s = .next s) ∧ (∀ p c, exec (.requestFrame p c) s = .next s) ∧ exec .crystalFault s = .next s) ∧
  -- CRYSTAL_FAULT: CLK_FAULT and a FAULT record, its cause and detail a free value
  (∀ s, s.met.run = true → s.met.clkFault = false →
    exec .crystalFault s = .next ({ s with met := ({ s.met with clkFault := true }).write 0x0B 0 (beBytes 6 s.freeVal) }.freeNext)) ∧
  -- MET_POWER_FAIL: below the threshold of the supply class the POWER_FAIL record, and the island stands; above it only the voltage changes
  (∀ s mv,
    (mv < metTrip s.met.cls33 → s.met.run = true →
      let r := ({ s.met with vdd := mv } : MetS).write 0x06 0 (s.met.meter.energyBytes ++ b8 s.met.meter.zoneSum)
      exec (.metPowerFail mv) s = .next { s with met := { r with run := false, saved := s.met.meter, cal := none, duty := none, cause := 0, low := true } }) ∧
    (mv < metTrip s.met.cls33 → s.met.run = false →
      exec (.metPowerFail mv) s = .next { s with met := { s.met with vdd := mv, cause := 0, low := true } }) ∧
    (metTrip s.met.cls33 ≤ mv → exec (.metPowerFail mv) s = .next { s with met := { s.met with vdd := mv } })) ∧
  -- MET_RESET_N_ASSERT: the POWER_FAIL record, and the island stands
  (∀ s, (s.met.power = true → s.met.run = true →
      let r := s.met.write 0x06 0 (s.met.meter.energyBytes ++ b8 s.met.meter.zoneSum)
      exec .metResetNAssert s = .next { s with met := { r with run := false, saved := s.met.meter, cal := none, duty := none, cause := 1 } }) ∧
    (s.met.power = true → s.met.run = false → exec .metResetNAssert s = .next { s with met := { s.met with cause := 1 } }) ∧
    (s.met.power = false → exec .metResetNAssert s = .next s)) ∧
  -- ISLAND_START: the supply class from VDD_MET, the accumulators from what was saved, a START record, the firmware chosen, the seal's level
  (∀ s mv, s.met.run = false →
    let ok : Bool := decide (metTrip (decide (2500 ≤ mv)) + (if s.met.low then metHyst (decide (2500 ≤ mv)) else 0) ≤ mv)
    (ok = true → exec (.islandStart false mv) s = .next { s with met := ((({ s.met with
      vdd := mv, cls33 := decide (2500 ≤ mv), low := false, run := true, meter := s.met.restored, clkFault := false, cal := none, duty := none,
      dbgOpen := false }).write 0x07 0 (b1 s.met.cause ++ zeros 3 ++ beBytes 6 s.met.lastMono ++ b2 0)).swapFw).noteSeal }) ∧
    (ok = false → exec (.islandStart false mv) s = .next { s with met := { s.met with vdd := mv } })) ∧
  (∀ s mv, s.met.run = true →
    let ok : Bool := decide (metTrip (decide (2500 ≤ mv)) + (if s.met.low then metHyst (decide (2500 ≤ mv)) else 0) ≤ mv)
    (ok = true → exec (.islandStart true mv) s = .next { s with met := ((({ s.met with
      vdd := mv, cls33 := decide (2500 ≤ mv), low := false, run := true, meter := s.met.restored, clkFault := false, cal := none, duty := none,
      dbgOpen := false }).write 0x07 0
        (b1 2 ++ zeros 3 ++ beBytes 6 s.met.lastMono ++ b2 (min 65535 (s.met.meter.mono - s.met.saved.mono)))).swapFw).noteSeal })) ∧
  (∀ s w mv, w = !s.met.run → exec (.islandStart w mv) s = .next s) ∧
  -- SEAL_CHANGE: recorded by a running island when the level differs
  (∀ s low, (s.met.run = true → s.met.sealed ≠ low →
      exec (.sealChange low) s = .next { s with met := ({ s.met with sealPin := low, sealed := low }).write 0x08 0 (b1 (bn !low)) }) ∧
    (s.met.run = false ∨ s.met.sealed = low → exec (.sealChange low) s = .next { s with met := { s.met with sealPin := low } })) ∧
  -- REQUEST_FRAME: refused before REQ_SEQ is consumed, refused after, applied; a bad CRC is counted
  (∀ s p, s.met.run = true →
    (exec (.requestFrame p true) s = match s.met.earlyCheck p with
      | some a => .next { s with met := { s.met with rsp := a, rspSeq := u32 p 16, answers := s.met.answers + 1 } }
      | none =>
        let m := { s.met with reqSeq := u32 p 16 }
        match m.lateCheck p with
        | some a => .next { s with met := { m with rsp := a, rspSeq := u32 p 16, answers := m.answers + 1 } }
        | none => .next { s with met := { (m.applyReq p).1 with rsp := (m.applyReq p).2, rspSeq := u32 p 16, answers := (m.applyReq p).1.answers + 1 } }) ∧
    exec (.requestFrame p false) s = .next { s with met := { s.met with linkErr := min 65535 (s.met.linkErr + 1) } })

/-- The main side's end of the island's paths: each row completes with its effect. -/
def Obligations.IslandMailboxComplete : Prop :=
  -- DUTY_SEND: one frame a second, zeros while inert
  (∀ s, s.mailboxOn = true → s.metm.dutyAt + rawSec 1 ≤ s.now →
    let t := s.credit
    let go (d : List Nat) (i : Bool) : Res :=
      .next (({ t with metm := { t.metm with dutyAt := t.now }, ems := { t.ems with duty := [] } }).emit (.duty d i))
    (t.pwr.inert = true → exec .dutySend s = go (List.replicate 64 0) true) ∧
    (t.pwr.inert = false → t.domOn 72 = true → exec .dutySend s = go t.zoneDuty false)) ∧
  (∀ s, s.now < s.metm.dutyAt + rawSec 1 → exec .dutySend s = .next s) ∧
  -- LABEL_SEND
  (∀ s, s.mailboxOn = true → s.metm.labelAt + rawSec 1 ≤ s.now →
    exec .labelSend s = .next (({ s with metm := { s.metm with labelAt := s.now } }).emit (.label s.derivedNow.toNat s.actDom.valid))) ∧
  (∀ s, s.now < s.metm.labelAt + rawSec 1 → exec .labelSend s = .next s) ∧
  -- MAILBOX_POLL: the first after a reset, and later ones: new records and changes raise their events, EV_841 once the snapshot stands 3 s
  (∀ s, s.mailboxOn = true → s.metm.pollAt + rawMs 100 ≤ s.now →
    (s.metm.poll = none → exec .mailboxPoll s = .next
      ({ s with metm := { s.metm with pollAt := s.now, poll := some (s.pollNow s.now false) } }).noteStale) ∧
    (∀ p, s.metm.poll = some p → s.met.power = true → p.snapSeq ≠ s.metWord 0 →
      let t := s.noteChanges p
      exec .mailboxPoll s = .next ({ t with metm := { t.metm with pollAt := t.now, poll := some (t.pollNow s.now false) } }).noteStale) ∧
    (∀ p, s.metm.poll = some p → s.met.power = false → p.snapSeq = s.metWord 0 → p.told = false → p.snapAt + rawSec 3 ≤ s.now →
      let t := s.raise 841 3 0
      exec .mailboxPoll s = .next ({ t with metm := { t.metm with pollAt := t.now, poll := some (t.pollNow p.snapAt true) } }).noteStale)) ∧
  (∀ s, s.now < s.metm.pollAt + rawMs 100 → exec .mailboxPoll s = .next s) ∧
  -- MET_READ
  (∀ s r, Ready s 0x0B00 r →
    let o := u32 r.payload 0
    let n := u16 r.payload 4
    o % 4 = 0 → o < 0x2000 → 1 ≤ n → n ≤ 1023 →
    (s.met.power = true → s.met.run = true →
      Does (.metRead r) 0x0B00 r s fun u => (u, rspOk ((List.range n).flatMap (fun k => b4 (s.metWord (o + 4 * k)))))) ∧
    (s.met.power = false ∨ s.met.run = false → Does (.metRead r) 0x0B00 r s fun u => (u, rspErr stTimeout))) ∧
  -- MET_LOG_READ
  (∀ s r, Ready s 0x0B01 r → s.met.power = true → s.met.run = true →
    let f := u32 r.payload 0
    let n := u16 r.payload 4
    let head := s.metWord 0x018
    1 ≤ n → n ≤ 15 →
    (head ≤ f + 4095 → f ≤ head → Does (.metLogRead r) 0x0B01 r s fun u =>
      let rs := s.met.log.filter (fun x => decide (f ≤ recSeq x) && decide (recSeq x < f + n) && decide (recSeq x ≤ head))
      (u.emit (.logSel f), rspOk (b2 rs.length ++ zeros 2 ++ rs.flatten))) ∧
    (f + 4095 < head ∨ head < f → Does (.metLogRead r) 0x0B01 r s fun u => (u, rspErr stWrongState 0x0B01))) ∧
  -- MET_SEALED, its completion and its time-out
  (∀ s r, Ready s 0x0B02 r →
    (s.metm.sent = none → Does (.metSealed r) 0x0B02 r s fun u =>
      (({ u with metm := { u.metm with sent := some (r, u.now, u.met.answers) } }).emit (.request r.payload), rspAccepted)) ∧
    (s.metm.sent.isSome = true → Does (.metSealed r) 0x0B02 r s fun u => (u, rspErr stBusy 0x0B02))) ∧
  (∀ s r a n, s.alive = true → s.metm.sent = some (r, a, n) →
    (s.met.power = true → n ≠ s.met.answers →
      exec .metSealedComplete s = .next (({ s with metm := { s.metm with sent := none } }).complete r s.met.rsp.1)) ∧
    (n = s.met.answers → exec .metSealedComplete s = .next s) ∧
    (n = s.met.answers → a + rawMs 200 ≤ s.now → u8 r.payload 20 ≠ 3 ∨ s.met.run = false →
      exec .metRequestTimeout s = .next (({ s with metm := { s.metm with sent := none } }).complete r stTimeout)) ∧
    (s.now < a + rawMs 200 → exec .metRequestTimeout s = .next s)) ∧
  -- MET_IDENT
  (∀ s r, Ready s 0x0B03 r → Does (.metIdent r) 0x0B03 r s fun u =>
    (u, rspOk ((List.range 4).flatMap (fun k => b4 (s.metWord (0x300 + 4 * k))) ++ b4 (s.metWord 0x310) ++ b4 (s.metWord 0x010) ++
      b1 (s.metWord 0x314 % 256) ++ b1 (bitsOf (s.metWord 4) 30 30) ++ zeros 2)))

/-- Keys, credentials, attestation, the debug gate: each row completes with its effect. -/
def Obligations.SecurityCommandsComplete : Prop :=
  -- ATTEST: the report of R444 over the nonce, then its signature
  (∀ s r, Ready s 0x0C00 r → Does (.attest r) 0x0C00 r s fun u =>
    let g := s.gateGen
    let run := s.imgSlot (s.sec.running.getD 0)
    let fl := bn s.gateOpen + 2 * bn s.sec.trial + 4 * bn s.inRecovery + 8 * bn s.sec.settingsReset + 16 * bn s.sec.stale
    let fpr := match s.ks.fpr with | some (f, c) => fit 16 f ++ b4 c | none => fit 16 Config.metFpr0 ++ b4 0
    let p := b4 0x947200A1 ++ unitIdBytes ++ b1 (s.pwr.roleStrap % 4) ++ b1 g ++ b1 fl ++ b1 s.otp.arb ++ b1 (bn (s.sec.running == some 1)) ++ zeros 3 ++
      b4 (if s.sec.running.isSome then u32 run.header 8 else 0) ++ (if s.sec.running.isSome then slice run.header 32 48 else zeros 48) ++
      b4 s.provMap ++ fpr ++ slice r.payload 0 32 ++ fit 96 (identPublic g) ++ (if g = 0 then fit 96 Config.idCert else zeros 96)
    (u, rspOk (p ++ fit 96 (identSign g p)))) ∧
  -- CRED_PROVISION of a credential slot and of the domain group key: the record opens or not, the store can be written or not
  (∀ s r slot, Ready s 0x0C01 r → u8 r.payload 0 = slot → slot ≤ 15 → Does (.credProvision r) 0x0C01 r s fun u =>
    match unsealKey 1 slot s.gateGen (slice r.payload 4 160) with
    | none => (u.raise 651 2 (1 + slot * 256), rspParam 4)
    | some k =>
      if s.pwr.flashBad then u.flashFail 2
      else
        let t := u.clearReplay slot
        let t := { t with ks := { t.ks with creds := Map.put t.ks.creds slot k, masks := if slot < 15 then Map.put t.ks.masks slot 0 else t.ks.masks } }
        ((t.commit 2).raise 649 1 slot, rspOk)) ∧
  (∀ s r, Ready s 0x0C01 r → u8 r.payload 0 = 16 → Does (.credProvision r) 0x0C01 r s fun u =>
    match unsealKey 2 16 s.gateGen (slice r.payload 4 160) with
    | none => (u.raise 651 2 4098, rspParam 4)
    | some k =>
      if s.pwr.flashBad then u.flashFail 2
      else ((({ u with ks := { u.ks with group := some k } }).clearGroup.commit 2).raise 649 1 16, rspOk)) ∧
  -- CRED_REVOKE of a credential, of the group key, and of a slot that holds none
  (∀ s r slot, Ready s 0x0C02 r → u8 r.payload 0 = slot → s.pwr.flashBad = false →
    (slot ≤ 15 → s.provMap.testBit slot = true → Does (.credRevoke r) 0x0C02 r s fun u =>
      let t := u.clearReplay slot
      ((({ t with ks := { t.ks with creds := Map.del t.ks.creds slot, masks := Map.del t.ks.masks slot } }).commit 2).raise 649 1 (slot + 256), rspOk)) ∧
    (slot = 16 → s.provMap.testBit 16 = true → Does (.credRevoke r) 0x0C02 r s fun u =>
      ((({ u with ks := { u.ks with group := none } }).commit 2).raise 649 1 272, rspOk)) ∧
    (slot ≤ 16 → s.provMap.testBit slot = false → Does (.credRevoke r) 0x0C02 r s fun u => (u, rspOk))) ∧
  -- CRED_PERM
  (∀ s r slot, Ready s 0x0C03 r → u8 r.payload 0 = slot → slot ≤ 14 →
    ((Map.find s.ks.creds slot).isSome = true → s.pwr.flashBad = false → Does (.credPerm r) 0x0C03 r s fun u =>
      ((({ u with ks := { u.ks with masks := Map.put u.ks.masks slot (u16 r.payload 2) } }).commit 2).raise 649 1 (slot + 512), rspOk)) ∧
    ((Map.find s.ks.creds slot).isSome = true → s.pwr.flashBad = true → Does (.credPerm r) 0x0C03 r s fun u => u.flashFail 2) ∧
    (Map.find s.ks.creds slot = none → Does (.credPerm r) 0x0C03 r s fun u => (u, rspErr stWrongState 0x0C01))) ∧
  -- SESSION_KEY in a tile
  (∀ s r, Ready s 0x0C04 r →
    let id := u8 r.payload 0
    id ≤ 1 →
    (s.key.lastId ≠ some id → Does (.sessionKey r) 0x0C04 r s fun u =>
      match unsealKey 3 id s.gateGen (slice r.payload 4 160) with
      | none => (u.raise 651 2 (3 + id * 256), rspParam 4)
      | some k =>
        let other (i : Nat) : Bool := i / 32 % 4 != 1 + id
        let x := u.key
        let y := { x with lastId := some id, txSeq := x.txSeq.filter (fun e => other e.1), rxSeq := x.rxSeq.filter (fun e => other e.1),
                          stopped := x.stopped.filter (fun i => i % 4 != 1 + id) }
        (({ u with key := if id = 0 then { y with sessA := some k } else { y with sessB := some k } }).raise 650 1 (id + u.net.addr * 65536), rspOk)) ∧
    (s.key.lastId = some id → Does (.sessionKey r) 0x0C04 r s fun u => (u, rspErr stWrongState 0x0C05))) ∧
  -- DEBUG_OPEN: the keys in use go at once, the rest follows at DEBUG_GATE_COMPLETE
  (∀ s r, Ready s 0x0C05 r →
    (s.sec.gate = none → Does (.debugOpen r) 0x0C05 r s fun u =>
      match s.gateCheck r.payload with
      | some a => (u.raiseRefused r a, a)
      | none => ({ u with sec := { u.sec with gate := some (r, u8 r.payload 16 == 1) }, key := {} }, rspAccepted)) ∧
    (s.sec.gate.isSome = true → Does (.debugOpen r) 0x0C05 r s fun u => (u, rspErr stBusy 0x0C05))) ∧
  -- DEBUG_GATE_COMPLETE, which waits while core 0 does not serve: the store's sectors are erased under intents, and an empty key store is committed
  (∀ s r open_, s.alive = true → s.coreFaulted 0 = false → s.sec.gate = some (r, open_) →
    let t := { s with otp := { s.otp with dbgOpen := s.otp.dbgOpen + bn open_, dbgClose := s.otp.dbgClose + bn (!open_) }, ks := {}, key := {},
                      cmd := { s.cmd with replay := [] }, sec := { s.sec with gate := none } }
    let t := (t.setJournal 2 []).setJournal 5 (eraseRecs (t.journal 5) (halfSectors 2 0 ++ halfSectors 2 1))
    exec .debugGateComplete s = .next (((t.tryCommit 2).raise 648 2 (bn open_ + t.gateGen * 256)).complete r stOk))

/-- Image updates: each row completes with its effect. -/
def Obligations.UpdateCommandsComplete : Prop :=
  -- IMG_BEGIN of slot A or B, and of the load area of the PCIe recovery responder
  (∀ s r k, Ready s 0x0D00 r → s.beginSlot (u8 r.payload 0) = some k →
    let size := u32 r.payload 4
    4097 ≤ size → size ≤ 8388608 → s.sec.trial = false → s.sec.running ≠ some k → s.flash.pend = none → s.sec.upd = none →
    (k < 2 → s.pwr.flashBad = false → Does (.imgBegin r) 0x0D00 r s fun u =>
      let t := u.setImgSlot k { u.imgSlot k with mark := 0 }
      let t := ({ t with flash := { t.flash with erasing := some k } }).putRecord (.erase (slotBase k) false) true
      ({ t with sec := { t.sec with upd := some { slot := k, size := size } } }, rspOk)) ∧
    (k = 2 → Does (.imgBegin r) 0x0D00 r s fun u =>
      ({ u with sec := { u.sec with load := {}, upd := some { slot := 2, size := size } } }, rspOk)) ∧
    (k < 2 → s.pwr.flashBad = true → Does (.imgBegin r) 0x0D00 r s fun u => (u.spoil (.erase (slotBase k) false), rspErr stHwFault 0x0F))) ∧
  -- SLOT_ERASE_COMPLETE: the flash erases, or fails (log entry 29); it waits while core 0 does not serve
  (∀ s k, s.alive = true → s.coreFaulted 0 = false → s.flash.erasing = some k →
    exec (.slotEraseComplete true) s = .next (
      let t := ({ s with pwr := { s.pwr with flashBad := false } }.setImgSlot k {}).putRecord (.erase (slotBase k) true) true
      { t with flash := { t.flash with erasing := none } }) ∧
    exec (.slotEraseComplete false) s = .next ({ s with pwr := { s.pwr with flashBad := true } }.flashEvent 0 (slotBase k))) ∧
  -- IMG_BLOCK: new units, units repeated alike, units repeated otherwise; it waits while its slot is erased
  (∀ s r u, Ready s 0x0D01 r → s.sec.upd = some u → s.flash.erasing ≠ some u.slot → s.pwr.flashBad = false →
    let o := u32 r.payload 0
    let d := r.payload.drop 4
    let n := d.length
    let x := s.imgSlot u.slot
    let same := ∀ i < n, u.units.contains ((o + i) / 64) = true → Map.at x.img 0xFF (o + i) = d.getD i 0
    o % 64 = 0 → o + n ≤ u.size → n % 64 = 0 ∨ o + n = u.size →
    (same → Does (.imgBlock r) 0x0D01 r s fun v =>
      let t := v.setImgSlot u.slot { x with img := putBytes x.img o d, size := u.size }
      ({ t with sec := { t.sec with upd := some { u with units := u.units ++ (unitsFrom o n).filter (fun i => !u.units.contains i) } } }, rspOk)) ∧
    (¬ same → Does (.imgBlock r) 0x0D01 r s fun v => (v, rspErr stWrongState 0x0D03))) ∧
  (∀ s r u, s.sec.upd = some u → s.flash.erasing = some u.slot → exec (.imgBlock r) s = .next s) ∧
  -- IMG_VERIFY and IMG_VERIFY_COMPLETE
  (∀ s r u, Ready s 0x0D02 r → s.sec.upd = some u → u.verify = none → u.size ≤ u.firstGap →
    Does (.imgVerify r) 0x0D02 r s fun v => ({ v with sec := { v.sec with upd := some { u with verify := some r } } }, rspAccepted)) ∧
  (∀ s r u, s.alive = true → s.coreFaulted 0 = false → s.sec.upd = some u → u.verify = some r →
    let x := s.imgSlot u.slot
    exec .imgVerifyComplete s = .next (s.verified u r (s.imageReason x)) ∧
    (s.verified u r none =
      let t := s.setImgSlot u.slot { x with mark := 2 }
      ({ t with sec := { t.sec with upd := none } }).complete r stOk) ∧
    (∀ why, s.verified u r (some why) =
      (({ s with sec := { s.sec with upd := some { u with verify := none } } }).raise 646 2 why).complete r stWrongState)) ∧
  -- IMG_ACTIVATE at the next reset and at an instant, and in the PCIe recovery responder
  (∀ s r k, Ready s 0x0D03 r → u8 r.payload 1 ≤ 7 → s.flash.pend = none → s.pwr.flashBad = false → (s.pcieBoot && s.inRecovery) = false →
    [0, 1].find? (fun k => (s.imgSlot k).mark == 2) = some k →
    let n := u8 r.payload 1
    let go (p : Option Nat) (u : State) : State × Rsp :=
      ((({ u with flash := { u.flash with before := (u.flash.active, u.flash.trial, u.flash.left), active := k, trial := decide (0 < n), left := n,
                                          pend := some p } }).commit 1).raise 645 1 0, rspOk)
    (u8 r.payload 0 = 0 → Does (.imgActivate r) 0x0D03 r s (go none)) ∧
    (∀ (t : Nat), u8 r.payload 0 = 1 → s.inRecovery = false → timeAt r.payload 4 = some t → s.actDom.valid = true → s.derivedNow + 1000 * rawMs 1000 ≤ (t : Int) →
      Does (.imgActivate r) 0x0D03 r s (go (some t)))) ∧
  (∀ s r, Ready s 0x0D03 r → u8 r.payload 0 = 0 → u8 r.payload 1 ≤ 7 → s.flash.pend = none → (s.pcieBoot && s.inRecovery) = true → s.sec.load.mark = 2 →
    Does (.imgActivate r) 0x0D03 r s fun u =>
      let t := u.mainReset false 4
      (({ t with sec := { t.sec with load := u.sec.load } }).boot false true, rspOk)) ∧
  -- ACTIVATION_INSTANT: reached, not reached, and with the domain invalid
  (∀ s (t : Nat), s.alive = true → s.flash.pend = some (some t) →
    (s.actDom.valid = true → (t : Int) ≤ s.derivedNow → exec .activationInstant s = .next (s.warmReset 5)) ∧
    (s.actDom.valid = true → s.derivedNow < (t : Int) → exec .activationInstant s = .next s) ∧
    (s.actDom.valid = false → exec .activationInstant s = .next (({ s with flash := { s.flash with pend := some none } }).raise 645 1 1))) ∧
  -- IMG_ABORT of a pending activation, and with none pending: no update stays open, its slot is INVALID and no slot stays VERIFIED
  (∀ s r, Ready s 0x0D04 r →
    (s.flash.pend.isSome = true → s.pwr.flashBad = false → Does (.imgAbort r) 0x0D04 r s fun u =>
      let t := { u with flash := { u.flash with pend := none, active := u.flash.before.1, trial := u.flash.before.2.1, left := u.flash.before.2.2 } }
      ((t.closeUpdate.commit 1).raise 645 1 2, rspOk)) ∧
    (s.flash.pend.isSome = true → s.pwr.flashBad = true → Does (.imgAbort r) 0x0D04 r s fun u => u.flashFail 1) ∧
    (s.flash.pend = none → Does (.imgAbort r) 0x0D04 r s (fun u => (u.closeUpdate.dropVerified, rspOk)) ∧
      let t := s.closeUpdate.dropVerified
      t.sec.upd = none ∧ (∀ k < 3, (t.imgSlot k).mark = 2 → False) ∧ (∀ x, s.sec.upd = some x → x.slot < 3 → (t.imgSlot x.slot).mark = 0) ∧
      (∀ k < 3, (s.imgSlot k).mark ≠ 2 → (∀ x, s.sec.upd = some x → x.slot ≠ k) → t.imgSlot k = s.imgSlot k))) ∧
  -- IMG_CONFIRM: ARB and the revocations advance, EV_647 if they did; outside a trial WRONG_STATE
  (∀ s r k, Ready s 0x0D05 r → s.sec.trial = true → s.sec.running = some k → s.pwr.flashBad = false →
    let h := (s.imgSlot k).header
    let arb := max s.otp.arb (u8 h 12)
    let rev := s.otp.rootRevoke ||| ((u8 h 15 % 16 ||| 2 ^ u8 h 7) - 2 ^ u8 h 7)
    Does (.imgConfirm r) 0x0D05 r s fun u =>
      let t := ({ u with flash := { u.flash with trial := false, left := 0 }, sec := { u.sec with trial := false },
                         otp := { u.otp with arb := arb, rootRevoke := rev } }).dropOld.commit 1
      (if t.otp = u.otp then t else t.raise 647 1 (arb + rev * 256), rspOk)) ∧
  (∀ s r, Ready s 0x0D05 r → s.sec.trial = false → Does (.imgConfirm r) 0x0D05 r s fun u => (u, rspErr stWrongState 0x0D05)) ∧
  -- IMG_STATUS
  (∀ s r, Ready s 0x0D06 r → Does (.imgStatus r) 0x0D06 r s fun u =>
    let one (k : Nat) : List Byte :=
      let c := s.slotCode k
      let h := if c = 0 ∨ c = 1 then zeros 1296 else (s.imgSlot k).header
      b1 c ++ b1 (u8 h 12) ++ b1 (u8 h 13) ++ b1 (u8 h 14) ++ b4 (u32 h 8)
    let upd := match s.sec.upd with | some u => b4 u.size ++ b4 u.written ++ b4 u.firstGap | none => zeros 12
    let pend := match s.flash.pend with
      | none => b1 0 ++ zeros 12
      | some none => b1 1 ++ zeros 12
      | some (some t) => b1 2 ++ timeBytes t
    (u, rspOk (one 0 ++ one 1 ++ upd ++ b1 s.flash.active ++ b1 s.flash.left ++ b1 s.otp.arb ++ pend)))

/-- R513. The island's thresholds lie within their tolerances of 2.90 V and 1.68 V. An island start takes the class from VDD_MET, 3.3 V from 2.50 V
on, and starts at the threshold of that class, after a power fail only 100 or 60 mV above it; below, nothing but VDD_MET changes. VDD_MET falling
below the threshold of the class stops the island; falling to no less, it does not. -/
def Obligations.SupplyClassAndThreshold : Prop :=
  (2870 ≤ metTrip true ∧ metTrip true ≤ 2930 ∧ 1660 ≤ metTrip false ∧ metTrip false ≤ 1700) ∧
  (∀ (s : State) (watchdog : Bool) (mv : Nat), s.met.run = watchdog →
    (metTrip (decide (2500 ≤ mv)) + (if s.met.low then (if 2500 ≤ mv then 100 else 60) else 0) ≤ mv → ∃ t, exec (.islandStart watchdog mv) s = .next t ∧
      t.met.run = true ∧ t.met.cls33 = decide (2500 ≤ mv) ∧ t.met.vdd = mv ∧ t.met.low = false) ∧
    (mv < metTrip (decide (2500 ≤ mv)) + (if s.met.low then (if 2500 ≤ mv then 100 else 60) else 0) →
      exec (.islandStart watchdog mv) s = .next { s with met := { s.met with vdd := mv } })) ∧
  (∀ (s : State) (mv : Nat), ∃ t, exec (.metPowerFail mv) s = .next t ∧ t.met.vdd = mv ∧ t.met.cls33 = s.met.cls33 ∧
    (mv < metTrip s.met.cls33 → t.met.run = false ∧ t.met.low = true) ∧ (metTrip s.met.cls33 ≤ mv → t = { s with met := { s.met with vdd := mv } }))

/-- R450. A record exists where its marker is complete and matches and its data verify: so it does where the model's record is marked, and where its
marker was never written it does not. A record appended to a store becomes its content if it is marked; if it is interrupted, the previous record
stands, whether or not a half had to be erased for it. No other store but the erase-intent journal changes. A reset takes the boot pointer, the key
store and the settings from the existing records of highest SEQ. -/
def Obligations.TheLastExistingRecordStands : Prop :=
  (∀ (r : FlashRec), r.seq < 2 ^ 64 → recStands r.header r.bytes r.marker = r.marked) ∧
  (∀ (s : State) (d : StoreData) (marked : Bool), s.flash.journals.length = 5 →
    (s.putRecord d marked).storeContent d.store = (if marked then some d else s.storeContent d.store) ∧
    ∀ k, 1 ≤ k → k ≤ 4 → k ≠ d.store → (s.putRecord d marked).journal k = s.journal k) ∧
  (∀ (s : State) (cold : Bool) (cause : Nat), (∀ k d, 1 ≤ k → s.storeContent k = some d → d.store = k) →
    (∀ ks, s.storeContent 2 = some (.keys ks) → (s.mainReset cold cause).ks = ks) ∧
    (∀ a b c, s.storeContent 1 = some (.pointer a b c) →
      (s.mainReset cold cause).flash.active = a ∧ (s.mainReset cold cause).flash.trial = b ∧ (s.mainReset cold cause).flash.left = c) ∧
    (∀ x, s.storeContent 3 = some (.settings x) → (s.mainReset cold cause).flash.schema = x))

/-- R228. An output code lies within 1 of exact arithmetic for a single opaque layer with GAIN 1.0 that is neither scaled nor mapped by a mesh, and
within 2 for any layers; where no layer is visible it is the base itself. -/
def Obligations.OutputCodesAreNearExact : Prop :=
  ∀ (base : Nat × Nat × Nat) (ls : List Config.LayerIn),
    let out := composePixel base ls
    let near (n : Nat) : Prop := ∀ c < 3,
      (exactCodes base ls).getD c 0 ≤ [out.1, out.2.1, out.2.2].getD c 0 + n ∧ [out.1, out.2.1, out.2.2].getD c 0 ≤ (exactCodes base ls).getD c 0 + n ∧
      [out.1, out.2.1, out.2.2].getD c 0 ≤ 4095
    (ls = [] → out = base) ∧ (ls ≠ [] → near 2) ∧
    (∀ l, ls = [l] → l.plain = true → l.fmt ≠ 6 → l.gain = 0x1000 → l.alpha = 0xFFF → near 1)

/-- R22. In an inert chip IREF0 to IREF15 are at 0, LCLK0 to LCLK3 are stopped, and no PIX, LNCH, BEAT or MIRR cell may be sent. -/
def Obligations.InertDrivesNothing : Prop :=
  ∀ (s : State), s.pwr.inert = true → (∀ n, (s.irefPin n).1 = 0) ∧ (∀ b, s.lclkRuns b = false) ∧ ∀ m, m.isContent = true → s.maySend m = false ∧ s.send m = s
end

