-- ==== Sys2Proof/Laws/Anchor.lean ====
section
/-! SUPPORT. What almost nothing writes: the queue, the metrology island, the raw counter, the one-time memory, the boot phase and the
role. One lemma per operation of Machine/ says that it leaves them; only resets, the boot and the gate do not. -/

namespace Sys2Proof.Machine

/-- The queue, the island, the raw counter, the one-time memory, the boot phase and the role. -/
def State.anchor (s : State) : List Instr × MetS × BitVec 72 × OtpS × Phase × Role := (s.pending, s.met, s.tmu.raw, s.otp, s.pwr.phase, s.pwr.role)
theorem anchor_mk {t : State} {a b} {pwr : PwrS} {e c k f g h i} {tmu : TmuS} {l m n o p q r v w x} (h1 : tmu.raw = t.tmu.raw) (h2 : pwr.phase = t.pwr.phase) (h3 : pwr.role = t.pwr.role) :
    State.anchor (State.mk t.pending a b pwr e c k t.otp f g h i tmu l m n o p q r t.met v w x) = t.anchor := by
  simp [State.anchor, h1, h2, h3]
theorem anchor_foldl {α : Type} (f : State → α → State) (h : ∀ t x, (f t x).anchor = t.anchor) (l : List α) (s : State) : (l.foldl f s).anchor = s.anchor := by
  induction l generalizing s with
  | nil => rfl
  | cons a l ih => rw [List.foldl_cons, ih, h]
theorem State.setPtp_anchor (s : State) (a1 : Bool) (a2 : Ptp) : (State.setPtp s a1 a2).anchor = s.anchor := by unfold State.setPtp; split <;> first | rfl | simp only [anchor_mk, anchor_foldl, ite_self, implies_true, apply_ite State.anchor, forall_const]
theorem State.abortRun_anchor (s : State) (a1 : CalRun → Bool) : (State.abortRun s a1).anchor = s.anchor := by unfold State.abortRun; split <;> first | rfl | simp only [anchor_mk, ite_self, apply_ite State.anchor]
theorem State.dropNotify_anchor (s : State) : (State.dropNotify s).anchor = s.anchor := by exact rfl
theorem State.emits_anchor (s : State) (a1 : List Out) : (State.emits s a1).anchor = s.anchor := by exact rfl
theorem State.setFld_anchor (s : State) (a1 : Nat) (a2 : Nat) (a3 : Nat) (a4 : Nat) : (State.setFld s a1 a2 a3 a4).anchor = s.anchor := by exact rfl
theorem State.holdRecs_anchor (s : State) (a1 : List EvRec) : (State.holdRecs s a1).anchor = s.anchor := by unfold State.holdRecs; simp only [anchor_mk, ite_self, apply_ite State.anchor, State.setFld_anchor]
theorem State.emit_anchor (s : State) (a1 : Out) : (State.emit s a1).anchor = s.anchor := by exact rfl
theorem State.sendIp_anchor (s : State) (a1 : Nat) (a2 : Nat) (a3 : Nat) (a4 : List Byte) : (State.sendIp s a1 a2 a3 a4).anchor = s.anchor := by unfold State.sendIp; dsimp only; (repeat' split) <;> first | rfl | simp only [anchor_mk, anchor_foldl, ite_self, implies_true, apply_ite State.anchor, forall_const, State.emit_anchor]
theorem State.toHost_anchor (s : State) (a1 : List EvRec) : (State.toHost s a1).anchor = s.anchor := by unfold State.toHost; split <;> first | rfl | simp only [anchor_foldl, ite_self, implies_true, apply_ite State.anchor, State.holdRecs_anchor, State.sendIp_anchor]
theorem State.tryRecord_anchor (s : State) (a1 : Nat) : (State.tryRecord s a1).anchor = s.anchor := by unfold State.tryRecord; simp only [anchor_mk, ite_self, apply_ite State.anchor, State.toHost_anchor]
theorem State.raiseA_anchor (s : State) (a1 : Nat) (a2 : Nat) (a3 : Nat) (a4 : Bool) : (State.raiseA s a1 a2 a3 a4).anchor = s.anchor := by unfold State.raiseA; simp only [anchor_mk, State.tryRecord_anchor]
theorem State.raise_anchor (s : State) (a1 : Nat) (a2 : Nat) (a3 : Nat) : (State.raise s a1 a2 a3).anchor = s.anchor := by unfold State.raise; simp only [State.raiseA_anchor]
theorem State.send_anchor (s : State) (a1 : TxMsg) : (State.send s a1).anchor = s.anchor := by unfold State.send; simp only [anchor_mk, ite_self, apply_ite State.anchor]
theorem State.reply_anchor (s : State) (a1 : Req) (a2 : Nat) (a3 : List Byte) : (State.reply s a1 a2 a3).anchor = s.anchor := by unfold State.reply; split <;> first | rfl | simp only [anchor_mk, anchor_foldl, ite_self, implies_true, apply_ite State.anchor, forall_const, State.emits_anchor, State.raise_anchor, State.sendIp_anchor, State.send_anchor]
theorem State.deliver_anchor (s : State) (a1 : Nat) (a2 : Req) (a3 : Nat) (a4 : List Byte) : (State.deliver s a1 a2 a3 a4).anchor = s.anchor := by unfold State.deliver; simp only [anchor_mk, ite_self, apply_ite State.anchor, State.reply_anchor]
theorem State.answer_anchor (a0 : State) (s : State) (a2 : Nat) (a3 : Req) (a4 : Rsp) : (State.answer a0 s a2 a3 a4).anchor = s.anchor := by unfold State.answer; simp only [State.deliver_anchor]
theorem State.credit_anchor (s : State) : (State.credit s).anchor = s.anchor := by unfold State.credit; split <;> first | rfl | simp only [anchor_mk, anchor_foldl, ite_self, implies_true, apply_ite State.anchor, forall_const]
theorem State.stopSchedule_anchor (s : State) : (State.stopSchedule s).anchor = s.anchor := by unfold State.stopSchedule; simp only [anchor_mk, State.credit_anchor]
theorem State.endEmission_anchor (s : State) (a1 : Bool) : (State.endEmission s a1).anchor = s.anchor := by unfold State.endEmission; split <;> first | rfl | simp only [anchor_mk, ite_self, apply_ite State.anchor, State.answer_anchor, State.raise_anchor, State.stopSchedule_anchor]
theorem State.reroute_anchor (s : State) (a1 : Nat) : (State.reroute s a1).anchor = s.anchor := by exact rfl
theorem State.sendRmap_anchor (s : State) (a1 : Nat) : (State.sendRmap s a1).anchor = s.anchor := by unfold State.sendRmap; simp only [State.send_anchor]
theorem State.setRelay_anchor (s : State) (a1 : Nat) (a2 : Bool) (a3 : Nat) : (State.setRelay s a1 a2 a3).anchor = s.anchor := by exact rfl
theorem State.relayEnd_anchor (s : State) (a1 : Nat) : (State.relayEnd s a1).anchor = s.anchor := by unfold State.relayEnd; simp only [State.raise_anchor, State.reroute_anchor, State.sendRmap_anchor, State.setRelay_anchor]
theorem State.stopArmed_anchor (s : State) : (State.stopArmed s).anchor = s.anchor := by unfold State.stopArmed; dsimp only; (repeat' split) <;> first | rfl | simp only [anchor_mk, anchor_foldl, ite_self, implies_true, apply_ite State.anchor, forall_const, State.raise_anchor, State.relayEnd_anchor]
theorem State.goInert_anchor (s : State) : (State.goInert s).anchor = s.anchor := by unfold State.goInert; simp only [anchor_mk, anchor_foldl, ite_self, implies_true, apply_ite State.anchor, forall_const, State.abortRun_anchor, State.dropNotify_anchor, State.endEmission_anchor, State.stopArmed_anchor]
theorem State.checkHot_anchor (s : State) : (State.checkHot s).anchor = s.anchor := by unfold State.checkHot; split <;> first | rfl | simp only [anchor_mk, ite_self, apply_ite State.anchor, State.goInert_anchor, State.raise_anchor]
theorem State.bumpBy_anchor (s : State) (a1 : Nat) (a2 : Nat) : (State.bumpBy s a1 a2).anchor = s.anchor := by exact rfl
theorem State.discardEntry_anchor (s : State) (a1 : Nat) (a2 : Nat) (a3 : Nat) : (State.discardEntry s a1 a2 a3).anchor = s.anchor := by unfold State.discardEntry; simp only [State.bumpBy_anchor, State.raise_anchor]
theorem State.bump_anchor (s : State) (a1 : Nat) : (State.bump s a1).anchor = s.anchor := by exact rfl
theorem State.setChan_anchor (s : State) (a1 : Nat) (a2 : Chan) : (State.setChan s a1 a2).anchor = s.anchor := by exact rfl
theorem State.dropWrite_anchor (s : State) (a1 : Nat) : (State.dropWrite s a1).anchor = s.anchor := by unfold State.dropWrite; simp only [ite_self, apply_ite State.anchor, State.bump_anchor, State.raise_anchor, State.setChan_anchor]
theorem State.memSet_anchor (s : State) (a1 : Nat) (a2 : Byte) : (State.memSet s a1 a2).anchor = s.anchor := by unfold State.memSet; split <;> first | rfl | simp only [ite_self, apply_ite State.anchor, State.dropWrite_anchor]
theorem State.memWriteFrom_anchor (s : State) (a : Nat) (l : List Byte) : (s.memWriteFrom a l).anchor = s.anchor := by
  induction l generalizing s a with
  | nil => rfl
  | cons b bs ih => unfold State.memWriteFrom; rw [ih, State.memSet_anchor]
theorem State.memWrite_anchor (s : State) (a1 : Nat) (a2 : List Byte) : (State.memWrite s a1 a2).anchor = s.anchor := by unfold State.memWrite; simp only [anchor_mk, anchor_foldl, ite_self, implies_true, apply_ite State.anchor, forall_const, State.dropWrite_anchor, State.memWriteFrom_anchor]
theorem State.issue_anchor (s : State) (n : Nat) (q : Queued) : (s.issue n q).anchor = s.anchor := by
  unfold State.issue; dsimp only
  (repeat' split) <;> simp only [State.memWrite_anchor, State.setChan_anchor]
theorem State.addChange_anchor (s : State) (a1 : Change) (a2 : Nat) (a3 : Option Nat) : (State.addChange s a1 a2 a3).anchor = s.anchor := by exact rfl
theorem State.dropSets_anchor (s : State) : (State.dropSets s).anchor = s.anchor := by exact rfl
theorem State.swapMesh_anchor (s : State) (a1 : Nat) : (State.swapMesh s a1).anchor = s.anchor := by unfold State.swapMesh; simp only [anchor_mk, anchor_foldl, ite_self, implies_true, apply_ite State.anchor, forall_const, State.memWrite_anchor]
theorem State.applyChange_anchor (s : State) (a1 : Change) : (State.applyChange s a1).anchor = s.anchor := by unfold State.applyChange; split <;> first | rfl | simp only [anchor_mk, ite_self, apply_ite State.anchor, State.dropSets_anchor, State.swapMesh_anchor]
theorem State.changeEvent_anchor (s : State) (a1 : Nat) (a2 : Change) : (State.changeEvent s a1 a2).anchor = s.anchor := by unfold State.changeEvent; split <;> first | rfl | simp only [State.raise_anchor]
theorem State.calChange_anchor (s : State) (a1 : Bool) (a2 : Change) : (State.calChange s a1 a2).anchor = s.anchor := by unfold State.calChange; simp only [ite_self, apply_ite State.anchor, State.addChange_anchor, State.applyChange_anchor, State.changeEvent_anchor]
theorem State.release_anchor (s : State) (a1 : Nat → Bool) : (State.release s a1).anchor = s.anchor := by unfold State.release; simp only [anchor_mk, anchor_foldl, implies_true, State.reply_anchor]
theorem State.setLaunchServo_anchor (s : State) (a1 : Servo) : (State.setLaunchServo s a1).anchor = s.anchor := by unfold State.setLaunchServo; simp only [anchor_mk, ite_self, apply_ite State.anchor, State.raise_anchor]
theorem State.stopAnnouncing_anchor (s : State) : (State.stopAnnouncing s).anchor = s.anchor := by unfold State.stopAnnouncing; simp only [anchor_mk, ite_self, apply_ite State.anchor, State.raise_anchor, State.setLaunchServo_anchor]
theorem State.leaveActive_anchor (s : State) : (State.leaveActive s).anchor = s.anchor := by unfold State.leaveActive; simp only [anchor_mk, anchor_foldl, implies_true, State.relayEnd_anchor, State.release_anchor, State.stopAnnouncing_anchor]
theorem State.setPair_anchor (s : State) (a1 : Pair) : (State.setPair s a1).anchor = s.anchor := by unfold State.setPair; simp only [anchor_mk, ite_self, apply_ite State.anchor, State.raise_anchor]
theorem State.enterStandby_anchor (s : State) : (State.enterStandby s).anchor = s.anchor := by unfold State.enterStandby; simp only [anchor_mk, State.leaveActive_anchor, State.setPair_anchor]
theorem State.setFaultEpoch_anchor (s : State) (a1 : Nat) : (State.setFaultEpoch s a1).anchor = s.anchor := by unfold State.setFaultEpoch; simp only [anchor_mk, anchor_foldl, ite_self, implies_true, apply_ite State.anchor, State.tryRecord_anchor]
theorem State.holdChan_anchor (s : State) (a1 : Nat) (a2 : Bool) : (State.holdChan s a1 a2).anchor = s.anchor := by unfold State.holdChan; simp only [anchor_mk, anchor_foldl, ite_self, implies_true, apply_ite State.anchor, forall_const, State.bump_anchor, State.dropWrite_anchor, State.raise_anchor, State.setChan_anchor]
theorem State.holdFed_anchor (s : State) (a1 : Nat) : (State.holdFed s a1).anchor = s.anchor := by unfold State.holdFed; simp only [anchor_foldl, ite_self, implies_true, apply_ite State.anchor, State.holdChan_anchor]
theorem State.switchAt_anchor (s : State) (a1 : Launch) : (State.switchAt s a1).anchor = s.anchor := by unfold State.switchAt; split <;> first | rfl | simp only [anchor_mk, ite_self, apply_ite State.anchor, State.raise_anchor]
theorem State.flipLayer_anchor (s : State) (a1 : Nat × Nat) : (State.flipLayer s a1).anchor = s.anchor := by exact rfl
theorem State.setReg_anchor (s : State) (a1 : Nat) (a2 : Word) : (State.setReg s a1 a2).anchor = s.anchor := by exact rfl
theorem State.clearCounters_anchor (s : State) (a n w : Nat) : (State.clearCounters s a n w).anchor = s.anchor := by
  induction n with
  | zero => rfl
  | succ n ih => unfold State.clearCounters; dsimp only; split <;> simp only [State.setReg_anchor, ih]
theorem State.storeReg_anchor (s : State) (a1 : RegRow) (a2 : Nat) (a3 : Nat) : (State.storeReg s a1 a2 a3).anchor = s.anchor := by exact rfl
theorem State.writeOther_anchor (s : State) (r : RegRow) (a w : Nat) : (State.writeOther s r a w).1.anchor = s.anchor := by
  unfold State.writeOther; dsimp only
  (repeat' split) <;> simp only [State.setReg_anchor, State.clearCounters_anchor, State.storeReg_anchor]
theorem State.igmp_anchor (s : State) (a1 : Nat) (a2 : Bool) (a3 : Nat → Nat → Bool) : (State.igmp s a1 a2 a3).anchor = s.anchor := by unfold State.igmp; simp only [anchor_foldl, ite_self, implies_true, apply_ite State.anchor, State.emit_anchor]
theorem State.setStrm_anchor (s : State) (a1 : Nat) (a2 : Strm) : (State.setStrm s a1 a2).anchor = s.anchor := by exact rfl
theorem State.stopStream_anchor (s : State) (a1 : Nat) : (State.stopStream s a1).anchor = s.anchor := by unfold State.stopStream; simp only [anchor_mk, anchor_foldl, ite_self, implies_true, apply_ite State.anchor, forall_const, State.igmp_anchor, State.raise_anchor, State.setStrm_anchor]
theorem State.writeStrCtl_anchor (s : State) (a1 : Nat) (a2 : Word) : (State.writeStrCtl s a1 a2).1.anchor = s.anchor := by unfold State.writeStrCtl; dsimp only; (repeat' split) <;> first | rfl | simp only [anchor_mk, anchor_foldl, ite_self, implies_true, apply_ite State.anchor, forall_const, State.igmp_anchor, State.raise_anchor, State.setReg_anchor, State.setStrm_anchor, State.stopStream_anchor]
theorem State.writeIng_anchor (s : State) (r : RegRow) (a w : Nat) : (s.writeIng r a w).1.anchor = s.anchor := by
  unfold State.writeIng; dsimp only
  (repeat' split) <;> simp only [State.clearCounters_anchor, State.storeReg_anchor, State.writeStrCtl_anchor]
theorem State.setDom_anchor (s : State) (a1 : Bool) (a2 : Dom) : (State.setDom s a1 a2).anchor = s.anchor := by unfold State.setDom; split <;> first | rfl | simp only [anchor_mk, anchor_foldl, ite_self, implies_true, apply_ite State.anchor, forall_const]
theorem State.stage_anchor (s : State) (a1 : Bool) (a2 : Option Nat) (a3 : Option Nat) (a4 : Nat) (a5 : Bool) : (State.stage s a1 a2 a3 a4 a5).anchor = s.anchor := by unfold State.stage; simp only [State.setDom_anchor]
theorem State.stageCmd_anchor (s : State) (a1 : Bool) (a2 : Option Nat) (a3 : Option Nat) (a4 : Nat) (a5 : Bool) (a6 : Nat) (a7 : Nat) (a8 : Nat) : (State.stageCmd s a1 a2 a3 a4 a5 a6 a7 a8).1.anchor = s.anchor := by unfold State.stageCmd; (repeat' split) <;> first | rfl | simp only [State.raise_anchor, State.stage_anchor]
theorem State.setJournal_anchor (s : State) (a1 : Nat) (a2 : List FlashRec) : (State.setJournal s a1 a2).anchor = s.anchor := by exact rfl
theorem State.dropJob_anchor (s : State) (a1 : Nat) : (State.dropJob s a1).anchor = s.anchor := by exact rfl
theorem State.setSleep_anchor (s : State) (a1 : Nat) (a2 : SleepS) : (State.setSleep s a1 a2).anchor = s.anchor := by exact rfl
theorem State.bcastRefusal_anchor (s : State) (a1 : Nat) (a2 : Nat) (a3 : List (Nat × Nat)) : (State.bcastRefusal s a1 a2 a3).1.anchor = s.anchor := by unfold State.bcastRefusal; split <;> first | rfl | simp only [anchor_mk, anchor_foldl, ite_self, implies_true, apply_ite State.anchor, forall_const, State.raise_anchor]
theorem State.freeNext_anchor (s : State) : (State.freeNext s).anchor = s.anchor := by exact rfl
theorem State.startStalled_anchor (s : State) : (State.startStalled s).anchor = s.anchor := by exact rfl
theorem State.startJob_anchor (s : State) (a1 : Nat) (a2 : Req) (a3 : Nat) (a4 : List Nat) (a5 : List (Nat × Nat)) (a6 : Bool) (a7 : List Byte) : (State.startJob s a1 a2 a3 a4 a5 a6 a7).anchor = s.anchor := by unfold State.startJob; simp only [anchor_mk, anchor_foldl, implies_true, State.send_anchor, State.startStalled_anchor]
theorem State.sleepJob_anchor (s : State) (a1 : Nat) (a2 : Nat) (a3 : Nat) (a4 : Nat) (a5 : Option Req) : (State.sleepJob s a1 a2 a3 a4 a5).1.anchor = s.anchor := by unfold State.sleepJob; dsimp only; (repeat' split) <;> first | rfl | (simp only [anchor_mk, anchor_foldl, ite_self, implies_true, apply_ite State.anchor, forall_const, State.bcastRefusal_anchor, State.freeNext_anchor, State.startJob_anchor]; done) | ((repeat' split) <;> first | rfl | (simp only [anchor_mk, anchor_foldl, ite_self, implies_true, apply_ite State.anchor, forall_const, State.bcastRefusal_anchor, State.freeNext_anchor, State.startJob_anchor]; done)) | (rename_i heq; have hh := congrArg (fun p => State.anchor (Prod.fst p)) heq; simp only [anchor_mk, anchor_foldl, ite_self, implies_true, apply_ite State.anchor, forall_const, State.bcastRefusal_anchor, State.freeNext_anchor, State.startJob_anchor] at hh ⊢; exact hh.symm) | (rename_i heq _; have hh := congrArg (fun p => State.anchor (Prod.fst p)) heq; simp only [anchor_mk, anchor_foldl, ite_self, implies_true, apply_ite State.anchor, forall_const, State.bcastRefusal_anchor, State.freeNext_anchor, State.startJob_anchor] at hh ⊢; exact hh.symm) | (rename_i heq _ _; have hh := congrArg (fun p => State.anchor (Prod.fst p)) heq; simp only [anchor_mk, anchor_foldl, ite_self, implies_true, apply_ite State.anchor, forall_const, State.bcastRefusal_anchor, State.freeNext_anchor, State.startJob_anchor] at hh ⊢; exact hh.symm)
theorem State.abortSleep_anchor (s : State) (a1 : Nat) (a2 : Nat) : (State.abortSleep s a1 a2).anchor = s.anchor := by unfold State.abortSleep; dsimp only; (repeat' split) <;> first | rfl | (simp only [anchor_mk, anchor_foldl, ite_self, implies_true, apply_ite State.anchor, forall_const, State.raise_anchor, State.setSleep_anchor, State.sleepJob_anchor]; done) | ((repeat' split) <;> first | rfl | (simp only [anchor_mk, anchor_foldl, ite_self, implies_true, apply_ite State.anchor, forall_const, State.raise_anchor, State.setSleep_anchor, State.sleepJob_anchor]; done)) | (rename_i heq; have hh := congrArg (fun p => State.anchor (Prod.fst p)) heq; simp only [anchor_mk, anchor_foldl, ite_self, implies_true, apply_ite State.anchor, forall_const, State.raise_anchor, State.setSleep_anchor, State.sleepJob_anchor] at hh ⊢; exact hh.symm) | (rename_i heq _; have hh := congrArg (fun p => State.anchor (Prod.fst p)) heq; simp only [anchor_mk, anchor_foldl, ite_self, implies_true, apply_ite State.anchor, forall_const, State.raise_anchor, State.setSleep_anchor, State.sleepJob_anchor] at hh ⊢; exact hh.symm) | (rename_i heq _ _; have hh := congrArg (fun p => State.anchor (Prod.fst p)) heq; simp only [anchor_mk, anchor_foldl, ite_self, implies_true, apply_ite State.anchor, forall_const, State.raise_anchor, State.setSleep_anchor, State.sleepJob_anchor] at hh ⊢; exact hh.symm)
theorem State.abortFree_anchor (s : State) (a1 : Nat) : (State.abortFree s a1).anchor = s.anchor := by unfold State.abortFree; simp only [State.abortSleep_anchor, State.freeNext_anchor]
theorem State.skipSleep_anchor (s : State) (a1 : Nat) : (State.skipSleep s a1).anchor = s.anchor := by exact rfl
theorem State.sleepTo_anchor (s : State) (a1 : Nat) (a2 : Sleep) : (State.sleepTo s a1 a2).anchor = s.anchor := by unfold State.sleepTo; simp only [anchor_mk, anchor_foldl, ite_self, implies_true, apply_ite State.anchor, forall_const, State.raise_anchor, State.setSleep_anchor, State.skipSleep_anchor]
theorem State.noteAggregate_anchor (s : State) (a1 : Job) (a2 : Bool) : (State.noteAggregate s a1 a2).anchor = s.anchor := by unfold State.noteAggregate; simp only [ite_self, apply_ite State.anchor, State.abortFree_anchor, State.setSleep_anchor, State.sleepTo_anchor]
theorem State.endBcast_anchor (s : State) (a1 : Job) : (State.endBcast s a1).anchor = s.anchor := by unfold State.endBcast; simp only [State.answer_anchor, State.dropJob_anchor, State.noteAggregate_anchor]
theorem State.takeRegs_anchor (s : State) (l : Map Word) : (s.takeRegs l).anchor = s.anchor := by
  unfold State.takeRegs
  extract_lets isCtl old t
  have ht : t.anchor = s.anchor := rfl
  refine (anchor_foldl _ (fun t m => ?_) _ _).trans ht
  extract_lets a w; split
  · rfl
  · exact State.writeStrCtl_anchor _ _ _
theorem State.sendAck_anchor (s : State) (a1 : Msg) : (State.sendAck s a1).anchor = s.anchor := by unfold State.sendAck; simp only [State.send_anchor]
theorem State.watchMirror_anchor (s : State) : (State.watchMirror s).anchor = s.anchor := by unfold State.watchMirror; simp only [anchor_mk, ite_self, apply_ite State.anchor, State.raise_anchor]
theorem State.takeRenew_anchor (s : State) (a1 : Msg) : (State.takeRenew s a1).anchor = s.anchor := by unfold State.takeRenew; simp only [anchor_mk, State.sendAck_anchor, State.watchMirror_anchor]
theorem State.unbindCheck_anchor (s : State) : (State.unbindCheck s).anchor = s.anchor := by unfold State.unbindCheck; simp only [anchor_mk, ite_self, apply_ite State.anchor, State.raise_anchor]
theorem State.setEvtHead_anchor (s : State) (a1 : Nat) : (State.setEvtHead s a1).anchor = s.anchor := by unfold State.setEvtHead; simp only [anchor_mk, ite_self, apply_ite State.anchor, State.raise_anchor]
theorem State.setPortState_anchor (s : State) (a1 : Nat) (a2 : PortState) : (State.setPortState s a1 a2).anchor = s.anchor := by exact rfl
theorem State.takeAddress_anchor (s : State) (a1 : Nat) (a2 : Nat) (a3 : Word) : (State.takeAddress s a1 a2 a3).anchor = s.anchor := by unfold State.takeAddress; simp only [anchor_mk, State.raise_anchor, State.setPortState_anchor, State.setReg_anchor]
theorem State.admitFar_anchor (s : State) (a1 : Nat) (a2 : Req) (a3 : List Byte) : (State.admitFar s a1 a2 a3).anchor = s.anchor := by unfold State.admitFar; simp only [anchor_mk, State.send_anchor]
theorem State.setSub_anchor (s : State) (a1 : SubF) : (State.setSub s a1).anchor = s.anchor := by exact rfl
theorem State.cutSub_anchor (s : State) (a1 : Nat) (a2 : Nat) (a3 : Nat) (a4 : Nat) : (State.cutSub s a1 a2 a3 a4).anchor = s.anchor := by exact rfl
theorem State.cutLines_anchor (s : State) (a1 : Nat) (a2 : Nat) (a3 : Nat → Nat → Bool) : (State.cutLines s a1 a2 a3).anchor = s.anchor := by unfold State.cutLines; simp only [anchor_foldl, ite_self, implies_true, apply_ite State.anchor, State.cutSub_anchor]
theorem State.cutBad_anchor (s : State) (a1 : Nat) (a2 : Frame) : (State.cutBad s a1 a2).anchor = s.anchor := by unfold State.cutBad; simp only [anchor_foldl, implies_true, State.cutLines_anchor]
theorem State.relayStart_anchor (s : State) (a1 : Nat) : (State.relayStart s a1).anchor = s.anchor := by unfold State.relayStart; split <;> first | rfl | simp only [ite_self, apply_ite State.anchor, State.raiseA_anchor, State.raise_anchor, State.reroute_anchor, State.sendRmap_anchor, State.setRelay_anchor]
theorem State.cutOff_anchor (s : State) (a1 : Nat) (a2 : Nat) (a3 : Option Nat) : (State.cutOff s a1 a2 a3).anchor = s.anchor := by unfold State.cutOff; (repeat' split) <;> first | rfl | simp only [anchor_mk, State.raise_anchor, State.relayStart_anchor, State.unbindCheck_anchor]
theorem State.setDown_anchor (s : State) (a1 : Nat) (a2 : Nat) (a3 : PortState) : (State.setDown s a1 a2 a3).anchor = s.anchor := by exact rfl
theorem State.noteTileRec_anchor (s : State) (a1 : EvRec) : (State.noteTileRec s a1).anchor = s.anchor := by unfold State.noteTileRec; split <;> first | rfl | simp only [ite_self, apply_ite State.anchor, State.abortSleep_anchor, State.cutOff_anchor, State.setDown_anchor]
theorem State.answerPlain_anchor (s : State) (a1 : Nat) (a2 : Req) (a3 : Rsp) : (State.answerPlain s a1 a2 a3).anchor = s.anchor := by unfold State.answerPlain; simp only [State.reply_anchor]
theorem State.commit_anchor (s : State) (a1 : Nat) : (State.commit s a1).anchor = s.anchor := by exact rfl
theorem State.flashEvent_anchor (s : State) (a1 : Nat) (a2 : Nat) : (State.flashEvent s a1 a2).anchor = s.anchor := by unfold State.flashEvent; simp only [anchor_mk, anchor_foldl, ite_self, implies_true, apply_ite State.anchor, forall_const, State.raise_anchor]
theorem State.putRecord_anchor (s : State) (a1 : StoreData) (a2 : Bool) : (State.putRecord s a1 a2).anchor = s.anchor := by exact rfl
theorem State.spoil_anchor (s : State) (a1 : StoreData) : (State.spoil s a1).anchor = s.anchor := by unfold State.spoil; simp only [anchor_mk, anchor_foldl, ite_self, implies_true, apply_ite State.anchor, forall_const, State.flashEvent_anchor, State.putRecord_anchor]
theorem State.flashFail_anchor (s : State) (a1 : Nat) : (State.flashFail s a1).1.anchor = s.anchor := by unfold State.flashFail; simp only [anchor_mk, anchor_foldl, ite_self, implies_true, apply_ite State.anchor, forall_const, State.spoil_anchor]
theorem State.checkSeq_anchor (s : State) (a1 : Req) : (State.checkSeq s a1).1.anchor = s.anchor := by unfold State.checkSeq; dsimp only; (repeat' split) <;> first | rfl | simp only [anchor_mk, anchor_foldl, ite_self, implies_true, apply_ite State.anchor, forall_const, State.commit_anchor, State.flashFail_anchor, State.raise_anchor]
theorem State.admitSelf_anchor (s : State) (a1 : OpRow) (a2 : Req) (a3 : List Byte) : (State.admitSelf s a1 a2 a3).anchor = s.anchor := by unfold State.admitSelf; dsimp only; (repeat' split) <;> first | rfl | simp only [anchor_mk, State.answerPlain_anchor, State.answer_anchor, State.checkSeq_anchor, State.raise_anchor]
theorem State.admitTiles_anchor (s : State) (a1 : OpRow) (a2 : Req) (a3 : List Byte) (a4 : List Byte) (a5 : Nat) (a6 : List Nat) (a7 : List (Nat × Nat)) (a8 : Bool) : (State.admitTiles s a1 a2 a3 a4 a5 a6 a7 a8).anchor = s.anchor := by unfold State.admitTiles; (repeat' split) <;> first | rfl | simp only [State.answerPlain_anchor, State.answer_anchor, State.raise_anchor, State.startJob_anchor]
theorem State.receivePacket_anchor (s : State) (a1 : Via) (a2 : List Byte) : (State.receivePacket s a1 a2).anchor = s.anchor := by unfold State.receivePacket; dsimp only; (repeat' split) <;> first | rfl | simp only [State.admitFar_anchor, State.admitSelf_anchor, State.admitTiles_anchor, State.answerPlain_anchor, State.raise_anchor]
theorem State.updFrame_anchor (s : State) (a1 : Nat) (a2 : Frame → Frame) : (State.updFrame s a1 a2).anchor = s.anchor := by exact rfl
theorem State.badLines_anchor (s : State) (a1 : Nat) (a2 : List Nat) : (State.badLines s a1 a2).anchor = s.anchor := by unfold State.badLines; dsimp only; (repeat' split) <;> first | rfl | simp only [State.cutBad_anchor, State.updFrame_anchor]
theorem State.storeSrd_anchor (s : State) (a1 : Nat) (a2 : Surf) (a3 : Srd) : (State.storeSrd s a1 a2 a3).anchor = s.anchor := by unfold State.storeSrd; dsimp only; (repeat' split) <;> first | rfl | simp only [State.badLines_anchor, State.raise_anchor]
theorem State.setPort_anchor (s : State) (a1 : Nat) (a2 : PortS) : (State.setPort s a1 a2).anchor = s.anchor := by exact rfl
theorem State.bootPorts_anchor (s : State) : (State.bootPorts s).anchor = s.anchor := by unfold State.bootPorts; simp only [anchor_foldl, ite_self, implies_true, apply_ite State.anchor, State.setFld_anchor, State.setPort_anchor]
theorem State.setCore_anchor (s : State) (a1 : Nat) (a2 : CoreS) : (State.setCore s a1 a2).anchor = s.anchor := by exact rfl
theorem State.runChan_anchor (s : State) (a1 : Nat) : (State.runChan s a1).anchor = s.anchor := by exact rfl
theorem State.wakeChans_anchor (s : State) : s.wakeChans.anchor = s.anchor := by
  have h : ∀ (t : State) n, (t.wakeChan n).anchor = t.anchor := fun t n => by
    unfold State.wakeChan; split
    · rw [State.bump_anchor, State.runChan_anchor]
    · rfl
  unfold State.wakeChans; dsimp only
  split <;> simp only [State.raise_anchor, anchor_foldl _ h]
theorem State.wakeTile_anchor (s : State) : s.wakeTile.anchor = s.anchor := by
  unfold State.wakeTile
  extract_lets t _ u
  have ht : t.anchor = s.anchor := State.wakeChans_anchor s
  have hu : u.anchor = s.anchor := Eq.trans (anchor_mk rfl rfl rfl) ht
  rw [State.setSleep_anchor, hu]
theorem State.applyLive_anchor (s : State) (x : MirrorItem) : (s.applyLive x).anchor = s.anchor := by
  cases x with
  | epochs e _ _ => unfold State.applyLive; exact State.setReg_anchor _ _ _
  | regs l => unfold State.applyLive; exact State.takeRegs_anchor _ _
  | surfs l => unfold State.applyLive; extract_lets; exact anchor_mk rfl rfl rfl
  | data lo hi cells => unfold State.applyLive; extract_lets; exact anchor_mk rfl rfl rfl
  | locks l => unfold State.applyLive; extract_lets; exact anchor_mk rfl rfl rfl
  | ptp a b => unfold State.applyLive; extract_lets; exact anchor_mk rfl rfl rfl
  | lch c a b d => unfold State.applyLive; exact anchor_mk rfl rfl rfl
  | _ => unfold State.applyLive; rfl
theorem State.noteSessionKey_anchor (s : State) (a1 : Job) : (State.noteSessionKey s a1).1.anchor = s.anchor := by unfold State.noteSessionKey; dsimp only; (repeat' split) <;> first | rfl | simp only [State.raise_anchor]
theorem State.writeCalCfg_anchor (s : State) (a1 : Word) : (State.writeCalCfg s a1).1.anchor = s.anchor := by unfold State.writeCalCfg; dsimp only; (repeat' split) <;> first | rfl | simp only [anchor_mk, anchor_foldl, ite_self, implies_true, apply_ite State.anchor, forall_const, State.setReg_anchor]
theorem State.writeCal_anchor (s : State) (a1 : RegRow) (a2 : Nat) (a3 : Nat) : (State.writeCal s a1 a2 a3).1.anchor = s.anchor := by unfold State.writeCal; dsimp only; (repeat' split) <;> first | rfl | simp only [State.calChange_anchor, State.writeCalCfg_anchor]
theorem State.writeCmp_anchor (s : State) (r : RegRow) (a w : Nat) : (State.writeCmp s r a w).1.anchor = s.anchor := by
  unfold State.writeCmp; dsimp only
  (repeat' split) <;> simp only [State.setFld_anchor, State.addChange_anchor, State.clearCounters_anchor, State.storeReg_anchor]
theorem State.noteLeadLink_anchor (a0 : State) (s : State) : (State.noteLeadLink a0 s).anchor = s.anchor := by unfold State.noteLeadLink; simp only [ite_self, apply_ite State.anchor, State.raise_anchor]
theorem State.writeGlb_anchor (s : State) (a1 : RegRow) (a2 : Nat) (a3 : Nat) : (State.writeGlb s a1 a2 a3).1.anchor = s.anchor := by unfold State.writeGlb; (repeat' split) <;> first | rfl | simp only [State.noteLeadLink_anchor, State.storeReg_anchor]
theorem State.writeLamp_anchor (s : State) (r : RegRow) (a w : Nat) : (s.writeLamp r a w).1.anchor = s.anchor := by
  unfold State.writeLamp
  (repeat' split) <;> simp only [State.clearCounters_anchor, State.storeReg_anchor]
theorem State.setFunc_anchor (s : State) (a1 : Nat) (a2 : Nat) : (State.setFunc s a1 a2).anchor = s.anchor := by unfold State.setFunc; simp only [anchor_mk, anchor_foldl, ite_self, implies_true, apply_ite State.anchor, forall_const, State.setFld_anchor, State.setPort_anchor]
theorem State.writePrt_anchor (s : State) (a w : Nat) : (s.writePrt a w).1.anchor = s.anchor := by
  unfold State.writePrt; dsimp only
  split
  · (repeat' split) <;> simp only [State.setFld_anchor, State.noteLeadLink_anchor, State.setFunc_anchor]
  · exact State.clearCounters_anchor _ _ _ _
  · rfl
theorem State.writeEvtRingCfg_anchor (s : State) (a1 : Word) : (State.writeEvtRingCfg s a1).anchor = s.anchor := by unfold State.writeEvtRingCfg; simp only [anchor_mk, ite_self, apply_ite State.anchor, State.raise_anchor, State.setReg_anchor]
theorem State.writeRingCfg_anchor (s : State) (a1 : Nat) (a2 : Word) : (State.writeRingCfg s a1 a2).anchor = s.anchor := by unfold State.writeRingCfg; simp only [anchor_mk, ite_self, apply_ite State.anchor, State.raise_anchor, State.setReg_anchor]
theorem State.writeRings_anchor (s : State) (a1 : RegRow) (a2 : Nat) (a3 : Nat) : (State.writeRings s a1 a2 a3).1.anchor = s.anchor := by unfold State.writeRings; (repeat' split) <;> first | rfl | simp only [State.writeEvtRingCfg_anchor, State.writeRingCfg_anchor]
theorem State.noteGoRefused_anchor (s : State) (a1 : Bool) (a2 : Nat) : (State.noteGoRefused s a1 a2).anchor = s.anchor := by unfold State.noteGoRefused; simp only [anchor_mk, anchor_foldl, ite_self, implies_true, apply_ite State.anchor, forall_const, State.raise_anchor, State.setFld_anchor]
theorem State.storeStgCtl_anchor (s : State) (a1 : Word) : (State.storeStgCtl s a1).anchor = s.anchor := by exact rfl
theorem State.stgGo_anchor (s : State) (a1 : Word) : (State.stgGo s a1).anchor = s.anchor := by unfold State.stgGo; dsimp only; (repeat' split) <;> first | rfl | simp only [anchor_mk, anchor_foldl, ite_self, implies_true, apply_ite State.anchor, forall_const, State.noteGoRefused_anchor, State.setDom_anchor, State.stage_anchor, State.storeStgCtl_anchor]
theorem State.writeTmu_anchor (s : State) (a1 : RegRow) (a2 : Nat) (a3 : Nat) : (State.writeTmu s a1 a2 a3).1.anchor = s.anchor := by unfold State.writeTmu; (repeat' split) <;> first | rfl | simp only [State.stgGo_anchor]
theorem State.writeReg_anchor (s : State) (a w : Nat) : (s.writeReg a w).1.anchor = s.anchor := by
  unfold State.writeReg
  split
  · rfl
  · dsimp only
    split <;> simp only [State.writeGlb_anchor, State.writeRings_anchor, State.writeTmu_anchor, State.writePrt_anchor, State.writeIng_anchor, State.writeCmp_anchor,
      State.writeLamp_anchor, State.writeCal_anchor, State.writeOther_anchor]
theorem State.setCap_anchor (s : State) (a1 : Nat) (a2 : CapFifo) : (State.setCap s a1 a2).anchor = s.anchor := by exact rfl
theorem State.popCap_anchor (s : State) (a1 : Nat) : (State.popCap s a1).anchor = s.anchor := by unfold State.popCap; dsimp only; (repeat' split) <;> first | rfl | simp only [anchor_mk, anchor_foldl, ite_self, implies_true, apply_ite State.anchor, forall_const, State.setCap_anchor]
theorem State.readSensor_anchor (s : State) (a1 : Nat) (a2 : Option Int) : (State.readSensor s a1 a2).anchor = s.anchor := by unfold State.readSensor; (repeat' split) <;> first | rfl | simp only [anchor_mk, ite_self, apply_ite State.anchor, State.raise_anchor]
theorem State.useFrames_anchor (s : State) (a1 : Launch) : (State.useFrames s a1).anchor = s.anchor := by exact rfl
theorem State.loseOcm_anchor (s : State) : (State.loseOcm s).anchor = s.anchor := by exact rfl
theorem State.restChan_anchor (s : State) (a1 : Nat) : (State.restChan s a1).anchor = s.anchor := by unfold State.restChan; simp only [anchor_mk, anchor_foldl, ite_self, implies_true, apply_ite State.anchor, forall_const, State.memWrite_anchor, State.setChan_anchor]
theorem State.restChans_anchor (s : State) : s.restChans.anchor = s.anchor := by
  unfold State.restChans; dsimp only
  split <;> simp only [State.raise_anchor, anchor_foldl _ State.restChan_anchor]
theorem State.restTile_anchor (s : State) (a1 : LchSt) : (State.restTile s a1).anchor = s.anchor := by unfold State.restTile; simp only [anchor_mk, State.stopSchedule_anchor]
theorem State.enterTwilight_anchor (s : State) : s.enterTwilight.anchor = s.anchor := by
  unfold State.enterTwilight
  extract_lets was emit t _ u v _ w
  have ht : t.anchor = s.anchor := by simp only [t]; rw [State.restTile_anchor, State.goInert_anchor]
  have hu : u.anchor = s.anchor := Eq.trans (anchor_mk rfl rfl rfl) ht
  have hv : v.anchor = s.anchor := by
    simp only [v]; rw [State.loseOcm_anchor, State.restChans_anchor, hu]
  clear_value v
  have hw : w.anchor = s.anchor := Eq.trans (anchor_mk rfl rfl rfl) hv
  rw [State.sleepTo_anchor, hw]
theorem State.yieldClaim_anchor (s : State) : (State.yieldClaim s).anchor = s.anchor := by unfold State.yieldClaim; simp only [State.bump_anchor, State.enterStandby_anchor, State.raise_anchor]
theorem State.setServo_anchor (s : State) (a1 : Bool) (a2 : Servo) (a3 : Nat) : (State.setServo s a1 a2 a3).anchor = s.anchor := by unfold State.setServo; simp only [ite_self, apply_ite State.anchor, State.raise_anchor, State.setDom_anchor]
theorem State.noteAborted_anchor (s : State) (a1 : Nat) (a2 : Nat) (a3 : Nat) (a4 : Nat) : (State.noteAborted s a1 a2 a3 a4).anchor = s.anchor := by unfold State.noteAborted; simp only [anchor_mk, ite_self, apply_ite State.anchor, State.bumpBy_anchor, State.raiseA_anchor]
theorem State.memPut_anchor (s : State) (a1 : Nat) (a2 : Byte) : (State.memPut s a1 a2).anchor = s.anchor := by exact rfl
theorem State.monitorPhase_anchor (s : State) (a1 : Nat) (a2 : Int) : (State.monitorPhase s a1 a2).anchor = s.anchor := by unfold State.monitorPhase; split <;> first | rfl | simp only [ite_self, apply_ite State.anchor, State.bump_anchor, State.raise_anchor]
theorem State.repeatCauses_anchor (s : State) : (State.repeatCauses s).anchor = s.anchor := by exact rfl
theorem State.setRegion_anchor (s : State) (a1 : Nat) (a2 : Region) : (State.setRegion s a1 a2).anchor = s.anchor := by exact rfl
theorem State.applyRmap_anchor (s : State) (a1 : Msg) : (State.applyRmap s a1).anchor = s.anchor := by exact rfl
theorem State.newEpoch_anchor (s : State) (a1 : Word) : (State.newEpoch s a1).anchor = s.anchor := by exact rfl
theorem State.replayHolds_anchor (s : State) (a1 : Nat) : (State.replayHolds s a1).anchor = s.anchor := by exact rfl
theorem State.acceptRun_anchor (s : State) (a1 : CalRun) (a2 : Passes) : (State.acceptRun s a1 a2).anchor = s.anchor := by unfold State.acceptRun; simp only [ite_self, apply_ite State.anchor, State.calChange_anchor, State.raise_anchor]
theorem State.noteRecord_anchor (s : State) (a1 : List Byte) : (State.noteRecord s a1).anchor = s.anchor := by unfold State.noteRecord; split <;> first | rfl | simp only [anchor_mk, anchor_foldl, ite_self, implies_true, apply_ite State.anchor, forall_const, State.commit_anchor, State.flashFail_anchor, State.raise_anchor]
theorem State.noteChanges_anchor (s : State) (a1 : MetPoll) : (State.noteChanges s a1).anchor = s.anchor := by unfold State.noteChanges; simp only [anchor_foldl, ite_self, implies_true, apply_ite State.anchor, State.noteRecord_anchor, State.raise_anchor]
theorem State.transitCell_anchor (s : State) (a1 : Nat) (a2 : Nat) (a3 : Nat) (a4 : Nat) (a5 : Bool) (a6 : List Byte) : (State.transitCell s a1 a2 a3 a4 a5 a6).anchor = s.anchor := by exact rfl
theorem State.wakeRequest_anchor (s : State) (a1 : Nat) : (State.wakeRequest s a1).anchor = s.anchor := by unfold State.wakeRequest; (repeat' split) <;> first | rfl | simp only [anchor_mk, State.raise_anchor]
theorem State.readyGroups_anchor (s : State) (a1 : Nat) (a2 : Nat) : (State.readyGroups s a1 a2).anchor = s.anchor := by exact rfl
theorem State.freshen_anchor (s : State) (a1 : Nat) : (State.freshen s a1).anchor = s.anchor := by unfold State.freshen; dsimp only; (repeat' split) <;> first | rfl | simp only [anchor_mk, State.raise_anchor]
theorem State.statusWord_anchor (s : State) (a1 : Nat) (a2 : Nat) (a3 : Nat) : (State.statusWord s a1 a2 a3).anchor = s.anchor := by unfold State.statusWord; dsimp only; (repeat' split) <;> first | rfl | simp only [anchor_mk, State.bumpBy_anchor, State.bump_anchor, State.freshen_anchor, State.raise_anchor]
theorem State.closeMerge_anchor (s : State) (a1 : Merge) : (State.closeMerge s a1).anchor = s.anchor := by unfold State.closeMerge; simp only [anchor_mk, ite_self, apply_ite State.anchor, State.toHost_anchor]
theorem State.noteStale_anchor (s : State) : (State.noteStale s).anchor = s.anchor := by unfold State.noteStale; simp only [anchor_mk, ite_self, apply_ite State.anchor, State.raise_anchor]
theorem State.relayWatch_anchor (s : State) : (State.relayWatch s).anchor = s.anchor := by unfold State.relayWatch; simp only [anchor_foldl, implies_true, State.relayEnd_anchor]
theorem State.notePartner_anchor (s : State) (a1 : Nat) : (State.notePartner s a1).anchor = s.anchor := by unfold State.notePartner; simp only [anchor_mk, State.relayWatch_anchor]
theorem State.setImgSlot_anchor (s : State) (a1 : Nat) (a2 : ImgSlot) : (State.setImgSlot s a1 a2).anchor = s.anchor := by unfold State.setImgSlot; simp only [anchor_mk, ite_self, apply_ite State.anchor]
theorem State.noteCmdCell_anchor (s : State) (a1 : TxMsg) (a2 : Nat) : (State.noteCmdCell s a1 a2).anchor = s.anchor := by exact rfl
theorem State.complete_anchor (s : State) (a1 : Req) (a2 : Nat) : (State.complete s a1 a2).anchor = s.anchor := by unfold State.complete; simp only [State.raise_anchor]
theorem State.takeFlip_anchor (s : State) (a1 : Nat) (a2 : Nat × Flip) : (State.takeFlip s a1 a2).anchor = s.anchor := by unfold State.takeFlip; simp only [anchor_mk, anchor_foldl, implies_true, State.bump_anchor, State.complete_anchor, State.flipLayer_anchor, State.raise_anchor]
theorem State.takeEffect_anchor (s : State) (a1 : Nat) (a2 : Nat) : (State.takeEffect s a1 a2).anchor = s.anchor := by unfold State.takeEffect; simp only [anchor_mk, anchor_foldl, implies_true, State.applyChange_anchor, State.changeEvent_anchor, State.takeFlip_anchor]
theorem State.sendBeat_anchor (s : State) (a1 : Nat) (a2 : Nat) (a3 : Nat) (a4 : Nat) (a5 : Nat) (a6 : Nat) (a7 : Bool) : (State.sendBeat s a1 a2 a3 a4 a5 a6 a7).anchor = s.anchor := by unfold State.sendBeat; simp only [anchor_foldl, implies_true, State.send_anchor]
theorem State.stickSupply_anchor (s : State) (a1 : Nat) : (State.stickSupply s a1).anchor = s.anchor := by exact rfl
theorem State.hearBeacon_anchor (s : State) (a1 : Nat) : (State.hearBeacon s a1).anchor = s.anchor := by exact rfl
theorem State.putRing_anchor (s : State) (a1 : EvRec) : (State.putRing s a1).anchor = s.anchor := by exact rfl
theorem State.timeLost_anchor (s : State) : (State.timeLost s).anchor = s.anchor := by unfold State.timeLost; simp only [State.raise_anchor, State.setDom_anchor, State.setServo_anchor]
theorem State.noteCode_anchor (s : State) (a1 : Nat) : (State.noteCode s a1).anchor = s.anchor := by unfold State.noteCode; simp only [anchor_mk, ite_self, apply_ite State.anchor, State.raise_anchor]
theorem State.viewFor_anchor (s : State) (a1 : Nat) : (State.viewFor s a1).anchor = s.anchor := by unfold State.viewFor; simp only [anchor_foldl, implies_true, State.applyChange_anchor, State.flipLayer_anchor]
theorem State.takeMsgRow_anchor (s : State) (a1 : Msg) : (State.takeMsgRow s a1).anchor = s.anchor := by exact rfl
theorem State.unstale_anchor (s : State) : (State.unstale s).anchor = s.anchor := by unfold State.unstale; simp only [anchor_mk, ite_self, apply_ite State.anchor, State.raise_anchor]
theorem State.writeMasks_anchor (s : State) (k : Nat) (l : List Word) : (s.writeMasks k l).anchor = s.anchor := by
  induction l generalizing s k with
  | nil => rfl
  | cons w ws ih => unfold State.writeMasks; rw [ih, State.setReg_anchor]
theorem State.setSurf_anchor (s : State) (a1 : Nat) (a2 : Surf) : (State.setSurf s a1 a2).anchor = s.anchor := by exact rfl
theorem State.dropPix_anchor (s : State) (a1 : Nat) (a2 : Nat) : (State.dropPix s a1 a2).anchor = s.anchor := by exact rfl
theorem State.failSub_anchor (s : State) (a1 : Nat) (a2 : Nat) (a3 : Nat) : (State.failSub s a1 a2 a3).anchor = s.anchor := by unfold State.failSub; split <;> first | rfl | simp only [anchor_mk, anchor_foldl, ite_self, implies_true, apply_ite State.anchor, forall_const, State.dropPix_anchor, State.setRegion_anchor]
theorem State.refuseHeader_anchor (s : State) (a1 : Nat) (a2 : Nat) (a3 : Nat) : (State.refuseHeader s a1 a2 a3).anchor = s.anchor := by unfold State.refuseHeader; simp only [State.bump_anchor, State.failSub_anchor, State.raise_anchor]
theorem need_anchor (c : Bool) (a : Rsp) (s : State) (k : State × Rsp) (h : k.1.anchor = s.anchor) : (need c a s k).1.anchor = s.anchor := by
  unfold need; split <;> first | rfl | exact h
theorem State.wrongPair_anchor (s : State) : (State.wrongPair s).1.anchor = s.anchor := by exact rfl
theorem State.clearGroup_anchor (s : State) : (State.clearGroup s).anchor = s.anchor := by exact rfl
theorem State.endWindow_anchor (s : State) (a1 : Win) : (State.endWindow s a1).anchor = s.anchor := by unfold State.endWindow; simp only [anchor_mk, State.credit_anchor]
theorem State.dropAsm_anchor (s : State) (a1 : Nat) (a2 : Nat) : (State.dropAsm s a1 a2).anchor = s.anchor := by exact rfl
theorem State.raise100_anchor (s : State) (a1 : Nat) : (State.raise100 s a1).anchor = s.anchor := by unfold State.raise100; simp only [anchor_mk, anchor_foldl, ite_self, implies_true, apply_ite State.anchor, forall_const, State.raise_anchor]
theorem State.judgeNearest_anchor (s : State) (a1 : Nat) (a2 : Nat) (a3 : List Byte) : (State.judgeNearest s a1 a2 a3).anchor = s.anchor := by unfold State.judgeNearest; simp only [anchor_mk, anchor_foldl, ite_self, implies_true, apply_ite State.anchor, forall_const, State.raise100_anchor, State.send_anchor]
theorem State.raise16_anchor (s : State) (a1 : Nat) (a2 : Nat) : (State.raise16 s a1 a2).anchor = s.anchor := by unfold State.raise16; simp only [anchor_mk, anchor_foldl, ite_self, implies_true, apply_ite State.anchor, forall_const, State.raise_anchor]
theorem State.takeCmd_anchor (s : State) (a1 : Msg) : (State.takeCmd s a1).anchor = s.anchor := by unfold State.takeCmd; dsimp only; (repeat' split) <;> first | rfl | simp only [anchor_mk, anchor_foldl, ite_self, implies_true, apply_ite State.anchor, forall_const, State.answerPlain_anchor, State.judgeNearest_anchor, State.raise16_anchor, State.receivePacket_anchor]
theorem State.takeMsg_anchor (s : State) (a1 : Msg) : (State.takeMsg s a1).anchor = s.anchor := by unfold State.takeMsg; simp only [anchor_mk, ite_self, apply_ite State.anchor, State.bump_anchor, State.raise_anchor, State.takeCmd_anchor]
theorem State.endMsg_anchor (s : State) (a1 : Nat) (a2 : Nat) (a3 : Asm) (a4 : List Byte) (a5 : Nat) (a6 : Nat) (a7 : Nat) : (State.endMsg s a1 a2 a3 a4 a5 a6 a7).anchor = s.anchor := by unfold State.endMsg; dsimp only; (repeat' split) <;> first | rfl | simp only [anchor_mk, State.bump_anchor, State.dropAsm_anchor, State.raise_anchor, State.takeMsg_anchor]
theorem State.mergeRec_anchor (s : State) (a1 : EvRec) : (State.mergeRec s a1).anchor = s.anchor := by unfold State.mergeRec; simp only [anchor_mk, ite_self, apply_ite State.anchor, State.toHost_anchor]
theorem State.clearHold_anchor (s : State) (a1 : Nat) (a2 : Nat) (a3 : Bool) (a4 : Nat) : (State.clearHold s a1 a2 a3 a4).1.anchor = s.anchor := by unfold State.clearHold; dsimp only; (repeat' split) <;> first | rfl | simp only [anchor_mk, State.raise_anchor]
theorem State.noteEgress_anchor (s : State) (a1 : TxMsg) (a2 : Nat) : (State.noteEgress s a1 a2).anchor = s.anchor := by unfold State.noteEgress; simp only [anchor_mk, ite_self, apply_ite State.anchor, State.setDom_anchor]
theorem State.udpCommand_anchor (s : State) (a1 : Nat) (a2 : Nat) (a3 : Nat) (a4 : Bool) (a5 : List Byte) : (State.udpCommand s a1 a2 a3 a4 a5).anchor = s.anchor := by unfold State.udpCommand; simp only [ite_self, apply_ite State.anchor, State.raise_anchor, State.receivePacket_anchor]
theorem State.sendLnch_anchor (s : State) (a1 : List Byte) : (State.sendLnch s a1).anchor = s.anchor := by unfold State.sendLnch; simp only [anchor_foldl, implies_true, State.send_anchor]
theorem State.announceCell_anchor (s : State) : (State.announceCell s).anchor = s.anchor := by unfold State.announceCell; simp only [anchor_mk, State.sendLnch_anchor]
theorem State.noteBare_anchor (s : State) : (State.noteBare s).anchor = s.anchor := by unfold State.noteBare; simp only [anchor_mk, anchor_foldl, implies_true, State.raise_anchor]
theorem State.announce_anchor (s : State) (a1 : Nat) (a2 : Nat) (a3 : Nat) : (State.announce s a1 a2 a3).anchor = s.anchor := by unfold State.announce; (repeat' first | with_reducible rfl | split | extract_lets | simp only [anchor_mk, anchor_foldl, ite_self, implies_true, apply_ite State.anchor, forall_const, State.announceCell_anchor, State.noteBare_anchor, State.takeEffect_anchor] | dsimp +zetaDelta only)
theorem State.decideSwitch_anchor (s : State) (a1 : Nat) : (State.decideSwitch s a1).anchor = s.anchor := by unfold State.decideSwitch; (repeat' split) <;> first | rfl | simp only [anchor_mk, ite_self, apply_ite State.anchor, State.complete_anchor, State.raise_anchor]
theorem State.servoStep_anchor (s : State) (a1 : Nat) : (State.servoStep s a1).1.anchor = s.anchor := by unfold State.servoStep; dsimp only; (repeat' split) <;> first | rfl | simp only [anchor_mk, State.setLaunchServo_anchor]
theorem State.announceNext_anchor (s t : State) (h : s.announceNext = some t) : t.anchor = s.anchor := by
  have hn : ∀ x, s.nextAnnounce = some x → x.2.2.2.anchor = s.anchor := by
    intro x h
    unfold State.nextAnnounce at h
    extract_lets at h
    split at h
    · cases h
    · split at h
      · extract_lets at h
        split at h
        · extract_lets at h
          split at h <;> (injection h with h; subst h; rfl)
        · injection h with h; subst h; rfl
      · extract_lets at h
        split at h
        · rename_i l _ _ _ _
          have hs := State.servoStep_anchor s l.at_
          generalize s.servoStep l.at_ = p at h hs
          obtain ⟨u', q⟩ := p
          injection h with h; subst h; exact hs
        · injection h with h; subst h; rfl
  unfold State.announceNext at h
  split at h
  · cases h
  · rename_i a b c u hq
    split at h
    · cases h
    · extract_lets v w at h
      injection h with h; subst h
      rw [State.announce_anchor]
      refine (State.decideSwitch_anchor _ _).trans ?_
      refine Eq.trans ?_ (hn _ hq)
      simp only [v]
      split
      · exact State.raise_anchor _ _ _ _
      · rfl
theorem State.announceDue_anchor (n : Nat) (s : State) : (State.announceDue n s).anchor = s.anchor := by
  induction n generalizing s with
  | zero => rfl
  | succ n ih =>
    unfold State.announceDue; split
    · rename_i t h; rw [ih, State.announceNext_anchor s t h]
    · rfl
theorem State.makeCurrent_anchor (s : State) (a1 : Nat) (a2 : Nat) : (State.makeCurrent s a1 a2).anchor = s.anchor := by unfold State.makeCurrent; split <;> first | rfl | simp only [anchor_mk, anchor_foldl, ite_self, implies_true, apply_ite State.anchor, forall_const, State.setRegion_anchor]
theorem State.takeEntry_anchor (s : State) (a1 : Launch) : (State.takeEntry s a1).anchor = s.anchor := by unfold State.takeEntry; (repeat' split) <;> first | rfl | simp only [anchor_mk, ite_self, apply_ite State.anchor, State.discardEntry_anchor, State.raise_anchor]
theorem State.failFrame_anchor (s : State) (a1 : Nat) : (State.failFrame s a1).anchor = s.anchor := by unfold State.failFrame; split <;> first | rfl | simp only [ite_self, apply_ite State.anchor, State.bump_anchor, State.raise_anchor, State.updFrame_anchor]
theorem State.ackMirror_anchor (s : State) (a1 : Nat) : (State.ackMirror s a1).anchor = s.anchor := by unfold State.ackMirror; simp only [anchor_mk, ite_self, apply_ite State.anchor, State.release_anchor, State.unstale_anchor]
theorem State.beginLaunch_anchor (s : State) (a1 : Nat) : (State.beginLaunch s a1).anchor = s.anchor := by unfold State.beginLaunch; simp only [anchor_mk, ite_self, apply_ite State.anchor, State.raise_anchor]
theorem State.enterActive_anchor (s : State) : (State.enterActive s).anchor = s.anchor := by unfold State.enterActive; simp only [anchor_mk, State.setPair_anchor]
theorem State.takeSeq_anchor (s : State) (a1 : TxMsg) (a2 : Nat) : (State.takeSeq s a1 a2).1.anchor = s.anchor := by unfold State.takeSeq; dsimp only; (repeat' split) <;> first | rfl | simp only [anchor_mk, anchor_foldl, ite_self, implies_true, apply_ite State.anchor, forall_const, State.commit_anchor, State.flashFail_anchor, State.raise_anchor]
theorem State.beginMsg_anchor (s : State) (a1 : TxMsg) (a2 : Nat) : (State.beginMsg s a1 a2).1.anchor = s.anchor := by unfold State.beginMsg; dsimp only; (repeat' split) <;> first | rfl | (simp only; done) | ((repeat' split) <;> first | rfl | (simp only; done)) | (rename_i heq; have hh := congrArg (fun p => State.anchor (Prod.fst p)) heq; simp only [anchor_mk, anchor_foldl, ite_self, implies_true, apply_ite State.anchor, forall_const, State.takeSeq_anchor] at hh ⊢; exact hh.symm) | (rename_i heq _; have hh := congrArg (fun p => State.anchor (Prod.fst p)) heq; simp only [anchor_mk, ite_self, apply_ite State.anchor, State.takeSeq_anchor] at hh ⊢; exact hh.symm) | (rename_i heq _ _; have hh := congrArg (fun p => State.anchor (Prod.fst p)) heq; simp only [anchor_mk, anchor_foldl, ite_self, implies_true, apply_ite State.anchor, forall_const, State.takeSeq_anchor] at hh ⊢; exact hh.symm)
theorem State.sendCell_anchor (s : State) (m : TxMsg) (slot stamp : Nat) : (State.sendCell s m slot stamp).anchor = s.anchor := by
  have hb := State.beginMsg_anchor s m stamp
  unfold State.sendCell
  generalize s.beginMsg m stamp = p at hb
  obtain ⟨u, x, o⟩ := p
  match o with
  | some (c :: rest) =>
    dsimp only
    rw [State.startStalled_anchor]
    (repeat' split) <;> simp only [State.noteEgress_anchor, State.noteCmdCell_anchor, State.emit_anchor] <;> exact hb
  | some [] => dsimp only; rw [State.emit_anchor]; exact hb
  | none => dsimp only; rw [State.emit_anchor]; exact hb
theorem State.writeBlock_anchor (s : State) (u : Surf) (b n : Nat) (cs : List (List Nat)) : (s.writeBlock u b n cs).anchor = s.anchor := by
  unfold State.writeBlock; dsimp only
  split <;> simp only [State.bump_anchor, State.memWrite_anchor]
theorem State.sampleCodes_anchor (s : State) : (State.sampleCodes s).anchor = s.anchor := by unfold State.sampleCodes; simp only [anchor_mk, anchor_foldl, implies_true, State.noteCode_anchor]
theorem State.memWrites_anchor (s : State) (l : List Queued) : (l.foldl (fun t w => t.memWrite w.req.addr (fit 64 w.req.data)) s).anchor = s.anchor :=
  anchor_foldl _ (fun t _ => State.memWrite_anchor t _ _) l s
theorem State.drainChan_anchor (s : State) (n : Nat) : (s.drainChan n).anchor = s.anchor := by
  unfold State.drainChan; dsimp only
  (repeat' split) <;> simp only [State.setChan_anchor, State.memWrites_anchor]
theorem State.drainMem_anchor (s : State) : s.drainMem.anchor = s.anchor := by
  unfold State.drainMem; extract_lets t mask keep
  have ht : t.anchor = s.anchor := anchor_foldl _ State.drainChan_anchor _ s
  rw [State.setReg_anchor]; exact ht
theorem State.resumeLaunches_anchor (s : State) : s.resumeLaunches.1.anchor = s.anchor := by
  unfold State.resumeLaunches
  split
  · rfl
  · split
    extract_lets last _ t _ v _ w
    have ht : t.anchor = s.anchor := by
      simp only [t]; split
      · rfl
      · split <;> exact anchor_mk rfl rfl rfl
    clear_value t
    have hv : v.anchor = s.anchor := Eq.trans (anchor_mk rfl rfl rfl) ht
    clear_value v
    split
    · have hw : w.anchor = s.anchor := by
        simp only [w]; rw [State.raise_anchor]; exact Eq.trans (anchor_mk rfl rfl rfl) hv
      clear_value w
      rw [State.announceDue_anchor, State.announce_anchor, hw]
    · rw [State.raise_anchor]
      exact Eq.trans (anchor_mk rfl rfl rfl) hv
theorem State.wrongState_anchor (s : State) : (State.wrongState s).1.anchor = s.anchor := by exact rfl
theorem State.resumeJob_anchor (s : State) (a1 : Nat) (a2 : Option Req) : (State.resumeJob s a1 a2).anchor = s.anchor := by unfold State.resumeJob; (repeat' split) <;> first | rfl | (simp only [anchor_mk, anchor_foldl, ite_self, implies_true, apply_ite State.anchor, forall_const, State.answer_anchor, State.sleepJob_anchor]; done) | ((repeat' split) <;> first | rfl | (simp only [anchor_mk, anchor_foldl, ite_self, implies_true, apply_ite State.anchor, forall_const, State.answer_anchor, State.sleepJob_anchor]; done)) | (rename_i heq; have hh := congrArg (fun p => State.anchor (Prod.fst p)) heq; simp only [anchor_mk, anchor_foldl, ite_self, implies_true, apply_ite State.anchor, forall_const, State.answer_anchor, State.sleepJob_anchor] at hh ⊢; exact hh.symm) | (rename_i heq _; have hh := congrArg (fun p => State.anchor (Prod.fst p)) heq; simp only [anchor_mk, anchor_foldl, ite_self, implies_true, apply_ite State.anchor, forall_const, State.answer_anchor, State.sleepJob_anchor] at hh ⊢; exact hh.symm) | (rename_i heq _ _; have hh := congrArg (fun p => State.anchor (Prod.fst p)) heq; simp only [anchor_mk, anchor_foldl, ite_self, implies_true, apply_ite State.anchor, forall_const, State.answer_anchor, State.sleepJob_anchor] at hh ⊢; exact hh.symm)
theorem State.resumeBroadcast_anchor (s : State) (a1 : Nat) : (State.resumeBroadcast s a1).anchor = s.anchor := by unfold State.resumeBroadcast; simp only [State.resumeJob_anchor, State.setSleep_anchor, State.sleepTo_anchor]
theorem State.finishHandover_anchor (s : State) (a1 : Req) : (State.finishHandover s a1).anchor = s.anchor := by unfold State.finishHandover; simp only [anchor_mk, State.complete_anchor, State.enterStandby_anchor, State.sendBeat_anchor]
theorem State.ackFlush_anchor (s : State) : (State.ackFlush s).anchor = s.anchor := by unfold State.ackFlush; split <;> first | rfl | simp only [ite_self, apply_ite State.anchor, State.finishHandover_anchor]
theorem State.packBlock_anchor (s : State) (a1 : Nat) (a2 : Surf) (a3 : Nat) : (State.packBlock s a1 a2 a3).anchor = s.anchor := by unfold State.packBlock; simp only [anchor_mk, anchor_foldl, ite_self, implies_true, apply_ite State.anchor, forall_const, State.setSurf_anchor, State.writeBlock_anchor]
theorem State.tryComplete_anchor (s : State) (m : Nat) (u : Surf) : (s.tryComplete m u).anchor = s.anchor := by
  unfold State.tryComplete; dsimp only
  split
  · rfl
  · split
    · rfl
    · have h : ∀ (l : List Nat), (l.foldl (fun t n => t.packBlock m u n) s).anchor = s.anchor := fun l => anchor_foldl _ (fun t n => State.packBlock_anchor t m u n) l s
      (repeat' split) <;> simp only [State.raise_anchor, State.setStrm_anchor, State.bump_anchor, State.updFrame_anchor, State.setSurf_anchor, h]
theorem State.clearReplay_anchor (s : State) (a1 : Nat) : (State.clearReplay s a1).anchor = s.anchor := by exact rfl
theorem State.sendDelta_anchor (s : State) : (State.sendDelta s).anchor = s.anchor := by unfold State.sendDelta; simp only [anchor_mk, State.send_anchor]
theorem State.applyStaged_anchor (s : State) (a1 : Bool) : (State.applyStaged s a1).anchor = s.anchor := by unfold State.applyStaged; split <;> first | rfl | simp only [anchor_mk, ite_self, apply_ite State.anchor, State.raise_anchor, State.setDom_anchor, State.setFld_anchor]
theorem State.stageReply_anchor (s : State) (a1 : Nat) (a2 : Req) (a3 : Change) : (State.stageReply s a1 a2 a3).1.anchor = s.anchor := by unfold State.stageReply; dsimp only; (repeat' split) <;> first | rfl | simp only [anchor_mk, anchor_foldl, ite_self, implies_true, apply_ite State.anchor, forall_const, State.addChange_anchor]
theorem State.resumeWaiting_anchor (s : State) : (State.resumeWaiting s).anchor = s.anchor := by exact rfl
theorem State.verified_anchor (s : State) (a1 : ImgUpdate) (a2 : Req) (a3 : Option Nat) : (State.verified s a1 a2 a3).anchor = s.anchor := by unfold State.verified; split <;> first | rfl | simp only [anchor_mk, State.complete_anchor, State.raise_anchor, State.setImgSlot_anchor]
theorem State.ackRenew_anchor (s : State) (a1 : Nat) : (State.ackRenew s a1).anchor = s.anchor := by exact rfl
theorem State.passLaunch_anchor (s : State) (a1 : Nat) : (State.passLaunch s a1).anchor = s.anchor := by exact rfl
theorem State.sendMarkers_anchor (s : State) (a1 : List Nat) (a2 : List Byte) : (State.sendMarkers s a1 a2).anchor = s.anchor := by exact rfl
theorem State.dropOld_anchor (s : State) : (State.dropOld s).anchor = s.anchor := by unfold State.dropOld; simp only [anchor_foldl, ite_self, implies_true, apply_ite State.anchor, State.setImgSlot_anchor]
theorem State.linkFault_anchor (s : State) (a1 : Nat) (a2 : Bool) : (State.linkFault s a1 a2).anchor = s.anchor := by unfold State.linkFault; simp only [anchor_mk, ite_self, apply_ite State.anchor, State.cutOff_anchor, State.noteLeadLink_anchor, State.raise_anchor, State.setPort_anchor, State.startStalled_anchor, State.unbindCheck_anchor]
theorem State.takeReq_anchor (s : State) (a1 : Nat) (a2 : Req) : (State.takeReq s a1 a2).anchor = s.anchor := by exact rfl
theorem State.showUnit_anchor (s : State) (a1 : Win) (a2 : Shown) : (State.showUnit s a1 a2).anchor = s.anchor := by unfold State.showUnit; simp only [anchor_mk, State.credit_anchor, State.emits_anchor]
theorem State.noteRefused_anchor (s : State) (a1 : Nat) (a2 : Word) (a3 : RegRefusal) : (State.noteRefused s a1 a2 a3).anchor = s.anchor := by unfold State.noteRefused; split <;> first | rfl | simp only [anchor_mk, anchor_foldl, ite_self, implies_true, apply_ite State.anchor, forall_const, State.noteGoRefused_anchor, State.raise_anchor]
theorem State.writeWord_anchor (s : State) (a1 : Req) (a2 : Nat) (a3 : Nat) (a4 : Word) : (State.writeWord s a1 a2 a3 a4).1.anchor = s.anchor := by unfold State.writeWord; dsimp only; (repeat' split) <;> first | rfl | (simp only [anchor_mk, anchor_foldl, ite_self, implies_true, apply_ite State.anchor, forall_const, State.noteRefused_anchor, State.writeReg_anchor]; done) | ((repeat' split) <;> first | rfl | (simp only [anchor_mk, anchor_foldl, ite_self, implies_true, apply_ite State.anchor, forall_const, State.noteRefused_anchor, State.writeReg_anchor]; done)) | (rename_i heq; have hh := congrArg (fun p => State.anchor (Prod.fst p)) heq; simp only [anchor_mk, anchor_foldl, ite_self, implies_true, apply_ite State.anchor, forall_const, State.noteRefused_anchor, State.writeReg_anchor] at hh ⊢; exact hh.symm) | (rename_i heq _; have hh := congrArg (fun p => State.anchor (Prod.fst p)) heq; simp only [anchor_mk, anchor_foldl, ite_self, implies_true, apply_ite State.anchor, forall_const, State.noteRefused_anchor, State.writeReg_anchor] at hh ⊢; exact hh.symm) | (rename_i heq _ _; have hh := congrArg (fun p => State.anchor (Prod.fst p)) heq; simp only [anchor_mk, anchor_foldl, ite_self, implies_true, apply_ite State.anchor, forall_const, State.noteRefused_anchor, State.writeReg_anchor] at hh ⊢; exact hh.symm)
theorem State.writeWords_anchor (s : State) (r : Req) (a k : Nat) (l : List Word) : (s.writeWords r a k l).1.anchor = s.anchor := by
  induction l generalizing s k with
  | nil => rfl
  | cons w ws ih =>
    have h := State.writeWord_anchor s r a k w
    unfold State.writeWords
    generalize s.writeWord r a k w = p at h
    obtain ⟨t, o⟩ := p
    cases o with
    | some x => rfl
    | none => exact (ih t (k + 1)).trans h
theorem State.endInit_anchor (s : State) (a1 : Req) (a2 : List Nat) : (State.endInit s a1 a2).anchor = s.anchor := by unfold State.endInit; simp only [anchor_mk, ite_self, apply_ite State.anchor, State.abortRun_anchor, State.answer_anchor, State.raise_anchor, State.setReg_anchor]
theorem State.wakeBeacon_anchor (s : State) (a1 : Nat) (a2 : Nat) : (State.wakeBeacon s a1 a2).anchor = s.anchor := by exact rfl
theorem State.takeMirr_anchor (s : State) : (State.takeMirr s).anchor = s.anchor := by unfold State.takeMirr; split <;> first | rfl | simp only [anchor_mk, anchor_foldl, ite_self, implies_true, apply_ite State.anchor, forall_const, State.takeMsgRow_anchor]
theorem State.applyCodes_anchor (s : State) : (State.applyCodes s).anchor = s.anchor := by unfold State.applyCodes; split <;> first | rfl | simp only [anchor_mk, anchor_foldl, ite_self, implies_true, apply_ite State.anchor, forall_const]
theorem State.dropHandover_anchor (s : State) (a1 : Req) : (State.dropHandover s a1).anchor = s.anchor := by unfold State.dropHandover; simp only [anchor_mk, State.complete_anchor]
theorem State.cutFill_anchor (s : State) (a1 : Nat) : (State.cutFill s a1).anchor = s.anchor := by unfold State.cutFill; split <;> first | rfl | simp only [anchor_mk, ite_self, apply_ite State.anchor, State.credit_anchor, State.raise_anchor]
theorem State.reportLost_anchor (s : State) : (State.reportLost s).anchor = s.anchor := by unfold State.reportLost; simp only [anchor_mk, ite_self, apply_ite State.anchor, State.raise_anchor]
theorem State.relight_anchor (s : State) (a1 : Launch) : (State.relight s a1).anchor = s.anchor := by unfold State.relight; simp only [anchor_mk, ite_self, apply_ite State.anchor]
theorem State.beginInit_anchor (s : State) (a1 : Req) : (State.beginInit s a1).anchor = s.anchor := by exact rfl
theorem State.setJob_anchor (s : State) (a1 : Job) : (State.setJob s a1).anchor = s.anchor := by exact rfl
theorem State.startResume_anchor (s : State) (a1 : Nat) (a2 : Nat) (a3 : Option Req) : (State.startResume s a1 a2 a3).anchor = s.anchor := by unfold State.startResume; simp only [anchor_mk, State.setSleep_anchor, State.sleepTo_anchor]
theorem State.capture_anchor (s : State) (a1 : Nat) (a2 : Nat) : (State.capture s a1 a2).anchor = s.anchor := by unfold State.capture; simp only [ite_self, apply_ite State.anchor, State.raise_anchor, State.setCap_anchor]
theorem State.eclipseTile_anchor (s : State) (a1 : Nat) (a2 : HoldOff) (a3 : Bool) : (State.eclipseTile s a1 a2 a3).anchor = s.anchor := by unfold State.eclipseTile; simp only [anchor_mk, State.abortRun_anchor, State.stopSchedule_anchor]
theorem State.beginEmission_anchor (s : State) (a1 : Launch) (a2 : List (Option Nat)) : (State.beginEmission s a1 a2).anchor = s.anchor := by unfold State.beginEmission; simp only [anchor_mk, ite_self, apply_ite State.anchor, State.applyCodes_anchor, State.credit_anchor]
theorem State.consumeCell_anchor (s : State) (a1 : Nat) (a2 : Nat) (a3 : List Byte) : (State.consumeCell s a1 a2 a3).anchor = s.anchor := by unfold State.consumeCell; dsimp only; (repeat' split) <;> first | rfl | simp only [State.bump_anchor, State.dropAsm_anchor, State.endMsg_anchor, State.raise_anchor, State.setPort_anchor]
theorem State.applyRest_anchor (s : State) (a1 : MirrorItem) : (State.applyRest s a1).anchor = s.anchor := by unfold State.applyRest; split <;> first | rfl | simp only [anchor_mk, anchor_foldl, ite_self, implies_true, apply_ite State.anchor, forall_const]
theorem State.clearSources_anchor (s : State) (a1 : Nat) (a2 : Nat) : (State.clearSources s a1 a2).anchor = s.anchor := by exact rfl
theorem State.proposeTile_anchor (s : State) (a1 : Req) : (State.proposeTile s a1).1.anchor = s.anchor := by unfold State.proposeTile; dsimp only; (repeat' split) <;> first | rfl | simp only [anchor_mk, State.setSleep_anchor, State.sleepTo_anchor]
theorem State.setEnd_anchor (s : State) (a1 : Nat) (a2 : Nat) : (State.setEnd s a1 a2).anchor = s.anchor := by exact rfl
theorem State.writeAsym_anchor (s : State) (a1 : Nat) (a2 : Int) (a3 : Nat) (a4 : List Int) : (State.writeAsym s a1 a2 a3 a4).anchor = s.anchor := by unfold State.writeAsym; simp only [anchor_foldl, implies_true, State.setReg_anchor]
theorem State.noLink_anchor (s : State) (a1 : Nat) : (State.noLink s a1).anchor = s.anchor := by unfold State.noLink; simp only [anchor_mk, anchor_foldl, ite_self, implies_true, apply_ite State.anchor, forall_const, State.setEnd_anchor]
theorem State.probeAnswered_anchor (s : State) (a1 : Nat) : (State.probeAnswered s a1).anchor = s.anchor := by unfold State.probeAnswered; simp only [anchor_mk, anchor_foldl, ite_self, implies_true, apply_ite State.anchor, forall_const, State.setEnd_anchor]
theorem State.reachable_anchor (s : State) (a1 : Nat) (a2 : Nat) (a3 : Option Nat) : (State.reachable s a1 a2 a3).anchor = s.anchor := by unfold State.reachable; dsimp only; (repeat' split) <;> first | rfl | simp only [anchor_mk, anchor_foldl, ite_self, implies_true, apply_ite State.anchor, forall_const, State.raise_anchor, State.relayWatch_anchor]
theorem State.noteReply_anchor (s : State) (a1 : Job) (a2 : Nat) (a3 : Nat) (a4 : Nat) (a5 : List Byte) : (State.noteReply s a1 a2 a3 a4 a5).anchor = s.anchor := by unfold State.noteReply; simp only [anchor_mk, anchor_foldl, ite_self, implies_true, apply_ite State.anchor, forall_const, State.noLink_anchor, State.probeAnswered_anchor, State.reachable_anchor, State.setDown_anchor, State.setEnd_anchor]
theorem State.passReply_anchor (s : State) (a1 : Job) (a2 : List Byte) : (State.passReply s a1 a2).anchor = s.anchor := by unfold State.passReply; dsimp only; (repeat' split) <;> first | rfl | (simp only [State.answer_anchor, State.deliver_anchor, State.dropJob_anchor, State.noteReply_anchor]; done) | ((repeat' split) <;> first | rfl | (simp only [State.answer_anchor, State.deliver_anchor]; done)) | (rename_i heq; have hh := congrArg (fun p => State.anchor (Prod.fst p)) heq; simp only [State.answer_anchor, State.deliver_anchor, State.dropJob_anchor, State.noteReply_anchor, State.noteSessionKey_anchor] at hh ⊢; exact hh.symm) | (rename_i heq _; have hh := congrArg (fun p => State.anchor (Prod.fst p)) heq; simp only [anchor_mk, anchor_foldl, ite_self, implies_true, apply_ite State.anchor, forall_const, State.answer_anchor, State.deliver_anchor, State.dropJob_anchor, State.noteReply_anchor, State.noteSessionKey_anchor] at hh ⊢; exact hh.symm) | (rename_i heq _ _; have hh := congrArg (fun p => State.anchor (Prod.fst p)) heq; simp only [anchor_mk, anchor_foldl, ite_self, implies_true, apply_ite State.anchor, forall_const, State.answer_anchor, State.deliver_anchor, State.dropJob_anchor, State.noteReply_anchor, State.noteSessionKey_anchor] at hh ⊢; exact hh.symm)
theorem State.endFrame_anchor (s : State) (a1 : Nat) : (State.endFrame s a1).anchor = s.anchor := by unfold State.endFrame; split <;> first | rfl | simp only [ite_self, apply_ite State.anchor, State.badLines_anchor, State.failFrame_anchor, State.raise_anchor]
theorem State.pipeFail_anchor (s : State) (a1 : Nat) (a2 : Nat) (a3 : Nat) (a4 : Bool) : (State.pipeFail s a1 a2 a3 a4).anchor = s.anchor := by unfold State.pipeFail; simp only [State.bump_anchor, State.failSub_anchor, State.raise_anchor]
theorem State.viewAll_anchor (s : State) : (State.viewAll s).anchor = s.anchor := by unfold State.viewAll; simp only [anchor_foldl, implies_true, State.applyChange_anchor]
theorem State.tryCommit_anchor (s : State) (a1 : Nat) : (State.tryCommit s a1).anchor = s.anchor := by unfold State.tryCommit; simp only [anchor_mk, anchor_foldl, ite_self, implies_true, apply_ite State.anchor, forall_const, State.commit_anchor, State.spoil_anchor]
theorem State.useTrial_anchor (s : State) : (State.useTrial s).anchor = s.anchor := by unfold State.useTrial; simp only [anchor_mk, anchor_foldl, ite_self, implies_true, apply_ite State.anchor, forall_const, State.tryCommit_anchor]
theorem State.dropSlot_anchor (s : State) (a1 : Nat) : (State.dropSlot s a1).anchor = s.anchor := by unfold State.dropSlot; simp only [anchor_mk, anchor_foldl, ite_self, implies_true, apply_ite State.anchor, forall_const, State.setImgSlot_anchor]
theorem State.dropVerified_anchor (s : State) : (State.dropVerified s).anchor = s.anchor := by unfold State.dropVerified; simp only [anchor_mk, anchor_foldl, ite_self, implies_true, apply_ite State.anchor, forall_const, State.dropSlot_anchor]
theorem State.enterQueue_anchor (s : State) (a1 : Nat) (a2 : MemReq) : (State.enterQueue s a1 a2).anchor = s.anchor := by unfold State.enterQueue; simp only [anchor_mk, anchor_foldl, ite_self, implies_true, apply_ite State.anchor, forall_const, State.memWrite_anchor, State.setChan_anchor]
theorem State.sendTake_anchor (s : State) (a1 : Nat) : (State.sendTake s a1).anchor = s.anchor := by unfold State.sendTake; simp only [anchor_mk, anchor_foldl, ite_self, implies_true, apply_ite State.anchor, forall_const, State.send_anchor]
theorem State.raiseRefused_anchor (s : State) (a1 : Req) (a2 : Rsp) : (State.raiseRefused s a1 a2).anchor = s.anchor := by unfold State.raiseRefused; simp only [anchor_mk, anchor_foldl, ite_self, implies_true, apply_ite State.anchor, forall_const, State.raise_anchor]
theorem State.sendPdreq_anchor (s : State) (a1 : Nat) : (State.sendPdreq s a1).anchor = s.anchor := by unfold State.sendPdreq; simp only [anchor_mk, anchor_foldl, ite_self, implies_true, apply_ite State.anchor, forall_const, State.send_anchor]
theorem State.nextSlot_anchor (s : State) (a1 : Nat) (a2 : Nat) : (State.nextSlot s a1 a2).anchor = s.anchor := by unfold State.nextSlot; simp only [anchor_mk, anchor_foldl, ite_self, implies_true, apply_ite State.anchor, forall_const, State.emits_anchor, State.setPort_anchor]
theorem State.rechoose_anchor (s : State) (a1 : Bool) : (State.rechoose s a1).anchor = s.anchor := by unfold State.rechoose; dsimp only; (repeat' split) <;> first | rfl | simp only [anchor_mk, anchor_foldl, ite_self, implies_true, apply_ite State.anchor, forall_const, State.raise_anchor, State.setDom_anchor, State.setPtp_anchor]
theorem State.takeAnnounce_anchor (s : State) (a1 : Bool) (a2 : Nat) (a3 : PtpMsg) : (State.takeAnnounce s a1 a2 a3).anchor = s.anchor := by unfold State.takeAnnounce; simp only [anchor_mk, anchor_foldl, ite_self, implies_true, apply_ite State.anchor, forall_const, State.rechoose_anchor, State.setPtp_anchor]
theorem State.raiseIn_anchor (s : State) (a1 : Nat) (a2 : Nat) (a3 : Nat) : (State.raiseIn s a1 a2 a3).anchor = s.anchor := by unfold State.raiseIn; simp only [anchor_mk, anchor_foldl, ite_self, implies_true, apply_ite State.anchor, forall_const, State.freeNext_anchor, State.raise_anchor]
theorem State.noteWord_anchor (s : State) (a1 : Nat) (a2 : Nat) (a3 : Bool) : (State.noteWord s a1 a2 a3).anchor = s.anchor := by unfold State.noteWord; simp only [anchor_mk, anchor_foldl, ite_self, implies_true, apply_ite State.anchor, forall_const, State.bump_anchor, State.raise_anchor, State.setChan_anchor]
theorem State.noteWords_anchor (s : State) (a1 : Nat) (a2 : Nat) : (State.noteWords s a1 a2).anchor = s.anchor := by unfold State.noteWords; simp only [anchor_mk, anchor_foldl, ite_self, implies_true, apply_ite State.anchor, forall_const, State.noteWord_anchor]
theorem State.settleDom_anchor (s : State) (a1 : Bool) : (State.settleDom s a1).anchor = s.anchor := by unfold State.settleDom; split <;> first | rfl | simp only [anchor_mk, anchor_foldl, ite_self, implies_true, apply_ite State.anchor, forall_const, State.applyStaged_anchor]
theorem State.settle_anchor (s : State) : (State.settle s).anchor = s.anchor := by unfold State.settle; simp only [anchor_mk, anchor_foldl, ite_self, implies_true, apply_ite State.anchor, forall_const, State.settleDom_anchor]
theorem State.judgeReq_anchor (s : State) (a1 : Nat) (a2 : Req) : (State.judgeReq s a1 a2).anchor = s.anchor := by unfold State.judgeReq; simp only [anchor_mk, anchor_foldl, ite_self, implies_true, apply_ite State.anchor, forall_const, State.judgeNearest_anchor]
theorem State.showNext_anchor (s : State) (a1 : Win) (a2 : Shown) (a3 : Nat) : (State.showNext s a1 a2 a3).anchor = s.anchor := by unfold State.showNext; simp only [anchor_mk, anchor_foldl, ite_self, implies_true, apply_ite State.anchor, forall_const, State.bumpBy_anchor, State.showUnit_anchor]
theorem State.latchNow_anchor (s : State) (a1 : Nat) : (State.latchNow s a1).anchor = s.anchor := by unfold State.latchNow; simp only [anchor_mk, anchor_foldl, ite_self, implies_true, apply_ite State.anchor, forall_const, State.settle_anchor]
theorem State.servoStepDom_anchor (s : State) (a1 : Bool) (a2 : Int) : (State.servoStepDom s a1 a2).anchor = s.anchor := by unfold State.servoStepDom; simp only [anchor_mk, anchor_foldl, ite_self, implies_true, apply_ite State.anchor, forall_const, State.setDom_anchor, State.setServo_anchor]
theorem State.enqueue_anchor (s : State) (n : Nat) (l : List MemReq) : (State.enqueue s n l).anchor = s.anchor := by
  induction l generalizing s with
  | nil => rfl
  | cons r rs ih =>
    unfold State.enqueue; dsimp only; rw [ih]
    (repeat' split) <;> simp only [State.setChan_anchor, State.enterQueue_anchor]
theorem State.arrive_anchor (s : State) (a1 : Nat) (a2 : List MemReq) : (State.arrive s a1 a2).anchor = s.anchor := by unfold State.arrive; simp only [anchor_mk, anchor_foldl, ite_self, implies_true, apply_ite State.anchor, forall_const, State.enqueue_anchor, State.setChan_anchor]
theorem State.wakeChan_anchor (s : State) (a1 : Nat) : (State.wakeChan s a1).anchor = s.anchor := by unfold State.wakeChan; simp only [anchor_mk, anchor_foldl, ite_self, implies_true, apply_ite State.anchor, forall_const, State.bump_anchor, State.runChan_anchor]
theorem State.openStore_anchor (s : State) (a1 : Option StoreData) : (State.openStore s a1).anchor = s.anchor := by unfold State.openStore; split <;> first | rfl | simp only [anchor_mk, anchor_foldl, ite_self, implies_true, apply_ite State.anchor, forall_const]
theorem State.openStores_anchor (s : State) : (State.openStores s).anchor = s.anchor := by unfold State.openStores; simp only [anchor_mk, anchor_foldl, ite_self, implies_true, apply_ite State.anchor, forall_const, State.openStore_anchor]
theorem State.beginFrame_anchor (s : State) (a1 : Nat) (a2 : Nat) (a3 : Nat) (a4 : Surf) : (State.beginFrame s a1 a2 a3 a4).anchor = s.anchor := by unfold State.beginFrame; simp only [anchor_mk, anchor_foldl, ite_self, implies_true, apply_ite State.anchor, forall_const, State.bump_anchor, State.endFrame_anchor, State.raise_anchor, State.setStrm_anchor]
theorem State.depacketise_anchor (s : State) (a1 : Nat) (a2 : RtpPkt) (a3 : Nat) : (State.depacketise s a1 a2 a3).anchor = s.anchor := by unfold State.depacketise; split <;> first | rfl | simp only [anchor_mk, anchor_foldl, ite_self, implies_true, apply_ite State.anchor, forall_const, State.beginFrame_anchor, State.bump_anchor, State.raise_anchor, State.setStrm_anchor, State.storeSrd_anchor, State.tryComplete_anchor, State.updFrame_anchor]
theorem State.unqueue_anchor (s : State) (m k : Nat) : (s.unqueue m k).anchor = s.anchor := by
  induction k generalizing s with
  | zero => rfl
  | succ k ih =>
    unfold State.unqueue; dsimp only
    (repeat' split) <;> first | rfl | rw [ih, State.depacketise_anchor, State.setStrm_anchor]
theorem State.releaseAll_anchor (s : State) (a1 : Nat) : (State.releaseAll s a1).anchor = s.anchor := by unfold State.releaseAll; simp only [anchor_mk, anchor_foldl, ite_self, implies_true, apply_ite State.anchor, forall_const, State.unqueue_anchor]
theorem State.noteResidence_anchor (s : State) (a1 : Nat) (a2 : Nat) : (State.noteResidence s a1 a2).anchor = s.anchor := by unfold State.noteResidence; simp only [anchor_mk, anchor_foldl, ite_self, implies_true, apply_ite State.anchor, forall_const, State.raise_anchor, State.setReg_anchor]
theorem State.sendDelayReq_anchor (s : State) (a1 : Bool) : (State.sendDelayReq s a1).anchor = s.anchor := by unfold State.sendDelayReq; dsimp only; (repeat' split) <;> first | rfl | simp only [anchor_mk, anchor_foldl, ite_self, implies_true, apply_ite State.anchor, forall_const, State.emit_anchor, State.sendIp_anchor, State.setPtp_anchor]
theorem State.servoSample_anchor (s : State) (a1 : Bool) (a2 : Int) : (State.servoSample s a1 a2).anchor = s.anchor := by unfold State.servoSample; dsimp only; (repeat' split) <;> first | rfl | simp only [anchor_mk, anchor_foldl, ite_self, implies_true, apply_ite State.anchor, forall_const, State.raise_anchor, State.servoStepDom_anchor, State.setDom_anchor, State.setServo_anchor]
theorem State.ptpSample_anchor (s : State) (a1 : Bool) (a2 : Int) (a3 : Nat) : (State.ptpSample s a1 a2 a3).anchor = s.anchor := by unfold State.ptpSample; simp only [anchor_mk, anchor_foldl, ite_self, implies_true, apply_ite State.anchor, forall_const, State.sendDelayReq_anchor, State.servoSample_anchor, State.setPtp_anchor]
theorem State.busStrCtl_anchor (s : State) (a1 : Nat) (a2 : Word) : (State.busStrCtl s a1 a2).anchor = s.anchor := by unfold State.busStrCtl; simp only [anchor_mk, anchor_foldl, ite_self, implies_true, apply_ite State.anchor, forall_const, State.raise_anchor, State.writeStrCtl_anchor]
theorem State.noteBlock_anchor (s : State) (a1 : Nat) (a2 : Nat) (a3 : Nat) (a4 : BlockRead) : (State.noteBlock s a1 a2 a3 a4).anchor = s.anchor := by unfold State.noteBlock; (repeat' split) <;> first | rfl | simp only [anchor_mk, anchor_foldl, ite_self, implies_true, apply_ite State.anchor, forall_const, State.bump_anchor, State.noteWords_anchor, State.raise_anchor]
theorem State.noteBad_anchor (s : State) (a1 : BadRead) : (State.noteBad s a1).anchor = s.anchor := by unfold State.noteBad; (repeat' split) <;> first | rfl | simp only [anchor_mk, anchor_foldl, ite_self, implies_true, apply_ite State.anchor, forall_const, State.noteBlock_anchor, State.noteWords_anchor]
theorem State.cutFed_anchor (s : State) (a1 : Nat) (a2 : Nat) (a3 : Nat) (a4 : Nat) (a5 : BadRead) : (State.cutFed s a1 a2 a3 a4 a5).anchor = s.anchor := by unfold State.cutFed; simp only [anchor_mk, anchor_foldl, ite_self, implies_true, apply_ite State.anchor, forall_const, State.bump_anchor, State.cutSub_anchor, State.noteBad_anchor, State.raise_anchor]
theorem State.takeSnap_anchor (s : State) : (State.takeSnap s).anchor = s.anchor := by unfold State.takeSnap; simp only [anchor_mk, anchor_foldl, ite_self, implies_true, apply_ite State.anchor, forall_const, State.settle_anchor]
theorem State.payRefresh_anchor (s : State) (a1 : Nat) : (State.payRefresh s a1).anchor = s.anchor := by unfold State.payRefresh; simp only [anchor_mk, anchor_foldl, ite_self, implies_true, apply_ite State.anchor, forall_const, State.setChan_anchor]
theorem State.spoilAsm_anchor (s : State) (a1 : Nat) (a2 : List Byte) : (State.spoilAsm s a1 a2).anchor = s.anchor := by unfold State.spoilAsm; simp only [anchor_mk, anchor_foldl, ite_self, implies_true, apply_ite State.anchor, forall_const, State.dropAsm_anchor, State.setPort_anchor]
theorem State.passOn_anchor (s : State) (a1 : Nat) (a2 : Nat) (a3 : Nat) (a4 : Bool) (a5 : List Byte) (a6 : Route) : (State.passOn s a1 a2 a3 a4 a5 a6).anchor = s.anchor := by unfold State.passOn; split <;> first | rfl | simp only [anchor_mk, anchor_foldl, ite_self, implies_true, apply_ite State.anchor, forall_const, State.transitCell_anchor]
theorem State.noteNear_anchor (s : State) (a1 : Nat) (a2 : List Byte) : (State.noteNear s a1 a2).anchor = s.anchor := by unfold State.noteNear; split <;> first | rfl | simp only [anchor_mk, anchor_foldl, ite_self, implies_true, apply_ite State.anchor, forall_const, State.raise100_anchor, State.setPort_anchor]
theorem State.takeToken_anchor (s : State) (a1 : Bool) : (State.takeToken s a1).anchor = s.anchor := by unfold State.takeToken; simp only [anchor_mk, anchor_foldl, ite_self, implies_true, apply_ite State.anchor, forall_const, State.applyRest_anchor, State.bump_anchor, State.enterActive_anchor, State.raiseA_anchor, State.resumeLaunches_anchor, State.sendTake_anchor, State.setPair_anchor, State.setReg_anchor]
theorem State.retrain_anchor (s : State) (a1 : Nat) (a2 : Option Nat) : (State.retrain s a1 a2).anchor = s.anchor := by unfold State.retrain; split <;> first | rfl | simp only [anchor_mk, anchor_foldl, ite_self, implies_true, apply_ite State.anchor, forall_const, State.bump_anchor, State.raise_anchor, State.setChan_anchor]
theorem State.matchSchema_anchor (s : State) (a1 : List Byte) : (State.matchSchema s a1).anchor = s.anchor := by unfold State.matchSchema; split <;> first | rfl | simp only [anchor_mk, anchor_foldl, ite_self, implies_true, apply_ite State.anchor, forall_const, State.raise_anchor, State.tryCommit_anchor]
theorem State.closeUpdate_anchor (s : State) : (State.closeUpdate s).anchor = s.anchor := by unfold State.closeUpdate; split <;> first | rfl | simp only [anchor_mk, anchor_foldl, ite_self, implies_true, apply_ite State.anchor, forall_const, State.dropSlot_anchor]
theorem State.switchAtOnce_anchor (s : State) (a1 : Nat) (a2 : Bool) : (State.switchAtOnce s a1 a2).1.anchor = s.anchor := by unfold State.switchAtOnce; (repeat' split) <;> first | rfl | simp only [anchor_mk, anchor_foldl, ite_self, implies_true, apply_ite State.anchor, forall_const, State.raiseA_anchor, State.raise_anchor]
theorem State.runSwitch_anchor (s : State) : (State.runSwitch s).anchor = s.anchor := by unfold State.runSwitch; dsimp only; (repeat' split) <;> first | rfl | simp only [anchor_mk, anchor_foldl, ite_self, implies_true, apply_ite State.anchor, forall_const, State.complete_anchor, State.raise_anchor, State.switchAtOnce_anchor]
theorem State.lchHold_anchor (s : State) : (State.lchHold s).anchor = s.anchor := by unfold State.lchHold; simp only [anchor_mk, anchor_foldl, ite_self, implies_true, apply_ite State.anchor, forall_const, State.raise_anchor, State.runSwitch_anchor, State.setLaunchServo_anchor]
theorem State.pmeCauseAt_anchor (s : State) (a1 : Nat) (a2 : Option EvRec) : (State.pmeCauseAt s a1 a2).anchor = s.anchor := by unfold State.pmeCauseAt; simp only [anchor_mk, anchor_foldl, ite_self, implies_true, apply_ite State.anchor, forall_const, State.emit_anchor, State.raise_anchor]
theorem State.toHoldover_anchor (s : State) (a1 : Bool) (a2 : Nat) : (State.toHoldover s a1 a2).anchor = s.anchor := by unfold State.toHoldover; simp only [anchor_mk, anchor_foldl, ite_self, implies_true, apply_ite State.anchor, forall_const, State.runSwitch_anchor, State.setServo_anchor]
theorem State.lateReply_anchor (s : State) (a1 : List Byte) (a2 : Nat) : (State.lateReply s a1 a2).anchor = s.anchor := by unfold State.lateReply; split <;> first | rfl | simp only [anchor_mk, anchor_foldl, ite_self, implies_true, apply_ite State.anchor, forall_const, State.raise_anchor]
theorem State.streamPacket_anchor (s : State) (a1 : Nat) (a2 : Nat) (a3 : RtpPkt) : (State.streamPacket s a1 a2 a3).anchor = s.anchor := by unfold State.streamPacket; simp only [anchor_mk, anchor_foldl, ite_self, implies_true, apply_ite State.anchor, forall_const, State.bump_anchor, State.raise_anchor, State.releaseAll_anchor, State.setStrm_anchor]
theorem State.redoErase_anchor (s : State) : (State.redoErase s).anchor = s.anchor := by unfold State.redoErase; split <;> first | rfl | simp only [anchor_mk, anchor_foldl, ite_self, implies_true, apply_ite State.anchor, forall_const, State.freeNext_anchor, State.raise_anchor, State.setImgSlot_anchor, State.setJournal_anchor]
theorem State.launchLead_anchor (s : State) (a1 : Launch) : (State.launchLead s a1).anchor = s.anchor := by unfold State.launchLead; (repeat' split) <;> first | rfl | simp only [anchor_mk, anchor_foldl, ite_self, implies_true, apply_ite State.anchor, forall_const, State.complete_anchor, State.raiseA_anchor]
theorem State.loseNumber_anchor (s : State) (a1 : Nat) (a2 : Nat) : (State.loseNumber s a1 a2).anchor = s.anchor := by unfold State.loseNumber; dsimp only; (repeat' split) <;> first | rfl | simp only [anchor_mk, anchor_foldl, ite_self, implies_true, apply_ite State.anchor, forall_const, State.badLines_anchor, State.bump_anchor, State.failFrame_anchor, State.releaseAll_anchor, State.setStrm_anchor, State.updFrame_anchor]
theorem State.proposeLead_anchor (s : State) (a1 : Req) : (State.proposeLead s a1).1.anchor = s.anchor := by unfold State.proposeLead; dsimp only; (repeat' split) <;> first | rfl | (simp only [anchor_mk, anchor_foldl, ite_self, implies_true, apply_ite State.anchor, forall_const, State.raise_anchor, State.setSleep_anchor, State.sleepJob_anchor, State.sleepTo_anchor, State.wrongState_anchor]; done) | ((repeat' split) <;> first | rfl | (simp only [anchor_mk, anchor_foldl, ite_self, implies_true, apply_ite State.anchor, forall_const, State.raise_anchor, State.setSleep_anchor, State.sleepJob_anchor, State.sleepTo_anchor, State.wrongState_anchor]; done)) | (rename_i heq; have hh := congrArg (fun p => State.anchor (Prod.fst p)) heq; simp only [anchor_mk, anchor_foldl, ite_self, implies_true, apply_ite State.anchor, forall_const, State.raise_anchor, State.setSleep_anchor, State.sleepJob_anchor, State.sleepTo_anchor, State.wrongState_anchor] at hh ⊢; exact hh.symm) | (rename_i heq _; have hh := congrArg (fun p => State.anchor (Prod.fst p)) heq; simp only [anchor_mk, anchor_foldl, ite_self, implies_true, apply_ite State.anchor, forall_const, State.raise_anchor, State.setSleep_anchor, State.sleepJob_anchor, State.sleepTo_anchor, State.wrongState_anchor] at hh ⊢; exact hh.symm) | (rename_i heq _ _; have hh := congrArg (fun p => State.anchor (Prod.fst p)) heq; simp only [anchor_mk, anchor_foldl, ite_self, implies_true, apply_ite State.anchor, forall_const, State.raise_anchor, State.setSleep_anchor, State.sleepJob_anchor, State.sleepTo_anchor, State.wrongState_anchor] at hh ⊢; exact hh.symm)
theorem State.notifyMsg_anchor {s t : State} {m : TxMsg} (h : s.notifyMsg = some (m, t)) : t.anchor = s.anchor := by
  unfold State.notifyMsg at h
  revert h
  (repeat' split) <;> intro h <;> first | (cases h; rfl) | cases h
theorem State.fillSlot_anchor (s : State) (p slot stamp : Nat) : (s.fillSlot p slot stamp).anchor = s.anchor := by
  unfold State.fillSlot
  (repeat' split) <;> try simp only [State.emit_anchor, State.sendCell_anchor, State.send_anchor]
  rename_i h
  exact State.notifyMsg_anchor h
theorem State.flushCells_anchor (s : State) (l : List TxMsg) : (s.flushCells l).anchor = s.anchor := by
  unfold State.flushCells
  refine anchor_foldl _ (fun t m => ?_) _ _
  have := State.beginMsg_anchor t m 0
  generalize t.beginMsg m 0 = p at this
  obtain ⟨u, c, o⟩ := p
  cases o with
  | none => exact this
  | some cs =>
    refine (anchor_foldl _ (fun v c => ?_) _ _).trans this
    rw [State.emit_anchor, State.nextSlot_anchor]
theorem State.checkWords_anchor (s : State) (n : Nat) (r : MemReq) (i : Nat) (l : List Nat) : (s.checkWords n r i l).anchor = s.anchor := by
  induction l generalizing s i with
  | nil => rfl
  | cons w ws ih =>
    unfold State.checkWords; dsimp only; rw [ih]
    (repeat' split) <;> simp only [State.raise_anchor, State.bump_anchor, State.noteWord_anchor, anchor_mk]
theorem State.launchTile_anchor (s : State) (l : Launch) : (s.launchTile l).anchor = s.anchor := by
  unfold State.launchTile
  extract_lets t nexts u whole v w shows _ x
  have ht : t.anchor = s.anchor := by
    simp only [t]; rw [State.relight_anchor, State.switchAt_anchor]
  have hu : u.anchor = s.anchor := by
    refine Eq.trans ?_ ht
    refine anchor_foldl _ (fun t k => ?_) _ _
    split
    · exact State.makeCurrent_anchor _ _ _
    · rfl
  have hv : v.anchor = s.anchor := by
    simp only [v]; split
    · exact hu
    · rw [State.noteBare_anchor, State.takeEffect_anchor, hu]
  have hw : w.anchor = s.anchor := (State.passLaunch_anchor _ _).trans hv
  have hx : x.anchor = s.anchor := hw
  exact (State.beginEmission_anchor _ _ _).trans hx

end Sys2Proof.Machine
end

