-- ==== Sys2Proof/Laws/AnchorRows.lean ====
section
/-! SUPPORT. One lemma per command that is neither a reset, a boot step nor a row of the island: its next state keeps the anchor. -/

namespace Sys2Proof.Machine

/-- A next state keeps the anchor. -/
def Anchored (s : State) : Res → Prop | .next t => t.anchor = s.anchor | _ => True
theorem anchored_next (s t : State) : Anchored s (.next t) = (t.anchor = s.anchor) := rfl
theorem runReq_anchor {code : Nat} {r : Req} {s : State} {f : State → State × Rsp} (h : ∀ u, (f u).1.anchor = u.anchor) : Anchored s (runReq code r s f) := by
  unfold runReq
  split
  · rfl
  · split
    · extract_lets u
      have hu : u.anchor = s.anchor := State.takeReq_anchor _ _ _
      split
      · exact (State.judgeReq_anchor _ _ _).trans hu
      · split
        · exact (State.answerPlain_anchor _ _ _ _).trans hu
        · split
          · exact (State.answer_anchor _ _ _ _ _).trans hu
          · exact (State.answer_anchor _ _ _ _ _).trans ((h u).trans hu)
    · rfl
theorem runReqLater_anchor {code : Nat} {r : Req} {s : State} {f : State → State × Option Rsp} (h : ∀ u, (f u).1.anchor = u.anchor) : Anchored s (runReqLater code r s f) := by
  unfold runReqLater
  split
  · rfl
  · split
    · extract_lets u
      have hu : u.anchor = s.anchor := State.takeReq_anchor _ _ _
      have hf := h u
      split
      · exact (State.judgeReq_anchor _ _ _).trans hu
      · split
        · exact (State.answerPlain_anchor _ _ _ _).trans hu
        · split
          · exact (State.answer_anchor _ _ _ _ _).trans hu
          · generalize f u = p at hf
            obtain ⟨v, o⟩ := p
            cases o with
            | some a => exact (State.answer_anchor _ _ _ _ _).trans (hf.trans hu)
            | none => exact hf.trans hu
    · rfl
theorem execPtpMessageReceived_anchor (a0 : Nat) (a1 : PtpMsg) (s : State) : Anchored s (execPtpMessageReceived a0 a1 s) := by unfold execPtpMessageReceived; dsimp only; (repeat' split) <;> first | rfl | simp only [anchored_next, anchor_mk, anchor_foldl, ite_self, implies_true, apply_ite State.anchor, forall_const, State.ptpSample_anchor, State.setDom_anchor, State.setPtp_anchor, State.takeAnnounce_anchor]
theorem State.takeFrame_anchor (s : State) (p : Nat) (f : EthFrame) : Anchored s (s.takeFrame p f).1 := by
  unfold State.takeFrame
  extract_lets ip
  split
  · rfl
  · rfl
  · split
    · rfl
    · exact execPtpMessageReceived_anchor _ _ _
  · split
    · rfl
    · rw [anchored_next]
      split
      · exact State.emit_anchor _ _
      · rfl
  · split
    · rfl
    · split
      · rfl
      · exact (State.emits_anchor _ _).trans (anchor_mk rfl rfl rfl)
  · split
    · rfl
    · exact anchor_foldl _ (fun t x => State.igmp_anchor t _ _ _) _ _
  · split
    · rfl
    · split
      · exact State.udpCommand_anchor _ _ _ _ _ _
      · split
        · rfl
        · split
          · rfl
          · split
            · exact State.streamPacket_anchor _ _ _ _
            · rfl
theorem State.mergeBlock_anchor (s t : State) (u : Surf) (o : Nat) (d : List Byte) (n : Nat) (h : s.mergeBlock u o d n = some t) : t.anchor = s.anchor := by
  unfold State.mergeBlock at h
  extract_lets old at h
  clear_value old
  split at h
  · injection h with h
    subst h
    exact State.writeBlock_anchor _ _ _ _ _
  · cases h
theorem State.mergeBlocks_anchor (s t : State) (u : Surf) (o : Nat) (d : List Byte) (l : List Nat) (h : s.mergeBlocks u o d l = .ok t) : t.anchor = s.anchor := by
  induction l generalizing s with
  | nil => unfold State.mergeBlocks at h; injection h with h; rw [h]
  | cons n ns ih =>
    unfold State.mergeBlocks at h
    split at h
    · rename_i v hv
      exact (ih v h).trans (State.mergeBlock_anchor _ _ _ _ _ _ hv)
    · cases h
theorem State.firstRefused_anchor (s t : State) (r : Req) (x : Rsp) (a k : Nat) (l : List Word) (h : s.firstRefused r a k l = some (t, x)) : t.anchor = s.anchor := by
  induction l generalizing k with
  | nil => cases h
  | cons w ws ih =>
    have hw := State.writeWord_anchor s r a k w
    unfold State.firstRefused at h
    generalize s.writeWord r a k w = p at h hw
    obtain ⟨u, o⟩ := p
    cases o with
    | some y => cases h; exact hw
    | none => exact ih _ h
theorem execPllLossOfLock_anchor (a0 : Nat) (s : State) : Anchored s (execPllLossOfLock a0 s) := by unfold execPllLossOfLock; (repeat' split) <;> first | rfl | simp only [anchored_next, anchor_mk, anchor_foldl, ite_self, implies_true, apply_ite State.anchor, forall_const, State.endEmission_anchor, State.lchHold_anchor, State.raiseIn_anchor, State.raise_anchor, State.setFld_anchor, State.timeLost_anchor]
theorem execFifoFault_anchor (a0 : Nat) (s : State) : Anchored s (execFifoFault a0 s) := by unfold execFifoFault; split <;> first | rfl | simp only [anchored_next, anchor_mk, anchor_foldl, ite_self, implies_true, apply_ite State.anchor, forall_const, State.endEmission_anchor, State.holdChan_anchor, State.raiseIn_anchor, State.raise_anchor]
theorem execCoreFault_anchor (a0 : Nat) (a1 : Nat) (s : State) : Anchored s (execCoreFault a0 a1 s) := by unfold execCoreFault; dsimp only; (repeat' split) <;> first | rfl | simp only [anchored_next, State.raise_anchor, State.setCore_anchor]
theorem execTemperatureMeasurement_anchor (a0 : List (Option Int)) (s : State) : Anchored s (execTemperatureMeasurement a0 s) := by unfold execTemperatureMeasurement; split <;> first | rfl | simp only [anchored_next, anchor_mk, anchor_foldl, ite_self, implies_true, apply_ite State.anchor, State.checkHot_anchor, State.readSensor_anchor, State.wakeRequest_anchor]
theorem execAvsMeasurement_anchor (a0 : Nat) (s : State) : Anchored s (execAvsMeasurement a0 s) := by unfold execAvsMeasurement; split <;> first | rfl | simp only [anchored_next, anchor_mk, anchor_foldl, ite_self, implies_true, apply_ite State.anchor, forall_const]
theorem execJtagInstructionLoad_anchor (a0 : JtagInstr) (s : State) : Anchored s (execJtagInstructionLoad a0 s) := by unfold execJtagInstructionLoad; simp only [anchored_next, anchor_mk, anchor_foldl, ite_self, implies_true, apply_ite State.anchor, forall_const, State.credit_anchor, State.emit_anchor]
theorem execPcieEndpointReset_anchor (a0 : Nat) (s : State) : Anchored s (execPcieEndpointReset a0 s) := by unfold execPcieEndpointReset; split <;> first | rfl | simp only [anchored_next, anchor_mk, anchor_foldl, implies_true, State.raise_anchor, State.setFld_anchor]
theorem execPciePowerStateChange_anchor (a0 : Bool) (a1 : Bool) (s : State) : Anchored s (execPciePowerStateChange a0 a1 s) := by unfold execPciePowerStateChange; split <;> first | rfl | simp only [anchored_next, anchor_mk, anchor_foldl, ite_self, implies_true, apply_ite State.anchor, forall_const, State.repeatCauses_anchor]
theorem execPmeStatusClear_anchor (s : State) : Anchored s (execPmeStatusClear s) := by unfold execPmeStatusClear; split <;> first | rfl | simp only [anchored_next, anchor_mk, anchor_foldl, ite_self, implies_true, apply_ite State.anchor, forall_const]
theorem execDoorbellWrite_anchor (a0 : Nat) (a1 : Word) (s : State) : Anchored s (execDoorbellWrite a0 a1 s) := by unfold execDoorbellWrite; dsimp only; (repeat' split) <;> first | rfl | simp only [anchored_next, State.raise_anchor, State.setEvtHead_anchor]
theorem execDescriptorFetch_anchor (a0 : Nat) (a1 : Option (List Byte)) (a2 : Option (List Byte)) (s : State) : Anchored s (execDescriptorFetch a0 a1 a2 s) := by unfold execDescriptorFetch; (repeat' split) <;> first | rfl | simp only [anchored_next, anchor_mk, State.raise_anchor, State.receivePacket_anchor]
theorem execCmdRingEnable_anchor (a0 : Nat) (a1 : Word) (s : State) : Anchored s (execCmdRingEnable a0 a1 s) := by unfold execCmdRingEnable; split <;> first | rfl | simp only [anchored_next, State.writeRingCfg_anchor]
theorem execUdpCommandDatagram_anchor (a0 : Nat) (a1 : Nat) (a2 : Nat) (a3 : Nat) (a4 : Nat) (a5 : Bool) (a6 : List Byte) (s : State) : Anchored s (execUdpCommandDatagram a0 a1 a2 a3 a4 a5 a6 s) := by unfold execUdpCommandDatagram; split <;> first | rfl | simp only [anchored_next, State.udpCommand_anchor]
theorem execCommandPacketDiscard_anchor (a0 : Via) (a1 : List Byte) (s : State) : Anchored s (execCommandPacketDiscard a0 a1 s) := by unfold execCommandPacketDiscard; (repeat' split) <;> first | rfl | simp only [anchored_next, State.raise_anchor]
theorem execUndefinedOpcode_anchor (a0 : Nat) (a1 : Req) (s : State) : Anchored s (execUndefinedOpcode a0 a1 s) := by unfold execUndefinedOpcode; (repeat' split) <;> first | rfl | simp only [anchored_next, State.answerPlain_anchor]
theorem execTileReplyReceived_anchor (a0 : Msg) (s : State) : Anchored s (execTileReplyReceived a0 s) := by unfold execTileReplyReceived; dsimp only; (repeat' split) <;> first | rfl | simp only [anchored_next, anchor_mk, anchor_foldl, ite_self, implies_true, apply_ite State.anchor, forall_const, State.endBcast_anchor, State.lateReply_anchor, State.noteReply_anchor, State.passReply_anchor, State.raise16_anchor, State.setJob_anchor, State.takeMsgRow_anchor]
theorem execTileTimeout_anchor (s : State) : Anchored s (execTileTimeout s) := by unfold execTileTimeout; dsimp only; (repeat' split) <;> first | rfl | simp only [anchored_next, anchor_mk, anchor_foldl, ite_self, implies_true, apply_ite State.anchor, forall_const, State.answerPlain_anchor, State.answer_anchor, State.dropJob_anchor, State.endBcast_anchor, State.raise_anchor, State.setEnd_anchor, State.setJob_anchor]
theorem execFarLeadReplyTimeout_anchor (s : State) : Anchored s (execFarLeadReplyTimeout s) := by unfold execFarLeadReplyTimeout; dsimp only; (repeat' split) <;> first | rfl | simp only [anchored_next, anchor_mk, anchor_foldl, ite_self, implies_true, apply_ite State.anchor, forall_const, State.endBcast_anchor, State.raise_anchor, State.setJob_anchor]
theorem execRegisterWrite_anchor (a b : Nat) (w : Word) (s : State) : Anchored s (execRegisterWrite a b w s) := by
  unfold execRegisterWrite
  extract_lets x
  split
  · rfl
  · split
    · exact State.raise_anchor _ _ _ _
    · split
      · rfl
      · have h := State.writeReg_anchor s x (s.mergeBytes x b w)
        generalize s.writeReg x (s.mergeBytes x b w) = p at h
        obtain ⟨t, o⟩ := p
        split
        · rename_i e; cases e; exact h
        · rename_i e; cases e; exact h
        · rename_i e; cases e; exact (State.raise_anchor _ _ _ _).trans h
theorem execEventRingHeadWrite_anchor (a0 : Word) (s : State) : Anchored s (execEventRingHeadWrite a0 s) := by unfold execEventRingHeadWrite; split <;> first | rfl | simp only [anchored_next, State.setEvtHead_anchor]
theorem execEvtRingEnable_anchor (a0 : Word) (s : State) : Anchored s (execEvtRingEnable a0 s) := by unfold execEvtRingEnable; split <;> first | rfl | simp only [anchored_next, State.writeEvtRingCfg_anchor]
theorem execEventRingWrite_anchor (s : State) : Anchored s (execEventRingWrite s) := by unfold execEventRingWrite; (repeat' split) <;> first | rfl | simp only [anchored_next, anchor_mk, State.emit_anchor, State.pmeCauseAt_anchor, State.putRing_anchor, State.reportLost_anchor]
theorem execRateLimitRelease_anchor (a0 : Nat) (s : State) : Anchored s (execRateLimitRelease a0 s) := by unfold execRateLimitRelease; split <;> first | rfl | simp only [anchored_next, State.tryRecord_anchor]
theorem execEvtNotify_anchor (a0 : Msg) (s : State) : Anchored s (execEvtNotify a0 s) := by unfold execEvtNotify; dsimp only; (repeat' split) <;> first | rfl | simp only [anchored_next, anchor_mk, anchor_foldl, ite_self, implies_true, apply_ite State.anchor, forall_const, State.mergeRec_anchor, State.noteTileRec_anchor, State.raise16_anchor, State.takeMsgRow_anchor]
theorem execMergeWindowClose_anchor (s : State) : Anchored s (execMergeWindowClose s) := by unfold execMergeWindowClose; split <;> first | rfl | simp only [anchored_next, anchor_mk, State.closeMerge_anchor]
theorem execNop_anchor (a0 : Req) (s : State) : Anchored s (execNop a0 s) := runReq_anchor fun _ => rfl
theorem execGetInfo_anchor (r : Req) (s : State) : Anchored s (execGetInfo r s) := by
  unfold execGetInfo
  refine runReq_anchor (fun u => ?_)
  extract_lets addr
  clear_value addr
  by_cases h0 : u.sec.running = some 0
  · rw [if_pos h0]
  · rw [if_neg h0]
    by_cases h1 : u.sec.running = some 1
    · rw [if_pos h1]
    · rw [if_neg h1]; exact State.freeNext_anchor _
theorem execRegRead_anchor (a0 : Req) (s : State) : Anchored s (execRegRead a0 s) := by unfold execRegRead; refine runReq_anchor fun u => ?_; dsimp only; (repeat' split) <;> first | rfl | simp only [anchor_mk, anchor_foldl, ite_self, implies_true, apply_ite State.anchor, forall_const, State.freeNext_anchor, State.popCap_anchor, State.takeSnap_anchor]
theorem execRegWrite_anchor (r : Req) (s : State) : Anchored s (execRegWrite r s) := by
  unfold execRegWrite
  refine runReqLater_anchor (fun u => ?_)
  extract_lets a ws
  split
  · rfl
  · have h := State.writeWords_anchor u r a 0 ws
    generalize u.writeWords r a 0 ws = p at h
    obtain ⟨t, o⟩ := p
    split
    · exact State.firstRefused_anchor _ _ _ _ _ _ _ ‹_›
    · rfl
    · rename_i hq
      injection hq with e1 e2
      subst e1
      split
      · exact Eq.trans (anchor_mk rfl rfl rfl) h
      · exact h
theorem execHalt_anchor (a0 : Req) (s : State) : Anchored s (execHalt a0 s) := by unfold execHalt; refine runReq_anchor fun u => ?_; simp only [anchor_mk, State.goInert_anchor]
theorem execResume_anchor (a0 : Req) (s : State) : Anchored s (execResume a0 s) := by unfold execResume; refine runReq_anchor fun u => ?_; (repeat' split) <;> first | rfl | simp only [anchor_mk, State.enterStandby_anchor]
theorem execArm_anchor (a0 : Req) (s : State) : Anchored s (execArm a0 s) := by unfold execArm; refine runReq_anchor fun u => ?_; dsimp only; (repeat' split) <;> first | rfl | simp only [anchor_mk, State.relayWatch_anchor]
theorem execCoreRestart_anchor (a0 : Req) (s : State) : Anchored s (execCoreRestart a0 s) := by unfold execCoreRestart; refine runReq_anchor fun u => ?_; dsimp only; (repeat' split) <;> first | rfl | simp only [anchor_mk, State.raise_anchor, State.setCore_anchor]
theorem execCredStatus_anchor (a0 : Req) (s : State) : Anchored s (execCredStatus a0 s) := runReq_anchor fun _ => rfl
theorem execProbeNearest_anchor (a0 : Req) (s : State) : Anchored s (execProbeNearest a0 s) := by unfold execProbeNearest; refine runReq_anchor fun u => ?_; (repeat' split) <;> first | rfl | simp only [anchor_mk, anchor_foldl, ite_self, implies_true, apply_ite State.anchor, forall_const]
theorem execAssignAddress_anchor (a0 : Req) (s : State) : Anchored s (execAssignAddress a0 s) := by unfold execAssignAddress; refine runReq_anchor fun u => ?_; dsimp only; (repeat' split) <;> first | rfl | simp only [anchor_mk, anchor_foldl, ite_self, implies_true, apply_ite State.anchor, forall_const, State.takeAddress_anchor]
theorem execPortOpen_anchor (a0 : Req) (s : State) : Anchored s (execPortOpen a0 s) := by unfold execPortOpen; refine runReqLater_anchor fun u => ?_; dsimp only; (repeat' split) <;> first | rfl | simp only [State.setFunc_anchor, State.setPort_anchor]
theorem execPortClose_anchor (a0 : Req) (s : State) : Anchored s (execPortClose a0 s) := by unfold execPortClose; refine runReq_anchor fun u => ?_; dsimp only; (repeat' split) <;> first | rfl | simp only [anchor_mk, State.raise_anchor, State.setPort_anchor, State.startStalled_anchor]
theorem execReleaseAddress_anchor (a0 : Req) (s : State) : Anchored s (execReleaseAddress a0 s) := by unfold execReleaseAddress; refine runReqLater_anchor fun u => ?_; (repeat' split) <;> first | rfl | simp only [anchor_mk, ite_self, apply_ite State.anchor, State.answer_anchor, State.goInert_anchor, State.setPort_anchor]
theorem execTopoRead_anchor (a0 : Req) (s : State) : Anchored s (execTopoRead a0 s) := by unfold execTopoRead; refine runReq_anchor fun u => ?_; dsimp only; (repeat' split) <;> first | rfl | simp only [anchor_mk, anchor_foldl, ite_self, implies_true, apply_ite State.anchor, forall_const]
theorem execGlbTopoEpochWrite_anchor (a0 : Word) (s : State) : Anchored s (execGlbTopoEpochWrite a0 s) := by unfold execGlbTopoEpochWrite; (repeat' split) <;> first | rfl | simp only [anchored_next, State.raise_anchor]
theorem execPrtCfgFuncWrite_anchor (a0 : Nat) (a1 : Nat) (s : State) : Anchored s (execPrtCfgFuncWrite a0 a1 s) := by unfold execPrtCfgFuncWrite; (repeat' split) <;> first | rfl | simp only [anchored_next, State.noteLeadLink_anchor, State.raise_anchor, State.setFunc_anchor]
theorem execPrtCfgFecEnWrite_anchor (a0 : Nat) (a1 : Bool) (s : State) : Anchored s (execPrtCfgFecEnWrite a0 a1 s) := by unfold execPrtCfgFecEnWrite; (repeat' split) <;> first | rfl | simp only [anchored_next, State.raise_anchor]
theorem execPortQualified_anchor (a0 : Nat) (s : State) : Anchored s (execPortQualified a0 s) := by unfold execPortQualified; dsimp only; (repeat' split) <;> first | rfl | simp only [anchored_next, anchor_mk, State.answer_anchor, State.raise_anchor, State.reachable_anchor, State.replayHolds_anchor, State.resumeBroadcast_anchor, State.setPort_anchor]
theorem execPortOpenTimeout_anchor (a0 : Nat) (a1 : Bool) (s : State) : Anchored s (execPortOpenTimeout a0 a1 s) := by unfold execPortOpenTimeout; dsimp only; (repeat' split) <;> first | rfl | simp only [anchored_next, anchor_mk, anchor_foldl, ite_self, implies_true, apply_ite State.anchor, forall_const, State.answer_anchor, State.linkFault_anchor, State.noLink_anchor, State.resumeBroadcast_anchor, State.setPort_anchor, State.setSleep_anchor]
theorem execLinkLost_anchor (a0 : Nat) (a1 : Bool) (s : State) : Anchored s (execLinkLost a0 a1 s) := by unfold execLinkLost; split <;> first | rfl | simp only [anchored_next, State.linkFault_anchor]
theorem execLinkQualifiesAgain_anchor (a0 : Nat) (s : State) : Anchored s (execLinkQualifiesAgain a0 s) := by unfold execLinkQualifiesAgain; dsimp only; (repeat' split) <;> first | rfl | simp only [anchored_next, State.raise_anchor, State.setPort_anchor]
theorem execMarkerError_anchor (a0 : Nat) (a1 : List Byte) (s : State) : Anchored s (execMarkerError a0 a1 s) := by unfold execMarkerError; split <;> first | rfl | simp only [anchored_next, anchor_mk, anchor_foldl, ite_self, implies_true, apply_ite State.anchor, forall_const, State.bump_anchor, State.raise_anchor, State.setPort_anchor]
theorem execSyncMarkerReceived_anchor (p f : Nat) (m : List Byte) (s : State) : Anchored s (execSyncMarkerReceived p f m s) := by
  unfold execSyncMarkerReceived
  split
  · rfl
  · split
    · exact execMarkerError_anchor _ _ _
    · extract_lets q c follows good id q' t u v
      have ht : t.anchor = s.anchor := State.setPort_anchor _ _ _
      have hu : u.anchor = s.anchor := by
        simp only [u]; split
        · rw [State.raise_anchor, State.bump_anchor, ht]
        · exact ht
      have hv : v.anchor = s.anchor := by
        simp only [v]; split
        · rw [State.raise_anchor, hu]
        · exact hu
      exact (State.noteLeadLink_anchor _ _).trans hv
theorem execSuperframeLockLost_anchor (a0 : Nat) (s : State) : Anchored s (execSuperframeLockLost a0 s) := by unfold execSuperframeLockLost; split <;> first | rfl | simp only [anchored_next, State.linkFault_anchor, State.raise_anchor, State.setPort_anchor]
theorem execSlotTransmit_anchor (a0 : Nat) (a1 : Nat) (s : State) : Anchored s (execSlotTransmit a0 a1 s) := by unfold execSlotTransmit; (repeat' split) <;> first | rfl | simp only [anchored_next, anchor_mk, anchor_foldl, ite_self, implies_true, apply_ite State.anchor, forall_const, State.fillSlot_anchor, State.nextSlot_anchor]
theorem execCellReceived_anchor (a0 : Nat) (a1 : Nat) (a2 : Nat) (a3 : List Byte) (s : State) : Anchored s (execCellReceived a0 a1 a2 a3 s) := by unfold execCellReceived; dsimp only; (repeat' split) <;> first | rfl | simp only [anchored_next, anchor_mk, anchor_foldl, ite_self, implies_true, apply_ite State.anchor, forall_const, State.bump_anchor, State.consumeCell_anchor, State.linkFault_anchor, State.noteNear_anchor, State.passOn_anchor, State.raise100_anchor, State.raise_anchor, State.setPort_anchor, State.spoilAsm_anchor]
theorem execTransitEgress_anchor (a0 : Nat) (a1 : Nat) (a2 : Nat) (s : State) : Anchored s (execTransitEgress a0 a1 a2 s) := by unfold execTransitEgress; dsimp only; (repeat' split) <;> first | rfl | simp only [anchored_next, anchor_mk, anchor_foldl, ite_self, implies_true, apply_ite State.anchor, forall_const, State.emit_anchor, State.fillSlot_anchor, State.nextSlot_anchor, State.noteResidence_anchor, State.setPort_anchor]
theorem execEclipseMarkerReceived_anchor (p : Nat) (m : List Byte) (s : State) : Anchored s (execEclipseMarkerReceived p m s) := by
  unfold execEclipseMarkerReceived
  split
  · rfl
  · split
    · exact execMarkerError_anchor _ _ _
    · extract_lets a0 origin hold h live _ ecl _ s1 ports s2 s3
      have h1 : s1.anchor = s.anchor := anchor_mk rfl rfl rfl
      have h2 : s2.anchor = s.anchor := (State.sendMarkers_anchor _ _ _).trans h1
      have h3 : s3.anchor = s.anchor := by
        simp only [s3]; split
        · exact h2
        · exact (State.eclipseTile_anchor _ _ _ _).trans h2
      clear_value s3 ecl ports
      split
      · rfl
      · split
        · exact State.raise_anchor _ _ _ _
        · split
          · rfl
          · exact (State.raise_anchor _ _ _ _).trans h3
theorem execEclipseSend_anchor (a0 : Req) (s : State) : Anchored s (execEclipseSend a0 s) := by unfold execEclipseSend; refine runReq_anchor fun u => ?_; dsimp only; (repeat' split) <;> first | rfl | simp only [anchor_mk, anchor_foldl, ite_self, implies_true, apply_ite State.anchor, forall_const, State.sendMarkers_anchor]
theorem execEclipseClear_anchor (r : Req) (s : State) : Anchored s (execEclipseClear r s) := by
  unfold execEclipseClear
  refine runReqLater_anchor (fun u => ?_)
  extract_lets scope c origin eseq _ _ t chains
  have ht : t.anchor = u.anchor := anchor_mk rfl rfl rfl
  clear_value t chains
  split
  · rfl
  · split
    · rfl
    · split
      · rfl
      · split
        · have h := State.clearHold_anchor u origin eseq r.isSafety r.slot
          generalize u.clearHold origin eseq r.isSafety r.slot = p at h
          obtain ⟨v, a⟩ := p
          exact h
        · split
          · rfl
          · split
            · rfl
            · split
              · rfl
              · split
                · rename_i addrs lanes p7 _
                  split
                  · exact ht
                  · have hb := State.bcastRefusal_anchor u 0x0706 r.cls lanes
                    split
                    · rename_i e; rw [e] at hb; exact hb
                    · exact (State.startJob_anchor _ _ _ _ _ _ _ _).trans ht
                · exact ht
theorem execPrtCntClr_anchor (a0 : Nat) (a1 : Word) (s : State) : Anchored s (execPrtCntClr a0 a1 s) := by unfold execPrtCntClr; split <;> first | rfl | simp only [anchored_next, State.clearCounters_anchor]
theorem execTmuNowRead_anchor (a0 : Nat) (s : State) : Anchored s (execTmuNowRead a0 s) := by unfold execTmuNowRead; dsimp only; (repeat' split) <;> first | rfl | simp only [anchored_next, anchor_mk, anchor_foldl, ite_self, implies_true, apply_ite State.anchor, forall_const, State.emit_anchor, State.latchNow_anchor]
theorem execTmuStgGo_anchor (a0 : Word) (s : State) : Anchored s (execTmuStgGo a0 s) := by unfold execTmuStgGo; split <;> first | rfl | simp only [anchored_next, State.stgGo_anchor]
theorem execTmuStgCancel_anchor (a0 : Word) (s : State) : Anchored s (execTmuStgCancel a0 s) := by unfold execTmuStgCancel; split <;> first | rfl | simp only [anchored_next, State.stgGo_anchor]
theorem execStagedWriteApply_anchor (a0 : Bool) (s : State) : Anchored s (execStagedWriteApply a0 s) := by unfold execStagedWriteApply; split <;> first | rfl | simp only [anchored_next, anchor_mk, anchor_foldl, ite_self, implies_true, apply_ite State.anchor, forall_const, State.settleDom_anchor]
theorem execTimeRead_anchor (a0 : Req) (s : State) : Anchored s (execTimeRead a0 s) := by unfold execTimeRead; refine runReq_anchor fun u => ?_; simp only [anchor_mk, anchor_foldl, ite_self, implies_true, apply_ite State.anchor, forall_const, State.takeSnap_anchor]
theorem execTimeSet_anchor (a0 : Req) (s : State) : Anchored s (execTimeSet a0 s) := by unfold execTimeSet; refine runReq_anchor fun u => ?_; dsimp only; (repeat' split) <;> first | rfl | simp only [State.raise_anchor, State.stageCmd_anchor]
theorem execTimeRate_anchor (a0 : Req) (s : State) : Anchored s (execTimeRate a0 s) := by unfold execTimeRate; refine runReq_anchor fun u => ?_; dsimp only; (repeat' split) <;> first | rfl | simp only [State.stageCmd_anchor]
theorem execTimeSelect_anchor (a0 : Req) (s : State) : Anchored s (execTimeSelect a0 s) := by unfold execTimeSelect; refine runReq_anchor fun u => ?_; dsimp only; (repeat' split) <;> first | rfl | simp only [anchor_mk, anchor_foldl, ite_self, implies_true, apply_ite State.anchor, forall_const, State.complete_anchor, State.raise_anchor, State.switchAtOnce_anchor]
theorem execPtpConfig_anchor (a0 : Req) (s : State) : Anchored s (execPtpConfig a0 s) := by unfold execPtpConfig; refine runReq_anchor fun u => ?_; dsimp only; (repeat' split) <;> first | rfl | simp only [State.setPtp_anchor]
theorem execPathCal_anchor (a0 : Req) (s : State) : Anchored s (execPathCal a0 s) := by unfold execPathCal; refine runReq_anchor fun u => ?_; (repeat' first | with_reducible rfl | split | extract_lets | simp only [anchor_mk, anchor_foldl, ite_self, implies_true, apply_ite State.anchor, forall_const, State.sendPdreq_anchor, State.send_anchor] | dsimp +zetaDelta only)
theorem execTimeStatus_anchor (a0 : Req) (s : State) : Anchored s (execTimeStatus a0 s) := runReq_anchor fun _ => rfl
theorem execShrefEdgeCapture_anchor (a0 : Nat) (a1 : Nat) (s : State) : Anchored s (execShrefEdgeCapture a0 a1 s) := by unfold execShrefEdgeCapture; dsimp only; (repeat' split) <;> first | rfl | simp only [anchored_next, anchor_mk, State.capture_anchor, State.monitorPhase_anchor]
theorem execTmuCapPop_anchor (a0 : Nat) (s : State) : Anchored s (execTmuCapPop a0 s) := by unfold execTmuCapPop; dsimp only; (repeat' split) <;> first | rfl | simp only [anchored_next, anchor_mk, anchor_foldl, ite_self, implies_true, apply_ite State.anchor, forall_const, State.setCap_anchor]
theorem execTimeSyncSend_anchor (a0 : Nat) (a1 : Bool) (s : State) : Anchored s (execTimeSyncSend a0 a1 s) := by unfold execTimeSyncSend; dsimp only; (repeat' split) <;> first | rfl | simp only [anchored_next, State.send_anchor, State.setDom_anchor]
theorem execDreqSend_anchor (a0 : Bool) (s : State) : Anchored s (execDreqSend a0 s) := by unfold execDreqSend; split <;> first | rfl | simp only [anchored_next, State.send_anchor, State.setDom_anchor]
theorem execPdreqSend_anchor (a0 : Nat) (s : State) : Anchored s (execPdreqSend a0 s) := by unfold execPdreqSend; split <;> first | rfl | simp only [anchored_next, anchor_mk, anchor_foldl, ite_self, implies_true, apply_ite State.anchor, forall_const, State.sendPdreq_anchor]
theorem execTimeSyncReceived_anchor (a0 : Msg) (s : State) : Anchored s (execTimeSyncReceived a0 s) := by unfold execTimeSyncReceived; split <;> first | rfl | simp only [anchored_next, State.setDom_anchor, State.takeMsgRow_anchor]
theorem execFollowReceived_anchor (a0 : Msg) (s : State) : Anchored s (execFollowReceived a0 s) := by unfold execFollowReceived; dsimp only; (repeat' split) <;> first | rfl | simp only [anchored_next, State.servoSample_anchor, State.setDom_anchor, State.takeMsgRow_anchor]
theorem execDreqReceived_anchor (a0 : Msg) (s : State) : Anchored s (execDreqReceived a0 s) := by unfold execDreqReceived; dsimp only; (repeat' split) <;> first | rfl | simp only [anchored_next, State.raise_anchor, State.send_anchor, State.takeMsgRow_anchor]
theorem execDrespReceived_anchor (a0 : Msg) (s : State) : Anchored s (execDrespReceived a0 s) := by unfold execDrespReceived; dsimp only; (repeat' split) <;> first | rfl | simp only [anchored_next, State.raise_anchor, State.setDom_anchor, State.setReg_anchor, State.takeMsgRow_anchor]
theorem execPdreqReceived_anchor (a0 : Msg) (s : State) : Anchored s (execPdreqReceived a0 s) := by unfold execPdreqReceived; split <;> first | rfl | simp only [anchored_next, State.send_anchor, State.takeMsgRow_anchor]
theorem execPdrespReceived_anchor (a0 : Msg) (s : State) : Anchored s (execPdrespReceived a0 s) := by unfold execPdrespReceived; dsimp only; (repeat' split) <;> first | rfl | simp only [anchored_next, anchor_mk, anchor_foldl, ite_self, implies_true, apply_ite State.anchor, forall_const, State.setReg_anchor, State.takeMsgRow_anchor]
theorem execLoopCellReturn_anchor (m : Msg) (s : State) : Anchored s (execLoopCellReturn m s) := by
  have hu : ∀ (t : State) (x : TmuS) (l : List TxMsg), t.anchor = s.anchor → x.raw = t.tmu.raw → (l.foldl State.send { t with tmu := x }).anchor = s.anchor :=
    fun t x l h e => (anchor_foldl _ (fun t x => State.send_anchor t x) _ _).trans (Eq.trans (anchor_mk e rfl rfl) h)
  unfold execLoopCellReturn
  extract_lets t p6 k
  have ht : t.anchor = s.anchor := State.takeMsgRow_anchor _ _
  clear_value t
  split
  · split
    · split
      · exact ht
      · exact hu _ _ _ ht rfl
    · exact ht
  · exact ht
theorem execPathCalComplete_anchor (a0 : List Int) (s : State) : Anchored s (execPathCalComplete a0 s) := by unfold execPathCalComplete; dsimp only; (repeat' split) <;> first | rfl | simp only [anchored_next, anchor_mk, State.complete_anchor, State.raise_anchor, State.writeAsym_anchor]
theorem execServoHoldoverTimeout_anchor (a0 : Bool) (s : State) : Anchored s (execServoHoldoverTimeout a0 s) := by unfold execServoHoldoverTimeout; dsimp only; (repeat' split) <;> first | rfl | simp only [anchored_next, anchor_mk, anchor_foldl, ite_self, implies_true, apply_ite State.anchor, forall_const, State.toHoldover_anchor]
theorem execAnnounceReceiptTimeout_anchor (a0 : Bool) (s : State) : Anchored s (execAnnounceReceiptTimeout a0 s) := by unfold execAnnounceReceiptTimeout; dsimp only; (repeat' split) <;> first | rfl | simp only [anchored_next, anchor_mk, anchor_foldl, ite_self, implies_true, apply_ite State.anchor, forall_const, State.raise_anchor, State.rechoose_anchor, State.setPtp_anchor, State.toHoldover_anchor]
theorem execBridgeComplete_anchor (s : State) : Anchored s (execBridgeComplete s) := by unfold execBridgeComplete; split <;> first | rfl | simp only [anchored_next, anchor_mk, State.raise_anchor]
theorem execLchConfig_anchor (a0 : Req) (s : State) : Anchored s (execLchConfig a0 s) := by unfold execLchConfig; refine runReq_anchor fun u => ?_; dsimp only; (repeat' split) <;> first | rfl | simp only [anchor_mk, anchor_foldl, ite_self, implies_true, apply_ite State.anchor, forall_const, State.setLaunchServo_anchor]
theorem execLchStart_anchor (a0 : Req) (s : State) : Anchored s (execLchStart a0 s) := by unfold execLchStart; refine runReq_anchor fun u => ?_; (repeat' first | with_reducible rfl | split | extract_lets | simp only [anchor_mk, State.announce_anchor, State.raise_anchor] | dsimp +zetaDelta only)
theorem execLchStop_anchor (a0 : Req) (s : State) : Anchored s (execLchStop a0 s) := by unfold execLchStop; refine runReq_anchor fun u => ?_; (repeat' split) <;> first | rfl | simp only [anchor_mk, ite_self, apply_ite State.anchor, State.announceCell_anchor, State.setLaunchServo_anchor]
theorem execShrefConfig_anchor (a0 : Req) (s : State) : Anchored s (execShrefConfig a0 s) := by unfold execShrefConfig; refine runReq_anchor fun u => ?_; dsimp only; (repeat' split) <;> first | rfl | simp only [anchor_mk, anchor_foldl, ite_self, implies_true, apply_ite State.anchor, forall_const]
theorem execLchStatus_anchor (a0 : Req) (s : State) : Anchored s (execLchStatus a0 s) := runReq_anchor fun _ => rfl
theorem execLaunchAnnounce_anchor (s : State) : Anchored s (execLaunchAnnounce s) := by
  unfold execLaunchAnnounce
  split
  · rfl
  · split
    · rfl
    · rename_i t h; exact State.announceNext_anchor s t h
theorem execLnchRepeat_anchor (s : State) : Anchored s (execLnchRepeat s) := by unfold execLnchRepeat; (repeat' split) <;> first | rfl | simp only [anchored_next, anchor_mk, anchor_foldl, ite_self, implies_true, apply_ite State.anchor, forall_const, State.sendLnch_anchor]
theorem execStoppingEnd_anchor (s : State) : Anchored s (execStoppingEnd s) := by unfold execStoppingEnd; (repeat' split) <;> first | rfl | simp only [anchored_next, anchor_mk, anchor_foldl, ite_self, implies_true, apply_ite State.anchor, forall_const, State.raise_anchor, State.runSwitch_anchor]
theorem execLeadSubframeCut_anchor (a0 : Nat) (a1 : Nat) (a2 : Nat) (s : State) : Anchored s (execLeadSubframeCut a0 a1 a2 s) := by unfold execLeadSubframeCut; (repeat' split) <;> first | rfl | simp only [anchored_next, State.bump_anchor, State.cutSub_anchor, State.raise_anchor]
theorem execLnchCellReceived_anchor (a0 : Msg) (s : State) : Anchored s (execLnchCellReceived a0 s) := by unfold execLnchCellReceived; dsimp only; (repeat' split) <;> first | rfl | simp only [anchored_next, anchor_mk, anchor_foldl, implies_true, State.discardEntry_anchor, State.setFaultEpoch_anchor, State.takeEntry_anchor, State.takeMsgRow_anchor]
theorem execUnderrunCheck_anchor (s : State) : Anchored s (execUnderrunCheck s) := by unfold execUnderrunCheck; (repeat' split) <;> first | rfl | simp only [anchored_next, anchor_mk, ite_self, apply_ite State.anchor, State.noteAborted_anchor, State.sampleCodes_anchor]
theorem execLaunch_anchor (s : State) : Anchored s (execLaunch s) := by unfold execLaunch; (repeat' split) <;> first | rfl | simp only [anchored_next, State.launchLead_anchor, State.launchTile_anchor]
theorem execMissingLaunchDecision_anchor (s : State) : Anchored s (execMissingLaunchDecision s) := by unfold execMissingLaunchDecision; dsimp only; (repeat' split) <;> first | rfl | simp only [anchored_next, anchor_mk, State.raiseA_anchor, State.raise_anchor, State.restTile_anchor, State.sampleCodes_anchor]
theorem execCoastLaunch_anchor (s : State) : Anchored s (execCoastLaunch s) := by unfold execCoastLaunch; dsimp only; (repeat' split) <;> first | rfl | simp only [anchored_next, anchor_mk, anchor_foldl, ite_self, implies_true, apply_ite State.anchor, forall_const, State.beginEmission_anchor, State.bumpBy_anchor, State.bump_anchor, State.passLaunch_anchor, State.relight_anchor, State.switchAt_anchor]
theorem execTileStopPeriodEnd_anchor (s : State) : Anchored s (execTileStopPeriodEnd s) := by unfold execTileStopPeriodEnd; (repeat' split) <;> first | rfl | simp only [anchored_next, anchor_mk, State.restTile_anchor]
theorem execLchCntClr_anchor (a0 : Word) (s : State) : Anchored s (execLchCntClr a0 s) := by unfold execLchCntClr; split <;> first | rfl | simp only [anchored_next, State.clearCounters_anchor]
theorem execIngestFrameReceived_anchor (p : Nat) (f : EthFrame) (s : State) : Anchored s (execIngestFrameReceived p f s) := by
  unfold execIngestFrameReceived
  split
  · rfl
  · split
    · exact State.bump_anchor _ _
    · split
      · exact State.bump_anchor _ _
      · have h := State.takeFrame_anchor s p f
        generalize s.takeFrame p f = q at h
        obtain ⟨x, b⟩ := q
        cases b
        · exact State.bump_anchor _ _
        · exact h
theorem execArpRequestRetry_anchor (s : State) : Anchored s (execArpRequestRetry s) := by unfold execArpRequestRetry; (repeat' split) <;> first | rfl | simp only [anchored_next, anchor_mk, State.raise_anchor]
theorem execArpEntryExpiry_anchor (s : State) : Anchored s (execArpEntryExpiry s) := by unfold execArpEntryExpiry; split <;> first | rfl | simp only [anchored_next, anchor_mk, anchor_foldl, ite_self, implies_true, apply_ite State.anchor, forall_const]
theorem execStreamEnable_anchor (a0 : Nat) (a1 : Word) (s : State) : Anchored s (execStreamEnable a0 a1 s) := by unfold execStreamEnable; split <;> first | rfl | simp only [anchored_next, anchor_mk, anchor_foldl, ite_self, implies_true, apply_ite State.anchor, forall_const, State.busStrCtl_anchor]
theorem execStreamDisable_anchor (a0 : Nat) (a1 : Word) (s : State) : Anchored s (execStreamDisable a0 a1 s) := by unfold execStreamDisable; split <;> first | rfl | simp only [anchored_next, anchor_mk, anchor_foldl, ite_self, implies_true, apply_ite State.anchor, forall_const, State.busStrCtl_anchor]
theorem execStreamPacketReceived_anchor (a0 : Nat) (a1 : Nat) (a2 : RtpPkt) (s : State) : Anchored s (execStreamPacketReceived a0 a1 a2 s) := by unfold execStreamPacketReceived; split <;> first | rfl | simp only [anchored_next, State.streamPacket_anchor]
theorem execPacketLossDeclared_anchor (a0 : Nat) (s : State) : Anchored s (execPacketLossDeclared a0 s) := by unfold execPacketLossDeclared; dsimp only; (repeat' split) <;> first | rfl | simp only [anchored_next, anchor_mk, anchor_foldl, ite_self, implies_true, apply_ite State.anchor, forall_const, State.loseNumber_anchor]
theorem execLegLoss_anchor (a0 : Nat) (a1 : Nat) (s : State) : Anchored s (execLegLoss a0 a1 s) := by unfold execLegLoss; dsimp only; (repeat' split) <;> first | rfl | simp only [anchored_next, State.raise_anchor, State.setStrm_anchor]
theorem execLockWindowEnd_anchor (a0 : Nat) (s : State) : Anchored s (execLockWindowEnd a0 s) := by unfold execLockWindowEnd; dsimp only; (repeat' split) <;> first | rfl | simp only [anchored_next, State.cutLines_anchor, State.raise_anchor, State.setStrm_anchor]
theorem execIngStrCntClr_anchor (a0 : Nat) (a1 : Word) (s : State) : Anchored s (execIngStrCntClr a0 a1 s) := by unfold execIngStrCntClr; (repeat' split) <;> first | rfl | simp only [anchored_next, anchor_mk, anchor_foldl, ite_self, implies_true, apply_ite State.anchor, forall_const, State.clearCounters_anchor, State.raise_anchor]
theorem execSurfaceAlloc_anchor (r : Req) (s : State) : Anchored s (execSurfaceAlloc r s) := by
  unfold execSurfaceAlloc
  refine runReq_anchor (fun u => ?_)
  extract_lets p n f w h bufs a lo hi
  clear_value p n f w h bufs a lo hi
  have hi : ∀ (c : Prop) [Decidable c] (a b : State × Rsp), a.1.anchor = u.anchor → b.1.anchor = u.anchor → (if c then a else b).1.anchor = u.anchor := by
    intro c _ a b h1 h2; split <;> assumption
  repeat' (first | rfl | exact anchor_mk rfl rfl rfl | exact State.setSurf_anchor _ _ _ | refine hi _ _ _ ?_ ?_)
theorem execSurfaceWrite_anchor (r : Req) (s : State) : Anchored s (execSurfaceWrite r s) := by
  unfold execSurfaceWrite
  refine runReq_anchor (fun u => ?_)
  extract_lets n o data
  split
  · rfl
  · split
    · rfl
    · extract_lets total
      split
      · rfl
      · split
        · rfl
        · split
          · rfl
          · split
            · exact State.noteBlock_anchor _ _ _ _ _
            · rename_i t h
              exact (State.setSurf_anchor _ _ _).trans (State.mergeBlocks_anchor _ _ _ _ _ _ h)
theorem execLayerConfig_anchor (a0 : Req) (s : State) : Anchored s (execLayerConfig a0 s) := by unfold execLayerConfig; refine runReqLater_anchor fun u => ?_; (repeat' split) <;> first | rfl | simp only [State.stageReply_anchor]
theorem execFlip_anchor (a0 : Req) (s : State) : Anchored s (execFlip a0 s) := by unfold execFlip; refine runReqLater_anchor fun u => ?_; dsimp only; (repeat' split) <;> first | rfl | simp only [anchor_mk, anchor_foldl, ite_self, implies_true, apply_ite State.anchor, forall_const, State.viewAll_anchor]
theorem execFenceSignal_anchor (a0 : Req) (s : State) : Anchored s (execFenceSignal a0 s) := by unfold execFenceSignal; refine runReq_anchor fun u => ?_; dsimp only; (repeat' split) <;> first | rfl | simp only [anchor_mk, anchor_foldl, ite_self, implies_true, apply_ite State.anchor, forall_const, State.readyGroups_anchor]
theorem execFenceTimeout_anchor (s : State) : Anchored s (execFenceTimeout s) := by unfold execFenceTimeout; dsimp only; (repeat' split) <;> first | rfl | simp only [anchored_next, anchor_mk, State.bump_anchor, State.complete_anchor, State.raiseA_anchor]
theorem execMeshLoad_anchor (a0 : Req) (s : State) : Anchored s (execMeshLoad a0 s) := by unfold execMeshLoad; refine runReq_anchor fun u => ?_; dsimp only; (repeat' split) <;> first | rfl | simp only [anchor_mk, anchor_foldl, ite_self, implies_true, apply_ite State.anchor, forall_const, State.memWrite_anchor]
theorem execStreamConfig_anchor (a0 : Req) (s : State) : Anchored s (execStreamConfig a0 s) := by unfold execStreamConfig; refine runReq_anchor fun u => ?_; (repeat' first | with_reducible rfl | split | extract_lets | simp only [State.setStrm_anchor] | dsimp +zetaDelta only)
theorem execProtLayerSet_anchor (a0 : Req) (s : State) : Anchored s (execProtLayerSet a0 s) := by unfold execProtLayerSet; refine runReqLater_anchor fun u => ?_; dsimp only; (repeat' split) <;> first | rfl | simp only [State.stageReply_anchor]
theorem execProtLayerClear_anchor (a0 : Req) (s : State) : Anchored s (execProtLayerClear a0 s) := by unfold execProtLayerClear; refine runReqLater_anchor fun u => ?_; simp only [State.stageReply_anchor]
theorem execCmpEnable_anchor (a0 : Word) (s : State) : Anchored s (execCmpEnable a0 s) := by unfold execCmpEnable; (repeat' split) <;> first | rfl | simp only [anchored_next, State.raise_anchor, State.setFld_anchor]
theorem execComposeTile_anchor (a0 : Nat) (a1 : Nat) (a2 : Nat) (a3 : Nat) (s : State) : Anchored s (execComposeTile a0 a1 a2 a3 s) := by unfold execComposeTile; (repeat' split) <;> first | rfl | simp only [anchored_next, anchor_mk, anchor_foldl, ite_self, implies_true, apply_ite State.anchor, forall_const, State.cutFed_anchor, State.cutSub_anchor, State.useFrames_anchor]
theorem execCmpCntClr_anchor (a0 : Word) (s : State) : Anchored s (execCmpCntClr a0 s) := by unfold execCmpCntClr; split <;> first | rfl | simp only [anchored_next, State.clearCounters_anchor]
theorem execCoderConfig_anchor (a0 : Req) (s : State) : Anchored s (execCoderConfig a0 s) := by unfold execCoderConfig; refine runReq_anchor fun u => ?_; dsimp only; (repeat' split) <;> first | rfl | simp only [anchor_mk, anchor_foldl, ite_self, implies_true, apply_ite State.anchor, forall_const, State.addChange_anchor, State.viewAll_anchor]
theorem execCoderStatus_anchor (a0 : Req) (s : State) : Anchored s (execCoderStatus a0 s) := runReq_anchor fun _ => rfl
theorem execEncodeSubframe_anchor (a0 : Nat) (a1 : Bool) (s : State) : Anchored s (execEncodeSubframe a0 a1 s) := by unfold execEncodeSubframe; (repeat' split) <;> first | rfl | simp only [anchored_next, anchor_mk, anchor_foldl, implies_true, State.bumpBy_anchor, State.bump_anchor, State.cutSub_anchor, State.raise_anchor, State.send_anchor, State.setFld_anchor]
theorem execTransportGroupDecode_anchor (a0 : Nat) (a1 : Nat) (a2 : Nat) (s : State) : Anchored s (execTransportGroupDecode a0 a1 a2 s) := by unfold execTransportGroupDecode; dsimp only; (repeat' split) <;> first | rfl | simp only [anchored_next, State.bumpBy_anchor, State.bump_anchor, State.failSub_anchor, State.raise_anchor, State.refuseHeader_anchor]
theorem execSurfaceBlockPack_anchor (a0 : Nat) (a1 : Nat) (s : State) : Anchored s (execSurfaceBlockPack a0 a1 s) := by unfold execSurfaceBlockPack; dsimp only; (repeat' split) <;> first | rfl | simp only [anchored_next, State.packBlock_anchor, State.updFrame_anchor]
theorem execSurfaceBlockDecode_anchor (a0 : Nat) (a1 : Nat) (a2 : Nat) (s : State) : Anchored s (execSurfaceBlockDecode a0 a1 a2 s) := by unfold execSurfaceBlockDecode; (repeat' split) <;> first | rfl | simp only [anchored_next, State.noteBlock_anchor]
theorem execBcdCntClr_anchor (a0 : Word) (s : State) : Anchored s (execBcdCntClr a0 s) := by unfold execBcdCntClr; split <;> first | rfl | simp only [anchored_next, ite_self, apply_ite State.anchor, State.clearCounters_anchor, State.setReg_anchor]
theorem execLppConfig_anchor (a0 : Req) (s : State) : Anchored s (execLppConfig a0 s) := by unfold execLppConfig; refine runReqLater_anchor fun u => ?_; dsimp only; (repeat' split) <;> first | rfl | simp only [State.stageReply_anchor]
theorem execLutLoad_anchor (a0 : Req) (s : State) : Anchored s (execLutLoad a0 s) := by unfold execLutLoad; refine runReqLater_anchor fun u => ?_; dsimp only; (repeat' split) <;> first | rfl | simp only [anchor_mk, State.stageReply_anchor]
theorem execAlmanacLoad_anchor (a0 : Req) (s : State) : Anchored s (execAlmanacLoad a0 s) := by unfold execAlmanacLoad; refine runReqLater_anchor fun u => ?_; dsimp only; (repeat' split) <;> first | rfl | simp only [anchor_mk, anchor_foldl, ite_self, implies_true, apply_ite State.anchor, forall_const, State.memWrite_anchor, State.viewAll_anchor]
theorem execAlmanacEnable_anchor (a0 : Req) (s : State) : Anchored s (execAlmanacEnable a0 s) := by unfold execAlmanacEnable; refine runReqLater_anchor fun u => ?_; dsimp only; (repeat' split) <;> first | rfl | simp only [anchor_mk, State.stageReply_anchor]
theorem execZoneRead_anchor (a0 : Req) (s : State) : Anchored s (execZoneRead a0 s) := runReq_anchor fun _ => rfl
theorem execSubframeProcessBegin_anchor (a0 : Nat) (a1 : Nat) (s : State) : Anchored s (execSubframeProcessBegin a0 a1 s) := by unfold execSubframeProcessBegin; dsimp only; (repeat' split) <;> first | rfl | simp only [anchored_next, anchor_mk, State.beginLaunch_anchor, State.bump_anchor, State.cutFill_anchor, State.failSub_anchor, State.raise_anchor, State.refuseHeader_anchor, State.setRegion_anchor, State.setSub_anchor]
theorem execSubframeWriteComplete_anchor (a0 : Nat) (a1 : Nat) (a2 : Nat) (s : State) : Anchored s (execSubframeWriteComplete a0 a1 a2 s) := by unfold execSubframeWriteComplete; dsimp only; (repeat' split) <;> first | rfl | simp only [anchored_next, anchor_mk, anchor_foldl, ite_self, implies_true, apply_ite State.anchor, forall_const, State.bumpBy_anchor, State.bump_anchor, State.dropPix_anchor, State.failSub_anchor, State.noteBad_anchor, State.pipeFail_anchor, State.setRegion_anchor, State.viewFor_anchor]
theorem execPipelineCheckFailure_anchor (a0 : Nat) (a1 : Nat) (a2 : Nat) (a3 : Bool) (s : State) : Anchored s (execPipelineCheckFailure a0 a1 a2 a3 s) := by unfold execPipelineCheckFailure; (repeat' split) <;> first | rfl | simp only [anchored_next, State.pipeFail_anchor]
theorem execZoneStale_anchor (a0 : Nat) (s : State) : Anchored s (execZoneStale a0 s) := by unfold execZoneStale; dsimp only; (repeat' split) <;> first | rfl | simp only [anchored_next, anchor_mk, State.raiseA_anchor]
theorem execAlmanacRegenerationStart_anchor (s : State) : Anchored s (execAlmanacRegenerationStart s) := by unfold execAlmanacRegenerationStart; split <;> first | rfl | simp only [anchored_next, anchor_mk, anchor_foldl, ite_self, implies_true, apply_ite State.anchor, forall_const]
theorem execAlmanacRegenerationComplete_anchor (c : Option Nat) (s : State) : Anchored s (execAlmanacRegenerationComplete c s) := by
  unfold execAlmanacRegenerationComplete
  split
  · rfl
  · split
    · rfl
    · extract_lets _ s1 late _ v u
      have h1 : s1.anchor = s.anchor := anchor_mk rfl rfl rfl
      have hv : v.anchor = s.anchor := Eq.trans (anchor_mk rfl rfl rfl) h1
      have hu : u.anchor = s.anchor := by
        simp only [u]; split
        · exact (State.raise_anchor _ _ _ _).trans hv
        · exact hv
      clear_value u v s1
      split
      · extract_lets t
        have ht : t.anchor = s.anchor := by simp only [t]; rw [State.raise_anchor, State.bump_anchor, h1]
        split
        · exact (State.answer_anchor _ _ _ _ _).trans ht
        · exact ht
      · split
        · split
          rename_i v a he
          have hv' : v.anchor = s.anchor := (congrArg (fun p => p.1.anchor) he).symm.trans ((State.stageReply_anchor _ _ _ _).trans hu)
          cases a with
          | some a => exact (State.answer_anchor _ _ _ _ _).trans hv'
          | none => exact hv'
        · exact hu
theorem execDeferredChangeReply_anchor (s : State) : Anchored s (execDeferredChangeReply s) := by unfold execDeferredChangeReply; (repeat' split) <;> first | rfl | simp only [anchored_next, anchor_mk, State.answer_anchor]
theorem execLppCntClr_anchor (a0 : Word) (s : State) : Anchored s (execLppCntClr a0 s) := by unfold execLppCntClr; split <;> first | rfl | simp only [anchored_next, State.clearCounters_anchor]
theorem execEmsConfig_anchor (a0 : Req) (s : State) : Anchored s (execEmsConfig a0 s) := by unfold execEmsConfig; refine runReq_anchor fun u => ?_; dsimp only; (repeat' split) <;> first | rfl | simp only [anchor_mk, anchor_foldl, ite_self, implies_true, apply_ite State.anchor, forall_const]
theorem execEmitEnable_anchor (a0 : Req) (s : State) : Anchored s (execEmitEnable a0 s) := by unfold execEmitEnable; refine runReqLater_anchor fun u => ?_; dsimp only; (repeat' split) <;> first | rfl | simp only [anchor_mk, State.beginInit_anchor, State.raise_anchor, State.setReg_anchor]
theorem execEmitDisable_anchor (a0 : Req) (s : State) : Anchored s (execEmitDisable a0 s) := by unfold execEmitDisable; refine runReq_anchor fun u => ?_; simp only [State.endEmission_anchor]
theorem execSetupTransfer_anchor (a0 : Req) (s : State) : Anchored s (execSetupTransfer a0 s) := by unfold execSetupTransfer; refine runReq_anchor fun u => ?_; dsimp only; (repeat' split) <;> first | rfl | simp only [anchor_mk, anchor_foldl, ite_self, implies_true, apply_ite State.anchor, forall_const]
theorem execDriverStatus_anchor (a0 : Req) (s : State) : Anchored s (execDriverStatus a0 s) := by unfold execDriverStatus; refine runReq_anchor fun u => ?_; dsimp only; (repeat' split) <;> first | rfl | simp only [anchor_mk, anchor_foldl, ite_self, implies_true, apply_ite State.anchor, forall_const]
theorem execWindowPreshift_anchor (a0 : Nat) (s : State) : Anchored s (execWindowPreshift a0 s) := by unfold execWindowPreshift; (repeat' split) <;> first | rfl | simp only [anchored_next, anchor_mk, anchor_foldl, ite_self, implies_true, apply_ite State.anchor, forall_const, State.bumpBy_anchor, State.emits_anchor]
theorem execUnitShow_anchor (a0 : Nat) (s : State) : Anchored s (execUnitShow a0 s) := by unfold execUnitShow; (repeat' split) <;> first | rfl | simp only [anchored_next, anchor_mk, anchor_foldl, ite_self, implies_true, apply_ite State.anchor, forall_const, State.showNext_anchor, State.showUnit_anchor]
theorem execDarkLatch_anchor (s : State) : Anchored s (execDarkLatch s) := by unfold execDarkLatch; dsimp only; (repeat' split) <;> first | rfl | simp only [anchored_next, anchor_mk, State.applyCodes_anchor, State.credit_anchor, State.emit_anchor, State.endWindow_anchor]
theorem execFillStart_anchor (a0 : Nat) (s : State) : Anchored s (execFillStart a0 s) := by unfold execFillStart; dsimp only; (repeat' split) <;> first | rfl | simp only [anchored_next, anchor_mk, anchor_foldl, ite_self, implies_true, apply_ite State.anchor, forall_const, State.bumpBy_anchor, State.emits_anchor]
theorem execWindowCut_anchor (a0 : Bool) (a1 : Nat) (s : State) : Anchored s (execWindowCut a0 a1 s) := by unfold execWindowCut; (repeat' split) <;> first | rfl | simp only [anchored_next, anchor_mk, State.bump_anchor, State.credit_anchor, State.noteAborted_anchor, State.raise_anchor]
theorem execStatusCollection_anchor (s : State) : Anchored s (execStatusCollection s) := by unfold execStatusCollection; dsimp only; (repeat' split) <;> first | rfl | simp only [anchored_next, anchor_mk, anchor_foldl, ite_self, implies_true, apply_ite State.anchor, forall_const]
theorem execSetupTransferRun_anchor (a0 : List (Nat × Nat × Nat)) (s : State) : Anchored s (execSetupTransferRun a0 s) := by unfold execSetupTransferRun; dsimp only; (repeat' split) <;> first | rfl | simp only [anchored_next, anchor_mk, anchor_foldl, implies_true, State.bump_anchor, State.complete_anchor, State.emits_anchor, State.endInit_anchor, State.statusWord_anchor]
theorem execSetupTransferDrop_anchor (s : State) : Anchored s (execSetupTransferDrop s) := by unfold execSetupTransferDrop; (repeat' split) <;> first | rfl | simp only [anchored_next, anchor_mk, State.bump_anchor, State.complete_anchor, State.raise_anchor]
theorem execEmsCntClr_anchor (a0 : Word) (s : State) : Anchored s (execEmsCntClr a0 s) := by unfold execEmsCntClr; split <;> first | rfl | simp only [anchored_next, State.clearCounters_anchor]
theorem execMemConfig_anchor (a0 : Req) (s : State) : Anchored s (execMemConfig a0 s) := by unfold execMemConfig; refine runReqLater_anchor fun u => ?_; dsimp only; (repeat' split) <;> first | rfl | simp only [anchor_mk, anchor_foldl, ite_self, implies_true, apply_ite State.anchor, forall_const]
theorem execMemTrainingComplete_anchor (a0 : Option (Nat × Nat)) (s : State) : Anchored s (execMemTrainingComplete a0 s) := by unfold execMemTrainingComplete; (repeat' split) <;> first | rfl | simp only [anchored_next, anchor_mk, anchor_foldl, ite_self, implies_true, apply_ite State.anchor, forall_const, State.answer_anchor, State.holdChan_anchor, State.raise_anchor, State.resumeWaiting_anchor, State.runChan_anchor, State.setReg_anchor]
theorem execMemStatus_anchor (a0 : Req) (s : State) : Anchored s (execMemStatus a0 s) := runReq_anchor fun _ => rfl
theorem execMemRelease_anchor (a0 : Req) (s : State) : Anchored s (execMemRelease a0 s) := by unfold execMemRelease; refine runReqLater_anchor fun u => ?_; dsimp only; (repeat' split) <;> first | rfl | simp only [anchor_mk, anchor_foldl, ite_self, implies_true, apply_ite State.anchor, forall_const, State.setChan_anchor]
theorem execScrubConfig_anchor (a0 : Req) (s : State) : Anchored s (execScrubConfig a0 s) := by unfold execScrubConfig; refine runReq_anchor fun u => ?_; dsimp only; (repeat' split) <;> first | rfl | simp only [anchor_mk, anchor_foldl, ite_self, implies_true, apply_ite State.anchor, forall_const, State.setReg_anchor]
theorem execDramRequestIssue_anchor (ch : Nat) (l : List MemReq) (s : State) : Anchored s (execDramRequestIssue ch l s) := by
  unfold execDramRequestIssue
  split
  · rfl
  · split
    · trivial
    · extract_lets mine t
      have ht : t.anchor = s.anchor := State.arrive_anchor _ _ _
      clear_value t
      split
      · split
        · exact ht
        · exact ((State.payRefresh_anchor _ _).trans (State.issue_anchor _ _ _)).trans ht
      · exact anchor_foldl _ (fun t x => State.dropWrite_anchor t _) _ _
      · rfl
theorem execRequestPromotion_anchor (a0 : Nat) (s : State) : Anchored s (execRequestPromotion a0 s) := by unfold execRequestPromotion; split <;> first | rfl | simp only [anchored_next, anchor_mk, anchor_foldl, ite_self, implies_true, apply_ite State.anchor, forall_const, State.bumpBy_anchor, State.setChan_anchor]
theorem execDramReadComplete_anchor (a0 : Nat) (a1 : List Nat) (s : State) : Anchored s (execDramReadComplete a0 a1 s) := by unfold execDramReadComplete; dsimp only; (repeat' split) <;> first | rfl | simp only [anchored_next, State.checkWords_anchor, State.enqueue_anchor, State.setChan_anchor]
theorem execRefreshDue_anchor (a0 : Nat) (a1 : Nat) (s : State) : Anchored s (execRefreshDue a0 a1 s) := by unfold execRefreshDue; dsimp only; (repeat' split) <;> first | rfl | simp only [anchored_next, State.bump_anchor, State.raise_anchor, State.setChan_anchor]
theorem execRetrainDue_anchor (a0 : Nat) (s : State) : Anchored s (execRetrainDue a0 s) := by unfold execRetrainDue; dsimp only; (repeat' split) <;> first | rfl | simp only [anchored_next, anchor_mk, anchor_foldl, ite_self, implies_true, apply_ite State.anchor, forall_const, State.setChan_anchor]
theorem execRetrainWindow_anchor (a0 : Nat) (a1 : Option Nat) (s : State) : Anchored s (execRetrainWindow a0 a1 s) := by unfold execRetrainWindow; dsimp only; (repeat' split) <;> first | rfl | simp only [anchored_next, anchor_mk, anchor_foldl, ite_self, implies_true, apply_ite State.anchor, forall_const, State.retrain_anchor]
theorem execRetrainForced_anchor (a0 : Nat) (a1 : Option Nat) (s : State) : Anchored s (execRetrainForced a0 a1 s) := by unfold execRetrainForced; dsimp only; (repeat' split) <;> first | rfl | simp only [anchored_next, anchor_mk, anchor_foldl, ite_self, implies_true, apply_ite State.anchor, forall_const, State.bump_anchor, State.raise_anchor, State.retrain_anchor]
theorem execPowerDownEntry_anchor (a0 : Nat) (a1 : Nat) (s : State) : Anchored s (execPowerDownEntry a0 a1 s) := by unfold execPowerDownEntry; dsimp only; (repeat' split) <;> first | rfl | simp only [anchored_next, anchor_mk, anchor_foldl, ite_self, implies_true, apply_ite State.anchor, forall_const, State.setChan_anchor]
theorem execCaParityAlert_anchor (a0 : Nat) (s : State) : Anchored s (execCaParityAlert a0 s) := by unfold execCaParityAlert; dsimp only; (repeat' split) <;> first | rfl | simp only [anchored_next, State.bump_anchor, State.holdChan_anchor, State.raise_anchor, State.setChan_anchor]
theorem execScrubRead_anchor (a0 : Nat) (s : State) : Anchored s (execScrubRead a0 s) := by unfold execScrubRead; dsimp only; (repeat' split) <;> first | rfl | simp only [anchored_next, anchor_mk, anchor_foldl, ite_self, implies_true, apply_ite State.anchor, forall_const, State.bump_anchor, State.enterQueue_anchor, State.raise_anchor, State.setChan_anchor]
theorem execMemChCntClr_anchor (a0 : Nat) (a1 : Word) (s : State) : Anchored s (execMemChCntClr a0 a1 s) := by unfold execMemChCntClr; split <;> first | rfl | simp only [anchored_next, State.clearCounters_anchor]
theorem execPairConfig_anchor (a0 : Req) (s : State) : Anchored s (execPairConfig a0 s) := by unfold execPairConfig; refine runReq_anchor fun u => ?_; (repeat' first | with_reducible rfl | split | extract_lets | simp only [anchor_mk, State.enterStandby_anchor, State.setPair_anchor, State.setReg_anchor, State.wrongPair_anchor] | dsimp +zetaDelta only)
theorem execPairStatus_anchor (a0 : Req) (s : State) : Anchored s (execPairStatus a0 s) := runReq_anchor fun _ => rfl
theorem execPairHandover_anchor (a0 : Req) (s : State) : Anchored s (execPairHandover a0 s) := by unfold execPairHandover; refine runReq_anchor fun u => ?_; (repeat' split) <;> first | rfl | simp only [anchor_mk, anchor_foldl, ite_self, implies_true, apply_ite State.anchor, forall_const, State.wrongPair_anchor]
theorem execStateSave_anchor (a0 : Req) (s : State) : Anchored s (execStateSave a0 s) := by unfold execStateSave; refine runReq_anchor fun u => ?_; (repeat' split) <;> first | rfl | simp only [anchor_mk, anchor_foldl, ite_self, implies_true, apply_ite State.anchor, forall_const]
theorem execStateSaveComplete_anchor (s : State) : Anchored s (execStateSaveComplete s) := by
  unfold execStateSaveComplete
  generalize recordFits s.savedItems = fits
  split
  · split
    · rfl
    · split
      · rw [anchored_next, State.complete_anchor, State.spoil_anchor]; exact anchor_mk rfl rfl rfl
      · cases fits
        · exact State.complete_anchor _ _ _
        · exact (State.complete_anchor _ _ _).trans (State.putRecord_anchor _ _ _)
  · rfl
theorem execStateRestore_anchor (a0 : Req) (s : State) : Anchored s (execStateRestore a0 s) := by unfold execStateRestore; refine runReq_anchor fun u => ?_; (repeat' split) <;> first | rfl | simp only [anchor_mk, anchor_foldl, ite_self, implies_true, apply_ite State.anchor, forall_const, State.wrongPair_anchor]
theorem execStateRestoreComplete_anchor (s : State) : Anchored s (execStateRestoreComplete s) := by unfold execStateRestoreComplete; (repeat' split) <;> first | rfl | simp only [anchored_next, anchor_mk, anchor_foldl, implies_true, State.applyLive_anchor, State.applyRest_anchor, State.complete_anchor, State.watchMirror_anchor]
theorem execClaimSend_anchor (s : State) : Anchored s (execClaimSend s) := by unfold execClaimSend; dsimp only; (repeat' split) <;> first | rfl | simp only [anchored_next, anchor_mk, State.sendBeat_anchor]
theorem execClaimWindowEnd_anchor (s : State) : Anchored s (execClaimWindowEnd s) := by unfold execClaimWindowEnd; split <;> first | rfl | simp only [anchored_next, State.enterActive_anchor, State.unbindCheck_anchor]
theorem execClaimReceived_anchor (a0 : Msg) (s : State) : Anchored s (execClaimReceived a0 s) := by unfold execClaimReceived; (repeat' split) <;> first | rfl | simp only [anchored_next, State.notePartner_anchor, State.sendAck_anchor, State.takeMsgRow_anchor, State.yieldClaim_anchor]
theorem execRenewSend_anchor (s : State) : Anchored s (execRenewSend s) := by unfold execRenewSend; split <;> first | rfl | simp only [anchored_next, anchor_mk, ite_self, apply_ite State.anchor, State.bump_anchor, State.raise_anchor, State.sendBeat_anchor]
theorem execRenewReceived_anchor (a0 : Msg) (s : State) : Anchored s (execRenewReceived a0 s) := by unfold execRenewReceived; (repeat' split) <;> first | rfl | simp only [anchored_next, State.notePartner_anchor, State.takeMsgRow_anchor, State.takeRenew_anchor, State.yieldClaim_anchor]
theorem execAckReceived_anchor (a0 : Msg) (s : State) : Anchored s (execAckReceived a0 s) := by unfold execAckReceived; (repeat' split) <;> first | rfl | simp only [anchored_next, State.ackFlush_anchor, State.ackMirror_anchor, State.ackRenew_anchor, State.notePartner_anchor, State.takeMsgRow_anchor, State.unbindCheck_anchor]
theorem execLeaseLapse_anchor (s : State) : Anchored s (execLeaseLapse s) := by unfold execLeaseLapse; split <;> first | rfl | simp only [anchored_next, State.bump_anchor, State.goInert_anchor, State.leaveActive_anchor, State.raise_anchor, State.setPair_anchor]
theorem execTakeoverAttempt_anchor (a0 : List Nat) (s : State) : Anchored s (execTakeoverAttempt a0 s) := by unfold execTakeoverAttempt; (repeat' first | with_reducible rfl | split | extract_lets | simp only [anchored_next, anchor_mk, anchor_foldl, ite_self, implies_true, apply_ite State.anchor, forall_const, State.raise_anchor, State.sendPdreq_anchor, State.takeToken_anchor] | dsimp +zetaDelta only)
theorem execTakeReceived_anchor (a0 : Msg) (s : State) : Anchored s (execTakeReceived a0 s) := by unfold execTakeReceived; dsimp only; (repeat' split) <;> first | rfl | simp only [anchored_next, State.applyRmap_anchor, State.notePartner_anchor, State.raise_anchor, State.setReg_anchor, State.takeMsgRow_anchor]
theorem execRmapReceived_anchor (a0 : Msg) (s : State) : Anchored s (execRmapReceived a0 s) := by unfold execRmapReceived; (repeat' split) <;> first | rfl | simp only [anchored_next, ite_self, apply_ite State.anchor, State.applyRmap_anchor, State.raise_anchor, State.takeMsgRow_anchor]
theorem execHandoverStart_anchor (s : State) : Anchored s (execHandoverStart s) := by unfold execHandoverStart; (repeat' split) <;> first | rfl | simp only [anchored_next, anchor_mk, State.dropHandover_anchor, State.sendDelta_anchor]
theorem execHandoverReceived_anchor (a0 : Msg) (s : State) : Anchored s (execHandoverReceived a0 s) := by unfold execHandoverReceived; (repeat' first | with_reducible rfl | split | extract_lets | simp only [anchored_next, anchor_mk, State.takeMsgRow_anchor, State.takeToken_anchor] | dsimp +zetaDelta only)
theorem execMirrorDeltaSend_anchor (s : State) : Anchored s (execMirrorDeltaSend s) := by unfold execMirrorDeltaSend; dsimp only; (repeat' split) <;> first | rfl | simp only [anchored_next, State.sendDelta_anchor]
theorem execMirrorDeltaApply_anchor (a0 : MirrorDelta) (s : State) : Anchored s (execMirrorDeltaApply a0 s) := by unfold execMirrorDeltaApply; (repeat' split) <;> first | rfl | simp only [anchored_next, anchor_mk, anchor_foldl, implies_true, State.applyLive_anchor, State.takeMirr_anchor, State.watchMirror_anchor]
theorem execMirrorStale_anchor (s : State) : Anchored s (execMirrorStale s) := by unfold execMirrorStale; (repeat' split) <;> first | rfl | simp only [anchored_next, anchor_mk, State.raise_anchor, State.release_anchor]
theorem execPaiCntClr_anchor (a0 : Word) (s : State) : Anchored s (execPaiCntClr a0 s) := by unfold execPaiCntClr; split <;> first | rfl | simp only [anchored_next, State.clearCounters_anchor]
theorem execCalRun_anchor (a0 : Req) (s : State) : Anchored s (execCalRun a0 s) := by unfold execCalRun; refine runReq_anchor fun u => ?_; dsimp only; (repeat' split) <;> first | rfl | simp only [anchor_mk, anchor_foldl, ite_self, implies_true, apply_ite State.anchor, forall_const]
theorem execSpareHandover_anchor (s : State) : Anchored s (execSpareHandover s) := by unfold execSpareHandover; dsimp only; (repeat' split) <;> first | rfl | simp only [anchored_next, anchor_mk, anchor_foldl, ite_self, implies_true, apply_ite State.anchor, forall_const]
theorem execCalRunComplete_anchor (a0 : Int) (a1 : Int) (a2 : Int) (a3 : Int) (a4 : Int) (a5 : Int) (s : State) : Anchored s (execCalRunComplete a0 a1 a2 a3 a4 a5 s) := by unfold execCalRunComplete; dsimp only; (repeat' split) <;> first | rfl | simp only [anchored_next, anchor_mk, State.acceptRun_anchor, State.complete_anchor, State.raise_anchor]
theorem execCalTrimLoad_anchor (a0 : Req) (s : State) : Anchored s (execCalTrimLoad a0 s) := by unfold execCalTrimLoad; refine runReq_anchor fun u => ?_; dsimp only; (repeat' split) <;> first | rfl | simp only [State.calChange_anchor]
theorem execCalStatus_anchor (a0 : Req) (s : State) : Anchored s (execCalStatus a0 s) := runReq_anchor fun _ => rfl
theorem execIrefCodeUpdate_anchor (s : State) : Anchored s (execIrefCodeUpdate s) := by unfold execIrefCodeUpdate; split <;> first | rfl | simp only [anchored_next, State.applyCodes_anchor, State.sampleCodes_anchor]
theorem execRefInCompare_anchor (a0 : Int) (s : State) : Anchored s (execRefInCompare a0 s) := by unfold execRefInCompare; split <;> first | rfl | simp only [anchored_next, anchor_mk, ite_self, apply_ite State.anchor, State.raise_anchor]
theorem execRefSelWrite_anchor (a0 : Word) (s : State) : Anchored s (execRefSelWrite a0 s) := by unfold execRefSelWrite; split <;> first | rfl | simp only [anchored_next, ite_self, apply_ite State.anchor, State.raise_anchor, State.writeCalCfg_anchor]
theorem execIrefTargetWrite_anchor (a0 : Nat) (a1 : Word) (s : State) : Anchored s (execIrefTargetWrite a0 a1 s) := by unfold execIrefTargetWrite; split <;> first | rfl | simp only [anchored_next, State.calChange_anchor]
theorem execDutySend_anchor (s : State) : Anchored s (execDutySend s) := by unfold execDutySend; split <;> first | rfl | simp only [anchored_next, anchor_mk, State.credit_anchor, State.emit_anchor]
theorem execLabelSend_anchor (s : State) : Anchored s (execLabelSend s) := by unfold execLabelSend; split <;> first | rfl | simp only [anchored_next, anchor_mk, anchor_foldl, ite_self, implies_true, apply_ite State.anchor, forall_const, State.emit_anchor]
theorem execMailboxPoll_anchor (s : State) : Anchored s (execMailboxPoll s) := by unfold execMailboxPoll; (repeat' split) <;> first | rfl | simp only [anchored_next, anchor_mk, ite_self, apply_ite State.anchor, State.noteChanges_anchor, State.noteStale_anchor, State.raise_anchor]
theorem execMetRead_anchor (a0 : Req) (s : State) : Anchored s (execMetRead a0 s) := by unfold execMetRead; refine runReq_anchor fun u => ?_; dsimp only; (repeat' split) <;> first | rfl | simp only [anchor_mk, anchor_foldl, ite_self, implies_true, apply_ite State.anchor, forall_const]
theorem execMetLogRead_anchor (a0 : Req) (s : State) : Anchored s (execMetLogRead a0 s) := by unfold execMetLogRead; refine runReq_anchor fun u => ?_; dsimp only; (repeat' split) <;> first | rfl | simp only [anchor_mk, anchor_foldl, ite_self, implies_true, apply_ite State.anchor, forall_const, State.emit_anchor]
theorem execMetSealed_anchor (a0 : Req) (s : State) : Anchored s (execMetSealed a0 s) := by unfold execMetSealed; refine runReq_anchor fun u => ?_; (repeat' split) <;> first | rfl | simp only [anchor_mk, anchor_foldl, ite_self, implies_true, apply_ite State.anchor, forall_const, State.emit_anchor]
theorem execMetSealedComplete_anchor (s : State) : Anchored s (execMetSealedComplete s) := by unfold execMetSealedComplete; (repeat' split) <;> first | rfl | simp only [anchored_next, anchor_mk, State.complete_anchor]
theorem execMetRequestTimeout_anchor (s : State) : Anchored s (execMetRequestTimeout s) := by unfold execMetRequestTimeout; (repeat' split) <;> first | rfl | simp only [anchored_next, anchor_mk, State.complete_anchor]
theorem execMetIdent_anchor (a0 : Req) (s : State) : Anchored s (execMetIdent a0 s) := runReq_anchor fun _ => rfl
theorem execAttest_anchor (a0 : Req) (s : State) : Anchored s (execAttest a0 s) := runReq_anchor fun _ => rfl
theorem execCredProvision_anchor (a0 : Req) (s : State) : Anchored s (execCredProvision a0 s) := by unfold execCredProvision; refine runReq_anchor fun u => ?_; dsimp only; (repeat' split) <;> first | rfl | simp only [anchor_mk, anchor_foldl, ite_self, implies_true, apply_ite State.anchor, forall_const, State.clearGroup_anchor, State.clearReplay_anchor, State.commit_anchor, State.flashFail_anchor, State.raise_anchor]
theorem execCredRevoke_anchor (a0 : Req) (s : State) : Anchored s (execCredRevoke a0 s) := by unfold execCredRevoke; refine runReq_anchor fun u => ?_; dsimp only; (repeat' split) <;> first | rfl | simp only [anchor_mk, anchor_foldl, ite_self, implies_true, apply_ite State.anchor, forall_const, State.clearReplay_anchor, State.commit_anchor, State.flashFail_anchor, State.raise_anchor]
theorem execCredPerm_anchor (a0 : Req) (s : State) : Anchored s (execCredPerm a0 s) := by unfold execCredPerm; refine runReq_anchor fun u => ?_; dsimp only; (repeat' split) <;> first | rfl | simp only [anchor_mk, anchor_foldl, ite_self, implies_true, apply_ite State.anchor, forall_const, State.commit_anchor, State.flashFail_anchor, State.raise_anchor]
theorem execSessionKey_anchor (a0 : Req) (s : State) : Anchored s (execSessionKey a0 s) := by unfold execSessionKey; refine runReq_anchor fun u => ?_; dsimp only; (repeat' split) <;> first | rfl | simp only [anchor_mk, State.raise_anchor]
theorem execDebugOpen_anchor (a0 : Req) (s : State) : Anchored s (execDebugOpen a0 s) := by unfold execDebugOpen; refine runReq_anchor fun u => ?_; (repeat' split) <;> first | rfl | simp only [anchor_mk, anchor_foldl, ite_self, implies_true, apply_ite State.anchor, forall_const, State.raiseRefused_anchor]
theorem execImgBegin_anchor (a0 : Req) (s : State) : Anchored s (execImgBegin a0 s) := by unfold execImgBegin; refine runReq_anchor fun u => ?_; dsimp only; (repeat' split) <;> first | rfl | simp only [anchor_mk, anchor_foldl, ite_self, implies_true, apply_ite State.anchor, forall_const, State.putRecord_anchor, State.setImgSlot_anchor, State.spoil_anchor, State.wrongState_anchor]
theorem execSlotEraseComplete_anchor (a0 : Bool) (s : State) : Anchored s (execSlotEraseComplete a0 s) := by unfold execSlotEraseComplete; (repeat' split) <;> first | rfl | simp only [anchored_next, anchor_mk, anchor_foldl, ite_self, implies_true, apply_ite State.anchor, forall_const, State.flashEvent_anchor, State.putRecord_anchor, State.setImgSlot_anchor]
theorem execImgBlock_anchor (r : Req) (s : State) : Anchored s (execImgBlock r s) := by
  unfold execImgBlock
  split
  · rfl
  · refine runReq_anchor fun u => ?_
    extract_lets o d n
    split
    · exact State.wrongState_anchor u
    · rename_i p _
      extract_lets x us
      (repeat' split) <;> first | rfl | exact State.flashEvent_anchor _ _ _ | exact State.setImgSlot_anchor _ _ _
theorem execImgVerify_anchor (a0 : Req) (s : State) : Anchored s (execImgVerify a0 s) := by unfold execImgVerify; refine runReq_anchor fun u => ?_; (repeat' split) <;> first | rfl | simp only [anchor_mk, anchor_foldl, ite_self, implies_true, apply_ite State.anchor, forall_const, State.wrongState_anchor]
theorem execImgVerifyComplete_anchor (s : State) : Anchored s (execImgVerifyComplete s) := by unfold execImgVerifyComplete; (repeat' first | with_reducible rfl | split | extract_lets | simp only [anchored_next, State.verified_anchor] | dsimp +zetaDelta only)
theorem execImgAbort_anchor (a0 : Req) (s : State) : Anchored s (execImgAbort a0 s) := by unfold execImgAbort; refine runReq_anchor fun u => ?_; dsimp only; (repeat' split) <;> first | rfl | simp only [anchor_mk, anchor_foldl, ite_self, implies_true, apply_ite State.anchor, forall_const, State.closeUpdate_anchor, State.commit_anchor, State.dropVerified_anchor, State.flashFail_anchor, State.raise_anchor]
theorem execImgStatus_anchor (a0 : Req) (s : State) : Anchored s (execImgStatus a0 s) := runReq_anchor fun _ => rfl
theorem execPwrSet_anchor (a0 : Req) (s : State) : Anchored s (execPwrSet a0 s) := by unfold execPwrSet; refine runReq_anchor fun u => ?_; dsimp only; (repeat' split) <;> first | rfl | simp only [anchor_mk, State.raise_anchor]
theorem execSleepPropose_anchor (r : Req) (s : State) : Anchored s (execSleepPropose r s) := by
  unfold execSleepPropose
  refine runReqLater_anchor (fun u => ?_)
  have h1 := State.proposeTile_anchor u r
  have h2 := State.proposeLead_anchor u r
  split
  · generalize u.proposeTile r = p at h1
    obtain ⟨t, a⟩ := p; exact h1
  · exact h2
theorem execSleepCommit_anchor (r : Req) (s : State) : Anchored s (execSleepCommit r s) := by
  unfold execSleepCommit
  refine runReqLater_anchor (fun u => ?_)
  extract_lets c e x y
  have hw := State.wrongState_anchor u
  generalize u.wrongState = w at hw ⊢
  obtain ⟨w, a⟩ := w
  split
  · (repeat' split) <;> first | rfl | exact State.sleepTo_anchor _ _ _ | skip
    all_goals (rename_i hq; injection hq with e1 e2; subst e1; exact hw)
  · have h := State.sleepJob_anchor u 0x0E02 c 4 e (some r)
    generalize u.sleepJob 0x0E02 c 4 e (some r) = p at h ⊢
    obtain ⟨t, b⟩ := p
    split
    · rfl
    · split
      · rfl
      · split
        · exact hw
        · split
          · exact State.abortFree_anchor _ _
          · split
            · exact State.abortFree_anchor _ _
            · split
              · rename_i e; cases e; exact h
              · rename_i e; cases e
                split
                · exact (State.sleepTo_anchor _ _ _).trans h
                · exact (State.abortFree_anchor _ _).trans h
theorem execSleepResume_anchor (a0 : Req) (s : State) : Anchored s (execSleepResume a0 s) := by unfold execSleepResume; refine runReqLater_anchor fun u => ?_; dsimp only; (repeat' split) <;> first | rfl | simp only [State.resumeJob_anchor, State.sleepTo_anchor, State.startResume_anchor]
theorem execPwrStatus_anchor (a0 : Req) (s : State) : Anchored s (execPwrStatus a0 s) := runReq_anchor fun _ => rfl
theorem execTwilightEntry_anchor (s : State) : Anchored s (execTwilightEntry s) := by unfold execTwilightEntry; (repeat' first | with_reducible rfl | split | extract_lets | simp only [anchored_next, State.enterTwilight_anchor, State.raise_anchor, State.setSleep_anchor, State.sleepTo_anchor] | dsimp +zetaDelta only)
theorem execBeaconSend_anchor (s : State) : Anchored s (execBeaconSend s) := by unfold execBeaconSend; dsimp only; (repeat' split) <;> first | rfl | simp only [anchored_next, anchor_mk, anchor_foldl, ite_self, implies_true, apply_ite State.anchor, State.emit_anchor, State.wakeBeacon_anchor]
theorem execPlainBeaconReceived_anchor (a0 : Nat) (a1 : List Byte) (s : State) : Anchored s (execPlainBeaconReceived a0 a1 s) := by unfold execPlainBeaconReceived; split <;> first | rfl | simp only [anchored_next, anchor_mk, anchor_foldl, ite_self, implies_true, apply_ite State.anchor, forall_const, State.hearBeacon_anchor]
theorem execBeaconLoss_anchor (a0 : Nat) (s : State) : Anchored s (execBeaconLoss a0 s) := by unfold execBeaconLoss; split <;> first | rfl | simp only [anchored_next, State.wakeRequest_anchor]
theorem execWakeBeaconReceived_anchor (a0 : Nat) (a1 : List Byte) (s : State) : Anchored s (execWakeBeaconReceived a0 a1 s) := by unfold execWakeBeaconReceived; dsimp only; (repeat' split) <;> first | rfl | simp only [anchored_next, anchor_mk, State.pmeCauseAt_anchor, State.raiseA_anchor, State.raise_anchor, State.setSleep_anchor, State.startResume_anchor]
theorem execResumeDwellEnd_anchor (s : State) : Anchored s (execResumeDwellEnd s) := by unfold execResumeDwellEnd; dsimp only; (repeat' split) <;> first | rfl | simp only [anchored_next, State.resumeJob_anchor, State.setSleep_anchor, State.startResume_anchor]
theorem execResumeBeaconRepeat_anchor (s : State) : Anchored s (execResumeBeaconRepeat s) := by unfold execResumeBeaconRepeat; split <;> first | rfl | simp only [anchored_next, anchor_foldl, ite_self, implies_true, apply_ite State.anchor, State.emit_anchor, State.setSleep_anchor]
theorem execResumeBeaconReceived_anchor (a0 : Nat) (a1 : List Byte) (s : State) : Anchored s (execResumeBeaconReceived a0 a1 s) := by unfold execResumeBeaconReceived; (repeat' first | with_reducible rfl | split | extract_lets | simp only [anchored_next, State.emit_anchor, State.wakeTile_anchor] | dsimp +zetaDelta only)
theorem execTileResumeComplete_anchor (s : State) : Anchored s (execTileResumeComplete s) := by unfold execTileResumeComplete; (repeat' split) <;> first | rfl | simp only [anchored_next, anchor_mk, State.beginInit_anchor, State.raise_anchor, State.sleepTo_anchor]
theorem execEvtRead_anchor (a0 : Req) (s : State) : Anchored s (execEvtRead a0 s) := by unfold execEvtRead; refine runReq_anchor fun u => ?_; dsimp only; (repeat' split) <;> first | rfl | simp only [anchor_mk, anchor_foldl, ite_self, implies_true, apply_ite State.anchor, forall_const]
theorem execEvtClear_anchor (a0 : Req) (s : State) : Anchored s (execEvtClear a0 s) := by unfold execEvtClear; refine runReq_anchor fun u => ?_; dsimp only; (repeat' split) <;> first | rfl | simp only [anchor_mk, anchor_foldl, ite_self, implies_true, apply_ite State.anchor, forall_const, State.clearSources_anchor]
theorem execEvtConfig_anchor (a0 : Req) (s : State) : Anchored s (execEvtConfig a0 s) := by unfold execEvtConfig; refine runReq_anchor fun u => ?_; dsimp only; (repeat' split) <;> first | rfl | simp only [State.setReg_anchor, State.writeMasks_anchor]
theorem execFaultEpoch_anchor (a0 : Req) (s : State) : Anchored s (execFaultEpoch a0 s) := runReq_anchor fun _ => rfl
theorem execEvtSubscribe_anchor (a0 : Req) (s : State) : Anchored s (execEvtSubscribe a0 s) := runReq_anchor fun _ => rfl
theorem execPllLockRegained_anchor (a0 : Nat) (s : State) : Anchored s (execPllLockRegained a0 s) := by unfold execPllLockRegained; split <;> first | rfl | simp only [anchored_next, anchor_mk, ite_self, apply_ite State.anchor]
theorem execCoreRestartComplete_anchor (a0 : Nat) (s : State) : Anchored s (execCoreRestartComplete a0 s) := by unfold execCoreRestartComplete; dsimp only; (repeat' split) <;> first | rfl | simp only [anchored_next, anchor_mk, State.raiseA_anchor, State.setCore_anchor]
theorem execHandoverAckTimeout_anchor (s : State) : Anchored s (execHandoverAckTimeout s) := by unfold execHandoverAckTimeout; (repeat' split) <;> first | rfl | simp only [anchored_next, State.dropHandover_anchor]

end Sys2Proof.Machine
end

