-- ==== Sys2Proof/Laws/Bytes.lean ====
section
/-! SUPPORT. What byte strings and their fields give back: lengths, slices of joined strings, words. -/

namespace Sys2Proof.Machine

@[simp] theorem beBytes_length (n v : Nat) : (beBytes n v).length = n := by
  induction n with
  | zero => rfl
  | succ n ih => simp [beBytes, ih]

@[simp] theorem b1_length (v : Nat) : (b1 v).length = 1 := rfl
@[simp] theorem b2_length (v : Nat) : (b2 v).length = 2 := rfl
@[simp] theorem b4_length (v : Nat) : (b4 v).length = 4 := rfl
@[simp] theorem b8_length (v : Nat) : (b8 v).length = 8 := rfl
@[simp] theorem zeros_length (n : Nat) : (zeros n).length = n := by simp [zeros]

@[simp] theorem fit_length (n : Nat) (bs : List Byte) : (fit n bs).length = n := by simp [fit]

/-- Reading back a number written in `n` bytes. -/
theorem beNat_beBytes (n v : Nat) : beNat (beBytes n v) = v % 256 ^ n := by
  induction n with
  | zero => simp [beBytes, beNat, Nat.mod_one]
  | succ n ih =>
    have e : v % 256 ^ (n + 1) = v % 256 ^ n + 256 ^ n * (v / 256 ^ n % 256) := by rw [Nat.pow_succ, Nat.mod_mul]
    simp only [beBytes, beNat, beBytes_length, ih, BitVec.toNat_ofNat, e]
    rw [Nat.mul_comm, Nat.add_comm]

/-- A byte string of n bytes does not see what lies above them. -/
theorem beBytes_mod (n m v : Nat) (h : n ≤ m) : beBytes n (v % 256 ^ m) = beBytes n v := by
  induction n with
  | zero => rfl
  | succ n ih =>
    simp only [beBytes, ih (by omega)]
    congr 1
    apply BitVec.eq_of_toNat_eq
    simp only [BitVec.toNat_ofNat]
    obtain ⟨k, rfl⟩ : ∃ k, m = n + 1 + k := ⟨m - (n + 1), by omega⟩
    have e : 256 ^ (n + 1 + k) = 256 ^ n * (2 ^ 8 * 256 ^ k) := by rw [Nat.pow_add, Nat.pow_succ]; simp [Nat.mul_assoc]
    rw [e, Nat.mod_mul_right_div_self, Nat.mod_mul_right_mod]

/-- The bytes of a word made from a number. -/
@[simp] theorem b4_ofNat (v : Nat) : b4 (BitVec.ofNat 32 v).toNat = b4 v := by
  rw [BitVec.toNat_ofNat]; exact beBytes_mod 4 4 v (Nat.le_refl 4)

/-- A slice of a slice. -/
theorem slice_slice (bs : List Byte) (o n p m : Nat) (h : p + m ≤ n) : slice (slice bs o n) p m = slice bs (o + p) m := by
  simp only [slice, List.drop_take, List.take_take, List.drop_drop]
  congr 1
  omega

theorem fieldAt_slice (bs : List Byte) (o n p m : Nat) (h : p + m ≤ n) : fieldAt (slice bs o n) p m = fieldAt bs (o + p) m := by
  simp [fieldAt, slice_slice bs o n p m h]

theorem slice_length (bs : List Byte) (o n : Nat) (h : o + n ≤ bs.length) : (slice bs o n).length = n := by
  simp [slice]; omega

/-- The k-th word of a byte string. -/
theorem words32_get (bs : List Byte) (k : Nat) (h : 4 * k + 4 ≤ bs.length) : (words32 bs)[k]? = some (BitVec.ofNat 32 (u32 bs (4 * k))) := by
  induction k generalizing bs with
  | zero =>
    match bs, h with
    | a :: b :: c :: d :: t, _ => rfl
  | succ k ih =>
    match bs, h with
    | a :: b :: c :: d :: t, h =>
      have h' : 4 * k + 4 ≤ t.length := by simp at h; omega
      have := ih t h'
      simp only [words32, List.getElem?_cons_succ, this, u32, fieldAt, slice]
      rw [show 4 * (k + 1) = 4 * k + 4 by ring]
      simp

theorem words32_length (bs : List Byte) : (words32 bs).length = bs.length / 4 := by
  match bs with
  | [] => rfl
  | [_] => simp [words32]
  | [_, _] => simp [words32]
  | [_, _, _] => simp [words32]
  | a :: b :: c :: d :: t =>
    have := words32_length t
    simp only [words32, List.length_cons, this]
    omega
termination_by bs.length

end Sys2Proof.Machine
end

