-- ==== Sys2Proof/Laws/Bits.lean ====
section
/-! SUPPORT. Packed bit strings (R246, R247, R258): a field packed at an offset is read back from it; widths of numbers. -/

namespace Sys2Proof.Machine

/-! ### Bit strings -/

/-- The number in a run of the bytes of a number. -/
theorem beNat_range_beBytes (N X k m : Nat) (h : k + m ≤ N) :
    beNat ((List.range m).map (fun i => (beBytes N X).getD (k + i) 0)) = X / 256 ^ (N - k - m) % 256 ^ m := by
  have get : ∀ (N j : Nat), j < N → (beBytes N X).getD j 0 = BitVec.ofNat 8 (X / 256 ^ (N - 1 - j)) := by
    intro N
    induction N with
    | zero => intro j hj; omega
    | succ N ih =>
      intro j hj
      cases j with
      | zero => simp [beBytes]
      | succ j =>
        simp only [beBytes, List.getD_cons_succ]
        rw [ih j (by omega)]
        congr 3
        omega
  induction m generalizing k with
  | zero => simp [beNat, Nat.mod_one]
  | succ m ih =>
    rw [List.range_succ_eq_map]
    simp only [List.map_cons, List.map_map, beNat, List.length_map, List.length_range, Nat.add_zero]
    have e : (fun i => (beBytes N X).getD (k + i) 0) ∘ Nat.succ = fun i => (beBytes N X).getD (k + 1 + i) 0 := by
      funext i; simp only [Function.comp]; congr 1; omega
    rw [e, ih (k + 1) (by omega), get N k (by omega), BitVec.toNat_ofNat]
    have e1 : N - 1 - k = (N - k - (m + 1)) + m := by omega
    have e2 : N - (k + 1) - m = N - k - (m + 1) := by omega
    rw [e1, e2, Nat.pow_add, ← Nat.div_div_eq_div_mul]
    generalize X / 256 ^ (N - k - (m + 1)) = Y
    have := Nat.mod_mul (x := Y) (a := 256 ^ m) (b := 256)
    rw [pow_succ 256 m, this, show 2 ^ 8 = 256 from rfl]
    ring

/-- A field of a number laid out in N bytes, by its bit offset from the most significant bit. -/
theorem bitsAt_beBytes (N X o n : Nat) (h : o + n ≤ 8 * N) :
    bitsAt (fun j => (beBytes N X).getD j 0) o n = X / 2 ^ (8 * N - o - n) % 2 ^ n := by
  unfold bitsAt
  simp only
  have hk : o / 8 + ((o + n + 7) / 8 - o / 8) ≤ N := by omega
  rw [beNat_range_beBytes N X _ _ hk]
  generalize hm : (o + n + 7) / 8 - o / 8 = m
  rw [show (256 : Nat) = 2 ^ 8 from rfl, ← Nat.pow_mul, ← Nat.pow_mul]
  have hb : 8 * m = (8 * m - o % 8 - n) + (n + o % 8) := by omega
  rw [hb, Nat.pow_add, ← Nat.pow_add, ← hb]
  have split : ∀ Y : Nat, Y % 2 ^ (8 * m) / 2 ^ (8 * m - o % 8 - n) % 2 ^ n = Y / 2 ^ (8 * m - o % 8 - n) % 2 ^ n := by
    intro Y
    conv_lhs => rw [hb, Nat.pow_add, ← hb, Nat.mod_mul_right_div_self, Nat.pow_add, Nat.mod_mul_right_mod]
  rw [split, Nat.div_div_eq_div_mul, ← Nat.pow_add]
  congr 3
  omega

/-- The width of packed fields. -/
def packWidth (fs : List (Nat × Nat)) : Nat := (fs.map (·.1)).sum

theorem packBits_width (fs : List (Nat × Nat)) : (packBits fs).1 = packWidth fs := by
  induction fs with
  | nil => rfl
  | cons f fs ih => obtain ⟨w, v⟩ := f; simp only [packBits, packWidth, List.map_cons, List.sum_cons]; rw [ih]; rfl

theorem packBits_lt (fs : List (Nat × Nat)) : (packBits fs).2 < 2 ^ packWidth fs := by
  induction fs with
  | nil => simp [packBits, packWidth]
  | cons f fs ih =>
    obtain ⟨w, v⟩ := f
    simp only [packBits, packWidth, List.map_cons, List.sum_cons]
    rw [packBits_width]
    have h1 : v % 2 ^ w < 2 ^ w := Nat.mod_lt _ (Nat.two_pow_pos w)
    rw [Nat.pow_add]
    have : v % 2 ^ w * 2 ^ packWidth fs + (packBits fs).2 < (v % 2 ^ w + 1) * 2 ^ packWidth fs := by
      rw [Nat.add_mul]; omega
    exact lt_of_lt_of_le this (Nat.mul_le_mul_right _ h1)

theorem packBits_append (a b : List (Nat × Nat)) : (packBits (a ++ b)).2 = (packBits a).2 * 2 ^ packWidth b + (packBits b).2 := by
  induction a with
  | nil => simp [packBits]
  | cons f a ih =>
    obtain ⟨w, v⟩ := f
    simp only [List.cons_append, packBits]
    rw [ih, packBits_width, packBits_width]
    have : packWidth (a ++ b) = packWidth a + packWidth b := by simp [packWidth]
    rw [this, Nat.pow_add]
    ring

/-- A field packed in n bytes is read back at the width of the fields before it. -/
theorem bitsAt_packBytes (n : Nat) (pre post : List (Nat × Nat)) (w v : Nat) (hv : v < 2 ^ w)
    (h : packWidth pre + w + packWidth post ≤ 8 * n) :
    bitsAt (fun j => (packBytes n (pre ++ (w, v) :: post)).getD j 0) (packWidth pre) w = v := by
  have ep : packBytes n (pre ++ (w, v) :: post) =
      beBytes n ((packBits (pre ++ (w, v) :: post)).2 * 2 ^ (8 * n - (packBits (pre ++ (w, v) :: post)).1)) := rfl
  rw [ep, bitsAt_beBytes _ _ _ _ (by omega), packBits_width, packBits_append]
  have hw : packWidth (pre ++ (w, v) :: post) = packWidth pre + w + packWidth post := by simp [packWidth]; omega
  have hw2 : packWidth ((w, v) :: post) = w + packWidth post := by simp [packWidth]
  have hb : (packBits ((w, v) :: post)).2 = v * 2 ^ packWidth post + (packBits post).2 := by
    simp only [packBits]; rw [packBits_width, Nat.mod_eq_of_lt hv]
  rw [hw, hw2, hb]
  have he : 8 * n - packWidth pre - w = (8 * n - (packWidth pre + w + packWidth post)) + packWidth post := by omega
  rw [he, Nat.pow_add 2 (8 * n - (packWidth pre + w + packWidth post)), ← Nat.div_div_eq_div_mul, Nat.mul_div_cancel _ (Nat.two_pow_pos _)]
  have hp := packBits_lt post
  have e : (packBits pre).2 * 2 ^ (w + packWidth post) + (v * 2 ^ packWidth post + (packBits post).2) =
      (packBits post).2 + 2 ^ packWidth post * ((packBits pre).2 * 2 ^ w + v) := by rw [Nat.pow_add]; ring
  rw [e, Nat.add_mul_div_left _ _ (Nat.two_pow_pos _), Nat.div_eq_of_lt hp, Nat.zero_add, Nat.mul_comm _ (2 ^ w),
    Nat.mul_add_mod, Nat.mod_eq_of_lt hv]

/-! ### Widths (R249) -/

theorem lt_two_pow_bitLen (x : Nat) : x < 2 ^ bitLen x := by
  unfold bitLen
  split
  · subst_vars; simp
  · exact Nat.lt_log2_self

theorem bitLen_le {x n : Nat} (h : x < 2 ^ n) : bitLen x ≤ n := by
  unfold bitLen
  split
  · exact Nat.zero_le _
  · rename_i hx
    exact (Nat.log2_lt hx).mpr h

theorem bitLen_mono {x y : Nat} (h : x ≤ y) : bitLen x ≤ bitLen y := bitLen_le (lt_of_le_of_lt h (lt_two_pow_bitLen y))

theorem minOf_le {l : List Nat} {x : Nat} (h : x ∈ l) : minOf l ≤ x := by
  have aux : ∀ (l : List Nat) (a : Nat), l.foldl min a ≤ a ∧ ∀ x ∈ l, l.foldl min a ≤ x := by
    intro l
    induction l with
    | nil => intro a; simp
    | cons b l ih =>
      intro a
      obtain ⟨h1, h2⟩ := ih (min a b)
      refine ⟨le_trans h1 (min_le_left _ _), fun x hx => ?_⟩
      rcases List.mem_cons.mp hx with rfl | hx
      · exact le_trans h1 (min_le_right _ _)
      · exact h2 x hx
  exact (aux l _).2 x h

theorem le_maxOf {l : List Nat} {x : Nat} (h : x ∈ l) : x ≤ maxOf l := by
  have aux : ∀ (l : List Nat) (a : Nat), a ≤ l.foldl max a ∧ ∀ x ∈ l, x ≤ l.foldl max a := by
    intro l
    induction l with
    | nil => intro a; simp
    | cons b l ih =>
      intro a
      obtain ⟨h1, h2⟩ := ih (max a b)
      refine ⟨le_trans (le_max_left _ _) h1, fun x hx => ?_⟩
      rcases List.mem_cons.mp hx with rfl | hx
      · exact le_trans (le_max_right _ _) h1
      · exact h2 x hx
  exact (aux l 0).2 x h

theorem maxOf_lt {l : List Nat} {n : Nat} (hn : 0 < n) (h : ∀ x ∈ l, x < n) : maxOf l < n := by
  have aux : ∀ (l : List Nat) (a : Nat), a < n → (∀ x ∈ l, x < n) → l.foldl max a < n := by
    intro l
    induction l with
    | nil => intro a ha _; exact ha
    | cons b l ih => intro a ha hl; exact ih _ (max_lt ha (hl b (by simp))) fun x hx => hl x (by simp [hx])
  exact aux l 0 hn h

/-- The shift found fits where the last one would, and is no greater than any that fits (R249). -/
theorem sNeed_spec (w : Nat) (rs : List Nat) (f k j : Nat) (hj : k ≤ j) (hf : j ≤ k + f)
    (h : (rs.map (fun r => bitLen (r / 2 ^ j))).sum ≤ w) :
    sNeed w rs f k ≤ j ∧ (rs.map (fun r => bitLen (r / 2 ^ sNeed w rs f k))).sum ≤ w := by
  induction f generalizing k with
  | zero =>
    have : j = k := by omega
    subst this
    exact ⟨le_rfl, h⟩
  | succ f ih =>
    unfold sNeed
    split
    · exact ⟨hj, ‹_›⟩
    · rename_i hn
      have : j ≠ k := fun e => hn (e ▸ h)
      exact ih (k + 1) (by omega) (by omega)

end Sys2Proof.Machine
end

