-- ==== Sys2Proof/Laws/Map.lean ====
section
/-! SUPPORT. The laws of finite maps: what is found after a change, and that changes keep the keys rising. -/

namespace Sys2Proof

variable {α : Type}

@[simp] theorem Map.find_nil (a : Nat) : Map.find ([] : Map α) a = none := rfl

theorem Map.find_put_same (m : Map α) (a : Nat) (x : α) : Map.find (Map.put m a x) a = some x := by
  induction m with
  | nil => simp [Map.put, Map.find]
  | cons e m ih =>
    obtain ⟨k, v⟩ := e
    simp only [Map.put]
    split
    · simp [Map.find]
    · split
      · simp [Map.find]
      · simp [Map.find, *]

theorem Map.find_put_other (m : Map α) {a b : Nat} (h : b ≠ a) (x : α) : Map.find (Map.put m a x) b = Map.find m b := by
  induction m with
  | nil => simp [Map.put, Map.find, h]
  | cons e m ih =>
    obtain ⟨k, v⟩ := e
    simp only [Map.put]
    split
    · simp [Map.find, h]
    · split
      · rename_i h1
        simp [Map.find, h, ← h1]
      · simp [Map.find, ih]

theorem Map.find_del_same (m : Map α) (a : Nat) : Map.find (Map.del m a) a = none := by
  induction m with
  | nil => rfl
  | cons e m ih =>
    obtain ⟨k, v⟩ := e
    simp only [Map.del]
    split
    · exact ih
    · simp [Map.find, *]

theorem Map.find_del_other (m : Map α) {a b : Nat} (h : b ≠ a) : Map.find (Map.del m a) b = Map.find m b := by
  induction m with
  | nil => rfl
  | cons e m ih =>
    obtain ⟨k, v⟩ := e
    simp only [Map.del]
    split
    · rename_i h1
      simp [Map.find, ih, ← h1, h]
    · simp [Map.find, ih]

/-- A map in which an unlisted key reads as `d` holds the value stored. -/
theorem Map.getD_store_same [DecidableEq α] (d : Nat → α) (m : Map α) (a : Nat) (x : α) :
    (Map.find (Map.store d m a x) a).getD (d a) = x := by
  unfold Map.store
  split
  · simp [Map.find_del_same, *]
  · simp [Map.find_put_same]

/-- Storing leaves what every other key reads as. -/
theorem Map.find_store_other [DecidableEq α] (d : Nat → α) (m : Map α) {a b : Nat} (h : b ≠ a) (x : α) :
    Map.find (Map.store d m a x) b = Map.find m b := by
  unfold Map.store
  split
  · exact Map.find_del_other m h
  · exact Map.find_put_other m h x

@[simp] theorem Map.at_put_same (m : Map α) (d : α) (a : Nat) (x : α) : Map.at (Map.put m a x) d a = x := by
  simp [Map.at, Map.find_put_same]

theorem Map.at_put_other (m : Map α) (d : α) {a b : Nat} (h : b ≠ a) (x : α) : Map.at (Map.put m a x) d b = Map.at m d b := by
  simp [Map.at, Map.find_put_other m h]

/-! ### Canonical form -/

theorem Map.risingFrom_mono {m : Map α} {b c : Nat} (h : c ≤ b) (r : Map.risingFrom b m = true) : Map.risingFrom c m = true := by
  cases m with
  | nil => rfl
  | cons e m =>
    obtain ⟨k, v⟩ := e
    simp only [Map.risingFrom, Bool.and_eq_true, decide_eq_true_eq] at *
    exact ⟨Nat.le_trans h r.1, r.2⟩

theorem Map.risingFrom_put {m : Map α} {b a : Nat} (x : α) (h : b ≤ a) (r : Map.risingFrom b m = true) :
    Map.risingFrom b (Map.put m a x) = true := by
  induction m generalizing b with
  | nil => simp [Map.put, Map.risingFrom, h]
  | cons e m ih =>
    obtain ⟨k, v⟩ := e
    simp only [Map.risingFrom, Bool.and_eq_true, decide_eq_true_eq] at r
    simp only [Map.put]
    split
    · rename_i lt
      simp only [Map.risingFrom, Bool.and_eq_true, decide_eq_true_eq]
      exact ⟨h, lt, r.2⟩
    · split
      · rename_i eq
        simp only [Map.risingFrom, Bool.and_eq_true, decide_eq_true_eq]
        exact ⟨h, eq ▸ r.2⟩
      · simp only [Map.risingFrom, Bool.and_eq_true, decide_eq_true_eq]
        exact ⟨r.1, ih (by omega) r.2⟩

theorem Map.risingFrom_del {m : Map α} {b : Nat} (a : Nat) (r : Map.risingFrom b m = true) : Map.risingFrom b (Map.del m a) = true := by
  induction m generalizing b with
  | nil => rfl
  | cons e m ih =>
    obtain ⟨k, v⟩ := e
    simp only [Map.risingFrom, Bool.and_eq_true, decide_eq_true_eq] at r
    simp only [Map.del]
    split
    · exact ih (Map.risingFrom_mono (by omega) r.2)
    · simp only [Map.risingFrom, Bool.and_eq_true, decide_eq_true_eq]
      exact ⟨r.1, ih r.2⟩

/-- Storing keeps the keys rising. -/
theorem Map.rising_store [DecidableEq α] (d : Nat → α) {m : Map α} (a : Nat) (x : α) (r : Map.rising m = true) :
    Map.rising (Map.store d m a x) = true := by
  unfold Map.rising Map.store at *
  split
  · exact Map.risingFrom_del a r
  · exact Map.risingFrom_put x (Nat.zero_le a) r

theorem Map.all_put {m : Map α} (p : Nat × α → Bool) (a : Nat) (x : α) (h : m.all p = true) (hx : p (a, x) = true) :
    (Map.put m a x).all p = true := by
  induction m with
  | nil => simp [Map.put, hx]
  | cons e m ih =>
    obtain ⟨k, v⟩ := e
    simp only [List.all_cons, Bool.and_eq_true] at h
    simp only [Map.put]
    split
    · simp [hx, h.1, h.2]
    · split
      · simp [hx, h.2]
      · simp [h.1, ih h.2]

theorem Map.all_del {m : Map α} (p : Nat × α → Bool) (a : Nat) (h : m.all p = true) : (Map.del m a).all p = true := by
  induction m with
  | nil => rfl
  | cons e m ih =>
    obtain ⟨k, v⟩ := e
    simp only [List.all_cons, Bool.and_eq_true] at h
    simp only [Map.del]
    split
    · exact ih h.2
    · simp [h.1, ih h.2]

/-- Storing keeps the canonical form: no entry equal to what an unlisted key reads as. -/
theorem Map.all_store [DecidableEq α] (d : Nat → α) {m : Map α} (a : Nat) (x : α) (h : (m.all (fun e => e.2 != d e.1)) = true) :
    (Map.store d m a x).all (fun e => e.2 != d e.1) = true := by
  unfold Map.store
  split
  · exact Map.all_del _ a h
  · exact Map.all_put _ a x h (by simpa using ‹_›)

end Sys2Proof
end

