-- ==== Sys2Proof/Laws/State.lean ====
section
/-! SUPPORT. What each named update of the state leaves as it is: one lemma per field, true by unfolding. -/

namespace Sys2Proof.Machine

variable (s : State)

/-! setReg -/
@[simp] theorem State.setReg_pending (a : Nat) (w : Word) : (s.setReg a w).pending = s.pending := rfl
@[simp] theorem State.setReg_armed (a : Nat) (w : Word) : (s.setReg a w).armed = s.armed := rfl
@[simp] theorem State.setReg_pwr (a : Nat) (w : Word) : (s.setReg a w).pwr = s.pwr := rfl
@[simp] theorem State.setReg_evt (a : Nat) (w : Word) : (s.setReg a w).evt = s.evt := rfl
@[simp] theorem State.setReg_cmd (a : Nat) (w : Word) : (s.setReg a w).cmd = s.cmd := rfl
@[simp] theorem State.setReg_ks (a : Nat) (w : Word) : (s.setReg a w).ks = s.ks := rfl
@[simp] theorem State.setReg_otp (a : Nat) (w : Word) : (s.setReg a w).otp = s.otp := rfl
@[simp] theorem State.setReg_flash (a : Nat) (w : Word) : (s.setReg a w).flash = s.flash := rfl
@[simp] theorem State.setReg_sec (a : Nat) (w : Word) : (s.setReg a w).sec = s.sec := rfl
@[simp] theorem State.setReg_key (a : Nat) (w : Word) : (s.setReg a w).key = s.key := rfl
@[simp] theorem State.setReg_net (a : Nat) (w : Word) : (s.setReg a w).net = s.net := rfl
@[simp] theorem State.setReg_tmu (a : Nat) (w : Word) : (s.setReg a w).tmu = s.tmu := rfl
@[simp] theorem State.setReg_lch (a : Nat) (w : Word) : (s.setReg a w).lch = s.lch := rfl
@[simp] theorem State.setReg_mem (a : Nat) (w : Word) : (s.setReg a w).mem = s.mem := rfl
@[simp] theorem State.setReg_pix (a : Nat) (w : Word) : (s.setReg a w).pix = s.pix := rfl
@[simp] theorem State.setReg_lpp (a : Nat) (w : Word) : (s.setReg a w).lpp = s.lpp := rfl
@[simp] theorem State.setReg_ems (a : Nat) (w : Word) : (s.setReg a w).ems = s.ems := rfl
@[simp] theorem State.setReg_cal (a : Nat) (w : Word) : (s.setReg a w).cal = s.cal := rfl
@[simp] theorem State.setReg_pai (a : Nat) (w : Word) : (s.setReg a w).pai = s.pai := rfl
@[simp] theorem State.setReg_met (a : Nat) (w : Word) : (s.setReg a w).met = s.met := rfl
@[simp] theorem State.setReg_metm (a : Nat) (w : Word) : (s.setReg a w).metm = s.metm := rfl
@[simp] theorem State.setReg_free (a : Nat) (w : Word) : (s.setReg a w).free = s.free := rfl
@[simp] theorem State.setReg_out (a : Nat) (w : Word) : (s.setReg a w).out = s.out := rfl

/-! setFld -/
@[simp] theorem State.setFld_pending (a hi lo v : Nat) : (s.setFld a hi lo v).pending = s.pending := rfl
@[simp] theorem State.setFld_armed (a hi lo v : Nat) : (s.setFld a hi lo v).armed = s.armed := rfl
@[simp] theorem State.setFld_pwr (a hi lo v : Nat) : (s.setFld a hi lo v).pwr = s.pwr := rfl
@[simp] theorem State.setFld_evt (a hi lo v : Nat) : (s.setFld a hi lo v).evt = s.evt := rfl
@[simp] theorem State.setFld_cmd (a hi lo v : Nat) : (s.setFld a hi lo v).cmd = s.cmd := rfl
@[simp] theorem State.setFld_ks (a hi lo v : Nat) : (s.setFld a hi lo v).ks = s.ks := rfl
@[simp] theorem State.setFld_otp (a hi lo v : Nat) : (s.setFld a hi lo v).otp = s.otp := rfl
@[simp] theorem State.setFld_flash (a hi lo v : Nat) : (s.setFld a hi lo v).flash = s.flash := rfl
@[simp] theorem State.setFld_sec (a hi lo v : Nat) : (s.setFld a hi lo v).sec = s.sec := rfl
@[simp] theorem State.setFld_key (a hi lo v : Nat) : (s.setFld a hi lo v).key = s.key := rfl
@[simp] theorem State.setFld_net (a hi lo v : Nat) : (s.setFld a hi lo v).net = s.net := rfl
@[simp] theorem State.setFld_tmu (a hi lo v : Nat) : (s.setFld a hi lo v).tmu = s.tmu := rfl
@[simp] theorem State.setFld_lch (a hi lo v : Nat) : (s.setFld a hi lo v).lch = s.lch := rfl
@[simp] theorem State.setFld_mem (a hi lo v : Nat) : (s.setFld a hi lo v).mem = s.mem := rfl
@[simp] theorem State.setFld_pix (a hi lo v : Nat) : (s.setFld a hi lo v).pix = s.pix := rfl
@[simp] theorem State.setFld_lpp (a hi lo v : Nat) : (s.setFld a hi lo v).lpp = s.lpp := rfl
@[simp] theorem State.setFld_ems (a hi lo v : Nat) : (s.setFld a hi lo v).ems = s.ems := rfl
@[simp] theorem State.setFld_cal (a hi lo v : Nat) : (s.setFld a hi lo v).cal = s.cal := rfl
@[simp] theorem State.setFld_pai (a hi lo v : Nat) : (s.setFld a hi lo v).pai = s.pai := rfl
@[simp] theorem State.setFld_met (a hi lo v : Nat) : (s.setFld a hi lo v).met = s.met := rfl
@[simp] theorem State.setFld_metm (a hi lo v : Nat) : (s.setFld a hi lo v).metm = s.metm := rfl
@[simp] theorem State.setFld_free (a hi lo v : Nat) : (s.setFld a hi lo v).free = s.free := rfl
@[simp] theorem State.setFld_out (a hi lo v : Nat) : (s.setFld a hi lo v).out = s.out := rfl

/-! bump -/
@[simp] theorem State.bump_pending (a : Nat) : (s.bump a).pending = s.pending := rfl
@[simp] theorem State.bump_armed (a : Nat) : (s.bump a).armed = s.armed := rfl
@[simp] theorem State.bump_pwr (a : Nat) : (s.bump a).pwr = s.pwr := rfl
@[simp] theorem State.bump_evt (a : Nat) : (s.bump a).evt = s.evt := rfl
@[simp] theorem State.bump_cmd (a : Nat) : (s.bump a).cmd = s.cmd := rfl
@[simp] theorem State.bump_ks (a : Nat) : (s.bump a).ks = s.ks := rfl
@[simp] theorem State.bump_otp (a : Nat) : (s.bump a).otp = s.otp := rfl
@[simp] theorem State.bump_flash (a : Nat) : (s.bump a).flash = s.flash := rfl
@[simp] theorem State.bump_sec (a : Nat) : (s.bump a).sec = s.sec := rfl
@[simp] theorem State.bump_key (a : Nat) : (s.bump a).key = s.key := rfl
@[simp] theorem State.bump_net (a : Nat) : (s.bump a).net = s.net := rfl
@[simp] theorem State.bump_tmu (a : Nat) : (s.bump a).tmu = s.tmu := rfl
@[simp] theorem State.bump_lch (a : Nat) : (s.bump a).lch = s.lch := rfl
@[simp] theorem State.bump_mem (a : Nat) : (s.bump a).mem = s.mem := rfl
@[simp] theorem State.bump_pix (a : Nat) : (s.bump a).pix = s.pix := rfl
@[simp] theorem State.bump_lpp (a : Nat) : (s.bump a).lpp = s.lpp := rfl
@[simp] theorem State.bump_ems (a : Nat) : (s.bump a).ems = s.ems := rfl
@[simp] theorem State.bump_cal (a : Nat) : (s.bump a).cal = s.cal := rfl
@[simp] theorem State.bump_pai (a : Nat) : (s.bump a).pai = s.pai := rfl
@[simp] theorem State.bump_met (a : Nat) : (s.bump a).met = s.met := rfl
@[simp] theorem State.bump_metm (a : Nat) : (s.bump a).metm = s.metm := rfl
@[simp] theorem State.bump_free (a : Nat) : (s.bump a).free = s.free := rfl
@[simp] theorem State.bump_out (a : Nat) : (s.bump a).out = s.out := rfl

/-! bumpBy -/
@[simp] theorem State.bumpBy_pending (a n : Nat) : (s.bumpBy a n).pending = s.pending := rfl
@[simp] theorem State.bumpBy_armed (a n : Nat) : (s.bumpBy a n).armed = s.armed := rfl
@[simp] theorem State.bumpBy_pwr (a n : Nat) : (s.bumpBy a n).pwr = s.pwr := rfl
@[simp] theorem State.bumpBy_evt (a n : Nat) : (s.bumpBy a n).evt = s.evt := rfl
@[simp] theorem State.bumpBy_cmd (a n : Nat) : (s.bumpBy a n).cmd = s.cmd := rfl
@[simp] theorem State.bumpBy_ks (a n : Nat) : (s.bumpBy a n).ks = s.ks := rfl
@[simp] theorem State.bumpBy_otp (a n : Nat) : (s.bumpBy a n).otp = s.otp := rfl
@[simp] theorem State.bumpBy_flash (a n : Nat) : (s.bumpBy a n).flash = s.flash := rfl
@[simp] theorem State.bumpBy_sec (a n : Nat) : (s.bumpBy a n).sec = s.sec := rfl
@[simp] theorem State.bumpBy_key (a n : Nat) : (s.bumpBy a n).key = s.key := rfl
@[simp] theorem State.bumpBy_net (a n : Nat) : (s.bumpBy a n).net = s.net := rfl
@[simp] theorem State.bumpBy_tmu (a n : Nat) : (s.bumpBy a n).tmu = s.tmu := rfl
@[simp] theorem State.bumpBy_lch (a n : Nat) : (s.bumpBy a n).lch = s.lch := rfl
@[simp] theorem State.bumpBy_mem (a n : Nat) : (s.bumpBy a n).mem = s.mem := rfl
@[simp] theorem State.bumpBy_pix (a n : Nat) : (s.bumpBy a n).pix = s.pix := rfl
@[simp] theorem State.bumpBy_lpp (a n : Nat) : (s.bumpBy a n).lpp = s.lpp := rfl
@[simp] theorem State.bumpBy_ems (a n : Nat) : (s.bumpBy a n).ems = s.ems := rfl
@[simp] theorem State.bumpBy_cal (a n : Nat) : (s.bumpBy a n).cal = s.cal := rfl
@[simp] theorem State.bumpBy_pai (a n : Nat) : (s.bumpBy a n).pai = s.pai := rfl
@[simp] theorem State.bumpBy_met (a n : Nat) : (s.bumpBy a n).met = s.met := rfl
@[simp] theorem State.bumpBy_metm (a n : Nat) : (s.bumpBy a n).metm = s.metm := rfl
@[simp] theorem State.bumpBy_free (a n : Nat) : (s.bumpBy a n).free = s.free := rfl
@[simp] theorem State.bumpBy_out (a n : Nat) : (s.bumpBy a n).out = s.out := rfl

/-! emit -/
@[simp] theorem State.emit_pending (o : Out) : (s.emit o).pending = s.pending := rfl
@[simp] theorem State.emit_regs (o : Out) : (s.emit o).regs = s.regs := rfl
@[simp] theorem State.emit_armed (o : Out) : (s.emit o).armed = s.armed := rfl
@[simp] theorem State.emit_pwr (o : Out) : (s.emit o).pwr = s.pwr := rfl
@[simp] theorem State.emit_evt (o : Out) : (s.emit o).evt = s.evt := rfl
@[simp] theorem State.emit_cmd (o : Out) : (s.emit o).cmd = s.cmd := rfl
@[simp] theorem State.emit_ks (o : Out) : (s.emit o).ks = s.ks := rfl
@[simp] theorem State.emit_otp (o : Out) : (s.emit o).otp = s.otp := rfl
@[simp] theorem State.emit_flash (o : Out) : (s.emit o).flash = s.flash := rfl
@[simp] theorem State.emit_sec (o : Out) : (s.emit o).sec = s.sec := rfl
@[simp] theorem State.emit_key (o : Out) : (s.emit o).key = s.key := rfl
@[simp] theorem State.emit_net (o : Out) : (s.emit o).net = s.net := rfl
@[simp] theorem State.emit_tmu (o : Out) : (s.emit o).tmu = s.tmu := rfl
@[simp] theorem State.emit_lch (o : Out) : (s.emit o).lch = s.lch := rfl
@[simp] theorem State.emit_mem (o : Out) : (s.emit o).mem = s.mem := rfl
@[simp] theorem State.emit_pix (o : Out) : (s.emit o).pix = s.pix := rfl
@[simp] theorem State.emit_lpp (o : Out) : (s.emit o).lpp = s.lpp := rfl
@[simp] theorem State.emit_ems (o : Out) : (s.emit o).ems = s.ems := rfl
@[simp] theorem State.emit_cal (o : Out) : (s.emit o).cal = s.cal := rfl
@[simp] theorem State.emit_pai (o : Out) : (s.emit o).pai = s.pai := rfl
@[simp] theorem State.emit_met (o : Out) : (s.emit o).met = s.met := rfl
@[simp] theorem State.emit_metm (o : Out) : (s.emit o).metm = s.metm := rfl
@[simp] theorem State.emit_free (o : Out) : (s.emit o).free = s.free := rfl

/-! emits -/
@[simp] theorem State.emits_pending (os : List Out) : (s.emits os).pending = s.pending := rfl
@[simp] theorem State.emits_regs (os : List Out) : (s.emits os).regs = s.regs := rfl
@[simp] theorem State.emits_armed (os : List Out) : (s.emits os).armed = s.armed := rfl
@[simp] theorem State.emits_pwr (os : List Out) : (s.emits os).pwr = s.pwr := rfl
@[simp] theorem State.emits_evt (os : List Out) : (s.emits os).evt = s.evt := rfl
@[simp] theorem State.emits_cmd (os : List Out) : (s.emits os).cmd = s.cmd := rfl
@[simp] theorem State.emits_ks (os : List Out) : (s.emits os).ks = s.ks := rfl
@[simp] theorem State.emits_otp (os : List Out) : (s.emits os).otp = s.otp := rfl
@[simp] theorem State.emits_flash (os : List Out) : (s.emits os).flash = s.flash := rfl
@[simp] theorem State.emits_sec (os : List Out) : (s.emits os).sec = s.sec := rfl
@[simp] theorem State.emits_key (os : List Out) : (s.emits os).key = s.key := rfl
@[simp] theorem State.emits_net (os : List Out) : (s.emits os).net = s.net := rfl
@[simp] theorem State.emits_tmu (os : List Out) : (s.emits os).tmu = s.tmu := rfl
@[simp] theorem State.emits_lch (os : List Out) : (s.emits os).lch = s.lch := rfl
@[simp] theorem State.emits_mem (os : List Out) : (s.emits os).mem = s.mem := rfl
@[simp] theorem State.emits_pix (os : List Out) : (s.emits os).pix = s.pix := rfl
@[simp] theorem State.emits_lpp (os : List Out) : (s.emits os).lpp = s.lpp := rfl
@[simp] theorem State.emits_ems (os : List Out) : (s.emits os).ems = s.ems := rfl
@[simp] theorem State.emits_cal (os : List Out) : (s.emits os).cal = s.cal := rfl
@[simp] theorem State.emits_pai (os : List Out) : (s.emits os).pai = s.pai := rfl
@[simp] theorem State.emits_met (os : List Out) : (s.emits os).met = s.met := rfl
@[simp] theorem State.emits_metm (os : List Out) : (s.emits os).metm = s.metm := rfl
@[simp] theorem State.emits_free (os : List Out) : (s.emits os).free = s.free := rfl

/-! freeNext -/
@[simp] theorem State.freeNext_pending : (s.freeNext).pending = s.pending := rfl
@[simp] theorem State.freeNext_regs : (s.freeNext).regs = s.regs := rfl
@[simp] theorem State.freeNext_armed : (s.freeNext).armed = s.armed := rfl
@[simp] theorem State.freeNext_pwr : (s.freeNext).pwr = s.pwr := rfl
@[simp] theorem State.freeNext_evt : (s.freeNext).evt = s.evt := rfl
@[simp] theorem State.freeNext_cmd : (s.freeNext).cmd = s.cmd := rfl
@[simp] theorem State.freeNext_ks : (s.freeNext).ks = s.ks := rfl
@[simp] theorem State.freeNext_otp : (s.freeNext).otp = s.otp := rfl
@[simp] theorem State.freeNext_flash : (s.freeNext).flash = s.flash := rfl
@[simp] theorem State.freeNext_sec : (s.freeNext).sec = s.sec := rfl
@[simp] theorem State.freeNext_key : (s.freeNext).key = s.key := rfl
@[simp] theorem State.freeNext_net : (s.freeNext).net = s.net := rfl
@[simp] theorem State.freeNext_tmu : (s.freeNext).tmu = s.tmu := rfl
@[simp] theorem State.freeNext_lch : (s.freeNext).lch = s.lch := rfl
@[simp] theorem State.freeNext_mem : (s.freeNext).mem = s.mem := rfl
@[simp] theorem State.freeNext_pix : (s.freeNext).pix = s.pix := rfl
@[simp] theorem State.freeNext_lpp : (s.freeNext).lpp = s.lpp := rfl
@[simp] theorem State.freeNext_ems : (s.freeNext).ems = s.ems := rfl
@[simp] theorem State.freeNext_cal : (s.freeNext).cal = s.cal := rfl
@[simp] theorem State.freeNext_pai : (s.freeNext).pai = s.pai := rfl
@[simp] theorem State.freeNext_met : (s.freeNext).met = s.met := rfl
@[simp] theorem State.freeNext_metm : (s.freeNext).metm = s.metm := rfl
@[simp] theorem State.freeNext_out : (s.freeNext).out = s.out := rfl

/-! setPort -/
@[simp] theorem State.setPort_pending (p : Nat) (x : PortS) : (s.setPort p x).pending = s.pending := rfl
@[simp] theorem State.setPort_regs (p : Nat) (x : PortS) : (s.setPort p x).regs = s.regs := rfl
@[simp] theorem State.setPort_armed (p : Nat) (x : PortS) : (s.setPort p x).armed = s.armed := rfl
@[simp] theorem State.setPort_pwr (p : Nat) (x : PortS) : (s.setPort p x).pwr = s.pwr := rfl
@[simp] theorem State.setPort_evt (p : Nat) (x : PortS) : (s.setPort p x).evt = s.evt := rfl
@[simp] theorem State.setPort_cmd (p : Nat) (x : PortS) : (s.setPort p x).cmd = s.cmd := rfl
@[simp] theorem State.setPort_ks (p : Nat) (x : PortS) : (s.setPort p x).ks = s.ks := rfl
@[simp] theorem State.setPort_otp (p : Nat) (x : PortS) : (s.setPort p x).otp = s.otp := rfl
@[simp] theorem State.setPort_flash (p : Nat) (x : PortS) : (s.setPort p x).flash = s.flash := rfl
@[simp] theorem State.setPort_sec (p : Nat) (x : PortS) : (s.setPort p x).sec = s.sec := rfl
@[simp] theorem State.setPort_key (p : Nat) (x : PortS) : (s.setPort p x).key = s.key := rfl
@[simp] theorem State.setPort_tmu (p : Nat) (x : PortS) : (s.setPort p x).tmu = s.tmu := rfl
@[simp] theorem State.setPort_lch (p : Nat) (x : PortS) : (s.setPort p x).lch = s.lch := rfl
@[simp] theorem State.setPort_mem (p : Nat) (x : PortS) : (s.setPort p x).mem = s.mem := rfl
@[simp] theorem State.setPort_pix (p : Nat) (x : PortS) : (s.setPort p x).pix = s.pix := rfl
@[simp] theorem State.setPort_lpp (p : Nat) (x : PortS) : (s.setPort p x).lpp = s.lpp := rfl
@[simp] theorem State.setPort_ems (p : Nat) (x : PortS) : (s.setPort p x).ems = s.ems := rfl
@[simp] theorem State.setPort_cal (p : Nat) (x : PortS) : (s.setPort p x).cal = s.cal := rfl
@[simp] theorem State.setPort_pai (p : Nat) (x : PortS) : (s.setPort p x).pai = s.pai := rfl
@[simp] theorem State.setPort_met (p : Nat) (x : PortS) : (s.setPort p x).met = s.met := rfl
@[simp] theorem State.setPort_metm (p : Nat) (x : PortS) : (s.setPort p x).metm = s.metm := rfl
@[simp] theorem State.setPort_free (p : Nat) (x : PortS) : (s.setPort p x).free = s.free := rfl
@[simp] theorem State.setPort_out (p : Nat) (x : PortS) : (s.setPort p x).out = s.out := rfl

/-! setPortState -/
@[simp] theorem State.setPortState_pending (p : Nat) (x : PortState) : (s.setPortState p x).pending = s.pending := rfl
@[simp] theorem State.setPortState_regs (p : Nat) (x : PortState) : (s.setPortState p x).regs = s.regs := rfl
@[simp] theorem State.setPortState_armed (p : Nat) (x : PortState) : (s.setPortState p x).armed = s.armed := rfl
@[simp] theorem State.setPortState_pwr (p : Nat) (x : PortState) : (s.setPortState p x).pwr = s.pwr := rfl
@[simp] theorem State.setPortState_evt (p : Nat) (x : PortState) : (s.setPortState p x).evt = s.evt := rfl
@[simp] theorem State.setPortState_cmd (p : Nat) (x : PortState) : (s.setPortState p x).cmd = s.cmd := rfl
@[simp] theorem State.setPortState_ks (p : Nat) (x : PortState) : (s.setPortState p x).ks = s.ks := rfl
@[simp] theorem State.setPortState_otp (p : Nat) (x : PortState) : (s.setPortState p x).otp = s.otp := rfl
@[simp] theorem State.setPortState_flash (p : Nat) (x : PortState) : (s.setPortState p x).flash = s.flash := rfl
@[simp] theorem State.setPortState_sec (p : Nat) (x : PortState) : (s.setPortState p x).sec = s.sec := rfl
@[simp] theorem State.setPortState_key (p : Nat) (x : PortState) : (s.setPortState p x).key = s.key := rfl
@[simp] theorem State.setPortState_tmu (p : Nat) (x : PortState) : (s.setPortState p x).tmu = s.tmu := rfl
@[simp] theorem State.setPortState_lch (p : Nat) (x : PortState) : (s.setPortState p x).lch = s.lch := rfl
@[simp] theorem State.setPortState_mem (p : Nat) (x : PortState) : (s.setPortState p x).mem = s.mem := rfl
@[simp] theorem State.setPortState_pix (p : Nat) (x : PortState) : (s.setPortState p x).pix = s.pix := rfl
@[simp] theorem State.setPortState_lpp (p : Nat) (x : PortState) : (s.setPortState p x).lpp = s.lpp := rfl
@[simp] theorem State.setPortState_ems (p : Nat) (x : PortState) : (s.setPortState p x).ems = s.ems := rfl
@[simp] theorem State.setPortState_cal (p : Nat) (x : PortState) : (s.setPortState p x).cal = s.cal := rfl
@[simp] theorem State.setPortState_pai (p : Nat) (x : PortState) : (s.setPortState p x).pai = s.pai := rfl
@[simp] theorem State.setPortState_met (p : Nat) (x : PortState) : (s.setPortState p x).met = s.met := rfl
@[simp] theorem State.setPortState_metm (p : Nat) (x : PortState) : (s.setPortState p x).metm = s.metm := rfl
@[simp] theorem State.setPortState_free (p : Nat) (x : PortState) : (s.setPortState p x).free = s.free := rfl
@[simp] theorem State.setPortState_out (p : Nat) (x : PortState) : (s.setPortState p x).out = s.out := rfl

/-! takeReq -/
@[simp] theorem State.takeReq_pending (code : Nat) (r : Req) : (s.takeReq code r).pending = s.pending := rfl
@[simp] theorem State.takeReq_regs (code : Nat) (r : Req) : (s.takeReq code r).regs = s.regs := rfl
@[simp] theorem State.takeReq_armed (code : Nat) (r : Req) : (s.takeReq code r).armed = s.armed := rfl
@[simp] theorem State.takeReq_pwr (code : Nat) (r : Req) : (s.takeReq code r).pwr = s.pwr := rfl
@[simp] theorem State.takeReq_evt (code : Nat) (r : Req) : (s.takeReq code r).evt = s.evt := rfl
@[simp] theorem State.takeReq_ks (code : Nat) (r : Req) : (s.takeReq code r).ks = s.ks := rfl
@[simp] theorem State.takeReq_otp (code : Nat) (r : Req) : (s.takeReq code r).otp = s.otp := rfl
@[simp] theorem State.takeReq_flash (code : Nat) (r : Req) : (s.takeReq code r).flash = s.flash := rfl
@[simp] theorem State.takeReq_sec (code : Nat) (r : Req) : (s.takeReq code r).sec = s.sec := rfl
@[simp] theorem State.takeReq_key (code : Nat) (r : Req) : (s.takeReq code r).key = s.key := rfl
@[simp] theorem State.takeReq_net (code : Nat) (r : Req) : (s.takeReq code r).net = s.net := rfl
@[simp] theorem State.takeReq_tmu (code : Nat) (r : Req) : (s.takeReq code r).tmu = s.tmu := rfl
@[simp] theorem State.takeReq_lch (code : Nat) (r : Req) : (s.takeReq code r).lch = s.lch := rfl
@[simp] theorem State.takeReq_mem (code : Nat) (r : Req) : (s.takeReq code r).mem = s.mem := rfl
@[simp] theorem State.takeReq_pix (code : Nat) (r : Req) : (s.takeReq code r).pix = s.pix := rfl
@[simp] theorem State.takeReq_lpp (code : Nat) (r : Req) : (s.takeReq code r).lpp = s.lpp := rfl
@[simp] theorem State.takeReq_ems (code : Nat) (r : Req) : (s.takeReq code r).ems = s.ems := rfl
@[simp] theorem State.takeReq_cal (code : Nat) (r : Req) : (s.takeReq code r).cal = s.cal := rfl
@[simp] theorem State.takeReq_pai (code : Nat) (r : Req) : (s.takeReq code r).pai = s.pai := rfl
@[simp] theorem State.takeReq_met (code : Nat) (r : Req) : (s.takeReq code r).met = s.met := rfl
@[simp] theorem State.takeReq_metm (code : Nat) (r : Req) : (s.takeReq code r).metm = s.metm := rfl
@[simp] theorem State.takeReq_free (code : Nat) (r : Req) : (s.takeReq code r).free = s.free := rfl
@[simp] theorem State.takeReq_out (code : Nat) (r : Req) : (s.takeReq code r).out = s.out := rfl

/-! addChange -/
@[simp] theorem State.addChange_pending (c : Change) (okAt : Nat) (first : Option Nat) : (s.addChange c okAt first).pending = s.pending := rfl
@[simp] theorem State.addChange_regs (c : Change) (okAt : Nat) (first : Option Nat) : (s.addChange c okAt first).regs = s.regs := rfl
@[simp] theorem State.addChange_armed (c : Change) (okAt : Nat) (first : Option Nat) : (s.addChange c okAt first).armed = s.armed := rfl
@[simp] theorem State.addChange_pwr (c : Change) (okAt : Nat) (first : Option Nat) : (s.addChange c okAt first).pwr = s.pwr := rfl
@[simp] theorem State.addChange_evt (c : Change) (okAt : Nat) (first : Option Nat) : (s.addChange c okAt first).evt = s.evt := rfl
@[simp] theorem State.addChange_cmd (c : Change) (okAt : Nat) (first : Option Nat) : (s.addChange c okAt first).cmd = s.cmd := rfl
@[simp] theorem State.addChange_ks (c : Change) (okAt : Nat) (first : Option Nat) : (s.addChange c okAt first).ks = s.ks := rfl
@[simp] theorem State.addChange_otp (c : Change) (okAt : Nat) (first : Option Nat) : (s.addChange c okAt first).otp = s.otp := rfl
@[simp] theorem State.addChange_flash (c : Change) (okAt : Nat) (first : Option Nat) : (s.addChange c okAt first).flash = s.flash := rfl
@[simp] theorem State.addChange_sec (c : Change) (okAt : Nat) (first : Option Nat) : (s.addChange c okAt first).sec = s.sec := rfl
@[simp] theorem State.addChange_key (c : Change) (okAt : Nat) (first : Option Nat) : (s.addChange c okAt first).key = s.key := rfl
@[simp] theorem State.addChange_net (c : Change) (okAt : Nat) (first : Option Nat) : (s.addChange c okAt first).net = s.net := rfl
@[simp] theorem State.addChange_tmu (c : Change) (okAt : Nat) (first : Option Nat) : (s.addChange c okAt first).tmu = s.tmu := rfl
@[simp] theorem State.addChange_lch (c : Change) (okAt : Nat) (first : Option Nat) : (s.addChange c okAt first).lch = s.lch := rfl
@[simp] theorem State.addChange_mem (c : Change) (okAt : Nat) (first : Option Nat) : (s.addChange c okAt first).mem = s.mem := rfl
@[simp] theorem State.addChange_lpp (c : Change) (okAt : Nat) (first : Option Nat) : (s.addChange c okAt first).lpp = s.lpp := rfl
@[simp] theorem State.addChange_ems (c : Change) (okAt : Nat) (first : Option Nat) : (s.addChange c okAt first).ems = s.ems := rfl
@[simp] theorem State.addChange_cal (c : Change) (okAt : Nat) (first : Option Nat) : (s.addChange c okAt first).cal = s.cal := rfl
@[simp] theorem State.addChange_pai (c : Change) (okAt : Nat) (first : Option Nat) : (s.addChange c okAt first).pai = s.pai := rfl
@[simp] theorem State.addChange_met (c : Change) (okAt : Nat) (first : Option Nat) : (s.addChange c okAt first).met = s.met := rfl
@[simp] theorem State.addChange_metm (c : Change) (okAt : Nat) (first : Option Nat) : (s.addChange c okAt first).metm = s.metm := rfl
@[simp] theorem State.addChange_free (c : Change) (okAt : Nat) (first : Option Nat) : (s.addChange c okAt first).free = s.free := rfl
@[simp] theorem State.addChange_out (c : Change) (okAt : Nat) (first : Option Nat) : (s.addChange c okAt first).out = s.out := rfl

/-! setCap -/
@[simp] theorem State.setCap_pending (n : Nat) (c : CapFifo) : (s.setCap n c).pending = s.pending := rfl
@[simp] theorem State.setCap_regs (n : Nat) (c : CapFifo) : (s.setCap n c).regs = s.regs := rfl
@[simp] theorem State.setCap_armed (n : Nat) (c : CapFifo) : (s.setCap n c).armed = s.armed := rfl
@[simp] theorem State.setCap_pwr (n : Nat) (c : CapFifo) : (s.setCap n c).pwr = s.pwr := rfl
@[simp] theorem State.setCap_evt (n : Nat) (c : CapFifo) : (s.setCap n c).evt = s.evt := rfl
@[simp] theorem State.setCap_cmd (n : Nat) (c : CapFifo) : (s.setCap n c).cmd = s.cmd := rfl
@[simp] theorem State.setCap_ks (n : Nat) (c : CapFifo) : (s.setCap n c).ks = s.ks := rfl
@[simp] theorem State.setCap_otp (n : Nat) (c : CapFifo) : (s.setCap n c).otp = s.otp := rfl
@[simp] theorem State.setCap_flash (n : Nat) (c : CapFifo) : (s.setCap n c).flash = s.flash := rfl
@[simp] theorem State.setCap_sec (n : Nat) (c : CapFifo) : (s.setCap n c).sec = s.sec := rfl
@[simp] theorem State.setCap_key (n : Nat) (c : CapFifo) : (s.setCap n c).key = s.key := rfl
@[simp] theorem State.setCap_net (n : Nat) (c : CapFifo) : (s.setCap n c).net = s.net := rfl
@[simp] theorem State.setCap_lch (n : Nat) (c : CapFifo) : (s.setCap n c).lch = s.lch := rfl
@[simp] theorem State.setCap_mem (n : Nat) (c : CapFifo) : (s.setCap n c).mem = s.mem := rfl
@[simp] theorem State.setCap_pix (n : Nat) (c : CapFifo) : (s.setCap n c).pix = s.pix := rfl
@[simp] theorem State.setCap_lpp (n : Nat) (c : CapFifo) : (s.setCap n c).lpp = s.lpp := rfl
@[simp] theorem State.setCap_ems (n : Nat) (c : CapFifo) : (s.setCap n c).ems = s.ems := rfl
@[simp] theorem State.setCap_cal (n : Nat) (c : CapFifo) : (s.setCap n c).cal = s.cal := rfl
@[simp] theorem State.setCap_pai (n : Nat) (c : CapFifo) : (s.setCap n c).pai = s.pai := rfl
@[simp] theorem State.setCap_met (n : Nat) (c : CapFifo) : (s.setCap n c).met = s.met := rfl
@[simp] theorem State.setCap_metm (n : Nat) (c : CapFifo) : (s.setCap n c).metm = s.metm := rfl
@[simp] theorem State.setCap_free (n : Nat) (c : CapFifo) : (s.setCap n c).free = s.free := rfl
@[simp] theorem State.setCap_out (n : Nat) (c : CapFifo) : (s.setCap n c).out = s.out := rfl

/-! setChan -/
@[simp] theorem State.setChan_pending (n : Nat) (c : Chan) : (s.setChan n c).pending = s.pending := rfl
@[simp] theorem State.setChan_regs (n : Nat) (c : Chan) : (s.setChan n c).regs = s.regs := rfl
@[simp] theorem State.setChan_armed (n : Nat) (c : Chan) : (s.setChan n c).armed = s.armed := rfl
@[simp] theorem State.setChan_pwr (n : Nat) (c : Chan) : (s.setChan n c).pwr = s.pwr := rfl
@[simp] theorem State.setChan_evt (n : Nat) (c : Chan) : (s.setChan n c).evt = s.evt := rfl
@[simp] theorem State.setChan_cmd (n : Nat) (c : Chan) : (s.setChan n c).cmd = s.cmd := rfl
@[simp] theorem State.setChan_ks (n : Nat) (c : Chan) : (s.setChan n c).ks = s.ks := rfl
@[simp] theorem State.setChan_otp (n : Nat) (c : Chan) : (s.setChan n c).otp = s.otp := rfl
@[simp] theorem State.setChan_flash (n : Nat) (c : Chan) : (s.setChan n c).flash = s.flash := rfl
@[simp] theorem State.setChan_sec (n : Nat) (c : Chan) : (s.setChan n c).sec = s.sec := rfl
@[simp] theorem State.setChan_key (n : Nat) (c : Chan) : (s.setChan n c).key = s.key := rfl
@[simp] theorem State.setChan_net (n : Nat) (c : Chan) : (s.setChan n c).net = s.net := rfl
@[simp] theorem State.setChan_tmu (n : Nat) (c : Chan) : (s.setChan n c).tmu = s.tmu := rfl
@[simp] theorem State.setChan_lch (n : Nat) (c : Chan) : (s.setChan n c).lch = s.lch := rfl
@[simp] theorem State.setChan_pix (n : Nat) (c : Chan) : (s.setChan n c).pix = s.pix := rfl
@[simp] theorem State.setChan_lpp (n : Nat) (c : Chan) : (s.setChan n c).lpp = s.lpp := rfl
@[simp] theorem State.setChan_ems (n : Nat) (c : Chan) : (s.setChan n c).ems = s.ems := rfl
@[simp] theorem State.setChan_cal (n : Nat) (c : Chan) : (s.setChan n c).cal = s.cal := rfl
@[simp] theorem State.setChan_pai (n : Nat) (c : Chan) : (s.setChan n c).pai = s.pai := rfl
@[simp] theorem State.setChan_met (n : Nat) (c : Chan) : (s.setChan n c).met = s.met := rfl
@[simp] theorem State.setChan_metm (n : Nat) (c : Chan) : (s.setChan n c).metm = s.metm := rfl
@[simp] theorem State.setChan_free (n : Nat) (c : Chan) : (s.setChan n c).free = s.free := rfl
@[simp] theorem State.setChan_out (n : Nat) (c : Chan) : (s.setChan n c).out = s.out := rfl

/-! setStrm -/
@[simp] theorem State.setStrm_pending (m : Nat) (x : Strm) : (s.setStrm m x).pending = s.pending := rfl
@[simp] theorem State.setStrm_regs (m : Nat) (x : Strm) : (s.setStrm m x).regs = s.regs := rfl
@[simp] theorem State.setStrm_armed (m : Nat) (x : Strm) : (s.setStrm m x).armed = s.armed := rfl
@[simp] theorem State.setStrm_pwr (m : Nat) (x : Strm) : (s.setStrm m x).pwr = s.pwr := rfl
@[simp] theorem State.setStrm_evt (m : Nat) (x : Strm) : (s.setStrm m x).evt = s.evt := rfl
@[simp] theorem State.setStrm_cmd (m : Nat) (x : Strm) : (s.setStrm m x).cmd = s.cmd := rfl
@[simp] theorem State.setStrm_ks (m : Nat) (x : Strm) : (s.setStrm m x).ks = s.ks := rfl
@[simp] theorem State.setStrm_otp (m : Nat) (x : Strm) : (s.setStrm m x).otp = s.otp := rfl
@[simp] theorem State.setStrm_flash (m : Nat) (x : Strm) : (s.setStrm m x).flash = s.flash := rfl
@[simp] theorem State.setStrm_sec (m : Nat) (x : Strm) : (s.setStrm m x).sec = s.sec := rfl
@[simp] theorem State.setStrm_key (m : Nat) (x : Strm) : (s.setStrm m x).key = s.key := rfl
@[simp] theorem State.setStrm_net (m : Nat) (x : Strm) : (s.setStrm m x).net = s.net := rfl
@[simp] theorem State.setStrm_tmu (m : Nat) (x : Strm) : (s.setStrm m x).tmu = s.tmu := rfl
@[simp] theorem State.setStrm_lch (m : Nat) (x : Strm) : (s.setStrm m x).lch = s.lch := rfl
@[simp] theorem State.setStrm_mem (m : Nat) (x : Strm) : (s.setStrm m x).mem = s.mem := rfl
@[simp] theorem State.setStrm_lpp (m : Nat) (x : Strm) : (s.setStrm m x).lpp = s.lpp := rfl
@[simp] theorem State.setStrm_ems (m : Nat) (x : Strm) : (s.setStrm m x).ems = s.ems := rfl
@[simp] theorem State.setStrm_cal (m : Nat) (x : Strm) : (s.setStrm m x).cal = s.cal := rfl
@[simp] theorem State.setStrm_pai (m : Nat) (x : Strm) : (s.setStrm m x).pai = s.pai := rfl
@[simp] theorem State.setStrm_met (m : Nat) (x : Strm) : (s.setStrm m x).met = s.met := rfl
@[simp] theorem State.setStrm_metm (m : Nat) (x : Strm) : (s.setStrm m x).metm = s.metm := rfl
@[simp] theorem State.setStrm_free (m : Nat) (x : Strm) : (s.setStrm m x).free = s.free := rfl
@[simp] theorem State.setStrm_out (m : Nat) (x : Strm) : (s.setStrm m x).out = s.out := rfl

/-! setSurf -/
@[simp] theorem State.setSurf_pending (n : Nat) (u : Surf) : (s.setSurf n u).pending = s.pending := rfl
@[simp] theorem State.setSurf_regs (n : Nat) (u : Surf) : (s.setSurf n u).regs = s.regs := rfl
@[simp] theorem State.setSurf_armed (n : Nat) (u : Surf) : (s.setSurf n u).armed = s.armed := rfl
@[simp] theorem State.setSurf_pwr (n : Nat) (u : Surf) : (s.setSurf n u).pwr = s.pwr := rfl
@[simp] theorem State.setSurf_evt (n : Nat) (u : Surf) : (s.setSurf n u).evt = s.evt := rfl
@[simp] theorem State.setSurf_cmd (n : Nat) (u : Surf) : (s.setSurf n u).cmd = s.cmd := rfl
@[simp] theorem State.setSurf_ks (n : Nat) (u : Surf) : (s.setSurf n u).ks = s.ks := rfl
@[simp] theorem State.setSurf_otp (n : Nat) (u : Surf) : (s.setSurf n u).otp = s.otp := rfl
@[simp] theorem State.setSurf_flash (n : Nat) (u : Surf) : (s.setSurf n u).flash = s.flash := rfl
@[simp] theorem State.setSurf_sec (n : Nat) (u : Surf) : (s.setSurf n u).sec = s.sec := rfl
@[simp] theorem State.setSurf_key (n : Nat) (u : Surf) : (s.setSurf n u).key = s.key := rfl
@[simp] theorem State.setSurf_net (n : Nat) (u : Surf) : (s.setSurf n u).net = s.net := rfl
@[simp] theorem State.setSurf_tmu (n : Nat) (u : Surf) : (s.setSurf n u).tmu = s.tmu := rfl
@[simp] theorem State.setSurf_lch (n : Nat) (u : Surf) : (s.setSurf n u).lch = s.lch := rfl
@[simp] theorem State.setSurf_mem (n : Nat) (u : Surf) : (s.setSurf n u).mem = s.mem := rfl
@[simp] theorem State.setSurf_lpp (n : Nat) (u : Surf) : (s.setSurf n u).lpp = s.lpp := rfl
@[simp] theorem State.setSurf_ems (n : Nat) (u : Surf) : (s.setSurf n u).ems = s.ems := rfl
@[simp] theorem State.setSurf_cal (n : Nat) (u : Surf) : (s.setSurf n u).cal = s.cal := rfl
@[simp] theorem State.setSurf_pai (n : Nat) (u : Surf) : (s.setSurf n u).pai = s.pai := rfl
@[simp] theorem State.setSurf_met (n : Nat) (u : Surf) : (s.setSurf n u).met = s.met := rfl
@[simp] theorem State.setSurf_metm (n : Nat) (u : Surf) : (s.setSurf n u).metm = s.metm := rfl
@[simp] theorem State.setSurf_free (n : Nat) (u : Surf) : (s.setSurf n u).free = s.free := rfl
@[simp] theorem State.setSurf_out (n : Nat) (u : Surf) : (s.setSurf n u).out = s.out := rfl

/-! setRegion -/
@[simp] theorem State.setRegion_pending (k : Nat) (x : Region) : (s.setRegion k x).pending = s.pending := rfl
@[simp] theorem State.setRegion_regs (k : Nat) (x : Region) : (s.setRegion k x).regs = s.regs := rfl
@[simp] theorem State.setRegion_armed (k : Nat) (x : Region) : (s.setRegion k x).armed = s.armed := rfl
@[simp] theorem State.setRegion_pwr (k : Nat) (x : Region) : (s.setRegion k x).pwr = s.pwr := rfl
@[simp] theorem State.setRegion_evt (k : Nat) (x : Region) : (s.setRegion k x).evt = s.evt := rfl
@[simp] theorem State.setRegion_cmd (k : Nat) (x : Region) : (s.setRegion k x).cmd = s.cmd := rfl
@[simp] theorem State.setRegion_ks (k : Nat) (x : Region) : (s.setRegion k x).ks = s.ks := rfl
@[simp] theorem State.setRegion_otp (k : Nat) (x : Region) : (s.setRegion k x).otp = s.otp := rfl
@[simp] theorem State.setRegion_flash (k : Nat) (x : Region) : (s.setRegion k x).flash = s.flash := rfl
@[simp] theorem State.setRegion_sec (k : Nat) (x : Region) : (s.setRegion k x).sec = s.sec := rfl
@[simp] theorem State.setRegion_key (k : Nat) (x : Region) : (s.setRegion k x).key = s.key := rfl
@[simp] theorem State.setRegion_net (k : Nat) (x : Region) : (s.setRegion k x).net = s.net := rfl
@[simp] theorem State.setRegion_tmu (k : Nat) (x : Region) : (s.setRegion k x).tmu = s.tmu := rfl
@[simp] theorem State.setRegion_lch (k : Nat) (x : Region) : (s.setRegion k x).lch = s.lch := rfl
@[simp] theorem State.setRegion_mem (k : Nat) (x : Region) : (s.setRegion k x).mem = s.mem := rfl
@[simp] theorem State.setRegion_pix (k : Nat) (x : Region) : (s.setRegion k x).pix = s.pix := rfl
@[simp] theorem State.setRegion_ems (k : Nat) (x : Region) : (s.setRegion k x).ems = s.ems := rfl
@[simp] theorem State.setRegion_cal (k : Nat) (x : Region) : (s.setRegion k x).cal = s.cal := rfl
@[simp] theorem State.setRegion_pai (k : Nat) (x : Region) : (s.setRegion k x).pai = s.pai := rfl
@[simp] theorem State.setRegion_met (k : Nat) (x : Region) : (s.setRegion k x).met = s.met := rfl
@[simp] theorem State.setRegion_metm (k : Nat) (x : Region) : (s.setRegion k x).metm = s.metm := rfl
@[simp] theorem State.setRegion_free (k : Nat) (x : Region) : (s.setRegion k x).free = s.free := rfl
@[simp] theorem State.setRegion_out (k : Nat) (x : Region) : (s.setRegion k x).out = s.out := rfl

/-! takeMsgRow -/
@[simp] theorem State.takeMsgRow_pending (m : Msg) : (s.takeMsgRow m).pending = s.pending := rfl
@[simp] theorem State.takeMsgRow_regs (m : Msg) : (s.takeMsgRow m).regs = s.regs := rfl
@[simp] theorem State.takeMsgRow_armed (m : Msg) : (s.takeMsgRow m).armed = s.armed := rfl
@[simp] theorem State.takeMsgRow_pwr (m : Msg) : (s.takeMsgRow m).pwr = s.pwr := rfl
@[simp] theorem State.takeMsgRow_evt (m : Msg) : (s.takeMsgRow m).evt = s.evt := rfl
@[simp] theorem State.takeMsgRow_cmd (m : Msg) : (s.takeMsgRow m).cmd = s.cmd := rfl
@[simp] theorem State.takeMsgRow_ks (m : Msg) : (s.takeMsgRow m).ks = s.ks := rfl
@[simp] theorem State.takeMsgRow_otp (m : Msg) : (s.takeMsgRow m).otp = s.otp := rfl
@[simp] theorem State.takeMsgRow_flash (m : Msg) : (s.takeMsgRow m).flash = s.flash := rfl
@[simp] theorem State.takeMsgRow_sec (m : Msg) : (s.takeMsgRow m).sec = s.sec := rfl
@[simp] theorem State.takeMsgRow_key (m : Msg) : (s.takeMsgRow m).key = s.key := rfl
@[simp] theorem State.takeMsgRow_tmu (m : Msg) : (s.takeMsgRow m).tmu = s.tmu := rfl
@[simp] theorem State.takeMsgRow_lch (m : Msg) : (s.takeMsgRow m).lch = s.lch := rfl
@[simp] theorem State.takeMsgRow_mem (m : Msg) : (s.takeMsgRow m).mem = s.mem := rfl
@[simp] theorem State.takeMsgRow_pix (m : Msg) : (s.takeMsgRow m).pix = s.pix := rfl
@[simp] theorem State.takeMsgRow_lpp (m : Msg) : (s.takeMsgRow m).lpp = s.lpp := rfl
@[simp] theorem State.takeMsgRow_ems (m : Msg) : (s.takeMsgRow m).ems = s.ems := rfl
@[simp] theorem State.takeMsgRow_cal (m : Msg) : (s.takeMsgRow m).cal = s.cal := rfl
@[simp] theorem State.takeMsgRow_pai (m : Msg) : (s.takeMsgRow m).pai = s.pai := rfl
@[simp] theorem State.takeMsgRow_met (m : Msg) : (s.takeMsgRow m).met = s.met := rfl
@[simp] theorem State.takeMsgRow_metm (m : Msg) : (s.takeMsgRow m).metm = s.metm := rfl
@[simp] theorem State.takeMsgRow_free (m : Msg) : (s.takeMsgRow m).free = s.free := rfl
@[simp] theorem State.takeMsgRow_out (m : Msg) : (s.takeMsgRow m).out = s.out := rfl

/-! setCore -/
@[simp] theorem State.setCore_pending (k : Nat) (c : CoreS) : (s.setCore k c).pending = s.pending := rfl
@[simp] theorem State.setCore_regs (k : Nat) (c : CoreS) : (s.setCore k c).regs = s.regs := rfl
@[simp] theorem State.setCore_armed (k : Nat) (c : CoreS) : (s.setCore k c).armed = s.armed := rfl
@[simp] theorem State.setCore_evt (k : Nat) (c : CoreS) : (s.setCore k c).evt = s.evt := rfl
@[simp] theorem State.setCore_cmd (k : Nat) (c : CoreS) : (s.setCore k c).cmd = s.cmd := rfl
@[simp] theorem State.setCore_ks (k : Nat) (c : CoreS) : (s.setCore k c).ks = s.ks := rfl
@[simp] theorem State.setCore_otp (k : Nat) (c : CoreS) : (s.setCore k c).otp = s.otp := rfl
@[simp] theorem State.setCore_flash (k : Nat) (c : CoreS) : (s.setCore k c).flash = s.flash := rfl
@[simp] theorem State.setCore_sec (k : Nat) (c : CoreS) : (s.setCore k c).sec = s.sec := rfl
@[simp] theorem State.setCore_key (k : Nat) (c : CoreS) : (s.setCore k c).key = s.key := rfl
@[simp] theorem State.setCore_net (k : Nat) (c : CoreS) : (s.setCore k c).net = s.net := rfl
@[simp] theorem State.setCore_tmu (k : Nat) (c : CoreS) : (s.setCore k c).tmu = s.tmu := rfl
@[simp] theorem State.setCore_lch (k : Nat) (c : CoreS) : (s.setCore k c).lch = s.lch := rfl
@[simp] theorem State.setCore_mem (k : Nat) (c : CoreS) : (s.setCore k c).mem = s.mem := rfl
@[simp] theorem State.setCore_pix (k : Nat) (c : CoreS) : (s.setCore k c).pix = s.pix := rfl
@[simp] theorem State.setCore_lpp (k : Nat) (c : CoreS) : (s.setCore k c).lpp = s.lpp := rfl
@[simp] theorem State.setCore_ems (k : Nat) (c : CoreS) : (s.setCore k c).ems = s.ems := rfl
@[simp] theorem State.setCore_cal (k : Nat) (c : CoreS) : (s.setCore k c).cal = s.cal := rfl
@[simp] theorem State.setCore_pai (k : Nat) (c : CoreS) : (s.setCore k c).pai = s.pai := rfl
@[simp] theorem State.setCore_met (k : Nat) (c : CoreS) : (s.setCore k c).met = s.met := rfl
@[simp] theorem State.setCore_metm (k : Nat) (c : CoreS) : (s.setCore k c).metm = s.metm := rfl
@[simp] theorem State.setCore_free (k : Nat) (c : CoreS) : (s.setCore k c).free = s.free := rfl
@[simp] theorem State.setCore_out (k : Nat) (c : CoreS) : (s.setCore k c).out = s.out := rfl

/-! setSleep -/
@[simp] theorem State.setSleep_pending (c : Nat) (x : SleepS) : (s.setSleep c x).pending = s.pending := rfl
@[simp] theorem State.setSleep_regs (c : Nat) (x : SleepS) : (s.setSleep c x).regs = s.regs := rfl
@[simp] theorem State.setSleep_armed (c : Nat) (x : SleepS) : (s.setSleep c x).armed = s.armed := rfl
@[simp] theorem State.setSleep_evt (c : Nat) (x : SleepS) : (s.setSleep c x).evt = s.evt := rfl
@[simp] theorem State.setSleep_cmd (c : Nat) (x : SleepS) : (s.setSleep c x).cmd = s.cmd := rfl
@[simp] theorem State.setSleep_ks (c : Nat) (x : SleepS) : (s.setSleep c x).ks = s.ks := rfl
@[simp] theorem State.setSleep_otp (c : Nat) (x : SleepS) : (s.setSleep c x).otp = s.otp := rfl
@[simp] theorem State.setSleep_flash (c : Nat) (x : SleepS) : (s.setSleep c x).flash = s.flash := rfl
@[simp] theorem State.setSleep_sec (c : Nat) (x : SleepS) : (s.setSleep c x).sec = s.sec := rfl
@[simp] theorem State.setSleep_key (c : Nat) (x : SleepS) : (s.setSleep c x).key = s.key := rfl
@[simp] theorem State.setSleep_net (c : Nat) (x : SleepS) : (s.setSleep c x).net = s.net := rfl
@[simp] theorem State.setSleep_tmu (c : Nat) (x : SleepS) : (s.setSleep c x).tmu = s.tmu := rfl
@[simp] theorem State.setSleep_lch (c : Nat) (x : SleepS) : (s.setSleep c x).lch = s.lch := rfl
@[simp] theorem State.setSleep_mem (c : Nat) (x : SleepS) : (s.setSleep c x).mem = s.mem := rfl
@[simp] theorem State.setSleep_pix (c : Nat) (x : SleepS) : (s.setSleep c x).pix = s.pix := rfl
@[simp] theorem State.setSleep_lpp (c : Nat) (x : SleepS) : (s.setSleep c x).lpp = s.lpp := rfl
@[simp] theorem State.setSleep_ems (c : Nat) (x : SleepS) : (s.setSleep c x).ems = s.ems := rfl
@[simp] theorem State.setSleep_cal (c : Nat) (x : SleepS) : (s.setSleep c x).cal = s.cal := rfl
@[simp] theorem State.setSleep_pai (c : Nat) (x : SleepS) : (s.setSleep c x).pai = s.pai := rfl
@[simp] theorem State.setSleep_met (c : Nat) (x : SleepS) : (s.setSleep c x).met = s.met := rfl
@[simp] theorem State.setSleep_metm (c : Nat) (x : SleepS) : (s.setSleep c x).metm = s.metm := rfl
@[simp] theorem State.setSleep_free (c : Nat) (x : SleepS) : (s.setSleep c x).free = s.free := rfl
@[simp] theorem State.setSleep_out (c : Nat) (x : SleepS) : (s.setSleep c x).out = s.out := rfl

/-! dropJob -/
@[simp] theorem State.dropJob_pending (id : Nat) : (s.dropJob id).pending = s.pending := rfl
@[simp] theorem State.dropJob_regs (id : Nat) : (s.dropJob id).regs = s.regs := rfl
@[simp] theorem State.dropJob_armed (id : Nat) : (s.dropJob id).armed = s.armed := rfl
@[simp] theorem State.dropJob_pwr (id : Nat) : (s.dropJob id).pwr = s.pwr := rfl
@[simp] theorem State.dropJob_evt (id : Nat) : (s.dropJob id).evt = s.evt := rfl
@[simp] theorem State.dropJob_ks (id : Nat) : (s.dropJob id).ks = s.ks := rfl
@[simp] theorem State.dropJob_otp (id : Nat) : (s.dropJob id).otp = s.otp := rfl
@[simp] theorem State.dropJob_flash (id : Nat) : (s.dropJob id).flash = s.flash := rfl
@[simp] theorem State.dropJob_sec (id : Nat) : (s.dropJob id).sec = s.sec := rfl
@[simp] theorem State.dropJob_key (id : Nat) : (s.dropJob id).key = s.key := rfl
@[simp] theorem State.dropJob_tmu (id : Nat) : (s.dropJob id).tmu = s.tmu := rfl
@[simp] theorem State.dropJob_lch (id : Nat) : (s.dropJob id).lch = s.lch := rfl
@[simp] theorem State.dropJob_mem (id : Nat) : (s.dropJob id).mem = s.mem := rfl
@[simp] theorem State.dropJob_pix (id : Nat) : (s.dropJob id).pix = s.pix := rfl
@[simp] theorem State.dropJob_lpp (id : Nat) : (s.dropJob id).lpp = s.lpp := rfl
@[simp] theorem State.dropJob_ems (id : Nat) : (s.dropJob id).ems = s.ems := rfl
@[simp] theorem State.dropJob_cal (id : Nat) : (s.dropJob id).cal = s.cal := rfl
@[simp] theorem State.dropJob_pai (id : Nat) : (s.dropJob id).pai = s.pai := rfl
@[simp] theorem State.dropJob_met (id : Nat) : (s.dropJob id).met = s.met := rfl
@[simp] theorem State.dropJob_metm (id : Nat) : (s.dropJob id).metm = s.metm := rfl
@[simp] theorem State.dropJob_free (id : Nat) : (s.dropJob id).free = s.free := rfl
@[simp] theorem State.dropJob_out (id : Nat) : (s.dropJob id).out = s.out := rfl

/-! setDom -/
@[simp] theorem State.setDom_pending (d : Bool) (x : Dom) : (s.setDom d x).pending = s.pending := rfl
@[simp] theorem State.setDom_regs (d : Bool) (x : Dom) : (s.setDom d x).regs = s.regs := rfl
@[simp] theorem State.setDom_armed (d : Bool) (x : Dom) : (s.setDom d x).armed = s.armed := rfl
@[simp] theorem State.setDom_pwr (d : Bool) (x : Dom) : (s.setDom d x).pwr = s.pwr := rfl
@[simp] theorem State.setDom_evt (d : Bool) (x : Dom) : (s.setDom d x).evt = s.evt := rfl
@[simp] theorem State.setDom_cmd (d : Bool) (x : Dom) : (s.setDom d x).cmd = s.cmd := rfl
@[simp] theorem State.setDom_ks (d : Bool) (x : Dom) : (s.setDom d x).ks = s.ks := rfl
@[simp] theorem State.setDom_otp (d : Bool) (x : Dom) : (s.setDom d x).otp = s.otp := rfl
@[simp] theorem State.setDom_flash (d : Bool) (x : Dom) : (s.setDom d x).flash = s.flash := rfl
@[simp] theorem State.setDom_sec (d : Bool) (x : Dom) : (s.setDom d x).sec = s.sec := rfl
@[simp] theorem State.setDom_key (d : Bool) (x : Dom) : (s.setDom d x).key = s.key := rfl
@[simp] theorem State.setDom_net (d : Bool) (x : Dom) : (s.setDom d x).net = s.net := rfl
@[simp] theorem State.setDom_lch (d : Bool) (x : Dom) : (s.setDom d x).lch = s.lch := rfl
@[simp] theorem State.setDom_mem (d : Bool) (x : Dom) : (s.setDom d x).mem = s.mem := rfl
@[simp] theorem State.setDom_pix (d : Bool) (x : Dom) : (s.setDom d x).pix = s.pix := rfl
@[simp] theorem State.setDom_lpp (d : Bool) (x : Dom) : (s.setDom d x).lpp = s.lpp := rfl
@[simp] theorem State.setDom_ems (d : Bool) (x : Dom) : (s.setDom d x).ems = s.ems := rfl
@[simp] theorem State.setDom_cal (d : Bool) (x : Dom) : (s.setDom d x).cal = s.cal := rfl
@[simp] theorem State.setDom_pai (d : Bool) (x : Dom) : (s.setDom d x).pai = s.pai := rfl
@[simp] theorem State.setDom_met (d : Bool) (x : Dom) : (s.setDom d x).met = s.met := rfl
@[simp] theorem State.setDom_metm (d : Bool) (x : Dom) : (s.setDom d x).metm = s.metm := rfl
@[simp] theorem State.setDom_free (d : Bool) (x : Dom) : (s.setDom d x).free = s.free := rfl
@[simp] theorem State.setDom_out (d : Bool) (x : Dom) : (s.setDom d x).out = s.out := rfl

/-! setJournal -/
@[simp] theorem State.setJournal_pending (n : Nat) (j : List FlashRec) : (s.setJournal n j).pending = s.pending := rfl
@[simp] theorem State.setJournal_regs (n : Nat) (j : List FlashRec) : (s.setJournal n j).regs = s.regs := rfl
@[simp] theorem State.setJournal_armed (n : Nat) (j : List FlashRec) : (s.setJournal n j).armed = s.armed := rfl
@[simp] theorem State.setJournal_pwr (n : Nat) (j : List FlashRec) : (s.setJournal n j).pwr = s.pwr := rfl
@[simp] theorem State.setJournal_evt (n : Nat) (j : List FlashRec) : (s.setJournal n j).evt = s.evt := rfl
@[simp] theorem State.setJournal_cmd (n : Nat) (j : List FlashRec) : (s.setJournal n j).cmd = s.cmd := rfl
@[simp] theorem State.setJournal_ks (n : Nat) (j : List FlashRec) : (s.setJournal n j).ks = s.ks := rfl
@[simp] theorem State.setJournal_otp (n : Nat) (j : List FlashRec) : (s.setJournal n j).otp = s.otp := rfl
@[simp] theorem State.setJournal_sec (n : Nat) (j : List FlashRec) : (s.setJournal n j).sec = s.sec := rfl
@[simp] theorem State.setJournal_key (n : Nat) (j : List FlashRec) : (s.setJournal n j).key = s.key := rfl
@[simp] theorem State.setJournal_net (n : Nat) (j : List FlashRec) : (s.setJournal n j).net = s.net := rfl
@[simp] theorem State.setJournal_tmu (n : Nat) (j : List FlashRec) : (s.setJournal n j).tmu = s.tmu := rfl
@[simp] theorem State.setJournal_lch (n : Nat) (j : List FlashRec) : (s.setJournal n j).lch = s.lch := rfl
@[simp] theorem State.setJournal_mem (n : Nat) (j : List FlashRec) : (s.setJournal n j).mem = s.mem := rfl
@[simp] theorem State.setJournal_pix (n : Nat) (j : List FlashRec) : (s.setJournal n j).pix = s.pix := rfl
@[simp] theorem State.setJournal_lpp (n : Nat) (j : List FlashRec) : (s.setJournal n j).lpp = s.lpp := rfl
@[simp] theorem State.setJournal_ems (n : Nat) (j : List FlashRec) : (s.setJournal n j).ems = s.ems := rfl
@[simp] theorem State.setJournal_cal (n : Nat) (j : List FlashRec) : (s.setJournal n j).cal = s.cal := rfl
@[simp] theorem State.setJournal_pai (n : Nat) (j : List FlashRec) : (s.setJournal n j).pai = s.pai := rfl
@[simp] theorem State.setJournal_met (n : Nat) (j : List FlashRec) : (s.setJournal n j).met = s.met := rfl
@[simp] theorem State.setJournal_metm (n : Nat) (j : List FlashRec) : (s.setJournal n j).metm = s.metm := rfl
@[simp] theorem State.setJournal_free (n : Nat) (j : List FlashRec) : (s.setJournal n j).free = s.free := rfl
@[simp] theorem State.setJournal_out (n : Nat) (j : List FlashRec) : (s.setJournal n j).out = s.out := rfl

/-! putRecord -/
@[simp] theorem State.putRecord_pending (d : StoreData) (m : Bool) : (s.putRecord d m).pending = s.pending := rfl
@[simp] theorem State.putRecord_regs (d : StoreData) (m : Bool) : (s.putRecord d m).regs = s.regs := rfl
@[simp] theorem State.putRecord_armed (d : StoreData) (m : Bool) : (s.putRecord d m).armed = s.armed := rfl
@[simp] theorem State.putRecord_pwr (d : StoreData) (m : Bool) : (s.putRecord d m).pwr = s.pwr := rfl
@[simp] theorem State.putRecord_evt (d : StoreData) (m : Bool) : (s.putRecord d m).evt = s.evt := rfl
@[simp] theorem State.putRecord_cmd (d : StoreData) (m : Bool) : (s.putRecord d m).cmd = s.cmd := rfl
@[simp] theorem State.putRecord_ks (d : StoreData) (m : Bool) : (s.putRecord d m).ks = s.ks := rfl
@[simp] theorem State.putRecord_otp (d : StoreData) (m : Bool) : (s.putRecord d m).otp = s.otp := rfl
@[simp] theorem State.putRecord_sec (d : StoreData) (m : Bool) : (s.putRecord d m).sec = s.sec := rfl
@[simp] theorem State.putRecord_key (d : StoreData) (m : Bool) : (s.putRecord d m).key = s.key := rfl
@[simp] theorem State.putRecord_net (d : StoreData) (m : Bool) : (s.putRecord d m).net = s.net := rfl
@[simp] theorem State.putRecord_tmu (d : StoreData) (m : Bool) : (s.putRecord d m).tmu = s.tmu := rfl
@[simp] theorem State.putRecord_lch (d : StoreData) (m : Bool) : (s.putRecord d m).lch = s.lch := rfl
@[simp] theorem State.putRecord_mem (d : StoreData) (m : Bool) : (s.putRecord d m).mem = s.mem := rfl
@[simp] theorem State.putRecord_pix (d : StoreData) (m : Bool) : (s.putRecord d m).pix = s.pix := rfl
@[simp] theorem State.putRecord_lpp (d : StoreData) (m : Bool) : (s.putRecord d m).lpp = s.lpp := rfl
@[simp] theorem State.putRecord_ems (d : StoreData) (m : Bool) : (s.putRecord d m).ems = s.ems := rfl
@[simp] theorem State.putRecord_cal (d : StoreData) (m : Bool) : (s.putRecord d m).cal = s.cal := rfl
@[simp] theorem State.putRecord_pai (d : StoreData) (m : Bool) : (s.putRecord d m).pai = s.pai := rfl
@[simp] theorem State.putRecord_met (d : StoreData) (m : Bool) : (s.putRecord d m).met = s.met := rfl
@[simp] theorem State.putRecord_metm (d : StoreData) (m : Bool) : (s.putRecord d m).metm = s.metm := rfl
@[simp] theorem State.putRecord_free (d : StoreData) (m : Bool) : (s.putRecord d m).free = s.free := rfl
@[simp] theorem State.putRecord_out (d : StoreData) (m : Bool) : (s.putRecord d m).out = s.out := rfl

/-! commit -/
@[simp] theorem State.commit_pending (n : Nat) : (s.commit n).pending = s.pending := rfl
@[simp] theorem State.commit_regs (n : Nat) : (s.commit n).regs = s.regs := rfl
@[simp] theorem State.commit_armed (n : Nat) : (s.commit n).armed = s.armed := rfl
@[simp] theorem State.commit_pwr (n : Nat) : (s.commit n).pwr = s.pwr := rfl
@[simp] theorem State.commit_evt (n : Nat) : (s.commit n).evt = s.evt := rfl
@[simp] theorem State.commit_cmd (n : Nat) : (s.commit n).cmd = s.cmd := rfl
@[simp] theorem State.commit_ks (n : Nat) : (s.commit n).ks = s.ks := rfl
@[simp] theorem State.commit_otp (n : Nat) : (s.commit n).otp = s.otp := rfl
@[simp] theorem State.commit_sec (n : Nat) : (s.commit n).sec = s.sec := rfl
@[simp] theorem State.commit_key (n : Nat) : (s.commit n).key = s.key := rfl
@[simp] theorem State.commit_net (n : Nat) : (s.commit n).net = s.net := rfl
@[simp] theorem State.commit_tmu (n : Nat) : (s.commit n).tmu = s.tmu := rfl
@[simp] theorem State.commit_lch (n : Nat) : (s.commit n).lch = s.lch := rfl
@[simp] theorem State.commit_mem (n : Nat) : (s.commit n).mem = s.mem := rfl
@[simp] theorem State.commit_pix (n : Nat) : (s.commit n).pix = s.pix := rfl
@[simp] theorem State.commit_lpp (n : Nat) : (s.commit n).lpp = s.lpp := rfl
@[simp] theorem State.commit_ems (n : Nat) : (s.commit n).ems = s.ems := rfl
@[simp] theorem State.commit_cal (n : Nat) : (s.commit n).cal = s.cal := rfl
@[simp] theorem State.commit_pai (n : Nat) : (s.commit n).pai = s.pai := rfl
@[simp] theorem State.commit_met (n : Nat) : (s.commit n).met = s.met := rfl
@[simp] theorem State.commit_metm (n : Nat) : (s.commit n).metm = s.metm := rfl
@[simp] theorem State.commit_free (n : Nat) : (s.commit n).free = s.free := rfl
@[simp] theorem State.commit_out (n : Nat) : (s.commit n).out = s.out := rfl

/-! setPtp -/
@[simp] theorem State.setPtp_pending (d : Bool) (x : Ptp) : (s.setPtp d x).pending = s.pending := rfl
@[simp] theorem State.setPtp_regs (d : Bool) (x : Ptp) : (s.setPtp d x).regs = s.regs := rfl
@[simp] theorem State.setPtp_armed (d : Bool) (x : Ptp) : (s.setPtp d x).armed = s.armed := rfl
@[simp] theorem State.setPtp_pwr (d : Bool) (x : Ptp) : (s.setPtp d x).pwr = s.pwr := rfl
@[simp] theorem State.setPtp_evt (d : Bool) (x : Ptp) : (s.setPtp d x).evt = s.evt := rfl
@[simp] theorem State.setPtp_cmd (d : Bool) (x : Ptp) : (s.setPtp d x).cmd = s.cmd := rfl
@[simp] theorem State.setPtp_ks (d : Bool) (x : Ptp) : (s.setPtp d x).ks = s.ks := rfl
@[simp] theorem State.setPtp_otp (d : Bool) (x : Ptp) : (s.setPtp d x).otp = s.otp := rfl
@[simp] theorem State.setPtp_flash (d : Bool) (x : Ptp) : (s.setPtp d x).flash = s.flash := rfl
@[simp] theorem State.setPtp_sec (d : Bool) (x : Ptp) : (s.setPtp d x).sec = s.sec := rfl
@[simp] theorem State.setPtp_key (d : Bool) (x : Ptp) : (s.setPtp d x).key = s.key := rfl
@[simp] theorem State.setPtp_net (d : Bool) (x : Ptp) : (s.setPtp d x).net = s.net := rfl
@[simp] theorem State.setPtp_lch (d : Bool) (x : Ptp) : (s.setPtp d x).lch = s.lch := rfl
@[simp] theorem State.setPtp_mem (d : Bool) (x : Ptp) : (s.setPtp d x).mem = s.mem := rfl
@[simp] theorem State.setPtp_pix (d : Bool) (x : Ptp) : (s.setPtp d x).pix = s.pix := rfl
@[simp] theorem State.setPtp_lpp (d : Bool) (x : Ptp) : (s.setPtp d x).lpp = s.lpp := rfl
@[simp] theorem State.setPtp_ems (d : Bool) (x : Ptp) : (s.setPtp d x).ems = s.ems := rfl
@[simp] theorem State.setPtp_cal (d : Bool) (x : Ptp) : (s.setPtp d x).cal = s.cal := rfl
@[simp] theorem State.setPtp_pai (d : Bool) (x : Ptp) : (s.setPtp d x).pai = s.pai := rfl
@[simp] theorem State.setPtp_met (d : Bool) (x : Ptp) : (s.setPtp d x).met = s.met := rfl
@[simp] theorem State.setPtp_metm (d : Bool) (x : Ptp) : (s.setPtp d x).metm = s.metm := rfl
@[simp] theorem State.setPtp_free (d : Bool) (x : Ptp) : (s.setPtp d x).free = s.free := rfl
@[simp] theorem State.setPtp_out (d : Bool) (x : Ptp) : (s.setPtp d x).out = s.out := rfl

end Sys2Proof.Machine
end

