-- ==== Sys2Proof/Laws/Ops.lean ====
section
/-! SUPPORT. What the operations that every command shares can do: registers, outputs, events, replies, and the course of a request. -/

namespace Sys2Proof.Machine

/-! ### Frames -/

theorem Part.same_refl (p : Part) (s : State) : p.same s s := by cases p <;> rfl

theorem Part.same_trans {p : Part} {s t u : State} (h : p.same s t) (k : p.same t u) : p.same s u := by
  cases p <;> simp only [Part.same] at * <;> exact k.trans h

theorem Keeps.refl (ps : List Part) (rs : List Nat) (s : State) : Keeps ps rs s s := ⟨fun p _ => p.same_refl s, fun _ _ => rfl⟩

theorem Keeps.trans {ps : List Part} {rs : List Nat} {s t u : State} (h : Keeps ps rs s t) (k : Keeps ps rs t u) : Keeps ps rs s u :=
  ⟨fun p hp => Part.same_trans (h.1 p hp) (k.1 p hp), fun a ha => (k.2 a ha).trans (h.2 a ha)⟩

theorem Keeps.mono {ps qs : List Part} {rs ts : List Nat} {s t : State} (h : Keeps ps rs s t) (hp : ps ⊆ qs) (hr : rs ⊆ ts) : Keeps qs ts s t :=
  ⟨fun p m => h.1 p (fun x => m (hp x)), fun a m => h.2 a (fun x => m (hr x))⟩

/-- A state that differs from another in no part and no register. -/
theorem keeps_of_eq {ps : List Part} {rs : List Nat} {s t : State} (h : t = s) : Keeps ps rs s t := h ▸ Keeps.refl ps rs s

/-! ### Registers -/

@[simp] theorem State.reg_setReg_same (s : State) (a : Nat) (w : Word) : (s.setReg a w).reg a = w :=
  Map.getD_store_same regReset s.regs a w

theorem State.reg_setReg_other (s : State) {a b : Nat} (h : b ≠ a) (w : Word) : (s.setReg a w).reg b = s.reg b := by
  simp [State.reg, State.setReg, Map.find_store_other regReset s.regs h w]

/-- A register after a store, the one stored to among them. -/
theorem State.reg_setReg (s : State) (a b : Nat) (w : Word) : (s.setReg a w).reg b = if b = a then w else s.reg b := by
  by_cases h : b = a
  · subst h; simp
  · simp [h, State.reg_setReg_other s h]

theorem State.setReg_keeps (s : State) (a : Nat) (w : Word) : Keeps [] [a] s (s.setReg a w) :=
  ⟨fun p _ => by cases p <;> rfl, fun b hb => s.reg_setReg_other (by simpa using hb) w⟩

theorem State.setFld_keeps (s : State) (a hi lo v : Nat) : Keeps [] [a] s (s.setFld a hi lo v) := s.setReg_keeps a _

theorem State.bump_keeps (s : State) (a : Nat) : Keeps [] [a] s (s.bump a) := s.setReg_keeps a _

theorem State.bumpBy_keeps (s : State) (a n : Nat) : Keeps [] [a] s (s.bumpBy a n) := s.setReg_keeps a _

/-! ### Outputs, datagrams, messages -/

theorem State.emit_keeps (s : State) (o : Out) : Keeps [.out] [] s (s.emit o) :=
  ⟨fun p h => by cases p <;> first | rfl | simp at h, fun _ _ => rfl⟩

theorem State.emits_keeps (s : State) (os : List Out) : Keeps [.out] [] s (s.emits os) :=
  ⟨fun p h => by cases p <;> first | rfl | simp at h, fun _ _ => rfl⟩

/-- A datagram goes out or waits for ARP; nothing else changes (R212). -/
theorem State.sendIp_keeps (s : State) (p ip dp : Nat) (d : List Byte) : Keeps [.out, .arp] [] s (s.sendIp p ip dp d) := by
  unfold State.sendIp
  refine ⟨fun q h => ?_, fun a _ => ?_⟩
  · cases q <;> first | (simp at h; done) | (simp only [Part.same]; split <;> (try split) <;> (try split) <;> rfl)
  · simp only
    split <;> (try split) <;> (try split) <;> rfl

/-- A message is queued, or nothing happens (R22, R118). -/
theorem State.send_keeps (s : State) (m : TxMsg) : Keeps [.tx] [] s (s.send m) := by
  unfold State.send
  split
  · exact ⟨fun q h => by cases q <;> first | rfl | simp at h, fun _ _ => rfl⟩
  · exact Keeps.refl _ _ s

/-! ### Events (R79 to R84) -/

theorem State.holdRecs_keeps (s : State) (rs : List EvRec) : Keeps [.evt] [Reg.evtRingCfg] s (s.holdRecs rs) := by
  unfold State.holdRecs
  split
  · exact ⟨fun q h => by cases q <;> first | rfl | simp at h, fun _ _ => rfl⟩
  · refine Keeps.trans (t := { s with evt := { s.evt with lost := s.evt.lost + rs.length } }) ?_ ?_
    · exact ⟨fun q h => by cases q <;> first | rfl | simp at h, fun _ _ => rfl⟩
    · exact (State.setFld_keeps _ _ _ _ _).mono (by simp) (by simp)

theorem foldl_keeps {α : Type} {ps : List Part} {rs : List Nat} (f : State → α → State) (h : ∀ s x, Keeps ps rs s (f s x)) (l : List α)
    (s : State) : Keeps ps rs s (l.foldl f s) := by
  induction l generalizing s with
  | nil => exact Keeps.refl ps rs s
  | cons x l ih => exact (h s x).trans (ih (f s x))

theorem State.toHost_keeps (s : State) (rs : List EvRec) : Keeps eventParts [Reg.evtRingCfg] s (s.toHost rs) := by
  unfold State.toHost
  split
  · exact (s.holdRecs_keeps rs).mono (by simp [eventParts]) (by simp)
  · rename_i u _
    have hf := foldl_keeps (ps := eventParts) (rs := [Reg.evtRingCfg]) (fun (t : State) p => t.sendIp u.port u.ip u.udpPort p)
      (fun t p => (t.sendIp_keeps _ _ _ _).mono (by simp [eventParts]) (by simp))
      (notifyPackets s (u.src / 4096) u.src (u.src / 4096 * 4096 + leadAddr s.leadNum) u.auth (rs.length + 1) rs) s
    simp only
    split
    · exact hf.trans ((State.holdRecs_keeps _ rs).mono (by simp [eventParts]) (by simp))
    · exact hf

theorem State.tryRecord_keeps (s : State) (k : Nat) : Keeps eventParts [Reg.evtRingCfg] s (s.tryRecord k) := by
  unfold State.tryRecord
  simp only
  split
  · split
    · refine Keeps.trans ?_ (State.toHost_keeps _ _)
      exact ⟨fun q h => by cases q <;> first | rfl | simp [eventParts] at h, fun _ _ => rfl⟩
    · exact ⟨fun q h => by cases q <;> first | rfl | simp [eventParts] at h, fun _ _ => rfl⟩
  · exact Keeps.refl _ _ s

/-- An event touches the event unit, what is sent to a subscriber, and OVERFLOW of EVT_RING_CFG. -/
theorem State.raiseA_keeps (s : State) (k sev detail : Nat) (armed : Bool) :
    Keeps eventParts [Reg.evtRingCfg] s (s.raiseA k sev detail armed) := by
  unfold State.raiseA
  refine Keeps.trans ?_ (State.tryRecord_keeps _ _)
  exact ⟨fun q h => by cases q <;> first | rfl | simp [eventParts] at h, fun _ _ => rfl⟩

theorem State.raise_keeps (s : State) (k sev detail : Nat) : Keeps eventParts [Reg.evtRingCfg] s (s.raise k sev detail) :=
  s.raiseA_keeps k sev detail false

/-! ### Replies (R51, R75, R77, R378) -/

theorem State.reply_keeps (s : State) (r : Req) (status : Nat) (packet : List Byte) :
    Keeps (.tx :: eventParts) [Reg.evtRingCfg] s (s.reply r status packet) := by
  unfold State.reply
  simp only
  split
  · split
    · exact (s.emits_keeps _).mono (by simp [eventParts]) (by simp)
    · split
      · exact (s.emits_keeps _).mono (by simp [eventParts]) (by simp)
      · exact Keeps.trans ((s.emits_keeps _).mono (by simp [eventParts]) (by simp)) ((State.raise_keeps _ _ _ _).mono (by simp [eventParts]) (by simp))
  · split
    · exact Keeps.refl _ _ s
    · exact foldl_keeps _ (fun t p => (t.sendIp_keeps _ _ _ _).mono (by simp [eventParts]) (by simp)) _ s
  · exact (s.send_keeps _).mono (by simp [eventParts]) (by simp)
  · exact Keeps.refl _ _ s

/-- Answering touches what can be sent, the event unit, and the replies held for the mirror: no register but OVERFLOW of EVT_RING_CFG. -/
theorem State.answer_keeps (s0 s : State) (op : Nat) (r : Req) (a : Rsp) :
    Keeps replyParts [Reg.evtRingCfg] s (s0.answer s op r a) := by
  unfold State.answer State.deliver
  split
  · exact ⟨fun q h => by cases q <;> first | rfl | simp [replyParts, eventParts] at h, fun _ _ => rfl⟩
  · exact (s.reply_keeps _ _ _).mono (by simp [replyParts, eventParts]) (by simp)

theorem State.takeReq_keeps (s : State) (code : Nat) (r : Req) : Keeps [.admitted] [] s (s.takeReq code r) :=
  ⟨fun q h => by cases q <;> first | rfl | simp at h, fun _ _ => rfl⟩

/-! ### The course of a request (R58 checks 13 and 14) -/

@[simp] theorem State.preRefusal_takeReq (s : State) (code : Nat) (r q : Req) (o : OpRow) :
    (s.takeReq code r).preRefusal o q = s.preRefusal o q := rfl

@[simp] theorem State.earlyRefusal_takeReq (s : State) (code : Nat) (r q : Req) (o : OpRow) :
    (s.takeReq code r).earlyRefusal o q = s.earlyRefusal o q := rfl

@[simp] theorem State.lateRefusal_takeReq (s : State) (code : Nat) (r q : Req) (o : OpRow) :
    (s.takeReq code r).lateRefusal o q = s.lateRefusal o q := rfl

@[simp] theorem State.strayNearest_takeReq (s : State) (code : Nat) (r q : Req) :
    (s.takeReq code r).strayNearest q = s.strayNearest q := rfl

/-- Nothing refuses a request before its own parameters exactly where neither group of checks does. -/
theorem State.preRefusal_none (s : State) (o : OpRow) (r : Req) :
    s.preRefusal o r = none ↔ s.earlyRefusal o r = none ∧ s.lateRefusal o r = none := by
  unfold State.preRefusal
  cases s.earlyRefusal o r <;> simp

/-- A request that passes the checks repeated at its execution has a length its opcode takes (R49), and a role that takes it (R2). -/
theorem State.earlyRefusal_facts {s : State} {o : OpRow} {r : Req} (h : s.earlyRefusal o r = none) :
    o.lenOk r.payload.length = true ∧ s.fieldLenOk o.code r.payload = true ∧ o.roleOk s = true := by
  unfold State.earlyRefusal at h
  split at h
  · cases h
  · split at h
    · cases h
    · split at h
      · cases h
      · rename_i h1 h2
        simp only [Bool.or_eq_true, Bool.not_eq_true', not_or, Bool.not_eq_false] at h1
        exact ⟨h1.1, h1.2, by simpa using h2⟩

/-- The facts that hold of a request that is ready. -/
theorem Ready.facts {s : State} {code : Nat} {r : Req} {o : OpRow} (h : Ready s code r) (ho : opRow code = some o) :
    s.alive = true ∧ o.lenOk r.payload.length = true ∧ o.roleOk s = true := by
  obtain ⟨o', ho', ha, _, _, hp⟩ := h
  cases ho.symm.trans ho'
  have hf := State.earlyRefusal_facts ((s.preRefusal_none o r).mp hp).1
  exact ⟨ha, hf.1, hf.2.2⟩

/-- A request that is ready runs its effect and is answered. -/
theorem runReq_ready {code : Nat} {r : Req} {s : State} (h : Ready s code r) (f : State → State × Rsp) :
    runReq code r s f = .next ((s.takeReq code r).answer (f (s.takeReq code r)).1 code r (f (s.takeReq code r)).2) := by
  obtain ⟨o, ho, ha, hw, hn, hp⟩ := h
  obtain ⟨he, hl⟩ := (s.preRefusal_none o r).mp hp
  simp [runReq, ho, ha, hw, hn, he, hl]

/-- A request that is ready and answered at once. -/
theorem runReqLater_now {code : Nat} {r : Req} {s : State} (h : Ready s code r) {f : State → State × Option Rsp} {u : State} {a : Rsp}
    (hf : f (s.takeReq code r) = (u, some a)) : runReqLater code r s f = .next ((s.takeReq code r).answer u code r a) := by
  obtain ⟨o, ho, ha, hw, hn, hp⟩ := h
  obtain ⟨he, hl⟩ := (s.preRefusal_none o r).mp hp
  simp [runReqLater, ho, ha, hw, hn, he, hl, hf]

/-- A request that is ready and whose reply comes later. -/
theorem runReqLater_later {code : Nat} {r : Req} {s : State} (h : Ready s code r) {f : State → State × Option Rsp} {u : State}
    (hf : f (s.takeReq code r) = (u, none)) : runReqLater code r s f = .next u := by
  obtain ⟨o, ho, ha, hw, hn, hp⟩ := h
  obtain ⟨he, hl⟩ := (s.preRefusal_none o r).mp hp
  simp [runReqLater, ho, ha, hw, hn, he, hl, hf]

/-- The same of a request whose reply can be held. -/
theorem runReqLater_ready {code : Nat} {r : Req} {s : State} (h : Ready s code r) (f : State → State × Option Rsp) :
    runReqLater code r s f = (match f (s.takeReq code r) with
      | (t, some a) => .next ((s.takeReq code r).answer t code r a)
      | (t, none) => .next t) := by
  rcases e : f (s.takeReq code r) with ⟨t, _ | a⟩
  · exact runReqLater_later h e
  · exact runReqLater_now h e

/-- A request with its effect in place: what `Does` asks. -/
theorem does_run {c : Instr} {code : Nat} {r : Req} {s : State} {f g : State → State × Rsp} (h : Ready s code r)
    (hx : exec c s = runReq code r s f) (e : f (s.takeReq code r) = g (s.takeReq code r)) : Does c code r s g := by
  unfold Does; rw [hx, runReq_ready h, e]

/-- A request that stages a change: what `Stages` asks. -/
theorem stages_of {c : Instr} {code : Nat} {r : Req} {s : State} {x : Change} {f : State → State × Option Rsp} (h : Ready s code r)
    (hx : exec c s = runReqLater code r s f) (e : f (s.takeReq code r) = (s.takeReq code r).stageReply code r x) : Stages c code r s x := by
  refine ⟨fun h1 => ?_, fun h1 => ?_⟩
  · unfold Does; rw [hx]
    rw [runReqLater_now h (u := ((s.takeReq code r).addChange x s.derived s.firstUnbegun)) (a := rspOk)]
    rw [e]; unfold State.stageReply
    exact if_neg (Nat.not_lt.mpr h1)
  · unfold Holds; rw [hx]
    refine runReqLater_later h ?_
    rw [e]; unfold State.stageReply
    exact if_pos h1

end Sys2Proof.Machine
end

