-- ==== Sys2Proof/Laws/Events.lean ====
section
/-! SUPPORT. What an occurrence does to the event sources (R80): its own source counts it, every other source is as before. -/

namespace Sys2Proof.Machine

theorem State.sendIp_evt (s : State) (p ip dp : Nat) (d : List Byte) : (s.sendIp p ip dp d).evt = s.evt := by
  unfold State.sendIp
  simp only
  split
  · rfl
  · split
    · rfl
    · split <;> rfl

theorem State.holdRecs_srcs (s : State) (rs : List EvRec) : (s.holdRecs rs).evt.srcs = s.evt.srcs := by
  unfold State.holdRecs
  split <;> rfl

theorem foldl_evt {α : Type} (f : State → α → State) (h : ∀ t x, (f t x).evt = t.evt) (l : List α) (s : State) : (l.foldl f s).evt = s.evt := by
  induction l generalizing s with
  | nil => rfl
  | cons x l ih => rw [List.foldl_cons, ih, h]

theorem State.toHost_srcs (s : State) (rs : List EvRec) : (s.toHost rs).evt.srcs = s.evt.srcs := by
  unfold State.toHost
  split
  · exact s.holdRecs_srcs rs
  · rename_i u _
    have h := foldl_evt (fun (t : State) p => t.sendIp u.port u.ip u.udpPort p) (fun t p => t.sendIp_evt _ _ _ _)
      (notifyPackets s (u.src / 4096) u.src (u.src / 4096 * 4096 + leadAddr s.leadNum) u.auth (rs.length + 1) rs) s
    simp only
    split
    · rw [State.holdRecs_srcs, h]
    · rw [h]

/-- Forming a record leaves the counts, times, detail and severity of the source, and every other source. -/
theorem State.tryRecord_src (s : State) (k j : Nat) :
    ∃ d a f ts, Map.at (s.tryRecord k).evt.srcs {} j =
      { Map.at s.evt.srcs {} j with dirty := d, armed := a, fepoch := f, times := ts } ∧
      (j ≠ k → Map.at (s.tryRecord k).evt.srcs {} j = Map.at s.evt.srcs {} j) := by
  have base : ∀ m : Map EvSrc, m = s.evt.srcs → ∃ d a f ts, Map.at m {} j = { Map.at s.evt.srcs {} j with dirty := d, armed := a, fepoch := f, times := ts } ∧
      (j ≠ k → Map.at m {} j = Map.at s.evt.srcs {} j) := fun m h => by subst h; exact ⟨_, _, _, _, rfl, fun _ => rfl⟩
  have put : ∀ d a f ts, ∃ d' a' f' ts', Map.at (Map.put s.evt.srcs k { Map.at s.evt.srcs {} k with dirty := d, armed := a, fepoch := f, times := ts }) {} j =
      { Map.at s.evt.srcs {} j with dirty := d', armed := a', fepoch := f', times := ts' } ∧
      (j ≠ k → Map.at (Map.put s.evt.srcs k { Map.at s.evt.srcs {} k with dirty := d, armed := a, fepoch := f, times := ts }) {} j =
        Map.at s.evt.srcs {} j) := by
    intro d a f ts
    by_cases h : j = k
    · subst h; exact ⟨d, a, f, ts, by rw [Map.at_put_same], fun x => absurd rfl x⟩
    · exact ⟨_, _, _, _, by rw [Map.at_put_other _ _ h], fun _ => Map.at_put_other _ _ h _⟩
  unfold State.tryRecord
  simp only
  split
  · split
    · rw [State.toHost_srcs]; exact put _ _ _ _
    · exact put _ _ _ _
  · exact base _ rfl

/-- An occurrence: its source counts it, saturating, with the time, the detail and the severity; FIRST is set where the count was 0 (R80). -/
theorem State.raiseA_src (s : State) (k sev detail : Nat) (armed : Bool) :
    let e := Map.at s.evt.srcs {} k
    let e' := Map.at (s.raiseA k sev detail armed).evt.srcs {} k
    e'.count = min 0xFFFFFFFF (e.count + 1) ∧ e'.first = (if e.count = 0 then s.evTime.1 else e.first) ∧ e'.last = s.evTime.1 ∧
      e'.detail = detail % 4294967296 ∧ e'.sev = sev := by
  simp only [State.raiseA]
  obtain ⟨d, a, f, ts, h, _⟩ := State.tryRecord_src ({ s with evt := { s.evt with srcs := Map.put s.evt.srcs k { Map.at s.evt.srcs {} k with
    count := min 0xFFFFFFFF ((Map.at s.evt.srcs {} k).count + 1), first := if (Map.at s.evt.srcs {} k).count = 0 then s.evTime.1 else (Map.at s.evt.srcs {} k).first,
    last := s.evTime.1, detail := detail % 4294967296, sev := sev, armed := (Map.at s.evt.srcs {} k).armed || armed, tflags := s.evTime.2, dirty := true } } }) k k
  rw [h]
  simp

/-- An occurrence of one source leaves every other source. -/
theorem State.raiseA_other (s : State) {k j : Nat} (h : j ≠ k) (sev detail : Nat) (armed : Bool) :
    Map.at (s.raiseA k sev detail armed).evt.srcs {} j = Map.at s.evt.srcs {} j := by
  unfold State.raiseA
  obtain ⟨_, _, _, _, _, g⟩ := State.tryRecord_src ({ s with evt := { s.evt with srcs := Map.put s.evt.srcs k { Map.at s.evt.srcs {} k with
    count := min 0xFFFFFFFF ((Map.at s.evt.srcs {} k).count + 1), first := if (Map.at s.evt.srcs {} k).count = 0 then s.evTime.1 else (Map.at s.evt.srcs {} k).first,
    last := s.evTime.1, detail := detail % 4294967296, sev := sev, armed := (Map.at s.evt.srcs {} k).armed || armed, tflags := s.evTime.2, dirty := true } } }) k j
  refine (g h).trans ?_
  exact Map.at_put_other _ _ h _

/-! ### ENABLE of the event ring -/

theorem State.sendIp_regs (s : State) (p ip dp : Nat) (d : List Byte) : (s.sendIp p ip dp d).regs = s.regs := by
  unfold State.sendIp
  simp only
  split
  · rfl
  · split
    · rfl
    · split <;> rfl

theorem foldl_regs {α : Type} (f : State → α → State) (h : ∀ t x, (f t x).regs = t.regs) (l : List α) (s : State) : (l.foldl f s).regs = s.regs := by
  induction l generalizing s with
  | nil => rfl
  | cons x l ih => rw [List.foldl_cons, ih, h]

theorem setBits_one_zero (x : Nat) : (BitVec.ofNat 32 (setBits x 1 1 1)).toNat.testBit 0 = (BitVec.ofNat 32 x).toNat.testBit 0 := by
  simp only [setBits, bitsOf, Nat.testBit_eq_decide_div_mod_eq, BitVec.toNat_ofNat]
  congr 1
  apply propext
  omega

theorem State.holdRecs_ring (s : State) (rs : List EvRec) : (s.holdRecs rs).bit Reg.evtRingCfg 0 = s.bit Reg.evtRingCfg 0 := by
  unfold State.holdRecs
  split
  · rfl
  · simp only [State.bit, State.setFld, State.reg_setReg_same]
    rw [setBits_one_zero, BitVec.ofNat_toNat]
    rfl

theorem State.bit_regs {s t : State} (h : t.regs = s.regs) (a i : Nat) : t.bit a i = s.bit a i := by
  unfold State.bit State.reg; rw [h]

theorem State.toHost_ring (s : State) (rs : List EvRec) : (s.toHost rs).bit Reg.evtRingCfg 0 = s.bit Reg.evtRingCfg 0 := by
  unfold State.toHost
  split
  · exact s.holdRecs_ring rs
  · rename_i u _
    have h := foldl_regs (fun (t : State) p => t.sendIp u.port u.ip u.udpPort p) (fun t p => t.sendIp_regs _ _ _ _)
      (notifyPackets s (u.src / 4096) u.src (u.src / 4096 * 4096 + leadAddr s.leadNum) u.auth (rs.length + 1) rs) s
    simp only
    split
    · rw [State.holdRecs_ring]; exact State.bit_regs h _ _
    · exact State.bit_regs h _ _

theorem State.tryRecord_ring (s : State) (k : Nat) : (s.tryRecord k).bit Reg.evtRingCfg 0 = s.bit Reg.evtRingCfg 0 := by
  unfold State.tryRecord
  simp only
  split
  · split
    · rw [State.toHost_ring]; rfl
    · rfl
  · rfl

/-- An occurrence leaves ENABLE of the event ring. -/
theorem State.raiseA_ring (s : State) (k sev detail : Nat) (armed : Bool) :
    (s.raiseA k sev detail armed).bit Reg.evtRingCfg 0 = s.bit Reg.evtRingCfg 0 := by
  unfold State.raiseA
  exact State.tryRecord_ring _ k

end Sys2Proof.Machine
end

