-- ==== Sys2Proof/Laws/Follows.lean ====
section
/-! SUPPORT. What even a reset keeps (R31, R473): the queue and the island stay, the raw counter stays or restarts at 0, the one-time
memory only grows. One lemma per operation of a reset or a boot, one per command that the anchor's lemmas leave out. -/

namespace Sys2Proof.Machine

theorem OtpS.Grew.refl (a : OtpS) : a.Grew a := ⟨Nat.le_refl _, Nat.le_refl _, Nat.le_refl _, fun _ h => h⟩
theorem OtpS.Grew.trans {a b c : OtpS} (h : a.Grew b) (k : b.Grew c) : a.Grew c :=
  ⟨Nat.le_trans h.1 k.1, Nat.le_trans h.2.1 k.2.1, Nat.le_trans h.2.2.1 k.2.2.1, fun i x => k.2.2.2 i (h.2.2.2 i x)⟩

/-- What t keeps of s across any main-side command. -/
def State.Follows (s t : State) : Prop :=
  t.pending = s.pending ∧ t.met = s.met ∧ (t.tmu.raw = s.tmu.raw ∨ t.tmu.raw = 0) ∧ s.otp.Grew t.otp

theorem follows_of_anchor {s t : State} (h : t.anchor = s.anchor) : s.Follows t := by
  simp only [State.anchor, Prod.mk.injEq] at h
  obtain ⟨a, b, c, d, _⟩ := h
  exact ⟨a, b, .inl c, d ▸ .refl _⟩
theorem State.Follows.refl (s : State) : s.Follows s := follows_of_anchor rfl
theorem State.Follows.trans {s t u : State} (h : s.Follows t) (k : t.Follows u) : s.Follows u := by
  obtain ⟨a, b, c, d⟩ := h
  obtain ⟨a', b', c', d'⟩ := k
  refine ⟨a'.trans a, b'.trans b, ?_, d.trans d'⟩
  rcases c' with c' | c'
  · rw [c']; exact c
  · exact .inr c'
/-- Only the phase and the role differ from an anchored state. -/
theorem follows_mk {s t : State} (h1 : t.pending = s.pending) (h2 : t.met = s.met) (h3 : t.tmu.raw = s.tmu.raw) (h4 : t.otp = s.otp) :
    s.Follows t := ⟨h1, h2, .inl h3, h4 ▸ .refl _⟩
/-- A next state follows. -/
def Followed (s : State) : Res → Prop | .next t => s.Follows t | _ => True
theorem followed_of_anchored {s : State} {r : Res} (h : Anchored s r) : Followed s r := by
  cases r with
  | next t => exact follows_of_anchor h
  | _ => trivial

theorem State.mainReset_follows (s : State) (c : Bool) (n : Nat) : s.Follows (s.mainReset c n) := by
  refine (follows_of_anchor (State.openStores_anchor s)).trans ?_
  unfold State.mainReset
  generalize s.openStores = u
  refine ⟨rfl, rfl, ?_, .refl _⟩
  cases c
  · exact .inl rfl
  · exact .inr rfl
theorem State.redoErase_follows (s : State) : s.Follows s.redoErase := follows_of_anchor (State.redoErase_anchor s)
theorem State.bootPorts_follows (s : State) : s.Follows s.bootPorts := follows_of_anchor (State.bootPorts_anchor s)
theorem State.raise_follows (s : State) (a b c : Nat) : s.Follows (s.raise a b c) := follows_of_anchor (State.raise_anchor ..)
theorem State.raiseA_follows (s : State) (a b c : Nat) (d : Bool) : s.Follows (s.raiseA a b c d) := follows_of_anchor (State.raiseA_anchor ..)
theorem State.enterRecovery_follows (s : State) (a b : Nat) : s.Follows (s.enterRecovery a b) :=
  (follows_mk rfl rfl rfl rfl).trans (State.raise_follows _ _ _ _)
theorem State.enterFirmware_follows (s : State) (k : Nat) (b : Bool) : s.Follows (s.enterFirmware k b) := by
  unfold State.enterFirmware
  extract_lets x _ _ s1 s2 _ s3 s4
  clear_value x
  have h1 : s.Follows s1 := follows_mk rfl rfl rfl rfl
  have h2 : s1.Follows s2 := by
    simp only [s2]; split
    · exact .refl _
    · exact follows_of_anchor (State.setImgSlot_anchor ..)
  have h3 : s2.Follows s3 := by
    clear h2
    simp only [s3]; clear s4 s3; clear_value s2
    generalize hn : x.arb = n; clear hn x
    split
    · exact .refl _
    · rename_i h
      refine State.Follows.trans ?_ (follows_of_anchor ((State.raise_anchor _ _ _ _).trans (State.dropOld_anchor _)))
      exact ⟨rfl, rfl, .inl rfl, by
        refine ⟨?_, Nat.le_refl _, Nat.le_refl _, fun _ h => h⟩
        simp only [not_or, Nat.not_le] at h
        exact Nat.le_of_lt h.2.2⟩
  have h4 : s3.Follows s4 := follows_of_anchor (State.matchSchema_anchor _ _)
  have h := (h1.trans h2).trans (h3.trans h4)
  clear_value s4
  exact h.trans ((State.raise_follows _ _ _ _).trans (State.raise_follows _ _ _ _))
theorem State.fallTo_follows (s : State) (k : Nat) (o : Option Nat) : s.Follows (s.fallTo k o) := by
  cases o with
  | none => exact (State.enterFirmware_follows s k false).trans (State.raiseA_follows _ _ _ _ _)
  | some w => exact State.enterRecovery_follows _ _ _
theorem State.fallBack_follows (s : State) : s.Follows s.fallBack := by
  unfold State.fallBack
  extract_lets k _ t
  have h : s.Follows t := (follows_mk rfl rfl rfl rfl).trans (follows_of_anchor (State.tryCommit_anchor _ _))
  clear_value t k
  exact h.trans (State.fallTo_follows _ _ _)
theorem State.enterSlot_follows (s : State) (k : Nat) (b : Bool) (o : Option Nat) : s.Follows (s.enterSlot k b o) := by
  cases o with
  | none => exact State.enterFirmware_follows _ _ _
  | some w =>
    unfold State.enterSlot
    dsimp only
    split
    · exact State.fallBack_follows _
    · exact State.enterRecovery_follows _ _ _
theorem State.useTrial_follows (s : State) : s.Follows s.useTrial := follows_of_anchor (State.useTrial_anchor s)
theorem State.selectSlot_follows (s : State) : s.Follows s.selectSlot := by
  unfold State.selectSlot
  split
  · exact State.fallBack_follows s
  · exact (State.useTrial_follows s).trans (State.enterSlot_follows _ _ _ _)
theorem State.bootLoad_follows (s : State) (k : Bool) : s.Follows (s.bootLoad k) := by
  unfold State.bootLoad
  split
  · exact State.enterRecovery_follows _ _ _
  · exact State.enterSlot_follows _ _ _ _
theorem State.boot_follows (s : State) (c k : Bool) : s.Follows (s.boot c k) := by
  unfold State.boot
  extract_lets bad role _ _ t0 t
  have h0 : s.Follows t0 := follows_mk rfl rfl rfl rfl
  have h : s.Follows t := h0.trans ((State.redoErase_follows _).trans (State.bootPorts_follows _))
  (repeat' split) <;> refine h.trans ?_
  · exact State.raise_follows _ _ _ _
  · exact State.selectSlot_follows _
  · exact State.bootLoad_follows _ _
  · exact State.enterRecovery_follows _ _ _
theorem State.warmReset_follows (s : State) (n : Nat) : s.Follows (s.warmReset n) :=
  (State.mainReset_follows s false n).trans (State.boot_follows _ _ _)
theorem runReq_followed {code : Nat} {r : Req} {s : State} {f : State → State × Rsp} (h : ∀ u : State, u.Follows (f u).1) :
    Followed s (runReq code r s f) := by
  unfold runReq
  split
  · exact .refl _
  · split
    · extract_lets u
      have hu : s.Follows u := follows_of_anchor (State.takeReq_anchor _ _ _)
      split
      · exact hu.trans (follows_of_anchor (State.judgeReq_anchor ..))
      · split
        · exact hu.trans (follows_of_anchor (State.answerPlain_anchor ..))
        · split
          · exact hu.trans (follows_of_anchor (State.answer_anchor ..))
          · exact hu.trans ((h u).trans (follows_of_anchor (State.answer_anchor ..)))
    · exact .refl _

theorem execPowerOnReset_followed (s : State) : Followed s (execPowerOnReset s) := State.mainReset_follows _ _ _
theorem execPoresetNAssert_followed (s : State) : Followed s (execPoresetNAssert s) :=
  (State.mainReset_follows s true 1).trans (follows_mk rfl rfl rfl rfl)
theorem execPoresetNRise_followed (a b : Nat) (s : State) : Followed s (execPoresetNRise a b s) := by
  unfold execPoresetNRise
  split
  · exact .refl _
  · extract_lets _ t
    have h : s.Follows t := follows_mk rfl rfl rfl rfl
    show s.Follows _
    split
    · exact h
    · exact h.trans (State.boot_follows _ _ _)
theorem execWresetNAssert_followed (a : Nat) (s : State) : Followed s (execWresetNAssert a s) := by
  unfold execWresetNAssert
  split
  · exact .refl _
  · exact State.warmReset_follows _ _
theorem execWarmReset_followed (r : Req) (s : State) : Followed s (execWarmReset r s) := by
  unfold execWarmReset
  have h : Anchored s (runReqLater 0x0008 r s fun s => (s, none)) := runReqLater_anchor fun _ => rfl
  generalize runReqLater 0x0008 r s (fun s => (s, none)) = x at h
  cases x with
  | next t =>
    dsimp only
    split
    · split
      · refine (follows_of_anchor h).trans (State.Follows.trans ?_ (State.warmReset_follows _ _))
        exact follows_of_anchor ((State.flushCells_anchor _ _).trans (State.answer_anchor ..))
      · exact follows_of_anchor h
    · exact follows_of_anchor h
  | _ => trivial
theorem execImgActivate_followed (r : Req) (s : State) : Followed s (execImgActivate r s) := by
  unfold execImgActivate
  refine runReq_followed fun u => ?_
  extract_lets mode trials f t
  have ht : u.Follows t := State.mainReset_follows _ _ _
  clear_value t
  split
  · exact .refl _
  · split
    · exact .refl _
    · split
      · exact .refl _
      · split
        · exact .refl _
        · split
          · split
            · exact (ht.trans (follows_mk rfl rfl rfl rfl)).trans (State.boot_follows _ _ _)
            · exact follows_of_anchor (State.wrongState_anchor u)
          · split
            · exact follows_of_anchor (State.wrongState_anchor u)
            · split
              · exact .refl _
              · split
                · exact .refl _
                · split
                  · exact follows_of_anchor (State.flashFail_anchor _ _)
                  · exact State.Follows.trans (follows_of_anchor ((State.commit_anchor _ _).trans (anchor_mk rfl rfl rfl)))
                      (State.raise_follows _ _ _ _)
theorem execActivationInstant_followed (s : State) : Followed s (execActivationInstant s) := by
  unfold execActivationInstant
  (repeat' split) <;> first
    | exact .refl _
    | exact State.warmReset_follows _ _
    | exact (follows_mk rfl rfl rfl rfl).trans (State.raise_follows _ _ _ _)
theorem State.stickSupply_follows (s : State) (n : Nat) : s.Follows (s.stickSupply n) := follows_of_anchor (State.stickSupply_anchor ..)
theorem execSupplyOutOfRange_followed (n : Nat) (s : State) : Followed s (execSupplyOutOfRange n s) := by
  unfold execSupplyOutOfRange
  split
  · exact .refl _
  · extract_lets _ t
    have h : s.Follows t := follows_mk rfl rfl rfl rfl
    (repeat' split) <;> refine h.trans ?_
    · exact (State.mainReset_follows _ _ _).trans (State.stickSupply_follows _ _)
    · exact (State.mainReset_follows _ _ _).trans (State.stickSupply_follows _ _)
    · exact State.stickSupply_follows _ _
    · exact State.stickSupply_follows _ _
    · exact (State.stickSupply_follows _ _).trans ((follows_of_anchor ((State.holdFed_anchor _ _).trans (State.goInert_anchor _))).trans
        (State.raise_follows _ _ _ _))
theorem execSupplyBackInRange_followed (n a b : Nat) (s : State) : Followed s (execSupplyBackInRange n a b s) := by
  unfold execSupplyBackInRange
  split
  · exact .refl _
  · extract_lets _ t
    have h : s.Follows t := follows_mk rfl rfl rfl rfl
    (repeat' split) <;> refine h.trans ?_
    · exact .refl _
    · exact (follows_mk rfl rfl rfl rfl).trans (State.boot_follows _ _ _)
    · exact .refl _
    · exact State.raise_follows _ _ _ _
theorem execDebugGateComplete_followed (s : State) : Followed s (execDebugGateComplete s) := by
  unfold execDebugGateComplete
  (repeat' split) <;> first
    | exact .refl _
    | (refine State.Follows.trans ?_ (follows_of_anchor ((State.complete_anchor ..).trans ((State.raise_anchor ..).trans
         (State.tryCommit_anchor ..))))
       refine ⟨rfl, rfl, .inl rfl, ?_⟩
       first
       | exact ⟨Nat.le_refl _, Nat.le_succ _, Nat.le_refl _, fun _ h => h⟩
       | exact ⟨Nat.le_refl _, Nat.le_refl _, Nat.le_succ _, fun _ h => h⟩)
theorem confirm_follows (u : State) (fl : FlashS) (se : SecS) (a e : Nat) :
    u.Follows { u with flash := fl, sec := se, otp := { u.otp with arb := max u.otp.arb a, rootRevoke := u.otp.rootRevoke ||| e } } := by
  refine ⟨rfl, rfl, .inl rfl, Nat.le_max_left _ _, Nat.le_refl _, Nat.le_refl _, fun i hi => ?_⟩
  show (u.otp.rootRevoke ||| _).testBit i = true
  rw [Nat.testBit_or, hi, Bool.true_or]
theorem execImgConfirm_followed (r : Req) (s : State) : Followed s (execImgConfirm r s) := by
  unfold execImgConfirm
  refine runReq_followed fun u => ?_
  split
  · split
    · exact follows_of_anchor (State.flashFail_anchor ..)
    · extract_lets _ _ _ _ _ _ t t'
      have ht : u.Follows t := confirm_follows ..
      have h : u.Follows t' := by
        simp only [t']
        clear_value t
        exact ht.trans (follows_of_anchor ((State.commit_anchor _ _).trans (State.dropOld_anchor _)))
      clear_value t t'
      dsimp only
      split
      · exact h
      · exact h.trans (State.raise_follows _ _ _ _)
  · exact .refl _

end Sys2Proof.Machine
end

