-- ==== Sys2Proof/Laws/Island.lean ====
section
/-! SUPPORT. What writing records leaves unchanged in the metrology island. -/

namespace Sys2Proof.Machine

/-- Writing a record touches only the log, its newest sequence number and that record's MONO. -/
theorem MetS.write_form (m : MetS) (k q : Nat) (b : List Byte) :
    ∃ l n t, m.write k q b = { m with log := l, rseq := n, lastMono := t } := ⟨_, _, _, rfl⟩

theorem MetS.foldl_form {α : Type} (f : MetS → α → MetS) (hf : ∀ m a, ∃ l n t, f m a = { m with log := l, rseq := n, lastMono := t }) :
    ∀ (xs : List α) (m : MetS), ∃ l n t, xs.foldl f m = { m with log := l, rseq := n, lastMono := t }
  | [], m => ⟨m.log, m.rseq, m.lastMono, rfl⟩
  | x :: xs, m => by
    obtain ⟨l, n, t, e⟩ := hf m x
    obtain ⟨l', n', t', e'⟩ := MetS.foldl_form f hf xs (f m x)
    exact ⟨l', n', t', by rw [List.foldl_cons, e', e]⟩

/-- Closing a period touches the log, PER_IMP, the gap, the period number, and where the next period begins (R418). -/
theorem MetS.closePeriod_form (m : MetS) : ∃ l n t, m.closePeriod = { m with
    log := l, rseq := n, lastMono := t,
    meter := { m.meter with ch := m.meter.ch.map (fun c => { c with perImp := 0 }), gap := 0, period := m.meter.period + 1 },
    perStart := m.meter.mono, perLabel := match m.label with | some x => x.time | none => 0 } := by
  have h : ∃ l n t, (List.range 4).foldl (fun x q => MetS.write x 0x02 q ((MetS.closePeriod.slice' m.meter.zones q).flatMap b8))
      (m.write 0x01 0 (m.meter.energyBytes ++ b8 m.meter.zoneSum ++ b4 m.meter.gap ++ timeBytes m.perLabel)) =
        { m with log := l, rseq := n, lastMono := t } := by
    obtain ⟨l, n, t, e⟩ := MetS.write_form m 0x01 0 (m.meter.energyBytes ++ b8 m.meter.zoneSum ++ b4 m.meter.gap ++ timeBytes m.perLabel)
    rw [e]
    exact MetS.foldl_form _ (fun x q => MetS.write_form x _ _ _) _ _
  obtain ⟨l, n, t, h⟩ := h
  let next (x : MetS) : MetS := { x with
    meter := { m.meter with ch := m.meter.ch.map (fun c => { c with perImp := 0 }), gap := 0, period := m.meter.period + 1 },
    perStart := m.meter.mono, perLabel := match m.label with | some x => x.time | none => 0 }
  exact ⟨l, n, t, congrArg next h⟩

@[simp] theorem MetS.closePeriod_params (m : MetS) : m.closePeriod.params = m.params := by
  obtain ⟨_, _, _, e⟩ := m.closePeriod_form; rw [e]

@[simp] theorem MetS.closePeriod_sealPin (m : MetS) : m.closePeriod.sealPin = m.sealPin := by
  obtain ⟨_, _, _, e⟩ := m.closePeriod_form; rw [e]

@[simp] theorem MetS.accumulate_mono (m : MetS) (xs : List (List (Int × Int))) : (m.accumulate xs).meter.mono = m.meter.mono + 1 := rfl

end Sys2Proof.Machine
end

