-- ==== Sys2Proof/Laws/Memory.lean ====
section
/-! SUPPORT. Every operation on the DRAM and on the register file keeps its canonical form; bytes written are read back. -/

namespace Sys2Proof.Machine

/-! ### Canonical form -/

theorem Memory.wf_store {m : Map Byte} (a : Nat) (b : Byte) (h : Memory.wf m = true) : Memory.wf (Map.store (fun _ => 0) m a b) = true := by
  simp only [Memory.wf, Bool.and_eq_true] at *
  exact ⟨Map.rising_store _ a b h.1, Map.all_store (fun _ => (0 : Byte)) a b h.2⟩

theorem Memory.wf_stores (l : List (Nat × Byte)) {m : Map Byte} (h : Memory.wf m = true) :
    Memory.wf (l.foldl (fun m x => Map.store (fun _ => (0 : Byte)) m x.1 x.2) m) = true := by
  induction l generalizing m with
  | nil => exact h
  | cons x l ih => exact ih (Memory.wf_store x.1 x.2 h)

theorem Map.risingFrom_filter {α : Type} (p : Nat × α → Bool) {m : Map α} {b : Nat} (h : Map.risingFrom b m = true) :
    Map.risingFrom b (m.filter p) = true := by
  induction m generalizing b with
  | nil => rfl
  | cons e m ih =>
    obtain ⟨k, v⟩ := e
    simp only [Map.risingFrom, Bool.and_eq_true, decide_eq_true_eq] at h
    simp only [List.filter_cons]
    split
    · simp only [Map.risingFrom, Bool.and_eq_true, decide_eq_true_eq]
      exact ⟨h.1, ih h.2⟩
    · exact Map.risingFrom_mono (by omega) (ih h.2)

theorem Memory.wf_filter (p : Nat × Byte → Bool) {m : Map Byte} (h : Memory.wf m = true) : Memory.wf (m.filter p) = true := by
  simp only [Memory.wf, Bool.and_eq_true, List.all_eq_true] at *
  exact ⟨Map.risingFrom_filter p h.1, fun x hx => h.2 x (List.mem_filter.mp hx).1⟩

theorem State.raise_mem (s : State) (k sev detail : Nat) : (s.raise k sev detail).mem = s.mem :=
  (s.raise_keeps k sev detail).1 .mem (by simp [eventParts])

theorem State.setChan_dram (s : State) (n : Nat) (x : Chan) : (s.setChan n x).mem.dram = s.mem.dram := rfl

theorem State.dropWrite_dram (s : State) (n : Nat) : (s.dropWrite n).mem.dram = s.mem.dram := by
  unfold State.dropWrite
  extract_lets c t
  split
  · rw [State.raise_mem, State.setChan_dram, State.bump_mem]
  · rw [State.setChan_dram, State.bump_mem]

theorem State.memSet_wf (s : State) (a : Nat) (b : Byte) (h : Memory.wf s.mem.dram = true) : Memory.wf (s.memSet a b).mem.dram = true := by
  unfold State.memSet
  split
  · exact Memory.wf_store a b h
  · split
    · rw [State.dropWrite_dram]; exact h
    · exact h
  · exact h

theorem State.memWriteFrom_wf (s : State) (a : Nat) (l : List Byte) (h : Memory.wf s.mem.dram = true) :
    Memory.wf (s.memWriteFrom a l).mem.dram = true := by
  induction l generalizing s a with
  | nil => exact h
  | cons b bs ih => exact ih _ _ (State.memSet_wf s a b h)

/-- A write of bytes keeps the canonical form. -/
theorem State.memWrite_wf (s : State) (a : Nat) (l : List Byte) (h : Memory.wf s.mem.dram = true) : Memory.wf (s.memWrite a l).mem.dram = true := by
  unfold State.memWrite
  extract_lets part
  split
  · exact State.memWriteFrom_wf _ _ _ (by rw [State.dropWrite_dram]; exact h)
  · exact State.memWriteFrom_wf _ _ _ h

theorem State.drainChan_wf (s : State) (n : Nat) (h : Memory.wf s.mem.dram = true) : Memory.wf (s.drainChan n).mem.dram = true := by
  unfold State.drainChan
  simp only
  (repeat' split) <;> exact h

/-- A reset keeps the canonical form (R358). -/
theorem State.mainReset_wf (s : State) (c : Bool) (n : Nat) (h : Memory.wf s.mem.dram = true) : Memory.wf (s.mainReset c n).mem.dram = true := by
  have fold : ∀ (l : List Nat) (t : State), Memory.wf t.mem.dram = true → Memory.wf (l.foldl State.drainChan t).mem.dram = true := by
    intro l
    induction l with
    | nil => intro t h; exact h
    | cons w l ih => intro t h; exact ih _ (State.drainChan_wf t _ h)
  have ho : s.openStores.mem = s.mem := by
    have hs (u : State) (o : Option StoreData) : (u.openStore o).mem = u.mem := by unfold State.openStore; split <;> rfl
    simp only [State.openStores, hs]
  cases c
  · exact fold (List.range 4) s.openStores (by rw [ho]; exact h)
  · rfl

/-- What the mirror brings keeps the canonical form (R376). -/
theorem State.applyData_wf (s : State) (lo hi : Nat) (l : List (Nat × Byte)) (h : Memory.wf s.mem.dram = true) :
    Memory.wf (s.applyLive (.data lo hi l)).mem.dram = true :=
  Memory.wf_stores l (Memory.wf_filter _ h)

/-- A store to a register keeps the canonical form of the register file. -/
theorem State.setReg_wf (s : State) (a : Nat) (w : Word) (h : regsWf s.regs = true) : regsWf (s.setReg a w).regs = true := by
  simp only [regsWf, Bool.and_eq_true] at *
  exact ⟨Map.rising_store _ a w h.1, Map.all_store regReset a w h.2⟩

/-! ### Reading back -/

theorem State.memByte_memPut (s : State) (a c : Nat) (b : Byte) : (s.memPut a b).memByte c = if c = a then b else s.memByte c := by
  unfold State.memByte State.memPut Map.at
  split
  · subst_vars; exact Map.getD_store_same (fun _ => (0 : Byte)) s.mem.dram _ b
  · rename_i h; simp only; rw [Map.find_store_other _ _ h]

theorem State.memByte_memWriteFrom (s : State) (a c : Nat) (l : List Byte) (h : ∀ i < l.length, (s.chan (s.chanOf (a + i))).st = .run) :
    (s.memWriteFrom a l).memByte c = if a ≤ c ∧ c < a + l.length then l.getD (c - a) 0 else s.memByte c := by
  induction l generalizing s a with
  | nil =>
    have : ¬(a ≤ c ∧ c < a + ([] : List Byte).length) := by simp only [List.length_nil]; omega
    rw [if_neg this]; rfl
  | cons b bs ih =>
    have h0 : s.memSet a b = s.memPut a b := by
      unfold State.memSet
      rw [show (s.chan (s.chanOf a)).st = .run from h 0 (by simp)]
    unfold State.memWriteFrom
    rw [h0, ih (s.memPut a b) (a + 1) (fun i hi => by
      have := h (i + 1) (by simpa using hi)
      rw [show a + 1 + i = a + (i + 1) by omega]; exact this), State.memByte_memPut]
    by_cases e : c = a
    · subst e
      have : ¬(c + 1 ≤ c ∧ c < c + 1 + bs.length) := by omega
      simp [this]
    · by_cases r : a + 1 ≤ c ∧ c < a + 1 + bs.length
      · have r' : a ≤ c ∧ c < a + (b :: bs).length := by simp only [List.length_cons]; omega
        rw [if_pos r, if_pos r']
        obtain ⟨k, rfl⟩ : ∃ k, c = a + 1 + k := ⟨c - (a + 1), by omega⟩
        simp [show a + 1 + k - a = k + 1 by omega]
      · have r' : ¬(a ≤ c ∧ c < a + (b :: bs).length) := by simp only [List.length_cons]; omega
        rw [if_neg r, if_neg r', if_neg e]

/-- Bytes written through running channels are read back, and no other byte changes. -/
theorem State.memByte_memWrite (s : State) (a c : Nat) (l : List Byte) (h : ∀ i < l.length, (s.chan (s.chanOf (a + i))).st = .run) :
    (s.memWrite a l).memByte c = if a ≤ c ∧ c < a + l.length then l.getD (c - a) 0 else s.memByte c := by
  have hp : (!l.isEmpty && a % 64 != 0 && (s.chan (s.chanOf a)).st == .hold) = false := by
    cases l with
    | nil => rfl
    | cons b bs => rw [show (s.chan (s.chanOf a)).st = .run from h 0 (by simp)]; simp
  unfold State.memWrite
  simp only [hp]
  exact State.memByte_memWriteFrom s a c l h

end Sys2Proof.Machine
end

