-- ==== Sys2Proof/Tests/Slice0.lean ====
section
/-! SUPPORT. Tests: well-formedness refuses an ill-formed term for each of its checks; known answers of the spec; and for every statement of
Certificates/Slice0/Obligations.lean a witness that meets its hypotheses, clause by clause. -/

namespace Sys2Proof.Machine
set_option Elab.async false
set_option maxRecDepth 20000
set_option linter.unusedVariables false

/-! Well-formedness -/

/-- A request beyond the longest payload. -/
def longReq : Req := { payload := zeros 4097 }

/-- A request that says AUTH and carries no tag. -/
def untagged : Req := { flags := 0x40 }

/-- A burst request. -/
def req0 : MemReq := { addr := 0, client := .scanOut, write := false }

/-- The shortest frame. -/
def frame0 : EthFrame := { dstMac := 0, kind := .other }

/-- An RTP packet without sample rows. -/
def rtp0 : RtpPkt := { pt := 0, seq := 0, ts := 0, marker := false, srds := [] }

theorem test_wellFormed_a : ([
  .poresetNRise 0 0, .supplyOutOfRange 0, .supplyBackInRange 0 0 0, .pllLossOfLock 0, .coreFault 0 0,
  .temperatureMeasurement (List.replicate 12 none), .pcieEndpointReset 0, .descriptorFetch 0 none none, .cmdRingEnable 0 0,
  .udpCommandDatagram 0 0 0 0 0 false [], .undefinedOpcode 0 {}, .registerWrite 0 0 0, .rateLimitRelease 0, .prtCfgFuncWrite 0 0,
  .prtCfgFecEnWrite 0 false, .portQualified 0, .portOpenTimeout 0 false, .linkLost 0 false] : List Instr).all Instr.wf = true := by decide +kernel

theorem test_wellFormed_b : ([
  .linkQualifiesAgain 0, .syncMarkerReceived 0 0 (zeros 8), .superframeLockLost 0, .markerError 0 (zeros 8), .slotTransmit 0 0,
  .cellReceived 0 0 0 (zeros 276), .transitEgress 0 0 0, .eclipseMarkerReceived 0 (zeros 8), .prtCntClr 0 0, .tmuNowRead 0, .shrefEdgeCapture 0 0,
  .tmuCapPop 0, .timeSyncSend 0 false, .pdreqSend 0, .ptpMessageReceived 4 {}, .leadSubframeCut 0 0 0, .ingestFrameReceived 4 frame0,
  .streamEnable 0 0] : List Instr).all Instr.wf = true := by decide +kernel

theorem test_wellFormed_c : ([
  .streamDisable 0 0, .streamPacketReceived 0 0 rtp0, .packetLossDeclared 0, .legLoss 0 0, .lockWindowEnd 0, .ingStrCntClr 0 0, .composeTile 0 0 0 0,
  .encodeSubframe 0 false, .transportGroupDecode 0 0 0, .surfaceBlockPack 0 0, .subframeProcessBegin 0 0, .subframeWriteComplete 0 0 0,
  .pipelineCheckFailure 0 0 0 false, .zoneStale 0, .windowCut false 0, .dramRequestIssue 0 [], .requestPromotion 0,
     .dramReadComplete 0 []] : List Instr).all Instr.wf = true := by decide +kernel

theorem test_wellFormed_d : ([
  .refreshDue 0 0, .retrainDue 0, .retrainWindow 0 none, .retrainForced 0 none, .powerDownEntry 0 0, .caParityAlert 0, .scrubRead 0,
  .memChCntClr 0 0, .irefTargetWrite 0 0, .integrationBoundary (List.replicate 4 []) 0, .dutyFrame (List.replicate 64 0) false false,
  .requestFrame [] false, .plainBeaconReceived 0 (zeros 8), .beaconLoss 0, .wakeBeaconReceived 0 (zeros 8), .resumeBeaconReceived 0 (zeros 8),
  .pllLockRegained 0, .coreRestartComplete 0] : List Instr).all Instr.wf = true := by decide +kernel

/-- One check of each command fails here. -/
theorem test_illFormed_a : ([
  .poresetNRise 4 0, .poresetNRise 0 4, .supplyOutOfRange 11, .supplyBackInRange 11 0 0, .supplyBackInRange 0 4 0, .supplyBackInRange 0 0 4,
  .pllLossOfLock 16, .coreFault 2 0, .coreFault 0 3, .temperatureMeasurement [], .pcieEndpointReset 3, .descriptorFetch 16 none none,
  .descriptorFetch 0 (some []) none, .cmdRingEnable 16 0, .udpCommandDatagram 8 0 0 0 0 false [], .undefinedOpcode 65536 {},
  .undefinedOpcode 0x0999 longReq, .registerWrite 16777216 0 0] : List Instr).all (fun i => !i.wf) = true := by decide +kernel

/-- One check of each command fails here. -/
theorem test_illFormed_b : ([
  .registerWrite 2 0 0, .registerWrite 0 16 0, .rateLimitRelease 1024, .prtCfgFuncWrite 8 0, .prtCfgFuncWrite 0 16, .prtCfgFecEnWrite 8 false,
  .portQualified 8, .portOpenTimeout 8 false, .linkLost 8 false, .linkQualifiesAgain 8, .syncMarkerReceived 8 0 (zeros 8),
  .syncMarkerReceived 0 0 [], .superframeLockLost 8, .markerError 8 (zeros 8), .markerError 0 [], .slotTransmit 8 0, .cellReceived 8 0 0 (zeros 276),
  .cellReceived 0 16 0 (zeros 276)] : List Instr).all (fun i => !i.wf) = true := by decide +kernel

/-- One check of each command fails here. -/
theorem test_illFormed_c : ([
  .cellReceived 0 0 0 [], .transitEgress 8 0 0, .transitEgress 0 0 5, .eclipseMarkerReceived 8 (zeros 8), .eclipseMarkerReceived 0 [],
  .prtCntClr 8 0, .tmuNowRead 48, .tmuNowRead 2, .shrefEdgeCapture 4 0, .tmuCapPop 4, .timeSyncSend 8 false, .pdreqSend 8, .ptpMessageReceived 3 {},
  .ptpMessageReceived 8 {}, .ptpMessageReceived 4 { kind := 4 }, .leadSubframeCut 4 0 0, .leadSubframeCut 0 4 0, .leadSubframeCut 0 0 8192] : List Instr).all (fun i => !i.wf) = true := by decide +kernel

/-- One check of each command fails here. -/
theorem test_illFormed_d : ([
  .ingestFrameReceived 3 frame0, .ingestFrameReceived 8 frame0, .ingestFrameReceived 4 { frame0 with len := 63 }, .streamEnable 4 0,
  .streamDisable 4 0, .streamPacketReceived 4 0 rtp0, .streamPacketReceived 0 2 rtp0, .streamPacketReceived 0 0 { rtp0 with pt := 128 },
  .packetLossDeclared 4, .legLoss 4 0, .legLoss 0 2, .lockWindowEnd 4, .ingStrCntClr 4 0, .composeTile 0 4 0 0, .composeTile 0 0 4 0,
  .composeTile 0 0 0 64, .encodeSubframe 8 false, .transportGroupDecode 4 0 0] : List Instr).all (fun i => !i.wf) = true := by decide +kernel

/-- One check of each command fails here. -/
theorem test_illFormed_e : ([
  .transportGroupDecode 0 8192 0, .transportGroupDecode 0 0 1024, .surfaceBlockPack 4 0, .subframeProcessBegin 4 0, .subframeProcessBegin 0 8192,
  .subframeWriteComplete 4 0 0, .pipelineCheckFailure 4 0 0 false, .pipelineCheckFailure 0 0 1024 false, .zoneStale 64, .windowCut false 64,
  .dramRequestIssue 4 [], .dramRequestIssue 0 [{ req0 with addr := 32 }], .requestPromotion 4, .dramReadComplete 4 [], .refreshDue 4 0,
  .refreshDue 0 2, .retrainDue 4, .retrainWindow 4 none] : List Instr).all (fun i => !i.wf) = true := by decide +kernel

/-- One check of each command fails here. -/
theorem test_illFormed_f : ([
  .retrainForced 4 none, .powerDownEntry 4 0, .powerDownEntry 0 2, .caParityAlert 4, .scrubRead 4, .memChCntClr 4 0, .irefTargetWrite 16 0,
  .integrationBoundary [] 0, .dutyFrame [] false false, .requestFrame (zeros 4097) false, .plainBeaconReceived 8 (zeros 8),
  .plainBeaconReceived 0 [], .beaconLoss 8, .wakeBeaconReceived 8 (zeros 8), .wakeBeaconReceived 0 [], .resumeBeaconReceived 8 (zeros 8),
  .resumeBeaconReceived 0 [], .pllLockRegained 16] : List Instr).all (fun i => !i.wf) = true := by decide +kernel

/-- One check of each command fails here. -/
theorem test_illFormed_g : ([
  .coreRestartComplete 2] : List Instr).all (fun i => !i.wf) = true := by decide +kernel

theorem test_requests_a : ([
  Instr.nop, Instr.getInfo, Instr.regRead, Instr.regWrite, Instr.halt, Instr.resume, Instr.arm, Instr.coreRestart, Instr.warmReset, Instr.credStatus,
  Instr.probeNearest, Instr.assignAddress, Instr.portOpen, Instr.portClose, Instr.releaseAddress, Instr.topoRead, Instr.eclipseSend,
  Instr.eclipseClear, Instr.timeRead, Instr.timeSet, Instr.timeRate, Instr.timeSelect, Instr.ptpConfig, Instr.pathCal, Instr.timeStatus,
  Instr.lchConfig, Instr.lchStart, Instr.lchStop, Instr.shrefConfig, Instr.lchStatus] : List (Req → Instr)).all (fun c => (c {}).wf && !(c longReq).wf && !(c untagged).wf) = true := by decide +kernel

theorem test_requests_b : ([
  Instr.surfaceAlloc, Instr.surfaceWrite, Instr.layerConfig, Instr.flip, Instr.fenceSignal, Instr.meshLoad, Instr.streamConfig, Instr.protLayerSet,
  Instr.protLayerClear, Instr.coderConfig, Instr.coderStatus, Instr.lppConfig, Instr.lutLoad, Instr.almanacLoad, Instr.almanacEnable, Instr.zoneRead,
  Instr.emsConfig, Instr.emitEnable, Instr.emitDisable, Instr.setupTransfer, Instr.driverStatus, Instr.memConfig, Instr.memStatus, Instr.memRelease,
  Instr.scrubConfig, Instr.pairConfig, Instr.pairStatus, Instr.pairHandover, Instr.stateSave, Instr.stateRestore] : List (Req → Instr)).all (fun c => (c {}).wf && !(c longReq).wf && !(c untagged).wf) = true := by decide +kernel

theorem test_requests_c : ([
  Instr.calRun, Instr.calTrimLoad, Instr.calStatus, Instr.metRead, Instr.metLogRead, Instr.metSealed, Instr.metIdent, Instr.attest,
  Instr.credProvision, Instr.credRevoke, Instr.credPerm, Instr.sessionKey, Instr.debugOpen, Instr.imgBegin, Instr.imgBlock, Instr.imgVerify,
  Instr.imgActivate, Instr.imgAbort, Instr.imgConfirm, Instr.imgStatus, Instr.pwrSet, Instr.sleepPropose, Instr.sleepCommit, Instr.sleepResume,
  Instr.pwrStatus, Instr.evtRead, Instr.evtClear, Instr.evtConfig, Instr.faultEpoch, Instr.evtSubscribe] : List (Req → Instr)).all (fun c => (c {}).wf && !(c longReq).wf && !(c untagged).wf) = true := by decide +kernel

theorem test_messages : ([
  Instr.tileReplyReceived, Instr.evtNotify, Instr.timeSyncReceived, Instr.followReceived, Instr.dreqReceived, Instr.drespReceived,
  Instr.pdreqReceived, Instr.pdrespReceived, Instr.loopCellReturn, Instr.lnchCellReceived, Instr.claimReceived, Instr.renewReceived,
  Instr.ackReceived, Instr.takeReceived, Instr.rmapReceived, Instr.handoverReceived] : List (Msg → Instr)).all (fun c => (c {}).wf && !(c { port := 8 }).wf && !(c { typ := 16 }).wf &&
    !(c { src := 4096 }).wf && !(c { dest := 4096 }).wf && !(c { key := 4 }).wf) = true := by decide +kernel

theorem test_frames : frame0.wf = true ∧ ({ frame0 with dstMac := 2 ^ 48 }).wf = false ∧ ({ frame0 with len := 9217 }).wf = false ∧
    ({ frame0 with vlan := some 4096 }).wf = false ∧ rtp0.wf = true ∧ ({ rtp0 with seq := 2 ^ 32 }).wf = false ∧
       ({ rtp0 with ts := 2 ^ 32 }).wf = false ∧
    ({ rtp0 with srds := List.replicate 4 { row := 0, offset := 0, data := [] } }).wf = false ∧ req0.wf = true ∧
       ({ req0 with addr := 32 }).wf = false ∧
    ({ req0 with write := true, data := zeros 63 }).wf = false := by decide +kernel

/-! States the tests and witnesses stand on -/


/-- A chip out of reset in a role. -/
def chip (role : Role) : State :=
  { State.reset with pwr := { State.reset.pwr with role := role, phase := .up, poresetLow := false, inert := false } }

/-- A tile out of reset. -/
def tile : State := chip .tile

/-- A lead out of reset. -/
def lead : State := chip .lead

/-! A state with one part changed. -/

def State.onPwr (s : State) (f : PwrS → PwrS) : State := { s with pwr := f s.pwr }
def State.onEvt (s : State) (f : EvtS → EvtS) : State := { s with evt := f s.evt }
def State.onCmd (s : State) (f : CmdS → CmdS) : State := { s with cmd := f s.cmd }
def State.onKs (s : State) (f : KeyStore → KeyStore) : State := { s with ks := f s.ks }
def State.onOtp (s : State) (f : OtpS → OtpS) : State := { s with otp := f s.otp }
def State.onFlash (s : State) (f : FlashS → FlashS) : State := { s with flash := f s.flash }
def State.onSec (s : State) (f : SecS → SecS) : State := { s with sec := f s.sec }
def State.onKey (s : State) (f : KeyS → KeyS) : State := { s with key := f s.key }
def State.onNet (s : State) (f : NetS → NetS) : State := { s with net := f s.net }
def State.onTmu (s : State) (f : TmuS → TmuS) : State := { s with tmu := f s.tmu }
def State.onLch (s : State) (f : LchS → LchS) : State := { s with lch := f s.lch }
def State.onMem (s : State) (f : MemS → MemS) : State := { s with mem := f s.mem }
def State.onPix (s : State) (f : PixS → PixS) : State := { s with pix := f s.pix }
def State.onLpp (s : State) (f : LppS → LppS) : State := { s with lpp := f s.lpp }
def State.onEms (s : State) (f : EmsS → EmsS) : State := { s with ems := f s.ems }
def State.onCal (s : State) (f : CalS → CalS) : State := { s with cal := f s.cal }
def State.onPai (s : State) (f : PaiS → PaiS) : State := { s with pai := f s.pai }
def State.onMet (s : State) (f : MetS → MetS) : State := { s with met := f s.met }
def State.onMetm (s : State) (f : MetMain → MetMain) : State := { s with metm := f s.metm }

/-- A request with a payload. -/
def rq (p : List Byte) : Req := { payload := p }

/-- Nothing refuses a request before its parameters, as a test. -/
def readyB (s : State) (code : Nat) (r : Req) : Bool :=
  match opRow code with
  | some o => s.alive && !s.waits code r && !s.strayNearest r && (s.preRefusal o r).isNone
  | none => false

theorem ready_of {s : State} {code : Nat} {r : Req} (h : readyB s code r = true) : Ready s code r := by
  unfold readyB at h
  split at h
  · rename_i o ho
    simp only [Bool.and_eq_true, Bool.not_eq_true', Option.isNone_iff_eq_none] at h
    exact ⟨o, ho, h.1.1.1, h.1.1.2, h.1.2, h.2⟩
  · cases h

/-- A lead whose event ring of 64 entries is enabled. -/
def evtOn : State := lead.setReg Reg.evtRingCfg 0x601

/-- A merge window that one tile opened at once. -/
def mrg0 : Merge := { src := 16, detail := 0, close := 0, opener := { src := 16 } }

/-- A lead with command ring 0 enabled and one descriptor to fetch. -/
def ringOn : State := (((lead.setReg Reg.cmdCfg 0x80000).setReg Reg.cmdRingCfg 0x601)).onCmd ({ · with ringTail := [(0, 1)] })

/-- A lead that takes UDP commands on P4 at address 5, port 0. -/
def udpOn : State := ((lead.setReg (ingReg Reg.ingIp 4) 5).setReg (Reg.prtCfg + 0x40000) 0x200).setReg Reg.cmdCfg 0x70000

/-- A lead long after its reset. -/
def late : State := lead.onTmu ({ · with raw := 2 ^ 60 })

/-- A tile long after its reset. -/
def lateTile : State := tile.onTmu ({ · with raw := 2 ^ 60 })

/-- A lead with one tile on chain 0, the chain's sleep as given, its domain valid and a group key held. -/
def wallLead (x : SleepS) : State :=
  (((lead.onPwr ({ · with sleep := [x, {}, {}, {}] })).onNet ({ · with table := [{ chain := 0, pos := 1, unit := [], upPort := 0 }] })).onKs
    ({ · with group := some [] })).onTmu ({ · with d0 := { valid := true } })

/-- A tile, its chain's sleep as given, both ports carrying its chain. -/
def sleepTile (x : SleepS) : State := ((tile.onPwr ({ · with sleep := [x] })).setPortState 0 .up).setPortState 1 .open_

/-- A broadcast request under an epoch. -/
def bc (epoch : Word) (p : List Byte) : Req := { flags := 0x20, epoch := epoch, payload := p }

/-- A cell of 272 bytes with its CCRC. -/
def cellOf (b : List Byte) : List Byte := fit 272 b ++ b4 (crc32c (fit 272 b))

/-- A tile that holds an address, port 0 upstream. -/
def heldTile : State := tile.onNet ({ · with valid := true })

/-- A tile that has begun launch 1, an hour ahead. -/
def begunTile : State :=
  (tile.onLch ({ · with table := [{ n := 1, at_ := 1000 * rawSec 3600 }] })).onLpp ({ · with begun := [(1, {})] })

/-- A hold-off of lead 15. -/
def ecl0 : HoldOff := { eseq := 255, safe := false, scope := 2, chain := 0, domain := 0 }

/-- A tile with a beat to send on port 1. -/
def sendTile : State :=
  (tile.setPortState 1 .up).onNet ({ · with tx := [{ port := 1, typ := 5, dest := 0, key := 0, body := [] }] })

/-- The Active lead of a pair whose chain 0 ends in its partner: the ring is whole. -/
def ringLead : State :=
  ((((lead.setReg Reg.glbTopoCfg 0x10).onPai ({ · with state := .active })).setPortState 6 .active).setPortState 0 .open_).onNet
    ({ · with table := [{ chain := 0, pos := 0, unit := [], upPort := 0, dnState := .open_ }] })

/-- A lead with PTP on P4 for domain 0. -/
def ptpLead : State :=
  (lead.setReg (Reg.prtCfg + 0x40000) 0x200).onTmu ({ · with ptp0 := { ports := [{ enabled := true }, {}, {}] } })

/-- A lead with Meridian enabled and SYNC sent on every port. -/
def onLead : State := lead.setReg Reg.tmuCfg 0xFF000001

/-- A tile steered by TIME cells, a SYNC waiting for its FOLLOW. -/
def syncTile : State :=
  ((tile.setReg Reg.tmuCfg 1).setReg Reg.tmuDomCfg 0x80000000).onTmu ({ · with d0 := { sync := some (0, 5, 6) } })

/-- A tile whose DREQ was stamped, with earlier path delays. -/
def drespTile (l : List Int) (t2 : Nat) : State := tile.onTmu ({ · with d0 := { dreq := some (0, some 3), lastSync := some (0, t2, 0), mpds := l } })

/-- A ring calibration with one LOOP cell on its way in step 2. -/
def pc0 : PathCal := { req := {}, port := 0, ring := true, loops := [(1, 5)] }

/-- LCH_CONFIG of 60 launches a second with one slot that starts at once. -/
def lcfg : List Byte := [0, 1, 1, 0] ++ b4 1092266667 ++ zeros 20 ++ b4 0 ++ b4 1000000000 ++ zeros 24

/-- A lead whose launch 0 has passed. -/
def runLead : State :=
  (late.onTmu ({ · with d0 := { valid := true } })).onLch ({ · with state := .run, cfg := lcfg, table := [{ n := 0, at_ := 0 }] })

/-- A tile whose launch 7 is complete in its one slot. -/
def checkTile : State :=
  (((lateTile.onTmu ({ · with d0 := { valid := true } })).onLch ({ · with cfg := lcfg, table := [{ n := 7, at_ := 0 }] })).onEms
    ({ · with enabled := true })).onLpp ({ · with regions := [{ st := .pending, slot := 0, n := 7 }] })

/-- A lead whose P4 is an Ethernet port with address 5. -/
def ingLead : State := (lead.setReg (ingReg Reg.ingIp 4) 5).setReg (Reg.prtCfg + 0x40000) 0x200

/-- A datagram that waits for address 9. -/
def arp0 (tries : Nat) : ArpWait := { port := 4, ip := 9, tries := tries, last := 0, packets := [] }

/-- A surface of one block. -/
def surf0 : Surf := { fmt := 4, colour := 0, w := 16, h := 4, bufs := 1, addr := 0 }

/-- A lead whose stream 3 may be enabled onto surface 1: RGB, ten bits, 64 by 64 pixels, 60 frames a second. -/
def strLead : State :=
  ((((ingLead.onPix ({ · with surfs := [(1, { surf0 with w := 64, h := 64, bufs := 2 })] })).setReg (strReg Reg.ingStrFmt 3) 0x80600000).setReg
    (strReg Reg.ingStrSize 3) 0x00400040).setReg (strReg Reg.ingStrRate 3) 0x003C0001).setReg (strReg Reg.ingStrGrp0 3) 5

/-- A lead that has received packet 7 of stream 3. -/
def pktLead : State :=
  (lead.setReg (strReg Reg.ingStrCtl 3) 0x80000000).setStrm 3 { legOk := [true, false], high := some 7, got := [7] }

/-- A lead whose stream 0 has received a whole frame of its surface. -/
def packLead : State :=
  ((lead.setReg (strReg Reg.ingStrCtl 0) 0x80000001).onPix ({ · with surfs := [(1, surf0)] })).setStrm 0
    { frame := some { have_ := [(0, 2560)] } }

/-- A lead with 64 GiB of DRAM. -/
def memLead : State := lead.onMem ({ · with enabled := true, cfg := [4, 0, 2, 16, 16, 1] ++ zeros 42 })

/-- The result of a computation, or a default. -/
def okOr {ε α : Type} (x : Except ε α) (d : α) : α := match x with | .ok a => a | .error _ => d

theorem ok_of {ε α : Type} (x : Except ε α) (d : α) (h : (match x with | .ok _ => true | .error _ => false) = true) : x = .ok (okOr x d) := by
  cases x
  · cases h
  · rfl

/-- LAYER_CONFIG of layer 31: surface 1 whole, at its own size. -/
def lay0 : List Byte := b1 31 ++ b1 1 ++ b1 1 ++ b1 0 ++ b2 1 ++ zeros 2 ++ zeros 4 ++ b2 16 ++ b2 4 ++ zeros 8 ++ b4 4096 ++ b4 1024 ++ zeros 8

/-- A flip group whose time has passed. -/
def flip0 : Flip := { req := {}, entries := [(31, 1)], fence := 1, wait := 1, deadline := some 0, ready := false }

/-- A lead that composes launch 9 for a tile of one pixel at the end of chain 3. -/
def composeLead : State :=
  ((lead.setReg Reg.cmpCfg 1).setReg (Reg.cmpTmap1 + 8 * 255) 0x80000401).onLch ({ · with cfg := lcfg, table := [{ n := 9, at_ := 1000 }] })

/-- The same lead over a surface in DRAM that does not run. -/
def badLead : State := composeLead.onPix ({ · with layers := [(31, lay0)], surfs := [(1, { surf0 with cur := some 0, held := some 0 })] })

/-- An image of one pixel that waits for encoding. -/
def cmp0 : Composed := { n := 9, slot := 0, chain := 3, pos := 63, pixels := [(1, 2, 3)] }

/-- A lead whose tile map is written out: no tile is there. -/
def bareLead : State := { lead with regs := (List.range 256).map (fun i => (Reg.cmpTmap1 + 8 * i, 0)) }

/-- LPP_CONFIG of a tile of 8 by 4 pixels in three primaries. -/
def lppPay : List Byte := [3, 0] ++ b2 8 ++ b2 4 ++ [0, 10] ++ (List.replicate 16 (b2 0x4000)).flatten ++ zeros 8

/-- The coded sub-frame of launch 9 for such a tile. -/
def sub0 : List Byte := encodeSub 0 0 0 0 8 4 9 ((List.range 32).map (fun k => (k, 2 * k, 3 * k)))

/-- A tile that has received such a run. -/
def pipeTile (b : List Byte) : State :=
  (tile.onLpp ({ · with cfg := lppPay })).onNet ({ · with inbox := [{ typ := 1, xt := pixXt 0 9 0 true, body := b }] })

/-- A tile with two Almanac sets loaded. -/
def almTile : State := tile.onLpp ({ · with sets := [{ temp := 10, loaded := true }, { temp := 20, loaded := true }, {}, {}] })

/-- A sub-frame of launch 9 that the pipeline has begun and decoded. -/
def subf0 : SubF := { slot := 0, frame := 9, begun := some (9, 7), groups := [0] }

/-- EMS_CONFIG of one driver a lane on bank 0, with fill and a collection every 10 ms. -/
def emsPay : List Byte := [1, 0, 0, 1] ++ b2 16 ++ b2 1 ++ [1, 3, 1, 0, 1, 1, 1, 1] ++ b2 10 ++ zeros 14

/-- A tile that emits launch 7, the frame of its one slot dark. -/
def emTile : State :=
  (lateTile.onLch ({ · with cfg := lcfg })).onEms ({ · with cfg := emsPay, enabled := true, emits := true, launch := some (7, 0) })

/-- A window of launch 7 with so many units shown. -/
def winN (k : Nat) : Win := { slot := 0, n := 7, start := 0, next := k, open_ := true }

/-- A setup transfer of the host. -/
def setup0 : Setup := { banks := 1, ret := none, op := 0xA5, addr := 0, mode := 0, lane := 0, data := 0, kind := 0, req := some {} }

/-- A calibration run of a target. -/
def calRun (target : Nat) : CalRun := { req := {}, target := target, set := 0 }

/-- MEM_CONFIG of four channels of two ranks of 16 Gb chips, 16 bits wide. -/
def memPay : List Byte := [4, 0, 2, 16, 16, 1, 22, 16] ++ b2 160 ++ List.replicate 12 1 ++ zeros 26

/-- A lead with 64 GiB whose channel 3 runs as given. -/
def runMem (c : Chan) : State := memLead.onMem ({ · with chans := [{}, {}, {}, { c with st := .run }] })

/-- A request of channel 3. -/
def req3 : MemReq := { addr := 0x6000, client := .scanOut, write := false }

/-- Lead 0 of a pair, topology locked, in a state of the pair. -/
def pairLead (x : Pair) : State := (late.setReg Reg.glbTopoCfg 0x80000010).onPai ({ · with state := x })

/-- Lead 1 of a pair. -/
def oddLead (x : Pair) : State := (late.setReg Reg.glbTopoCfg 0x80000011).onPai ({ · with state := x })

/-- A BEAT of lead 0 or 1 with the words from byte 4 on. -/
def bt (kind frm : Nat) (b : List Byte) : Msg := { typ := 5, body := b1 0 ++ b1 kind ++ b1 0 ++ b1 frm ++ b }

/-- A tile of a pair under epoch 3. -/
def pairTile : State := (tile.onNet ({ · with valid := true, addr := 5 })).setReg Reg.glbTopoEpoch 3

/-- A late lead whose metrology island runs. -/
def metLead : State := late.onMet ({ · with vdd := 3300, cls33 := true, run := true })

/-- A late lead and island as given. -/
def metSt (f : MetS → MetS) : State := metLead.onMet f

/-- A lead in the recovery responder of a boot from PCIe. -/
def recLead : State := lead.onPwr ({ · with phase := .recovery, bootStrap := 1 })

/-- A lead with slot B verified. -/
def verLead : State := lead.onFlash ({ · with slots := [{}, { mark := 2 }] })

/-- A lead with an update of so many bytes open in slot B. -/
def updLead (n : Nat) (u : List Nat) (v : Option Req) : State := lead.onSec ({ · with upd := some { slot := 1, size := n, units := u, verify := v } })

/-- The row of an opcode that has one. -/
def rowOf (code : Nat) : OpRow := (opRow code).getD { code := 0, name := "", qlo := 0, qhi := 0, lmin := 0, lmax := 0 }

/-- The same configuration with KEEP. -/
def keepPay : List Byte := splice memPay 1 [1]

/-- A lead whose four channels a warm reset left in self-refresh under that configuration. -/
def keptLead : State := lead.setReg Reg.memKeep (BitVec.ofNat 32 (15 + memSig memPay * 65536))


/-- A lead whose chains have no tile, the sleep of chain 0 as given. -/
def emptyWall (x : SleepS) : State := (wallLead x).onNet ({ · with table := [] })

/-- A tile with the states of both its ports given. -/
def State.setPorts (s : State) (a b : PortState) : State := (s.setPortState 0 a).setPortState 1 b

/-- A tile before a slot of port 0, with one record for its lead. -/
def noteTile (slot : Nat) : State := (heldTile.setPort 0 { state := .up, slot := slot }).onEvt ({ · with heldRecs := [{}] })

/-- The notification that it sends. -/
def noteMsg : TxMsg :=
  { port := 0, typ := 2, dest := leadAddr 0, dir := true, key := 0, cls := 12,
    body := packetBytes 0x80 0x0F04 (leadAddr 0) 0 0 32 0 0 (EvRec.bytes {}) }

/-- A cell between the ports of a tile. -/
def trans (b : List Byte) : Transit := { inPort := 0, outPort := 1, slot := 0, ingress := 0, bad := false, bytes := b }

/-- A tile that holds it. -/
def transTile (b : List Byte) : State := heldTile.onNet ({ · with transit := [trans b] })

/-- A lead whose PTP master on P4 has gone. -/
def ptpGone : State :=
  late.onTmu ({ · with ptp0 := { best := some 4, ports := [{ enabled := true }, {}, {}] }, d0 := { servo := .locked } })

/-- A ring calibration whose samples spread too far. -/
def pcSpread : PathCal := { pc0 with cw := 100000 :: List.replicate 63 0, ccw := List.replicate 64 0 }

/-- A lead with a PTP master on P4 that steers domain 0. -/
def ptpSync : State :=
  ((ptpLead.setReg Reg.tmuCfg 1).setReg Reg.tmuDomCfg 0x20000000).onTmu
    ({ · with ptp0 := { best := some 4, ports := [{ enabled := true, master := some ⟨9, 0, 0, 0, 0, 0, 0⟩ }, {}, {}] } })

/-- A lead long after an announcement whose cell it has repeated so many times. -/
def repLead (k : Nat) : State := late.onLch ({ · with repeats := [(0, k, [])] })

/-- Stream 3 enabled, in a state as given. -/
def State.strOn3 (s : State) (x : Strm) : State := (s.setReg (strReg Reg.ingStrCtl 3) 0x80000000).setStrm 3 x

/-- STREAM_CONFIG that locks a stream to layer 0. -/
def lockConf : List Byte := [3, 1] ++ zeros 14

theorem metTrip_pos (c : Bool) : 0 < metTrip c := by
  cases c <;> simp [metTrip, clampInt] <;> omega

theorem metTrip_le (c : Bool) : metTrip c ≤ 2930 := by
  cases c <;> simp [metTrip, clampInt] <;> omega
/-! Known answers, from the spec's own worked examples and check values. -/

/-- CRC-32C over "123456789" (R47). -/
theorem test_crc32c : crc32c [0x31, 0x32, 0x33, 0x34, 0x35, 0x36, 0x37, 0x38, 0x39] = 0xE3069283 := by decide +kernel

/-- C2's CRC-16 over "123456789" (R261). -/
theorem test_crc16 : crc16 [0x31, 0x32, 0x33, 0x34, 0x35, 0x36, 0x37, 0x38, 0x39] = 0x29B1 := by decide +kernel

/-- A domain's value, from the example of R148: 1,700,000,000 s and 999,999,990 ns, 10,000 ns later. -/
theorem test_domain_carry : ({ offset := (1700000000 * 1000000000 + 999999990) * 2 ^ 56 } : Dom).at 655360 =
    ((1700000001 * 1000000000 + 9990) * 2 ^ 16 : Int) := by decide +kernel

/-- 32 pixels of which two carry the extremes 1,800 to 1,830, 2,100 to 2,112 and 900 to 903, one R value 1,827 (example of R249). -/
def px0 : List Rgb := (1800, 2100, 900) :: (1830, 2112, 903) :: (1827, 2105, 901) :: List.replicate 29 (1810, 2106, 902)

/-- Shift 2 at 4:1, 1 at 3:1, 0 at 2:1 (example of R249). -/
theorem test_shift : (blkShift 3 0 0 px0, blkShift 2 0 0 px0, blkShift 1 0 0 px0) = (2, 1, 0) := by decide +kernel

/-- At 4:1 an R of 1,827 decodes as 1,826 and every B as 902 (example of R249). -/
theorem test_decode_blk : ((decodeBlk 3 (encodeBlk 3 0 0 px0)).getD []).map (fun p => p.2.2) = List.replicate 32 902 ∧
    (((decodeBlk 3 (encodeBlk 3 0 0 px0)).getD []).getD 2 (0, 0, 0)).1 = 1826 := by decide +kernel

/-- FOOT of a 3,840 by 2,160 surface of format 0x05 (example of R256). -/
theorem test_foot : foot 5 3840 2160 = 39321600 := by decide +kernel

/-- A coefficient between two Almanac sets (example of R284). -/
theorem test_interp : (interp 61440 63488 28398, interp 410 350 28398) = (62327, 384) := by decide +kernel

/-- Four channels of one rank of x8 16 Gb chips: 0x1_2345_6780 lies on channel 3 at 0x48D1_4780, bank group 2, column 0x47, bank 2, row 0x2468
(example of R343). -/
theorem test_dram_address : let s := lead.onMem ({ · with cfg := [4, 0, 1, 8, 16, 1] ++ zeros 42 })
    s.chanOf 0x123456780 = 3 ∧ s.localAddr 0x123456780 = 0x48D14780 ∧
      dramDecode s.mem.cfg 0x48D14780 = { group := 2, col := 0x47, bank := 2, rank := 0, chip := 0, row := 0x2468 } := by decide +kernel

/-- A reference current's gain and code from two sets (example of R392), in sixteenths of a degree. -/
theorem test_iref_code : gainAt 600 [(400, 1200), (720, 3400)] = 2575 ∧ rawCode 40000 2575 = 40098 := by decide +kernel

/-- A register stored to reads back, and storing its reset value leaves no entry (R11). -/
theorem test_register_roundtrip : ((lead.setReg Reg.prtCfg 0).reg Reg.prtCfg, ((lead.setReg Reg.prtCfg 0).setReg Reg.prtCfg 1).regs) = (0,
   lead.regs) := by
  decide +kernel

/-- One tick on an empty queue adds 64 raw LSB; the counter wraps at 72 bits (R148). -/
theorem test_tick_wraps : (State.tick (lead.onTmu ({ · with raw := 2 ^ 72 - 64 }))).tmu.raw = 0 := by decide +kernel

/-- SHA-256 and SHA-384 over "abc" (FIPS 180-4; R62, R438). -/
theorem test_sha2 : beNat (sha256 (ascii "abc")) = 0xBA7816BF8F01CFEA414140DE5DAE2223B00361A396177A9CB410FF61F20015AD ∧
    beNat (sha384 (ascii "abc")) =
      0xCB00753F45A35E8BB5A03D699AC65007272C32AB0EDED1631A8B605A43FF5BED8086072BA1E7CC2358BAECA134C825A7 := by decide +kernel

/-- HMAC-SHA-256, test case 2 of RFC 4231 (R62). -/
theorem test_hmac : beNat (hmacSha256 (ascii "Jefe") (ascii "what do ya want for nothing?")) =
    0x5BDCC146BF60754E6A042426089575C75A003F089D2739839DEC58B964EC3843 := by decide +kernel

/-- AES-256, example C.3 of FIPS 197 (R126). -/
theorem test_aes : beNat (aesBlock (aesKeys ((List.range 32).map (fun i => BitVec.ofNat 8 i))) ((List.range 16).map (fun i => BitVec.ofNat 8 (17 * i)))) =
    0x8EA2B7CA516745BFEAFC49904B496089 := by decide +kernel

/-- The base point of P-384 lies on the curve (R438). -/
theorem test_curve : onCurve g384.1 g384.2 = true := by decide +kernel

/-- SMPTE ST 2084 at 100 cd/m², 12 bits, is 2,081; full scale is the peak (R226, R276). -/
theorem test_pq : pqEncode (fxOne / 100) = 2081 ∧ pqLut 4095 = 0xFFFFFF ∧ pqLut 0 = 0 := by decide +kernel

/-! Witnesses: for each statement, states and operands that meet the hypotheses of each of its clauses. -/

/-- States and operands that meet the hypotheses of each clause of `GeneralCommandsComplete`. -/
theorem witness_GeneralCommandsComplete :
    (∃ (s : State), ∃ (r : Req), Ready s 0x0000 r) ∧
    (∃ (s : State), ∃ (r : Req), Ready s 0x0001 r) ∧
    (∃ (s : State), ∃ (r : Req), Ready s 0x0001 r ∧ ∃ (k : Nat), s.sec.running = some k ∧ k < 2) ∧
    (∃ (s : State), ∃ (r : Req), Ready s 0x0002 r ∧ 1 ≤ u16 r.payload 4 ∧ u16 r.payload 4 ≤ 1023 ∧
       s.rangeRefusal (u32 r.payload 0) (u16 r.payload 4) = none) ∧
    (∃ (s : State), ∃ (r : Req), Ready s 0x0004 r) ∧
    (∃ (s : State), ∃ (r : Req), Ready s 0x0005 r ∧ s.pwr.inert = true ∧ (s.pwr.haltSafety = true → r.isSafety = true) ∧ s.inertCause = none ∧
       ¬(s.isLead = true ∧ s.pai.state = .lapsed)) ∧
    (∃ (s : State), ∃ (r : Req), Ready s 0x0005 r ∧ s.pwr.inert = true ∧ (s.pwr.haltSafety = true → r.isSafety = true) ∧ s.inertCause = none ∧
       s.isLead = true ∧ s.pai.state = .lapsed) ∧
    (∃ (s : State), ∃ (r : Req), ∃ role, Ready s 0x0006 r ∧ (u16 r.payload 0, role) ∈ armIds ∧ (role = 1 → s.isLead = true) ∧
       (role = 2 → s.isLead = false) ∧ u8 r.payload 2 = 1) ∧
    (∃ (s : State), ∃ (r : Req), ∃ role, Ready s 0x0006 r ∧ (u16 r.payload 0, role) ∈ armIds ∧ (role = 1 → s.isLead = true) ∧
       (role = 2 → s.isLead = false) ∧ u8 r.payload 2 = 0 ∧ u16 r.payload 0 ≠ 0x0903) ∧
    (∃ (s : State), ∃ (r : Req), ∃ role, Ready s 0x0006 r ∧ (u16 r.payload 0, role) ∈ armIds ∧ (role = 1 → s.isLead = true) ∧
       (role = 2 → s.isLead = false) ∧ u8 r.payload 2 = 0 ∧ u16 r.payload 0 = 0x0903) ∧
    (∃ (s : State), ∃ (r : Req), Ready s 0x0007 r ∧ u8 r.payload 0 ≤ 1 ∧ (s.pwr.cores.getD (u8 r.payload 0) {}).state = 2) ∧
    (∃ (s : State), ∃ (r : Req), Ready s 0x0008 r) ∧
    (∃ (s : State), ∃ (r : Req), Ready s 0x0009 r) :=
  ⟨⟨lead, rq [], ready_of (by decide +kernel)⟩,
   ⟨lead, rq [], ready_of (by decide +kernel)⟩,
   ⟨tile.onSec ({ · with running := some 1 }), rq [], ready_of (by decide +kernel), 1, by decide +kernel⟩,
   ⟨lead, rq (b4 0x200000 ++ b2 1 ++ b2 0), ready_of (by decide +kernel), by decide +kernel⟩,
   ⟨lead, rq [], ready_of (by decide +kernel)⟩,
   ⟨tile.onPwr ({ · with inert := true }), rq [], ready_of (by decide +kernel), by decide +kernel⟩,
   ⟨(lead.onPwr ({ · with inert := true })).onPai ({ · with state := .lapsed }), rq [], ready_of (by decide +kernel), by decide +kernel⟩,
   ⟨lead, rq (b2 0x0201 ++ b1 1 ++ b1 0), 1, ready_of (by decide +kernel), by decide +kernel⟩,
   ⟨tile, rq (b2 0x0601 ++ b1 0 ++ b1 0), 2, ready_of (by decide +kernel), by decide +kernel⟩,
   ⟨lead, rq (b2 0x0903 ++ b1 0 ++ b1 0), 1, ready_of (by decide +kernel), by decide +kernel⟩,
   ⟨lead.onPwr ({ · with cores := [{}, { state := 2 }] }), rq (b1 1 ++ b1 0 ++ b2 0), ready_of (by decide +kernel), by decide +kernel⟩,
   ⟨tile, rq [], ready_of (by decide +kernel)⟩,
   ⟨tile, rq [], ready_of (by decide +kernel)⟩⟩

/-- States and operands that meet the hypotheses of each clause of `EventCommandsComplete`. -/
theorem witness_EventCommandsComplete :
    (∃ (s : State), s.isLead = true ∧ s.alive = true) ∧
    (∃ (s : State), ∃ (cfg : Word), s.isLead = true ∧ s.alive = true ∧ cfg.toNat.testBit 0 = true ∧ 6 ≤ bitsOf (cfg &&& 0x003F1F01#32).toNat 12 8 ∧
       bitsOf (cfg &&& 0x003F1F01#32).toNat 12 8 ≤ 16 ∧ (s.reg Reg.evtRingCfg).toNat.testBit 0 = false) ∧
    (∃ (s : State), ∃ (r : EvRec), ∃ rest, s.isLead = true ∧ s.alive = true ∧ s.pwr.d3hot = false ∧ s.bit Reg.evtRingCfg 0 = true ∧ s.evt.lost = 0 ∧
       s.evt.heldRecs = r :: rest ∧ (∀ b l, rest = b :: l → b.bitmap = none) ∧ 1 ≤ s.ringFree) ∧
    (∃ (s : State), ∃ (r : EvRec), ∃ (b : EvRec), ∃ rest, s.isLead = true ∧ s.alive = true ∧ s.pwr.d3hot = false ∧ s.bit Reg.evtRingCfg 0 = true ∧
       s.evt.lost = 0 ∧ s.evt.heldRecs = r :: b :: rest ∧ b.bitmap.isSome = true ∧ 2 ≤ s.ringFree) ∧
    (∃ (s : State), ∃ (k : Nat), s.alive = true ∧ (Map.at s.evt.srcs {} k).dirty = true) ∧
    (∃ (s : State), ∃ (m : Msg), s.alive = true ∧ s.isLead = true ∧ discardCase m.body = none ∧ u16 m.body 2 = 0x0F04) ∧
    (∃ (s : State), ∃ (m : Merge), s.evt.merges.find? (fun m => decide (m.close ≤ s.now)) = some m ∧ m.held = []) ∧
    (∃ (s : State), ∃ (m : Merge), s.evt.merges.find? (fun m => decide (m.close ≤ s.now)) = some m ∧ 2 ≤ m.latest.length ∧ s.evt.sub = none ∧ s.evt.heldRecs.length + 2 ≤ 256) ∧
    (∃ (s : State), ∃ (r : Req), Ready s 0x0F00 r ∧ u8 r.payload 0 ≤ 1 ∧ (u8 r.payload 0 = 1 → u16 r.payload 2 ≤ 1023) ∧ 1 ≤ u16 r.payload 4 ∧
       u16 r.payload 4 ≤ 127) ∧
    (∃ (s : State), ∃ (r : Req), Ready s 0x0F01 r ∧ u16 r.payload 0 ≤ u16 r.payload 2 ∧ u16 r.payload 2 ≤ 1023) ∧
    (∃ (s : State), ∃ (r : Req), Ready s 0x0F02 r ∧ 1 ≤ bitsOf (u32 r.payload 0) 12 8 ∧ bitsOf (u32 r.payload 0) 12 8 ≤ 16 ∧
       1 ≤ bitsOf (u32 r.payload 0) 6 0 ∧ bitsOf (u32 r.payload 0) 6 0 ≤ 100) ∧
    (∃ (s : State), ∃ (r : Req), Ready s 0x0F02 r ∧ 1 ≤ bitsOf (u32 r.payload 0) 12 8 ∧ bitsOf (u32 r.payload 0) 12 8 ≤ 16 ∧
       1 ≤ bitsOf (u32 r.payload 0) 6 0 ∧ bitsOf (u32 r.payload 0) 6 0 ≤ 100 ∧ ∃ (k : Nat), k < 32) ∧
    (∃ (s : State), ∃ (r : Req), Ready s 0x0F03 r) ∧
    (∃ (s : State), ∃ (r : Req), ∃ (p : Nat), ∃ ip, ∃ (port : Nat), Ready s 0x0F05 r ∧ r.via = .udp p ip port ∧ u32 r.payload 0 ≠ 0) ∧
    (∃ (s : State), ∃ (r : Req), Ready s 0x0F05 r ∧ u32 r.payload 0 = 0) :=
  ⟨⟨lead, by decide +kernel⟩,
   ⟨lead, 0x00000601, by decide +kernel⟩,
   ⟨evtOn.onEvt ({ · with heldRecs := [{ src := 16 }] }), { src := 16 }, [], by decide +kernel, by decide +kernel, by decide +kernel, by decide +kernel, by decide +kernel, (by decide +kernel), (fun _ _ h => nomatch h), by decide +kernel⟩,
   ⟨evtOn.onEvt ({ · with heldRecs := [{ src := 16 }, { src := 16, bitmap := some [] }] }), { src := 16 }, { src := 16, bitmap := some [] }, [],
      by decide +kernel⟩,
   ⟨tile.onEvt ({ · with srcs := [(16, { dirty := true })] }), 16, by decide +kernel⟩,
   ⟨lead, { body := packetBytes 0x80 0x0F04 0x0FF 0 0 0 0 0 [] }, by decide +kernel⟩,
   ⟨lead.onEvt ({ · with merges := [mrg0] }), mrg0, by decide +kernel⟩,
   ⟨lead.onEvt ({ · with merges := [{ mrg0 with held := [{ src := 16, origin := 7 }] }] }), { mrg0 with held := [{ src := 16, origin := 7 }] },
      by decide +kernel⟩,
   ⟨lead, rq (b1 1 ++ b1 0 ++ b2 1023 ++ b2 127 ++ b2 0), ready_of (by decide +kernel), by decide +kernel⟩,
   ⟨tile, rq (b2 0 ++ b2 1023), ready_of (by decide +kernel), by decide +kernel⟩,
   ⟨lead, rq (b4 0x1064 ++ zeros 128), ready_of (by decide +kernel), by decide +kernel⟩,
   ⟨lead, rq (b4 0x0101 ++ zeros 128), ready_of (by decide +kernel), by decide +kernel, by decide +kernel, by decide +kernel, by decide +kernel, 31,
      by decide +kernel⟩,
   ⟨lead, rq (b4 7), ready_of (by decide +kernel)⟩,
   ⟨lead, { payload := b4 0xC0A80001 ++ b2 5000 ++ b2 0, via := .udp 4 1 2 }, 4, 1, 2, ready_of (by decide +kernel), by decide +kernel⟩,
   ⟨lead, rq (zeros 8), ready_of (by decide +kernel), by decide +kernel⟩⟩

/-- States and operands that meet the hypotheses of each clause of `TransportCommandsComplete`. -/
theorem witness_TransportCommandsComplete :
    (∃ (s : State), ∃ (data : Word), ∃ (c : Nat), s.isLead = true ∧ s.alive = true ∧ c < 16 ∧ data.toNat % 65536 < s.ringSize c) ∧
    (∃ (s : State), ∃ (data : Word), ∃ (c : Nat), s.isLead = true ∧ s.alive = true ∧ c < 16 ∧ s.ringSize c ≤ data.toNat % 65536) ∧
    (∃ (s : State), ∃ (data : Word), s.isLead = true ∧ s.alive = true ∧ data.toNat % 65536 < s.evtRingSize) ∧
    (∃ (s : State), ∃ (ring : Nat), s.ringRuns ring = true) ∧
    (∃ (s : State), ∃ (ring : Nat), ∃ (cfg : Word), s.isLead = true ∧ s.alive = true ∧ ring < 16 ∧ (cfg &&& 0x003F1F01#32).toNat.testBit 0 = true ∧
       6 ≤ bitsOf (cfg &&& 0x003F1F01#32).toNat 12 8 ∧ bitsOf (cfg &&& 0x003F1F01#32).toNat 12 8 ≤ 16) ∧
    (∃ (s : State), ∃ (ring : Nat), ∃ (cfg : Word), s.isLead = true ∧ s.alive = true ∧ ring < 16 ∧ (cfg &&& 0x003F1F01#32).toNat.testBit 0 = false) ∧
    (∃ (s : State), ∃ (port : Nat), ∃ dstIp, ∃ dstPort, s.alive = true ∧ s.takesUdp port dstIp dstPort = true) ∧
    (∃ (s : State), ∃ (data : List Byte), ∃ (c : Nat), s.alive = true ∧ discardCase data = some c) ∧
    (∃ (s : State), ∃ op, s.alive = true ∧ opRow op = none) ∧
    (∃ (s : State), ∃ (m : Msg), ∃ (j : Job), s.alive = true ∧ s.isLead = true ∧ discardCase m.body = none ∧ s.cmd.jobs.find? (fun j => j.matches m.body (u16 m.body 6 % 4096) && !j.tooLate m.port) = some j ∧ j.kind ≠ 1) ∧
    (∃ (s : State), ∃ (m : Msg), ∃ (j : Job), s.alive = true ∧ s.isLead = true ∧ discardCase m.body = none ∧ s.cmd.jobs.find? (fun j => j.matches m.body (u16 m.body 6 % 4096) && !j.tooLate m.port) = some j ∧ j.kind = 1 ∧ m.port ≠ 7) ∧
    (∃ (s : State), ∃ (m : Msg), ∃ (j : Job), s.alive = true ∧ s.isLead = true ∧ discardCase m.body = none ∧ s.cmd.jobs.find? (fun j => j.matches m.body (u16 m.body 6 % 4096) && !j.tooLate m.port) = some j ∧ j.kind = 1 ∧ m.port = 7) ∧
    (∃ (s : State), ∃ (m : Msg), ∃ x, s.alive = true ∧ s.isLead = true ∧ discardCase m.body = none ∧ s.cmd.jobs.find? (fun j => j.matches m.body (u16 m.body 6 % 4096) && !j.tooLate m.port) = none ∧ s.cmd.late.find? (fun x => x.1 == u32 m.body 8 && x.2.1 == u16 m.body 14 && (x.2.2 == u16 m.body 6 % 4096 || x.2.2 == 4096)) = some x) ∧
    (∃ (s : State), ∃ (m : Msg), ∃ (c : Nat), s.alive = true ∧ s.isLead = true ∧ discardCase m.body = some c) ∧
    (∃ (s : State), ∃ (j : Job), s.alive = true ∧ s.isLead = true ∧ s.cmd.jobs.find? (fun j => s.timedOut j && !j.told && !(j.kind == 1 && j.missing.isEmpty)) = some j ∧ j.kind ≠ 1 ∧ j.kind ≠ 3 ∧ j.op ≠ 0x0100 ∧ j.farGone = false) ∧
    (∃ (s : State), ∃ (j : Job), s.alive = true ∧ s.isLead = true ∧ s.cmd.jobs.find? (fun j => s.timedOut j && !j.told && !(j.kind == 1 && j.missing.isEmpty)) = some j ∧ j.kind = 1 ∧ j.farGone = false) ∧
    (∃ (s : State), ∃ (j : Job), s.alive = true ∧ s.isLead = true ∧ s.cmd.jobs.find? (fun j => j.farData.isNone && !j.farGone && (match j.far with | some t => decide (t + 2 * s.tileTimeout ≤ s.now) | none => false)) = some j) :=
  ⟨⟨(lead.setReg (Reg.cmdRingCfg + 0x20 * 15) 0x600), 63, 15, by decide +kernel⟩,
   ⟨lead, 1, 0, by decide +kernel⟩,
   ⟨lead, 0, by decide +kernel⟩,
   ⟨ringOn, 0, by decide +kernel⟩,
   ⟨lead, 15, 0x1001, by decide +kernel⟩,
   ⟨lead, 0, 0x600, by decide +kernel⟩,
   ⟨udpOn, 4, 5, 0, by decide +kernel⟩,
   ⟨lead, [], 2, by decide +kernel⟩,
   ⟨tile, 0xFFFF, by decide +kernel⟩,
   ⟨lead.onCmd ({ · with jobs := [{ addrs := [1], req := { seq := 3, tag := 4 } }] }), { body := packetBytes 0x80 0 0x0FF 1 3 0 4 0 [] },
      { addrs := [1], req := { seq := 3, tag := 4 } }, by decide +kernel⟩,
   ⟨lead.onCmd ({ · with jobs := [{ kind := 1, addrs := [1], req := { seq := 3, tag := 4 } }] }), { body := packetBytes 0x80 0 0x0FF 1 3 0 4 0 [] },
      { kind := 1, addrs := [1], req := { seq := 3, tag := 4 } }, by decide +kernel⟩,
   ⟨lead.onCmd ({ · with jobs := [{ kind := 1, far := some 0, req := { seq := 3, tag := 4 } }] }), { port := 7, body := packetBytes 0x80 0 0x0FF 0x0FF 3 0 4 0 [] },
      { kind := 1, far := some 0, req := { seq := 3, tag := 4 } }, by decide +kernel⟩,
   ⟨lead.onCmd ({ · with late := [(3, 4, 1)] }), { body := packetBytes 0x80 0 0x0FF 1 3 0 4 0 [] }, (3, 4, 1), by decide +kernel⟩,
   ⟨lead, { body := zeros 23 }, 2, by decide +kernel⟩,
   ⟨late.onCmd ({ · with jobs := [{ addrs := [1], started := some 0 }] }), { addrs := [1], started := some 0 }, by decide +kernel⟩,
   ⟨late.onCmd ({ · with jobs := [{ kind := 1, addrs := [1], far := some 0, sentAll := some 0 }] }), { kind := 1, addrs := [1], far := some 0, sentAll := some 0 },
      by decide +kernel⟩,
   ⟨late.onCmd ({ · with jobs := [{ kind := 1, far := some 0 }] }), { kind := 1, far := some 0 }, by decide +kernel⟩⟩

/-- States and operands that meet the hypotheses of each clause of `PowerCommandsComplete`. -/
theorem witness_PowerCommandsComplete :
    (∃ (s : State), s.pwr.poresetLow = true) ∧
    (∃ (s : State), ∃ low, s.alive = true ∧ rawNs 10 ≤ low) ∧
    (∃ (s : State), ∃ (n : Nat), n ≤ 10 ∧ s.pwr.supplyOut.contains n = false ∧ n = 0) ∧
    (∃ (s : State), ∃ (n : Nat), n ≤ 10 ∧ s.pwr.supplyOut.contains n = false ∧ (n = 1 ∨ n = 2)) ∧
    (∃ (s : State), ∃ (n : Nat), n ≤ 10 ∧ s.pwr.supplyOut.contains n = false ∧ 3 ≤ n ∧ n ≤ 9 ∧ s.alive = true) ∧
    (∃ (s : State), ∃ (n : Nat), n ≤ 10 ∧ s.pwr.supplyOut.contains n = false ∧ n = 10) ∧
    (∃ (s : State), ∃ (n : Nat), s.pwr.supplyOut.contains n = true ∧ let t := { s with pwr := { s.pwr with supplyOut := s.pwr.supplyOut.filter (· != n) } }; n < 3 ∧ t.coreSupplyOut = false ∧ s.pwr.poresetLow = false) ∧
    (∃ (s : State), ∃ (n : Nat), s.pwr.supplyOut.contains n = true ∧ 3 ≤ n ∧ n ≤ 9 ∧ s.alive = true) ∧
    (∃ (s : State), ∃ (n : Nat), n ≤ 15 ∧ s.pllLock n = true ∧ n = 1) ∧
    (∃ (s : State), ∃ (n : Nat), n ≤ 15 ∧ s.pllLock n = true ∧ n = 2) ∧
    (∃ (s : State), ∃ (n : Nat), n ≤ 15 ∧ s.pllLock n = true ∧ n ≠ 1 ∧ n ≠ 2) ∧
    (∃ (s : State), ∃ (n : Nat), s.pwr.pllLost.contains n = true) ∧
    (∃ (s : State), s.alive = true ∧ s.isTile = true) ∧
    (∃ (s : State), ∃ (n : Nat), s.alive = true ∧ n < 4 ∧ (s.chan n).st ≠ .off ∧ (s.chan n).st ≠ .hold) ∧
    (∃ (s : State), ∃ b, s.alive = true ∧ b < 17) ∧
    (∃ (s : State), ∃ (k : Nat), s.alive = true ∧ k ≤ 1 ∧ (s.pwr.cores.getD k {}).state = 1 ∧ s.isArmed 0x0001 = false) ∧
    (∃ (s : State), ∃ (k : Nat), s.alive = true ∧ k ≤ 1 ∧ (s.pwr.cores.getD k {}).state = 1 ∧ s.isArmed 0x0001 = true) ∧
    (∃ (s : State), ∃ (k : Nat), s.alive = true ∧ k ≤ 1 ∧ (s.pwr.cores.getD k {}).state = 3) ∧
    (∃ (s : State), s.alive = true) ∧
    (∃ (i : JtagInstr), i ≠ .other ∧ i ≠ .idcode) ∧
    (∃ (s : State), ∃ kind, s.isLead = true ∧ s.alive = true ∧ kind ≤ 2) ∧
    (∃ (s : State), s.isLead = true ∧ s.alive = true ∧ s.pwr.d3hot = false) ∧
    (∃ (s : State), s.isLead = true ∧ s.alive = true ∧ s.pwr.d3hot = true) ∧
    (∃ (s : State), s.isLead = true ∧ s.alive = true) ∧
    (∃ (s : State), ∃ (r : Req), Ready s 0x0E00 r ∧ let m := beNat r.payload % 2 ^ 152; (∀ d, d ∈ [146, 147, 150, 151] → m.testBit d = false) ∧ (∀ d, d < 152 → m.testBit d = true → s.domOn d = false)) ∧
    (∃ (s : State), ∃ (r : Req), Ready s 0x0E04 r) :=
  ⟨⟨State.reset, by decide +kernel⟩,
   ⟨tile, 1000, by decide +kernel⟩,
   ⟨lead, 0, by decide +kernel⟩,
   ⟨lead, 2, by decide +kernel⟩,
   ⟨tile, 9, by decide +kernel⟩,
   ⟨tile, 10, by decide +kernel⟩,
   ⟨tile.onPwr ({ · with supplyOut := [2] }), 2, by decide +kernel⟩,
   ⟨tile.onPwr ({ · with supplyOut := [9] }), 9, by decide +kernel⟩,
   ⟨lead, 1, by decide +kernel⟩,
   ⟨tile, 2, by decide +kernel⟩,
   ⟨lead, 0, by decide +kernel⟩,
   ⟨tile.onPwr ({ · with pllLost := [2] }), 2, by decide +kernel⟩,
   ⟨tile, by decide +kernel⟩,
   ⟨lead.onMem ({ · with chans := [{}, {}, {}, { st := .run }] }), 3, by decide +kernel⟩,
   ⟨tile, 0, by decide +kernel⟩,
   ⟨lead.onPwr ({ · with cores := [{}, { state := 1 }] }), 1, by decide +kernel⟩,
   ⟨{ lead.onPwr ({ · with cores := [{}, { state := 1 }] }) with armed := [1] }, 1, by decide +kernel⟩,
   ⟨lead.onPwr ({ · with cores := [{ state := 3 }, {}] }), 0, by decide +kernel⟩,
   ⟨tile, by decide +kernel⟩,
   ⟨.sample, by decide +kernel⟩,
   ⟨lead, 2, by decide +kernel⟩,
   ⟨lead, by decide +kernel⟩,
   ⟨lead.onPwr ({ · with d3hot := true }), by decide +kernel⟩,
   ⟨lead, by decide +kernel⟩,
   ⟨lead, rq (zeros 20), ready_of (by decide +kernel), (by decide +kernel), (by decide +kernel)⟩,
   ⟨tile, rq [], ready_of (by decide +kernel)⟩⟩

/-- States and operands that meet the hypotheses of each clause of `TwilightCommandsComplete`. -/
theorem witness_TwilightCommandsComplete :
    (∃ (s : State), ∃ (r : Req), ∃ t, Ready s 0x0E01 r ∧ s.isTile = true ∧ timeAt r.payload 4 = some t ∧ r.isBcast = true ∧ r.epoch.toNat ≠ 0 ∧
       isAfter r.epoch.toNat (s.sleepAt 0).epoch = true ∧ s.sec.upd = none ∧ s.cal.run = none ∧ s.ems.setups = [] ∧ (s.sleepAt 0).state ≠ .twilight ∧
       (s.sleepAt 0).state ≠ .waking) ∧
    (∃ (s : State), ∃ (r : Req), ∃ t, Ready s 0x0E01 r ∧ s.isTile = false ∧ timeAt r.payload 4 = some t ∧ u8 r.payload 0 < 4 ∧ let x := s.sleepAt (u8 r.payload 0); r.epoch.toNat = nextSleep x.epoch ∧ s.derivedNow + (1000 * rawMs 20 : Nat) ≤ t ∧ (t : Int) ≤ s.derivedNow + (1000 * rawSec 10 : Nat) ∧ s.pai.relay.testBit (u8 r.payload 0) = false ∧ s.actDom.valid = true ∧ (s.pai.state = .solo ∨ s.pai.state = .active) ∧ s.ks.group.isSome = true ∧ (x.state = .awake ∨ x.state = .proposed) ∧ let f (u : State) := ((u.setSleep (u8 r.payload 0) { x with epoch := r.epoch.toNat, at_ := t, allOk := false, resuming := false }).sleepTo (u8 r.payload 0) .proposed).sleepJob 0x0E01 (u8 r.payload 0) 4 r.epoch.toNat (some r); (f (s.takeReq 0x0E01 r)).2 = none) ∧
    (∃ (s : State), ∃ (r : Req), ∃ t, Ready s 0x0E01 r ∧ s.isTile = false ∧ timeAt r.payload 4 = some t ∧ u8 r.payload 0 < 4 ∧ let x := s.sleepAt (u8 r.payload 0); r.epoch.toNat = nextSleep x.epoch ∧ s.derivedNow + (1000 * rawMs 20 : Nat) ≤ t ∧ (t : Int) ≤ s.derivedNow + (1000 * rawSec 10 : Nat) ∧ s.pai.relay.testBit (u8 r.payload 0) = false ∧ s.actDom.valid = true ∧ (s.pai.state = .solo ∨ s.pai.state = .active) ∧ s.ks.group.isSome = true ∧ (x.state = .awake ∨ x.state = .proposed) ∧ let f (u : State) := ((u.setSleep (u8 r.payload 0) { x with epoch := r.epoch.toNat, at_ := t, allOk := false, resuming := false }).sleepTo (u8 r.payload 0) .proposed).sleepJob 0x0E01 (u8 r.payload 0) 4 r.epoch.toNat (some r); ∃ a, (f (s.takeReq 0x0E01 r)).2 = some a ∧ a.status = stOk) ∧
    (∃ (s : State), ∃ (r : Req), Ready s 0x0E02 r ∧ s.isTile = true ∧ r.isBcast = true ∧ r.epoch.toNat = (s.sleepAt 0).epoch ∧
       (s.sleepAt 0).state = .proposed) ∧
    (∃ (s : State), ∃ (r : Req), Ready s 0x0E02 r ∧ s.isTile = false ∧ u8 r.payload 0 < 4 ∧ let x := s.sleepAt (u8 r.payload 0); r.epoch.toNat = x.epoch ∧ x.epoch ≠ 0 ∧ x.state = .proposed ∧ x.allOk = true ∧ s.derivedNow + commitMargin ≤ (x.at_ : Int) ∧ let f (u : State) := u.sleepJob 0x0E02 (u8 r.payload 0) 4 r.epoch.toNat (some r); (f (s.takeReq 0x0E02 r)).2 = none) ∧
    (∃ (s : State), ∃ (r : Req), Ready s 0x0E02 r ∧ s.isTile = false ∧ u8 r.payload 0 < 4 ∧ let x := s.sleepAt (u8 r.payload 0); r.epoch.toNat = x.epoch ∧ x.epoch ≠ 0 ∧ x.state = .proposed ∧ x.allOk = true ∧ s.derivedNow + commitMargin ≤ (x.at_ : Int) ∧ let f (u : State) := u.sleepJob 0x0E02 (u8 r.payload 0) 4 r.epoch.toNat (some r); ∃ a, (f (s.takeReq 0x0E02 r)).2 = some a ∧ a.status = stOk) ∧
    (∃ (s : State), ∃ (r : Req), Ready s 0x0E03 r ∧ s.isTile = true ∧ r.isBcast = true ∧ (r.epoch.toNat = 0 ∨ r.epoch.toNat = (s.sleepAt 0).epoch) ∧
       ((s.sleepAt 0).state = .proposed ∨ (s.sleepAt 0).state = .committed)) ∧
    (∃ (s : State), ∃ (r : Req), Ready s 0x0E03 r ∧ s.isTile = false ∧ u8 r.payload 0 < 4 ∧ let c := u8 r.payload 0; let x := s.sleepAt c; (r.epoch.toNat = 0 ∨ r.epoch.toNat = x.epoch) ∧ x.waiting = none ∧ x.state = .twilight) ∧
    (∃ (s : State), s.alive = true ∧ s.isTile = true ∧ (s.sleepAt 0).state = .committed ∧ ((s.sleepAt 0).at_ : Int) ≤ s.derivedNow) ∧
    (∃ (s : State), s.alive = true ∧ s.isTile = true ∧ (s.sleepAt 0).state = .proposed ∧ ((s.sleepAt 0).at_ : Int) ≤ s.derivedNow) ∧
    (∃ (s : State), s.alive = true ∧ s.isTile = false ∧ s.isLead = true ∧ (s.sleepAt 0).state = .committed ∧
       ((s.sleepAt 0).at_ : Int) ≤ s.derivedNow) ∧
    (∃ (s : State), ∃ (c : Nat), s.pwr.plainAt + rawMs 10 ≤ s.now ∧ s.isLead = true ∧ (List.range 8).filter s.beaconMode = [c]) ∧
    (∃ (s : State), ∃ (p : Nat), ∃ (b : List Byte), s.beaconMode p = true ∧ beaconKind b = some 1) ∧
    (∃ (s : State), ∃ (p : Nat), s.isTile = true ∧ s.isLead = false ∧ s.beaconMode p = true ∧ (s.sleepAt 0).state = .twilight ∧
       Map.at s.pwr.beaconAt 0 p + rawMs 35 ≤ s.now) ∧
    (∃ (s : State), ∃ (p : Nat), ∃ (b : List Byte), s.alive = true ∧ beaconKind b = some 2 ∧ s.isTile = false ∧ s.isLead = true ∧ p < 4 ∧
       u16 b 4 = (s.sleepAt p).epoch % 65536 ∧ (s.sleepAt p).state = .twilight ∧ s.isArmed 0x0E01 = false) ∧
    (∃ (s : State), ∃ (p : Nat), ∃ (b : List Byte), s.alive = true ∧ beaconKind b = some 2 ∧ s.isTile = false ∧ s.isLead = true ∧ p < 4 ∧
       u16 b 4 = (s.sleepAt p).epoch % 65536 ∧ (s.sleepAt p).state = .twilight ∧ s.isArmed 0x0E01 = true ∧ (s.sleepAt p).waiting = none) ∧
    (∃ (s : State), s.alive = true ∧ s.isLead = true ∧ ((s.sleepAt 0).armedWait = true ∨ (s.sleepAt 0).waiting.isSome = true) ∧
       (s.sleepAt 0).state = .twilight ∧ (s.dwellEnd 0 : Int) ≤ s.derivedNow) ∧
    (∃ (s : State), s.alive = true ∧ s.isLead = true ∧ s.pwr.sleep.length = 4) ∧
    (∃ (s : State), ∃ (p : Nat), ∃ (b : List Byte), s.alive = true ∧ s.isTile = true ∧ beaconKind b = some 3 ∧ s.linkPorts.contains p = true ∧
       (s.sleepAt 0).state = .twilight ∧ (u16 b 4 = 0 ∨ u16 b 4 = (s.sleepAt 0).epoch % 65536)) ∧
    (∃ (s : State), s.alive = true ∧ s.isTile = true ∧ (s.sleepAt 0).state = .waking ∧ s.pwr.qualifying = []) :=
  ⟨⟨tile, { bc 1 (zeros 16) with payload := zeros 16 }, 0, ready_of (by decide +kernel), by decide +kernel⟩,
   ⟨wallLead {}, { payload := zeros 4 ++ timeBytes (1000 * rawMs 20), epoch := 1 }, 1000 * rawMs 20, ready_of (by decide +kernel), by decide +kernel⟩,
   ⟨emptyWall {}, { payload := zeros 4 ++ timeBytes (1000 * rawMs 20), epoch := 1 }, 1000 * rawMs 20, ready_of (by decide +kernel), by decide +kernel,
      by decide +kernel, by decide +kernel, by decide +kernel, by decide +kernel, (by decide +kernel), by decide +kernel, by decide +kernel,
      by decide +kernel, by decide +kernel, by decide +kernel, lead.noTiles, by decide +kernel⟩,
   ⟨sleepTile { state := .proposed, epoch := 1 }, bc 1 (zeros 4), ready_of (by decide +kernel), by decide +kernel⟩,
   ⟨wallLead { state := .proposed, epoch := 1, allOk := true, at_ := commitMargin }, { payload := zeros 4, epoch := 1 }, ready_of (by decide +kernel),
      by decide +kernel⟩,
   ⟨emptyWall { state := .proposed, epoch := 1, allOk := true, at_ := commitMargin }, { payload := zeros 4, epoch := 1 },
      ready_of (by decide +kernel), by decide +kernel, by decide +kernel, by decide +kernel, by decide +kernel, by decide +kernel,
      (by decide +kernel), by decide +kernel, lead.noTiles, by decide +kernel⟩,
   ⟨sleepTile { state := .committed, epoch := 1 }, bc 0 (zeros 4), ready_of (by decide +kernel), by decide +kernel⟩,
   ⟨wallLead { state := .twilight, epoch := 1 }, rq (zeros 4), ready_of (by decide +kernel), by decide +kernel⟩,
   ⟨sleepTile { state := .committed }, by decide +kernel⟩,
   ⟨sleepTile { state := .proposed }, by decide +kernel⟩,
   ⟨wallLead { state := .committed }, by decide +kernel⟩,
   ⟨(wallLead { state := .twilight }).onTmu ({ · with raw := 2 ^ 60 }), 0, by decide +kernel⟩,
   ⟨sleepTile { state := .twilight }, 1, beaconBytes 1 255 0 0, by decide +kernel⟩,
   ⟨(sleepTile { state := .twilight }).onTmu ({ · with raw := 2 ^ 60 }), 0, by decide +kernel⟩,
   ⟨wallLead { state := .twilight, epoch := 1 }, 0, beaconBytes 2 255 1 0, by decide +kernel⟩,
   ⟨{ wallLead { state := .twilight, epoch := 1 } with armed := [0x0E01] }, 0, beaconBytes 2 255 1 0, by decide +kernel⟩,
   ⟨(wallLead { state := .twilight, armedWait := true }).onTmu ({ · with raw := 2 ^ 60 }), by decide +kernel⟩,
   ⟨lead, by decide +kernel⟩,
   ⟨sleepTile { state := .twilight }, 0, beaconBytes 3 255 0 0, by decide +kernel⟩,
   ⟨sleepTile { state := .waking }, by decide +kernel⟩⟩

/-- States and operands that meet the hypotheses of each clause of `TopologyCommandsComplete`. -/
theorem witness_TopologyCommandsComplete :
    (∃ (s : State), ∃ (r : Req), Ready s 0x0100 r ∧ r.isNearest = true) ∧
    (∃ (s : State), ∃ (r : Req), Ready s 0x0101 r ∧ u32 r.payload 20 ≠ 0 ∧ u32 r.payload 20 = r.epoch.toNat ∧ slice r.payload 0 16 = unitIdBytes ∧
       s.net.ports.length = 8) ∧
    (∃ (s : State), ∃ (r : Req), Ready s 0x0102 r ∧ s.chainPortOk (u8 r.payload 0) = true ∧ s.topoLocked = true ∧ (s.isTile = true → s.net.valid = true) ∧ let p := u8 r.payload 0; (s.portState p = .closed ∨ s.portState p = .lost) ∧ (s.port p).opening = none) ∧
    (∃ (s : State), ∃ (r : Req), Ready s 0x0102 r ∧ s.chainPortOk (u8 r.payload 0) = true ∧ s.topoLocked = true ∧ s.isTile = false ∧ let p := u8 r.payload 0; s.portState p = .off ∧ (s.port p).opening = none ∧ s.portForcedOff p = false) ∧
    (∃ (s : State), ∃ (r : Req), Ready s 0x0102 r ∧ s.chainPortOk (u8 r.payload 0) = true ∧ s.topoLocked = true ∧
       (s.isTile = true → s.net.valid = true) ∧ s.portState (u8 r.payload 0) = .open_) ∧
    (∃ (s : State), ∃ (r : Req), Ready s 0x0103 r ∧ s.chainPortOk (u8 r.payload 0) = true ∧ s.topoLocked = true ∧
       (s.isTile = true → s.net.valid = true) ∧ (s.portState (u8 r.payload 0) = .open_ ∨ s.portState (u8 r.payload 0) = .lost)) ∧
    (∃ (s : State), ∃ (r : Req), Ready s 0x0104 r ∧ s.portState s.downPort ≠ .open_) ∧
    (∃ (s : State), ∃ (r : Req), Ready s 0x0105 r ∧ u8 r.payload 0 < 4 ∧ s.topoLocked = true) ∧
    (∃ (s : State), ∃ (w : Word), s.alive = true ∧ s.isLead = true ∧ s.epochIgnored w = false) ∧
    (∃ (s : State), ∃ (w : Word), s.alive = true ∧ s.isLead = true ∧ s.epochIgnored w = true) ∧
    (∃ (s : State), ∃ (p : Nat), ∃ (f : Nat), s.alive = true ∧ p < 8 ∧ (s.isTile = true → p < 2) ∧ s.funcRefusal p f = 0 ∧ s.func p ≠ f) ∧
    (∃ (s : State), ∃ (p : Nat), s.alive = true ∧ p < 8 ∧ (s.isTile = true → p < 2) ∧ s.fecFixed p = false) ∧
    (∃ (s : State), ∃ (p : Nat), ∃ o, s.alive = true ∧ (s.port p).opening = some o ∧ o.dead = false) ∧
    (∃ (s : State), ∃ (p : Nat), s.alive = true ∧ (s.port p).opening = none ∧ (Map.find s.pwr.qualifying p).isSome = true) ∧
    (∃ (s : State), ∃ (p : Nat), ∃ o, s.alive = true ∧ (s.port p).opening = some o ∧ o.start + rawMs 20 ≤ s.now) ∧
    (∃ (s : State), ∃ (p : Nat), s.alive = true ∧ s.portState p = .lost ∧ (s.port p).again = false) :=
  ⟨⟨tile, { flags := 0x10 }, ready_of (by decide +kernel), by decide +kernel⟩,
   ⟨tile, { epoch := 7, payload := unitIdBytes ++ zeros 4 ++ b4 7 }, ready_of (by decide +kernel), by decide +kernel, by decide +kernel, (rfl),
      by decide +kernel⟩,
   ⟨(lead.setReg Reg.glbTopoCfg 0x80000000).setPortState 3 .closed, rq (b1 3 ++ zeros 3), ready_of (by decide +kernel), by decide +kernel⟩,
   ⟨lead.setReg Reg.glbTopoCfg 0x80000000, rq (b1 1 ++ zeros 3), ready_of (by decide +kernel), by decide +kernel⟩,
   ⟨heldTile.setPortState 1 .open_, rq (b1 1 ++ zeros 3), ready_of (by decide +kernel), by decide +kernel⟩,
   ⟨heldTile.setPortState 1 .lost, rq (b1 1 ++ zeros 3), ready_of (by decide +kernel), by decide +kernel⟩,
   ⟨tile, rq [], ready_of (by decide +kernel), by decide +kernel⟩,
   ⟨lead.setReg Reg.glbTopoCfg 0x80000000, rq (b1 3 ++ zeros 3), ready_of (by decide +kernel), by decide +kernel⟩,
   ⟨lead, 1, by decide +kernel⟩,
   ⟨lead, 0, by decide +kernel⟩,
   ⟨lead, 7, 4, by decide +kernel⟩,
   ⟨tile, 1, by decide +kernel⟩,
   ⟨tile.setPort 1 { opening := some { op := 0x0102, req := {}, start := 0, prev := .closed } }, 1, { op := 0x0102, req := {}, start := 0, prev := .closed },
      by decide +kernel⟩,
   ⟨tile.onPwr ({ · with qualifying := [(1, 0)] }), 1, by decide +kernel⟩,
   ⟨late.setPort 3 { opening := some { op := 0x0102, req := {}, start := 0, prev := .closed } }, 3, { op := 0x0102, req := {}, start := 0, prev := .closed },
      by decide +kernel⟩,
   ⟨lead.setPortState 3 .lost, 3, by decide +kernel⟩⟩

/-- States and operands that meet the hypotheses of each clause of `LinkCommandsComplete`. -/
theorem witness_LinkCommandsComplete :
    (∃ (s : State), ∃ (p : Nat), s.alive = true ∧ p < 8 ∧ (s.portState p = .open_ ∨ s.portState p = .up) ∧
       (if s.isTile then (s.pwr.sleep.getD 0 {}).state == .twilight else decide (p < 4) && s.chainAsleep p) = false) ∧
    (∃ (s : State), ∃ (p : Nat), ∃ (fills : Nat), ∃ (b : List Byte), ∃ x, s.alive = true ∧ p < 8 ∧ s.portState p ≠ .off ∧ markerOk b = true ∧
       u8 b 1 = 0x56 ∧ fills < 5 ∧ (s.port p).sfRx = some x ∧ u8 b 2 * 256 + u8 b 3 = (x + 1) % 65536) ∧
    (∃ (s : State), ∃ (p : Nat), s.alive = true ∧ p < 8 ∧ (s.port p).sfLock = true ∧ (s.port p).syncGone s.now = true) ∧
    (∃ (s : State), ∃ (p : Nat), s.alive = true ∧ p < 8 ∧ s.portState p ≠ .off) ∧
    (∃ (s : State), ∃ (p : Nat), s.alive = true ∧ p < 8 ∧ s.portSends p = true ∧ s.laneIdle p = false ∧ s.fed p = false ∧ let q := s.port p; let t := s.setPort p { q with slot := (q.slot + 1) % 16, sfTx := if q.slot = 15 then (q.sfTx + 1) % 65536 else q.sfTx }; let u := if q.slot = 0 then t.emits [.marker p (s.syncMarker q.sfTx), .marker p (markerBytes 0x1D 0 0 0 0)] else t; u.choose p q.slot = none) ∧
    (∃ (s : State), ∃ (p : Nat), s.alive = true ∧ p < 8 ∧ s.portSends p = true ∧ s.laneIdle p = false ∧ s.fed p = false ∧ let q := s.port p; let t := s.setPort p { q with slot := (q.slot + 1) % 16, sfTx := if q.slot = 15 then (q.sfTx + 1) % 65536 else q.sfTx }; let u := if q.slot = 0 then t.emits [.marker p (s.syncMarker q.sfTx), .marker p (markerBytes 0x1D 0 0 0 0)] else t; ∃ (m : TxMsg), u.choose p q.slot = some m ∧ u.net.tx.contains m = true) ∧
    (∃ (s : State), ∃ (p : Nat), s.alive = true ∧ p < 8 ∧ s.portSends p = true ∧ s.laneIdle p = false ∧ s.fed p = false ∧ let q := s.port p; let t := s.setPort p { q with slot := (q.slot + 1) % 16, sfTx := if q.slot = 15 then (q.sfTx + 1) % 65536 else q.sfTx }; let u := if q.slot = 0 then t.emits [.marker p (s.syncMarker q.sfTx), .marker p (markerBytes 0x1D 0 0 0 0)] else t; ∃ m, ∃ n, ∃ v, u.choose p q.slot = some m ∧ u.net.tx.contains m = false ∧ u.notifyMsg = some (n, v)) ∧
    (∃ (s : State), ∃ (p : Nat), ∃ (c : List Byte), s.alive = true ∧ p < 8 ∧ s.laneIdle p = false ∧ (s.portState p = .open_ ∨ s.portState p = .up) ∧
       c.length = 276 ∧ u8 c 0 / 16 = 0 ∧ crcState c = 0) ∧
    (∃ (s : State), ∃ (p : Nat), ∃ (slot : Nat), ∃ (c : List Byte), s.alive = true ∧ p < 8 ∧ s.laneIdle p = false ∧
       (s.portState p = .open_ ∨ s.portState p = .up) ∧ c.length = 276 ∧ u8 c 0 / 16 ≠ 0 ∧ u8 c 0 / 16 < 7 ∧ ¬(slot = 15 ∧
       (u8 c 0 / 16 = 1 ∨ u8 c 0 / 16 = 6)) ∧ ¬(u8 c 0 / 16 = 6 ∧ p ≠ 6) ∧ crcState c = 0 ∧ s.routeCell p c = .consume) ∧
    (∃ (s : State), ∃ (p : Nat), ∃ (slot : Nat), ∃ (c : List Byte), s.alive = true ∧ p < 8 ∧ s.laneIdle p = false ∧
       (s.portState p = .open_ ∨ s.portState p = .up) ∧ c.length = 276 ∧ u8 c 0 / 16 ≠ 0 ∧ u8 c 0 / 16 < 7 ∧ ¬(slot = 15 ∧
       (u8 c 0 / 16 = 1 ∨ u8 c 0 / 16 = 6)) ∧ ¬(u8 c 0 / 16 = 6 ∧ p ≠ 6) ∧ crcState c = 0 ∧ ∃ o, s.routeCell p c = .copy o) ∧
    (∃ (s : State), ∃ (p : Nat), ∃ (slot : Nat), ∃ (c : List Byte), s.alive = true ∧ p < 8 ∧ s.laneIdle p = false ∧
       (s.portState p = .open_ ∨ s.portState p = .up) ∧ c.length = 276 ∧ u8 c 0 / 16 ≠ 0 ∧ u8 c 0 / 16 < 7 ∧ ¬(slot = 15 ∧
       (u8 c 0 / 16 = 1 ∨ u8 c 0 / 16 = 6)) ∧ ¬(u8 c 0 / 16 = 6 ∧ p ≠ 6) ∧ crcState c = 0 ∧ ∃ o, s.routeCell p c = .forward o ∧ s.isLead = false) ∧
    (∃ (s : State), ∃ (p : Nat), ∃ (c : List Byte), s.alive = true ∧ p < 8 ∧ s.laneIdle p = false ∧ (s.portState p = .open_ ∨ s.portState p = .up) ∧
       c.length = 276 ∧ crcState c = 2 ∧ (s.port p).c1Run < 7 ∧ s.routeCell p c = .consume) ∧
    (∃ (s : State), ∃ (p : Nat), ∃ (c : List Byte), s.alive = true ∧ p < 8 ∧ s.laneIdle p = false ∧ s.portState p = .closed ∧
       nearFirst (fit 276 c) = false) ∧
    (∃ (s : State), ∃ (p : Nat), ∃ (x : Transit), s.alive = true ∧ p < 8 ∧ s.isTile = true ∧ s.isLead = false ∧ s.net.transit.find? (fun x => x.outPort == p) = some x) ∧
    (∃ (s : State), ∃ (p : Nat), ∃ (x : Transit), s.alive = true ∧ p < 8 ∧ s.isTile = true ∧ s.isLead = false ∧ s.net.transit.find? (fun x => x.outPort == p) = some x ∧ x.bytes ≠ []) ∧
    (∃ (s : State), ∃ (p : Nat), ∃ (b : List Byte), s.alive = true ∧ p < 8 ∧ s.isTile = true ∧ s.isLead = false ∧ (s.portState p = .up ∨ s.portState p = .open_) ∧ markerOk b = true ∧ u8 b 1 = 0xEC ∧ (u8 b 2 / 64 = 0 ∨ u8 b 2 / 64 = 2) ∧ s.net.ecl.acted.any (fun x => x.1 == u8 b 2 % 16 && x.2.1 == u8 b 3 && decide (s.now < x.2.2 + eclipseWindow)) = false) ∧
    (∃ (s : State), ∃ (r : Req), Ready s 0x0705 r ∧ u8 r.payload 0 = 2 ∧ let e := s.net.ecl.nextEseq; s.net.ecl.sentAt.any (fun x => x.1 == e && decide (s.now < x.2 + eclipseWindow)) = false) ∧
    (∃ (s : State), ∃ (r : Req), ∃ h, Ready s 0x0706 r ∧ s.isTile = true ∧ (u8 r.payload 0 = 2 ∨ (u8 r.payload 0 = 0 ∧ u8 r.payload 1 < 4)) ∧
       u8 r.payload 2 < 16 ∧ Map.find s.net.ecl.holds (u8 r.payload 2) = some h ∧ h.eseq = u8 r.payload 3 ∧ (h.safe = true → r.isSafety = true) ∧
       Map.del s.net.ecl.holds (u8 r.payload 2) = []) :=
  ⟨⟨tile.setPortState 1 .up, 1, by decide +kernel⟩,
   ⟨tile.setPort 1 { state := .open_, sfRx := some 65535 }, 1, 4, markerBytes 0x56 0 0 0 0, 65535, by decide +kernel⟩,
   ⟨late.setPort 7 { sfLock := true }, 7, by decide +kernel⟩,
   ⟨lead.setPortState 7 .active, 7, by decide +kernel⟩,
   ⟨tile.setPortState 1 .up, 1, by decide +kernel⟩,
   ⟨sendTile, 1, by decide +kernel, by decide +kernel, by decide +kernel, by decide +kernel, by decide +kernel, { port := 1, typ := 5, dest := 0, key := 0, body := [] },
      by decide +kernel⟩,
   ⟨noteTile 3, 0, by decide +kernel, by decide +kernel, by decide +kernel, by decide +kernel, by decide +kernel, noteMsg, noteMsg,
      (noteTile 4).onEvt ({ · with heldRecs := [] }), by decide +kernel⟩,
   ⟨tile.setPortState 1 .up, 1, idleCell, by decide +kernel⟩,
   ⟨lead.setPortState 3 .open_, 3, 14, cellOf (b1 0x22 ++ b1 0 ++ b2 0x0FF), by decide +kernel⟩,
   ⟨heldTile.setPorts .up .open_, 0, 14, cellOf (b1 0x22 ++ b1 0 ++ b2 0x80FF), by decide +kernel, by decide +kernel, by decide +kernel,
      by decide +kernel, by decide +kernel, (by decide +kernel), by decide +kernel, by decide +kernel, by decide +kernel, by decide +kernel, 1,
      by decide +kernel⟩,
   ⟨heldTile.setPorts .up .open_, 0, 14, cellOf (b1 0x22 ++ b1 0 ++ b2 5), by decide +kernel, by decide +kernel, by decide +kernel, by decide +kernel,
      by decide +kernel, (by decide +kernel), by decide +kernel, by decide +kernel, by decide +kernel, by decide +kernel, 1, by decide +kernel⟩,
   ⟨lead.setPortState 3 .open_, 3, b1 0x22 ++ b1 0 ++ b2 0x0FF ++ zeros 272, by decide +kernel⟩,
   ⟨tile.setPortState 1 .closed, 1, idleCell, by decide +kernel⟩,
   ⟨transTile [], 1, trans [], by decide +kernel⟩,
   ⟨transTile [0], 1, trans [0], by decide +kernel⟩,
   ⟨tile.setPortState 1 .up, 1, markerBytes 0xEC 0x80 0 0 0, by decide +kernel⟩,
   ⟨lead, rq (b1 2 ++ zeros 3), ready_of (by decide +kernel), by decide +kernel⟩,
   ⟨tile.onNet ({ · with ecl := { holds := [(15, ecl0)] } }), rq (b1 2 ++ b1 0 ++ b1 15 ++ b1 255), ecl0, ready_of (by decide +kernel),
      by decide +kernel⟩⟩

/-- States and operands that meet the hypotheses of each clause of `CounterClears`. -/
theorem witness_CounterClears :
    (∃ (s : State), s.alive = true ∧ ∃ (p : Nat), p < 8 ∧ (s.isTile = true → p < 2)) ∧
    (∃ (s : State), s.alive = true) ∧
    (∃ (s : State), s.alive = true ∧ ∃ m, m < 4 ∧ s.isLead = true ∧ s.strOn m = false) ∧
    (∃ (s : State), s.alive = true ∧ ∃ m, m < 4 ∧ s.isLead = true ∧ s.strOn m = true) ∧
    (∃ (s : State), ∃ (w : Word), s.alive = true ∧ w.toNat.testBit 7 = false) ∧
    (∃ (s : State), ∃ (w : Word), s.alive = true ∧ w.toNat.testBit 7 = true) ∧
    (∃ (s : State), s.alive = true ∧ s.isTile = true) ∧
    (∃ (s : State), s.alive = true ∧ ∃ (ch : Nat), ch < 4 ∧ (s.isTile = true → ch = 0)) ∧
    (∃ (s : State), s.alive = true ∧ s.isLead = true) :=
  ⟨⟨tile, by decide +kernel, 1, by decide +kernel⟩,
   ⟨lead, by decide +kernel⟩,
   ⟨lead, by decide +kernel, 3, by decide +kernel⟩,
   ⟨pktLead, by decide +kernel, 3, by decide +kernel⟩,
   ⟨tile, 0x7F, by decide +kernel⟩,
   ⟨tile, 0xFF, by decide +kernel⟩,
   ⟨tile, by decide +kernel⟩,
   ⟨lead, by decide +kernel, 3, by decide +kernel⟩,
   ⟨lead, by decide +kernel⟩⟩

/-- States and operands that meet the hypotheses of each clause of `RegisterWritesComplete`. -/
theorem witness_RegisterWritesComplete :
    (∃ (s : State), ∃ (r : Req), ∃ (t : State), Ready s 0x0003 r ∧ u32 r.payload 0 % 4 = 0 ∧
       (s.takeReq 0x0003 r).firstRefused r (u32 r.payload 0) 0 (words32 (r.payload.drop 4)) = none ∧
       (s.takeReq 0x0003 r).writeWords r (u32 r.payload 0) 0 (words32 (r.payload.drop 4)) = (t, none) ∧
       ¬(touchesBg (u32 r.payload 0) (words32 (r.payload.drop 4)).length = true ∧ s.derived < s.holdUntil)) ∧
    (∃ (s : State), ∃ (r : Req), ∃ (t : State), Ready s 0x0003 r ∧ u32 r.payload 0 % 4 = 0 ∧
       (s.takeReq 0x0003 r).firstRefused r (u32 r.payload 0) 0 (words32 (r.payload.drop 4)) = none ∧
       (s.takeReq 0x0003 r).writeWords r (u32 r.payload 0) 0 (words32 (r.payload.drop 4)) = (t, none) ∧
       touchesBg (u32 r.payload 0) (words32 (r.payload.drop 4)).length = true ∧ s.derived < s.holdUntil) ∧
    (∃ (s : State), ∃ (r : Req), ∃ t, ∃ x, Ready s 0x0003 r ∧ u32 r.payload 0 % 4 = 0 ∧
       (s.takeReq 0x0003 r).firstRefused r (u32 r.payload 0) 0 (words32 (r.payload.drop 4)) = some (t, x)) ∧
    (∃ (s : State), ∃ (a : Nat), s.alive = true ∧ a < 0x00E00000 ∧ (regRow (a / 4 * 4)).isSome = true ∧ s.regOff (a / 4 * 4) = false) ∧
    (∃ (s : State), s.alive = true) ∧
    (∃ (s : State), ∃ (a : Nat), s.alive = true ∧ 0x00E00000 ≤ a ∧ a < 0x01000000) ∧
    (∃ (s : State), ∃ (a : Nat), s.alive = true ∧ a < 0x00E00000 ∧ ((regRow (a / 4 * 4)).isNone = true ∨ s.regOff (a / 4 * 4) = true)) :=
  ⟨⟨lead, rq (b4 Reg.cmpBg0 ++ b4 1), ((lead.takeReq 0x0003 (rq (b4 Reg.cmpBg0 ++ b4 1))).writeWords (rq (b4 Reg.cmpBg0 ++ b4 1)) Reg.cmpBg0 0 [1]).1,
     ready_of (by decide +kernel), by decide +kernel⟩,
   ⟨begunTile, rq (b4 Reg.cmpBg0 ++ b4 1),
      ((begunTile.takeReq 0x0003 (rq (b4 Reg.cmpBg0 ++ b4 1))).writeWords (rq (b4 Reg.cmpBg0 ++ b4 1)) Reg.cmpBg0 0 [1]).1,
      ready_of (by decide +kernel), by decide +kernel⟩,
   ⟨lead, rq (b4 0xFFFFC ++ b4 1), ((lead.takeReq 3 (rq (b4 0xFFFFC ++ b4 1))).writeWord (rq (b4 0xFFFFC ++ b4 1)) 0xFFFFC 0 1).1,
      rspErr stBadAddress, ready_of (by decide +kernel), by decide +kernel⟩,
   ⟨lead, Reg.cmpBg0 + 3, by decide +kernel⟩,
   ⟨lead, by decide +kernel⟩,
   ⟨lead, 0x00FFFFFF, by decide +kernel⟩,
   ⟨lead, 0x00DFFFFF, by decide +kernel⟩⟩

/-- States and operands that meet the hypotheses of each clause of `MeridianCommandsComplete`. -/
theorem witness_MeridianCommandsComplete :
    (∃ (s : State), ∃ (k : Nat), s.alive = true ∧ 1 ≤ k ∧ k < 12 ∧
       (s.tmu.snap.fresh = false ∨ k ∈ s.tmu.snap.read ∨ s.tmu.snap.raw + rawUs 100 < s.now)) ∧
    (∃ (s : State), ∃ (k : Nat), s.alive = true ∧ 1 ≤ k ∧ k < 12 ∧ s.tmu.snap.fresh = true ∧ k ∉ s.tmu.snap.read ∧
       s.now ≤ s.tmu.snap.raw + rawUs 100) ∧
    (∃ (s : State), s.alive = true) ∧
    (∃ (s : State), ∃ (ctl : Word), s.alive = true ∧ ctl.toNat % 4 ≠ 0 ∧ let value := if ctl.toNat.testBit 0 then s.stgValue else none; let rate := if ctl.toNat.testBit 1 then some s.stgRate else none; let why := if ctl.toNat.testBit 0 ∧ s.stgValue.isNone then some 3 else s.stageRefusal (ctl.toNat.testBit 4) value rate s.stgAt (ctl.toNat.testBit 5); why = none) ∧
    (∃ (s : State), ∃ (ctl : Word), s.alive = true ∧ ctl.toNat % 4 ≠ 0 ∧ let value := if ctl.toNat.testBit 0 then s.stgValue else none; let rate := if ctl.toNat.testBit 1 then some s.stgRate else none; let why := if ctl.toNat.testBit 0 ∧ s.stgValue.isNone then some 3 else s.stageRefusal (ctl.toNat.testBit 4) value rate s.stgAt (ctl.toNat.testBit 5); ∃ (c : Nat), why = some c) ∧
    (∃ (s : State), ∃ d, ∃ (w : Staged), s.alive = true ∧ (s.dom d).pend = some w ∧ w.at_ ≤ s.now) ∧
    (∃ (s : State), ∃ (r : Req), Ready s 0x0200 r) ∧
    (∃ (s : State), ∃ (r : Req), ∃ v, Ready s 0x0201 r ∧ u8 r.payload 0 ≤ 1 ∧ u8 r.payload 1 ≤ 1 ∧ timeAt r.payload 4 = some v ∧
       (u8 r.payload 1 = 0 → fieldAt r.payload 16 3 = 0) ∧
       s.stageRefusal (u8 r.payload 0 == 1) (some v) none (fieldAt r.payload 16 12) (u8 r.payload 1 == 1) = none) ∧
    (∃ (s : State), ∃ (r : Req), Ready s 0x0202 r ∧ u8 r.payload 0 ≤ 1 ∧ u8 r.payload 1 ≤ 1 ∧ (u8 r.payload 1 = 0 → fieldAt r.payload 12 3 = 0) ∧
       s.stageRefusal (u8 r.payload 0 == 1) none (some (u64 r.payload 4)) (fieldAt r.payload 12 12) (u8 r.payload 1 == 1) = none) ∧
    (∃ (s : State), ∃ (r : Req), Ready s 0x0203 r ∧ u8 r.payload 0 ≤ 1 ∧ u8 r.payload 1 ≤ 1 ∧ (u8 r.payload 0 == 1) = s.tmu.active) ∧
    (∃ (s : State), ∃ (r : Req), Ready s 0x0203 r ∧ u8 r.payload 0 ≤ 1 ∧ u8 r.payload 1 ≤ 1 ∧ (u8 r.payload 0 == 1) ≠ s.tmu.active ∧
       s.tmu.bridge = none ∧ s.tmu.switch = none ∧ s.isTile = true ∧ s.lch.table = [] ∧ s.kl05Blocks (u8 r.payload 0) s.now = false) ∧
    (∃ (s : State), ∃ (r : Req), Ready s 0x0203 r ∧ u8 r.payload 0 ≤ 1 ∧ u8 r.payload 1 ≤ 1 ∧ (u8 r.payload 0 == 1) ≠ s.tmu.active ∧
       s.tmu.bridge = none ∧ s.tmu.switch = none ∧ s.isTile = false ∧ s.waitsForLaunch = false ∧ (s.dom (u8 r.payload 0 == 1)).valid = true ∧
       s.kl05Blocks (u8 r.payload 0) s.now = false) ∧
    (∃ (s : State), ∃ (r : Req), Ready s 0x0203 r ∧ u8 r.payload 0 ≤ 1 ∧ u8 r.payload 1 ≤ 1 ∧ (u8 r.payload 0 == 1) ≠ s.tmu.active ∧
       s.tmu.bridge = none ∧ s.tmu.switch = none ∧ s.isTile = false ∧ s.waitsForLaunch = true) ∧
    (∃ (s : State), ∃ (r : Req), Ready s 0x0204 r ∧ (u8 r.payload 0 = 4 ∨ u8 r.payload 0 = 5 ∨ u8 r.payload 0 = 7) ∧ u8 r.payload 1 ≤ 1 ∧
       u8 r.payload 2 ≤ 127 ∧ ¬((u8 r.payload 3).testBit 0 = true ∧ (s.ptp (u8 r.payload 1 == 0)).enabled = true ∧
       (s.ptp (u8 r.payload 1 == 0)).domain = u8 r.payload 2) ∧ 2 ≤ u8 r.payload 4 ∧ u8 r.payload 4 ≤ 10) ∧
    (∃ (s : State), ∃ (r : Req), Ready s 0x0205 r ∧ u8 r.payload 0 < 8 ∧ (s.isTile = true → u8 r.payload 0 < 2) ∧
       s.volziaPort (u8 r.payload 0) = true ∧ s.tmu.pathCal = none ∧ s.ringCal (u8 r.payload 0) = false) ∧
    (∃ (s : State), ∃ (r : Req), Ready s 0x0205 r ∧ u8 r.payload 0 < 8 ∧ (s.isTile = true → u8 r.payload 0 < 2) ∧
       s.volziaPort (u8 r.payload 0) = true ∧ s.tmu.pathCal = none ∧ s.ringCal (u8 r.payload 0) = true) ∧
    (∃ (s : State), ∃ (r : Req), Ready s 0x0206 r) ∧
    (∃ (s : State), ∃ (n : Nat), ∃ e, ∃ rest, s.alive = true ∧ n < 4 ∧ (s.tmu.caps.getD n {}).entries = e :: rest) ∧
    (∃ (s : State), ∃ d, s.alive = true ∧ ((s.dom d).servo = .acquire ∨ (s.dom d).servo = .locked) ∧
       (s.dom d).sampleAt + 16 * s.sampleInterval d ≤ s.now) ∧
    (∃ (s : State), ∃ d, ∃ q, s.alive = true ∧ s.isLead = true ∧ (s.ptp d).best = some q ∧ ((s.ptp d).port q).enabled = true ∧
       ((s.ptp d).port q).expired s.now = true ∧ s.domSrc d = 1 ∧ (s.dom d).servo ≠ .holdover ∧ (s.dom d).servo ≠ .free) ∧
    (∃ (s : State), ∃ d, ∃ q, s.alive = true ∧ s.isLead = true ∧ (s.ptp d).best = some q ∧ ((s.ptp d).port q).enabled = true ∧
       ((s.ptp d).port q).expired s.now = true ∧ s.domSrc d ≠ 1) ∧
    (∃ (s : State), s.alive = true ∧ s.tmu.bridge.isSome = true ∧ s.bridgeNow = 0) :=
  ⟨⟨tile, 11, by decide +kernel⟩,
   ⟨tile.onTmu ({ · with snap := { fresh := true, read := [1] } }), 11, by decide +kernel⟩,
   ⟨tile.onTmu ({ · with bridge := some (0, 0) }), by decide +kernel⟩,
   ⟨tile.setReg Reg.tmuStgRate 0x0003E800, 0x22, by decide +kernel⟩,
   ⟨tile, 0x22, by decide +kernel, by decide +kernel, 1, by decide +kernel⟩,
   ⟨(tile.setDom true { pend := some { at_ := 0 } }), true, { at_ := 0 }, by decide +kernel⟩,
   ⟨tile, rq [], ready_of (by decide +kernel)⟩,
   ⟨late, rq (b1 1 ++ b1 0 ++ zeros 2 ++ timeBytes (1000 * (2 ^ 60 + rawUs 2)) ++ beBytes 12 (2 ^ 60 + rawUs 2)), 1000 * (2 ^ 60 + rawUs 2),
      ready_of (by decide +kernel), by decide +kernel⟩,
   ⟨tile, rq (b1 0 ++ b1 1 ++ zeros 2 ++ b8 0x0003E80000000000 ++ zeros 12), ready_of (by decide +kernel), by decide +kernel⟩,
   ⟨tile, rq (zeros 4), ready_of (by decide +kernel), by decide +kernel⟩,
   ⟨tile, rq (b1 1 ++ zeros 3), ready_of (by decide +kernel), by decide +kernel⟩,
   ⟨lead.setDom true { valid := true }, rq (b1 1 ++ zeros 3), ready_of (by decide +kernel), by decide +kernel⟩,
   ⟨lead.onLch ({ · with state := .run }), rq (b1 1 ++ zeros 3), ready_of (by decide +kernel), by decide +kernel⟩,
   ⟨lead, rq (b1 7 ++ b1 1 ++ b1 127 ++ b1 1 ++ b1 10 ++ zeros 3), ready_of (by decide +kernel), by decide +kernel⟩,
   ⟨tile.setPortState 1 .up, rq (b1 1 ++ zeros 3), ready_of (by decide +kernel), by decide +kernel⟩,
   ⟨ringLead, rq (zeros 4), ready_of (by decide +kernel), by decide +kernel⟩,
   ⟨tile, rq [], ready_of (by decide +kernel)⟩,
   ⟨tile.setCap 3 { entries := [(1, 2)] }, 3, (1, 2), [], by decide +kernel⟩,
   ⟨lateTile.onTmu ({ · with d0 := { servo := .locked } }), false, by decide +kernel⟩,
   ⟨ptpGone.setReg Reg.tmuDomCfg 0x20000000, false, 4, by decide +kernel⟩,
   ⟨ptpGone, false, 4, by decide +kernel⟩,
   ⟨tile.onTmu ({ · with bridge := some (0, 0) }), by decide +kernel⟩⟩

/-- States and operands that meet the hypotheses of each clause of `MeridianCellsComplete`. -/
theorem witness_MeridianCellsComplete :
    (∃ (s : State), ∃ (port : Nat), ∃ d, s.alive = true ∧ s.isLead = true ∧ s.tmuOn = true ∧ port < 8 ∧ s.bit Reg.tmuCfg (24 + port) = true ∧
       (s.dom d).valid = true ∧ s.portState port = .open_) ∧
    (∃ (s : State), ∃ d, s.alive = true ∧ s.isTile = true ∧ s.tmuOn = true ∧ s.net.valid = true ∧ s.domSrc d = 4) ∧
    (∃ (s : State), ∃ (port : Nat), s.alive = true ∧ s.tmuOn = true ∧ port < 8 ∧ s.volziaPort port = true) ∧
    (∃ (s : State), ∃ (m : Msg), s.alive = true ∧ u8 m.body 0 = 5) ∧
    (∃ (s : State), ∃ (m : Msg), ∃ (tx : Nat), s.alive = true ∧ s.coreFaulted 1 = false ∧ u8 m.body 0 = 6 ∧
       Map.find s.tmu.pdreq (65536 * m.port + u16 m.body 2) = some tx) ∧
    (∃ (s : State), ∃ (m : Msg), s.alive = true ∧ s.tmuOn = true ∧ u8 m.body 0 = 1) ∧
    (∃ (s : State), ∃ (m : Msg), ∃ (stamp : Nat), ∃ (cs : Nat), ∃ (t1 : Nat), s.alive = true ∧ s.tmuOn = true ∧ u8 m.body 0 = 2 ∧ timeAt m.body 6 = some t1 ∧ let d := (u8 m.body 1).testBit 0; let x := (s.takeMsgRow m).dom d; x.sync = some (u16 m.body 2, stamp, cs) ∧ s.takesTime d m.port = true ∧ m.stamp ≤ stamp + s.sampleInterval d ∧ ∃ delay, s.pathDelay d m.port = some delay ∧ s.coreFaulted 1 = false ∧ (u8 m.body 1).testBit 1 = true) ∧
    (∃ (s : State), ∃ (m : Msg), ∃ (stamp : Nat), ∃ (cs : Nat), ∃ (t1 : Nat), s.alive = true ∧ s.tmuOn = true ∧ u8 m.body 0 = 2 ∧ timeAt m.body 6 = some t1 ∧ let d := (u8 m.body 1).testBit 0; let x := (s.takeMsgRow m).dom d; x.sync = some (u16 m.body 2, stamp, cs) ∧ s.takesTime d m.port = true ∧ m.stamp ≤ stamp + s.sampleInterval d ∧ s.pathDelay d m.port = none) ∧
    (∃ (s : State), ∃ (m : Msg), s.alive = true ∧ s.isLead = true ∧ u8 m.body 0 = 3 ∧ m.port ≠ 6 ∧ s.pai.tails = 0 ∧ let req := u16 m.body 4 % 4096; m.hops = req % 64 ∧ m.corr ≤ m.hops * 26214 ∧ s.isSourceFor m = true) ∧
    (∃ (s : State), ∃ (m : Msg), s.alive = true ∧ s.isLead = true ∧ u8 m.body 0 = 3 ∧ m.port ≠ 6 ∧ s.pai.tails = 0 ∧ let req := u16 m.body 4 % 4096; m.hops ≠ req % 64) ∧
    (∃ (s : State), ∃ (m : Msg), ∃ (st3 : Nat), ∃ (t1 : Nat), ∃ (st2 : Nat), ∃ (cs : Nat), ∃ (t4 : Nat), s.alive = true ∧ s.isTile = true ∧ s.coreFaulted 1 = false ∧ u8 m.body 0 = 4 ∧ timeAt m.body 6 = some t4 ∧ let d := (u8 m.body 1).testBit 0; let x := (s.takeMsgRow m).dom d; let m2 : Int := (x.at st2 - x.at st3) + ((t4 : Int) - t1) - (cs : Int) * 1000 - (fieldAt m.body 18 6 : Int) * 1000; x.dreq = some (u16 m.body 2, some st3) ∧ x.lastSync = some (t1, st2, cs) ∧ (x.mpds = [] ∨ (m2 - 2 * x.mpd).natAbs ≤ 2 * 655360)) ∧
    (∃ (s : State), ∃ (m : Msg), ∃ (st3 : Nat), ∃ (t1 : Nat), ∃ (st2 : Nat), ∃ (cs : Nat), ∃ (t4 : Nat), s.alive = true ∧ s.isTile = true ∧ s.coreFaulted 1 = false ∧ u8 m.body 0 = 4 ∧ timeAt m.body 6 = some t4 ∧ let d := (u8 m.body 1).testBit 0; let x := (s.takeMsgRow m).dom d; let m2 : Int := (x.at st2 - x.at st3) + ((t4 : Int) - t1) - (cs : Int) * 1000 - (fieldAt m.body 18 6 : Int) * 1000; x.dreq = some (u16 m.body 2, some st3) ∧ x.lastSync = some (t1, st2, cs) ∧ x.mpds ≠ [] ∧ 2 * 655360 < (m2 - 2 * x.mpd).natAbs) ∧
    (∃ (s : State), ∃ (m : Msg), ∃ c, ∃ (sent : Nat), s.alive = true ∧ u8 m.body 0 = 7 ∧ s.tmu.pathCal = some c ∧ c.ring = true ∧ let p6 := (u8 m.body 1).testBit 3; let k := u16 m.body 2 * 2 + bn p6; Map.find c.loops k = some sent ∧ p6 = true) ∧
    (∃ (s : State), ∃ (m : Msg), ∃ c, ∃ (sent : Nat), s.alive = true ∧ u8 m.body 0 = 7 ∧ s.tmu.pathCal = some c ∧ c.ring = true ∧ let p6 := (u8 m.body 1).testBit 3; let k := u16 m.body 2 * 2 + bn p6; Map.find c.loops k = some sent ∧ p6 = false ∧ c.cw.length ≠ 63) ∧
    (∃ (s : State), ∃ c, s.alive = true ∧ s.coreFaulted 0 = false ∧ s.tmu.pathCal = some c ∧ c.ring = false ∧ 64 ≤ c.cw.length) ∧
    (∃ (s : State), ∃ c, s.alive = true ∧ s.coreFaulted 0 = false ∧ s.tmu.pathCal = some c ∧ c.ring = true ∧ 64 ≤ c.cw.length ∧ 64 ≤ c.ccw.length ∧
       64 * 64 * 64 * 687195 < spread (List.zipWith (· - ·) (c.cw.take 64) (c.ccw.take 64)) * 100000) ∧
    (∃ (s : State), ∃ (port : Nat), ∃ (p : PtpMsg), s.alive = true ∧ s.isLead = true ∧ s.func port = 2 ∧ s.tmu.ptp1.enabled = false ∧
       (s.tmu.ptp0.port port).enabled = true ∧ s.tmu.ptp0.domain = p.domain ∧ p.kind = 3 ∧ (s.tmu.ptp0.port port).master = none ∧ ∃ (y : PtpMaster),
       y = ⟨p.rank, p.gm, p.sender, p.ip, p.utcOffset, p.logInterval, s.now⟩) ∧
    (∃ (s : State), ∃ (port : Nat), ∃ (p : PtpMsg), ∃ c, s.alive = true ∧ s.isLead = true ∧ s.func port = 2 ∧ s.tmu.ptp1.enabled = false ∧
       (s.tmu.ptp0.port port).enabled = true ∧ s.tmu.ptp0.domain = p.domain ∧ p.kind = 0 ∧ p.twoStep = true ∧ s.tmu.ptp0.best = some port ∧
       (s.tmu.ptp0.port port).master = some c ∧ c.sender = p.sender ∧ s.domSrc false = 1 ∧ s.tmuOn = true ∧ s.coreFaulted 1 = false) :=
  ⟨⟨(onLead.setPortState 3 .open_).setDom true { valid := true }, 3, true, by decide +kernel⟩,
   ⟨(heldTile.setReg Reg.tmuCfg 1).setReg Reg.tmuDomCfg 0x80000000, false, by decide +kernel⟩,
   ⟨(tile.setReg Reg.tmuCfg 1).setPortState 1 .up, 1, by decide +kernel⟩,
   ⟨tile, { body := [5] }, by decide +kernel⟩,
   ⟨tile.onTmu ({ · with pdreq := [(0, 3)] }), { body := [6] }, 3, by decide +kernel⟩,
   ⟨tile.setReg Reg.tmuCfg 1, { body := [1] }, by decide +kernel⟩,
   ⟨syncTile.setDom false { sync := some (0, 5, 6), mpds := [0] }, { body := [2, 2] }, 5, 6, 0, by decide +kernel, by decide +kernel,
      by decide +kernel, by decide +kernel, by decide +kernel, (by decide +kernel), by decide +kernel, 0, by decide +kernel⟩,
   ⟨syncTile, { body := [2, 2] }, 5, 6, 0, by decide +kernel⟩,
   ⟨onLead, { body := b1 3 ++ zeros 3 ++ b2 1, hops := 1, corr := 26214, dest := leadAddr 0 }, by decide +kernel⟩,
   ⟨lead, { body := b1 3 ++ zeros 3 ++ b2 1 }, by decide +kernel⟩,
   ⟨drespTile [] 0, { body := [4] }, 3, 0, 0, 0, 0, by decide +kernel⟩,
   ⟨drespTile [0] 1313722, { body := [4], stamp := 3 }, 3, 0, 1313722, 0, 0, by decide +kernel⟩,
   ⟨tile.onTmu ({ · with pathCal := some pc0 }), { body := [7, 8] }, pc0, 5, by decide +kernel⟩,
   ⟨tile.onTmu ({ · with pathCal := some { pc0 with loops := [(0, 5)] } }), { body := [7] }, { pc0 with loops := [(0, 5)] }, 5, by decide +kernel⟩,
   ⟨tile.onTmu ({ · with pathCal := some { pc0 with ring := false, cw := List.replicate 64 0 } }), { pc0 with ring := false, cw := List.replicate 64 0 },
      by decide +kernel⟩,
   ⟨lead.onTmu ({ · with pathCal := some pcSpread }), pcSpread, by decide +kernel⟩,
   ⟨ptpLead, 4, { kind := 3, rank := 9 }, by decide +kernel, by decide +kernel, by decide +kernel, by decide +kernel, by decide +kernel,
      (by decide +kernel), by decide +kernel, by decide +kernel, ⟨9, 0, 0, 0, 0, 0, 0⟩, by decide +kernel⟩,
   ⟨ptpSync, 4, { kind := 0, twoStep := true }, ⟨9, 0, 0, 0, 0, 0, 0⟩, by decide +kernel⟩⟩

/-- States and operands that meet the hypotheses of each clause of `LaunchCommandsComplete`. -/
theorem witness_LaunchCommandsComplete :
    (∃ (s : State), ∃ input, s.alive = true ∧ s.isLead = true ∧ s.tmuOn = true ∧ input < 4 ∧ (u8 (s.lch.shref.getD input []) 1).testBit 0 = true ∧
       (u8 (s.lch.shref.getD input []) 1).testBit 2 = false) ∧
    (∃ (s : State), ∃ input, s.alive = true ∧ s.isLead = true ∧ s.tmuOn = true ∧ input < 4 ∧ (u8 (s.lch.shref.getD input []) 1).testBit 0 = true ∧
       (u8 (s.lch.shref.getD input []) 1).testBit 2 = true) ∧
    (∃ (s : State), ∃ (r : Req), Ready s 0x0300 r ∧ s.isLead = true ∧ lchFault true r.payload = none ∧ (s.takeReq 0x0300 r).lchOver r.payload = none ∧
       s.lch.state ≠ .run ∧ s.lch.state ≠ .stopping ∧ s.lch.state ≠ .tRun ∧ s.lch.state ≠ .tCoast) ∧
    (∃ (s : State), ∃ (r : Req), Ready s 0x0300 r ∧ s.isLead = false ∧ lchFault false r.payload = none ∧
       (s.takeReq 0x0300 r).lchMisfit r.payload = none ∧ s.lch.state ≠ .run ∧ s.lch.state ≠ .stopping ∧ s.lch.state ≠ .tRun ∧ s.lch.state ≠ .tCoast) ∧
    (∃ (s : State), ∃ (r : Req), ∃ l, Ready s 0x0301 r ∧ timeAt r.payload 0 = some l ∧ s.derivedNow + 1000 * rawUs 500 ≤ (l : Int) ∧
       s.bit Reg.glbTopoCfg 31 = true ∧ s.lch.state ≠ .run ∧ s.lch.state ≠ .stopping ∧ s.lch.cfg ≠ [] ∧ s.actDom.valid = true ∧
       (s.paired = true → s.pai.state = .active) ∧ s.pwr.inert = false) ∧
    (∃ (s : State), ∃ (r : Req), ∃ l, ∃ (m : Launch), Ready s 0x0302 r ∧ timeAt r.payload 0 = some l ∧ s.newest = some m ∧ s.lch.state = .run) ∧
    (∃ (s : State), ∃ (r : Req), Ready s 0x0303 r ∧ u8 r.payload 0 ≤ 3 ∧ ((u8 r.payload 1).testBit 2 = true → ∀ k,
       k < 4 → k ≠ u8 r.payload 0 → (u8 (s.lch.shref.getD k []) 1).testBit 2 = false) ∧ u8 r.payload 2 ≤ 3 ∧
       (s.lch.cfg ≠ [] → u8 r.payload 2 < lchSlots s.lch.cfg) ∧ 1 ≤ u8 r.payload 3 ∧ u8 r.payload 3 ≤ 8 ∧
       (s.lch.cfg ≠ [] → 2 * (signed 32 (u32 r.payload 4)).natAbs < lchPcoast s.lch.cfg) ∧
       signed 32 (u32 r.payload 8) ≤ signed 32 (u32 r.payload 12)) ∧
    (∃ (s : State), ∃ (r : Req), Ready s 0x0304 r) ∧
    (∃ (s : State), ∃ (r : Req), Ready s 0x0304 r ∧ s.lch.cfg ≠ [] ∧ s.lch.past = [] ∧ s.lch.table = []) ∧
    (∃ (s : State), ∃ (t : State), s.alive = true ∧ s.isLead = true ∧ s.announces = true ∧ s.actDom.valid = true ∧ s.announceNext = some t) ∧
    (∃ (s : State), ∃ (l : Launch), s.alive = true ∧ s.isLead = true ∧ s.announces = true ∧ s.actDom.valid = true ∧ lchMode s.lch.cfg = 0 ∧ s.newest = some l ∧ s.tmu.switch = none ∧ s.tmu.bridge = none ∧ let late : Int := s.domNow s.lch.count - ((l.at_ : Int) + 1000 * lchPeriod s.lch.cfg - 1000 * lchAnn s.lch.cfg); 0 ≤ late) ∧
    (∃ (s : State), ∃ a, ∃ (k : Nat), ∃ b, s.alive = true ∧ s.isLead = true ∧ s.repeatDue = some (a, k, b) ∧ k = 0) ∧
    (∃ (s : State), ∃ a, ∃ (k : Nat), ∃ b, s.alive = true ∧ s.isLead = true ∧ s.repeatDue = some (a, k, b) ∧ k ≠ 0) ∧
    (∃ (s : State), ∃ a, ∃ b, s.lch.repeats = [(a, 0, b)]) ∧
    (∃ (s : State), ∃ a, ∃ b, s.lch.repeats = [(a, 1, b)]) ∧
    (∃ (s : State), ∃ (l : Launch), s.alive = true ∧ s.isLead = true ∧ s.newest = some l ∧ s.lch.state = .stopping ∧ s.lch.stopN = some l.n ∧
       ((l.at_ + 1000 * lchPcoast s.lch.cfg : Nat) : Int) ≤ s.domNow l.n) ∧
    (∃ (s : State), ∃ (chain : Nat), ∃ (slot : Nat), ∃ frame, ∃ (l : Launch), ∃ a, s.alive = true ∧ s.isLead = true ∧ s.known.find? (fun l => l.n % 8192 == frame) = some l ∧ (s.unsentSubs chain slot frame).head? = some a ∧ (l.at_ : Int) - 1000 * lchGuard s.lch.cfg < s.domNow l.n) ∧
    (∃ (s : State), ∃ (m : Msg), s.alive = true ∧ s.isTile = true ∧ (s.net.valid = false ∨ u32 m.body 4 ≠ s.leadEpoch)) ∧
    (∃ (s : State), ∃ (m : Msg), ∃ l, s.alive = true ∧ s.isTile = true ∧ s.net.valid = true ∧ u32 m.body 4 = s.leadEpoch ∧ s.lch.cfg ≠ [] ∧
       u8 m.body 2 = 1 ∧ (u8 m.body 1).testBit 2 = false ∧ (u8 m.body 32).testBit 2 = false ∧ timeAt m.body 40 = some l) ∧
    (∃ (s : State), ∃ (l : Launch), s.alive = true ∧ s.isTile = true ∧ s.ems.enabled = true ∧ s.lch.table.find? (fun l => (s.checkOf l.n).isNone) = some l ∧ (s.guardOf l : Int) ≤ s.derivedNow ∧ (∀ k ∈ s.slots, s.slotFault l k = none)) ∧
    (∃ (s : State), ∃ (l : Launch), s.alive = true ∧ s.isLead = true ∧ s.lch.table.head? = some l ∧ s.tmu.switch = none ∧
       (l.at_ : Int) ≤ s.domNow l.n) ∧
    (∃ (s : State), ∃ (l : Launch), s.alive = true ∧ s.isLead = false ∧ s.lch.table.head? = some l ∧ s.inActive l ≤ s.derivedNow) ∧
    (∃ (s : State), ∃ (l : Launch), s.alive = true ∧ s.isTile = true ∧ s.lch.past.head? = some l ∧ (s.lch.state = .tRun ∨ s.lch.state = .tCoast) ∧
       s.lch.table = [] ∧ s.lch.coastNext = none ∧ s.lch.stopN ≠ some l.n ∧ s.inActive l + 1000 * s.lch.pcoast - 1000 * rawUs 250 ≤ s.derivedNow ∧
       s.isArmed 0x0302 = false) ∧
    (∃ (s : State), ∃ (l : Launch), s.alive = true ∧ s.isTile = true ∧ s.lch.past.head? = some l ∧ (s.lch.state = .tRun ∨ s.lch.state = .tCoast) ∧
       s.lch.table = [] ∧ s.lch.coastNext = none ∧ s.lch.stopN ≠ some l.n ∧ s.inActive l + 1000 * s.lch.pcoast - 1000 * rawUs 250 ≤ s.derivedNow ∧
       s.isArmed 0x0302 = true ∧ s.ems.enabled = false ∧ s.lch.coasts = 0 ∧ 0 < lchCoastMax s.lch.cfg) ∧
    (∃ (s : State), ∃ (n : Nat), ∃ at_, s.alive = true ∧ s.isTile = true ∧ s.lch.coastNext = some (n, at_, false) ∧ let l : Launch := { n := n, at_ := at_ }; s.inActive l ≤ s.derivedNow ∧ s.ems.enabled = false) ∧
    (∃ (s : State), ∃ (n : Nat), ∃ at_, s.alive = true ∧ s.isTile = true ∧ s.lch.coastNext = some (n, at_, true) ∧ let l : Launch := { n := n, at_ := at_ }; s.inActive l ≤ s.derivedNow ∧ s.ems.enabled = true) ∧
    (∃ (s : State), ∃ (l : Launch), s.alive = true ∧ s.isTile = true ∧ s.lch.past.head? = some l ∧ s.lch.stopN = some l.n ∧ s.lch.table = [] ∧
       (s.lch.state = .tRun ∨ s.lch.state = .tCoast) ∧ s.inActive l + 1000 * s.lch.pcoast ≤ s.derivedNow) :=
  ⟨⟨onLead.onLch ({ · with shref := [[], [], [], [0, 1]] }), 3, by decide +kernel⟩,
   ⟨onLead.onLch ({ · with shref := [[], [], [], [0, 5]] }), 3, by decide +kernel⟩,
   ⟨bareLead, rq lcfg, ready_of (by decide +kernel), by decide +kernel⟩,
   ⟨tile, rq lcfg, ready_of (by decide +kernel), by decide +kernel⟩,
   ⟨((lead.setReg Reg.glbTopoCfg 0x80000000).onTmu ({ · with d0 := { valid := true } })).onLch ({ · with cfg := lcfg }),
      rq (timeBytes (1000 * rawUs 500)), 1000 * rawUs 500, ready_of (by decide +kernel), by decide +kernel⟩,
   ⟨(lead.onLch ({ · with state := .run, cfg := lcfg, table := [{ n := 0, at_ := 5 }] })), rq (zeros 12), 0, { n := 0, at_ := 5 },
      ready_of (by decide +kernel), by decide +kernel⟩,
   ⟨lead.onLch ({ · with cfg := lcfg, shref := [[], [], [], [3, 1]] }), rq ([0, 4, 0, 8] ++ zeros 12), ready_of (by decide +kernel),
      by decide +kernel⟩,
   ⟨tile, rq [], ready_of (by decide +kernel)⟩,
   ⟨lead.onLch ({ · with cfg := lcfg }), rq [], ready_of (by decide +kernel), by decide +kernel⟩,
   ⟨runLead, runLead.announceNext.getD runLead, by decide +kernel⟩,
   ⟨runLead, { n := 0, at_ := 0 }, by decide +kernel⟩,
   ⟨repLead 0, 0, 0, [], by decide +kernel⟩,
   ⟨repLead 1, 0, 1, [], by decide +kernel⟩,
   ⟨repLead 0, 0, [], by decide +kernel⟩,
   ⟨repLead 1, 0, [], by decide +kernel⟩,
   ⟨late.onLch ({ · with state := .stopping, cfg := lcfg, stopN := some 7, past := [{ n := 7, at_ := 0 }] }), { n := 7, at_ := 0 },
      by decide +kernel⟩,
   ⟨(late.onLch ({ · with cfg := lcfg, table := [{ n := 7, at_ := 0 }] })).onPix ({ · with composed := [{ n := 7, slot := 3, chain := 1, pos := 2, pixels := [] }] }),
      1, 3, 7, { n := 7, at_ := 0 }, 66, by decide +kernel⟩,
   ⟨tile, {}, by decide +kernel⟩,
   ⟨heldTile.onLch ({ · with cfg := lcfg }), { body := fit 240 [1, 0, 1] }, 0, by decide +kernel⟩,
   ⟨checkTile, { n := 7, at_ := 0 }, by decide +kernel⟩,
   ⟨late.onLch ({ · with table := [{ n := 7, at_ := 0 }] }), { n := 7, at_ := 0 }, by decide +kernel⟩,
   ⟨lateTile.onLch ({ · with table := [{ n := 7, at_ := 0 }] }), { n := 7, at_ := 0 }, by decide +kernel⟩,
   ⟨lateTile.onLch ({ · with state := .tCoast, past := [{ n := 7, at_ := 0 }] }), { n := 7, at_ := 0 }, by decide +kernel⟩,
   ⟨{ lateTile.onLch ({ · with state := .tRun, past := [{ n := 7, at_ := 0 }] }) with armed := [0x0302] }, { n := 7, at_ := 0 }, by decide +kernel⟩,
   ⟨lateTile.onLch ({ · with coastNext := some (8, 0, false) }), 8, 0, by decide +kernel⟩,
   ⟨(lateTile.onLch ({ · with coastNext := some (8, 0, true) })).onEms ({ · with enabled := true }), 8, 0, by decide +kernel⟩,
   ⟨lateTile.onLch ({ · with state := .tRun, stopN := some 7, past := [{ n := 7, at_ := 0 }] }), { n := 7, at_ := 0 }, by decide +kernel⟩⟩

/-- States and operands that meet the hypotheses of each clause of `IngestCommandsComplete`. -/
theorem witness_IngestCommandsComplete :
    (∃ (s : State), ∃ (port : Nat), ∃ (f : EthFrame), s.alive = true ∧ s.isLead = true ∧ (port = 4 ∨ port = 5 ∨ port = 7) ∧ s.func port = 2 ∧
       f.fcsOk = false) ∧
    (∃ (s : State), ∃ (port : Nat), ∃ (f : EthFrame), s.alive = true ∧ s.isLead = true ∧ (port = 4 ∨ port = 5 ∨ port = 7) ∧ s.func port = 2 ∧
       f.fcsOk = true ∧ s.ethFilter port f = false) ∧
    (∃ (s : State), ∃ (port : Nat), ∃ (f : EthFrame), ∃ sender, ∃ mac, s.alive = true ∧ s.isLead = true ∧ (port = 4 ∨ port = 5 ∨ port = 7) ∧
       s.func port = 2 ∧ f.fcsOk = true ∧ s.ethFilter port f = true ∧ f.kind = .arpRequest (s.ingIp port) sender mac ∧ s.ingIp port ≠ 0) ∧
    (∃ (s : State), ∃ (port : Nat), ∃ (f : EthFrame), ∃ sender, ∃ mac, ∃ (w : ArpWait), s.alive = true ∧ s.isLead = true ∧ (port = 4 ∨ port = 5 ∨ port = 7) ∧ s.func port = 2 ∧ f.fcsOk = true ∧ s.ethFilter port f = true ∧ f.kind = .arpReply sender mac ∧ s.ingIp port ≠ 0 ∧ s.pix.arpWait.find? (fun w => w.port == port && w.ip == sender) = some w) ∧
    (∃ (s : State), ∃ (w : ArpWait), s.alive = true ∧ s.pix.arpWait.find? (fun w => decide (w.last + rawSec 1 ≤ s.now)) = some w ∧ w.tries < 3) ∧
    (∃ (s : State), ∃ (w : ArpWait), s.alive = true ∧ s.pix.arpWait.find? (fun w => decide (w.last + rawSec 1 ≤ s.now)) = some w ∧ 3 ≤ w.tries) ∧
    (∃ (s : State), s.alive = true) ∧
    (∃ (s : State), ∃ m, ∃ (ctl : Word), s.alive = true ∧ s.isLead = true ∧ m < 4 ∧ ctl.toNat.testBit 31 = true ∧ s.strOn m = false) ∧
    (∃ (s : State), ∃ m, ∃ (ctl : Word), s.alive = true ∧ s.isLead = true ∧ m < 4 ∧ ctl.toNat.testBit 31 = true ∧ let v := ctl &&& 0xC3C000FF#32; bitsOf ctl.toNat 25 24 ≠ 3 ∧ bitsOf ctl.toNat 23 22 ≠ 3 ∧ s.forced (144 + m / 2) = false ∧ s.strRefusal m v.toNat = 0) ∧
    (∃ (s : State), ∃ m, ∃ (ctl : Word), s.alive = true ∧ s.isLead = true ∧ m < 4 ∧ ctl.toNat.testBit 31 = true ∧ let v := ctl &&& 0xC3C000FF#32; bitsOf ctl.toNat 25 24 ≠ 3 ∧ bitsOf ctl.toNat 23 22 ≠ 3 ∧ s.forced (144 + m / 2) = false ∧ s.strRefusal m v.toNat ≠ 0) ∧
    (∃ (s : State), ∃ m, ∃ (ctl : Word), s.alive = true ∧ s.isLead = true ∧ m < 4 ∧ ctl.toNat.testBit 31 = true ∧ let a := strReg Reg.ingStrCtl m; ∃ (w : Nat), s.keepRanges a ctl.toNat = (w, true)) ∧
    (∃ (s : State), ∃ m, ∃ (ctl : Word), s.alive = true ∧ s.isLead = true ∧ m < 4 ∧ ctl.toNat.testBit 31 = false ∧ bitsOf ctl.toNat 25 24 ≠ 3 ∧
       bitsOf ctl.toNat 23 22 ≠ 3 ∧ s.strOn m = true) ∧
    (∃ (s : State), ∃ m, ∃ (ctl : Word), s.alive = true ∧ s.isLead = true ∧ m < 4 ∧ ctl.toNat.testBit 31 = false ∧ bitsOf ctl.toNat 25 24 ≠ 3 ∧
       bitsOf ctl.toNat 23 22 ≠ 3 ∧ s.strOn m = false) ∧
    (∃ (s : State), ∃ m, ∃ (leg : Nat), ∃ (p : RtpPkt), ∃ h, s.alive = true ∧ s.isLead = true ∧ m < 4 ∧ s.strOn m = true ∧ leg ∈ legsOf (s.strCtl m) ∧
       (s.strm m).legOk.getD leg false = true ∧ p.seq ∉ (s.strm m).lost ∧ p.seq ∉ (s.strm m).got ∧ (s.strm m).high = some h ∧
       p.seq = (h + 1) % 2 ^ 32 ∧ h < 2 ^ 32 ∧ (s.strm m).legOk.set leg true = (s.strm m).legOk ∧ m < s.pix.streams.length) ∧
    (∃ (s : State), ∃ m, ∃ (leg : Nat), ∃ (p : RtpPkt), ∃ h, s.alive = true ∧ s.isLead = true ∧ m < 4 ∧ s.strOn m = true ∧ leg ∈ legsOf (s.strCtl m) ∧ (s.strm m).legOk.getD leg false = true ∧ p.seq ∉ (s.strm m).lost ∧ p.seq ∉ (s.strm m).got ∧ (s.strm m).high = some h ∧ p.seq = (h + 1) % 2 ^ 32 ∧ h < 2 ^ 32 ∧ (s.strm m).legOk.set leg true = (s.strm m).legOk ∧ m < s.pix.streams.length ∧ let x := s.strm m; x.queue = [] ∧ (∀ e ∈ x.missing, isAfter p.seq e.1 = false)) ∧
    (∃ (s : State), ∃ m, ∃ (leg : Nat), ∃ (p : RtpPkt), s.alive = true ∧ s.isLead = true ∧ m < 4 ∧ s.strOn m = true ∧ leg ∈ legsOf (s.strCtl m) ∧
       (s.strm m).legOk.getD leg false = true ∧ p.seq ∉ (s.strm m).lost ∧ p.seq ∈ (s.strm m).got ∧ m < s.pix.streams.length) ∧
    (∃ (s : State), ∃ m, s.alive = true ∧ s.isLead = true ∧ m < 4 ∧ s.strOn m = true ∧ let due := (s.strm m).missing.filter (fun e => decide (e.2 ≤ s.now)); due ≠ []) ∧
    (∃ (s : State), ∃ m, m < s.pix.streams.length ∧ (s.strm m).queue = [] ∧ (s.strm m).lock = []) ∧
    (∃ (s : State), ∃ m, ∃ (leg : Nat), s.alive = true ∧ s.isLead = true ∧ m < 4 ∧ s.strOn m = true ∧ leg ∈ legsOf (s.strCtl m) ∧
       (s.strm m).legOk.getD leg false = true ∧ ((s.strm m).legAt.getD leg none).getD (s.strm m).since + rawMs 10 ≤ s.now) ∧
    (∃ (s : State), ∃ m, ∃ (l : Launch), s.alive = true ∧ s.isLead = true ∧ m < 4 ∧ (s.strm m).lock ≠ [] ∧ (s.strm m).noLockAt = none ∧ let x := s.strm m; s.lch.table.find? (fun l => decide (s.annOf l + (lockPost x.lock : Int) < s.derivedNow) && (s.lockFrame x l).isNone && !x.noFrame.contains l.n) = some l) ∧
    (∃ (s : State), ∃ (r : Req), Ready s 0x0406 r ∧ u8 r.payload 0 < 4 ∧ s.lch.state ≠ .run ∧ s.lch.state ≠ .stopping ∧
       (u8 r.payload 1).testBit 0 = false) ∧
    (∃ (s : State), ∃ m, ∃ (block : Nat), ∃ (f : Frame), ∃ (u : Surf), s.alive = true ∧ s.isLead = true ∧ s.strOn m = true ∧ (s.strm m).lock = [] ∧
       (s.strm m).frame = some f ∧ s.strSurf m = some u ∧ f.drop = false ∧ f.done = false ∧ block < surfBlocks u.w u.h ∧ block ∉ f.packed ∧ (∀ j,
       j < 4 → block / surfBw u.w * 4 + j < u.h → rowDone u f (block / surfBw u.w * 4 + j) = true)) ∧
    (∃ (s : State), ∃ (h : HeldReply), s.alive = true ∧ s.pix.heldReplies.find? (fun h => decide (h.until_ ≤ s.derived)) = some h) :=
  ⟨⟨ingLead, 4, { dstMac := 0, fcsOk := false, kind := .pause }, by decide +kernel⟩,
   ⟨ingLead, 4, { dstMac := 1, kind := .pause }, by decide +kernel⟩,
   ⟨ingLead, 4, { dstMac := 0, kind := .arpRequest 5 9 9 }, 9, 9, by decide +kernel⟩,
   ⟨ingLead.onPix ({ · with arpWait := [arp0 0] }), 4, { dstMac := 0, kind := .arpReply 9 8 }, 9, 8, arp0 0, by decide +kernel⟩,
   ⟨late.onPix ({ · with arpWait := [arp0 2] }), arp0 2, by decide +kernel⟩,
   ⟨late.onPix ({ · with arpWait := [arp0 3] }), arp0 3, by decide +kernel⟩,
   ⟨lead, by decide +kernel⟩,
   ⟨lead, 3, 0x80000000, by decide +kernel⟩,
   ⟨strLead, 3, 0x80000001, by decide +kernel⟩,
   ⟨lead, 3, 0x80000000, by decide +kernel⟩,
   ⟨pktLead, 3, 0x83000000, by decide +kernel, by decide +kernel, by decide +kernel, by decide +kernel, 0x80000000, by decide +kernel⟩,
   ⟨pktLead, 3, 0, by decide +kernel⟩,
   ⟨lead, 3, 0, by decide +kernel⟩,
   ⟨pktLead, 3, 0, { pt := 96, seq := 8, ts := 0, marker := false, srds := [] }, 7, by decide +kernel⟩,
   ⟨pktLead, 3, 0, { pt := 96, seq := 8, ts := 0, marker := false, srds := [] }, 7, by decide +kernel⟩,
   ⟨pktLead, 3, 0, { pt := 96, seq := 7, ts := 0, marker := false, srds := [] }, by decide +kernel⟩,
   ⟨(lead.onTmu ({ · with raw := 2 ^ 60 })).strOn3 { high := some 7, got := [7], missing := [(6, 0)] }, 3, by decide +kernel⟩,
   ⟨lead, 3, by decide +kernel⟩,
   ⟨pktLead.onTmu ({ · with raw := 2 ^ 60 }), 3, 0, by decide +kernel⟩,
   ⟨(late.setStrm 3 { conf := lockConf }).onLch ({ · with table := [{ n := 7, at_ := 0 }] }), 3, { n := 7, at_ := 0 }, by decide +kernel⟩,
   ⟨lead, rq (b1 3 ++ zeros 15), ready_of (by decide +kernel), by decide +kernel⟩,
   ⟨packLead, 0, 0, { have_ := [(0, 2560)] }, surf0, by decide +kernel⟩,
   ⟨late.onPix ({ · with heldReplies := [{ op := 0x0400, req := {}, status := 0, until_ := 0 }] }), { op := 0x0400, req := {}, status := 0, until_ := 0 },
      by decide +kernel⟩⟩

/-- States and operands that meet the hypotheses of each clause of `PictureCommandsComplete`. -/
theorem witness_PictureCommandsComplete :
    (∃ (s : State), ∃ (r : Req), Ready s 0x0403 r ∧ s.isTile = false ∧ u16 r.payload 0 ≤ 255 ∧ 1 ≤ u8 r.payload 2 ∧ u8 r.payload 2 ≤ 6 ∧
       colourOk false (u8 r.payload 2) (u8 r.payload 3) = true ∧ 16 ≤ u16 r.payload 4 ∧ u16 r.payload 4 ≤ 8192 ∧
       (u8 r.payload 2 = 1 → u16 r.payload 4 % 2 = 0) ∧ 16 ≤ u16 r.payload 6 ∧ u16 r.payload 6 ≤ 8192 ∧ 1 ≤ u8 r.payload 8 ∧ u8 r.payload 8 ≤ 3 ∧
       u64 r.payload 12 % 256 = 0 ∧
       s.regionBad (u16 r.payload 0) (u64 r.payload 12) (u8 r.payload 8 * foot (u8 r.payload 2) (u16 r.payload 4) (u16 r.payload 6)) = false ∧
       s.surf (u16 r.payload 0) = none) ∧
    (∃ (s : State), ∃ (r : Req), Ready s 0x0403 r ∧ s.isTile = false ∧ u16 r.payload 0 ≤ 255 ∧ u16 r.payload 4 = 0 ∧ u16 r.payload 6 = 0 ∧
       s.surfShown (u16 r.payload 0) = false ∧ s.streamTarget (u16 r.payload 0) = false) ∧
    (∃ (s : State), ∃ (r : Req), ∃ x, ∃ (t : State), Ready s 0x0404 r ∧ s.isTile = false ∧ s.surf (u16 r.payload 0) = some x ∧ s.streamTarget (u16 r.payload 0) = false ∧ s.surfShown (u16 r.payload 0) = false ∧ let o := u32 r.payload 4; let data := r.payload.drop 8; let total := rawBytes x.fmt x.w x.h; o % 8 = 0 ∧ o + data.length ≤ total ∧ (data.length % 8 = 0 ∨ o + data.length = total) ∧ (s.takeReq 0x0404 r).mergeBlocks x o data (touched x o data.length) = .ok t) ∧
    (∃ (s : State), ∃ (n : Nat), ∃ (b : Nat), ∃ (k : Nat), ∃ (x : Surf), s.alive = true ∧ s.surf n = some x ∧ b < x.bufs ∧ k < surfBlocks x.w x.h) ∧
    (∃ (s : State), ∃ (r : Req), Ready s 0x0400 r ∧ (s.takeReq 0x0400 r).layerRefusal r = none) ∧
    (∃ (s : State), ∃ (r : Req), Ready s 0x0407 r ∧ u8 r.payload 0 = 2 ∧
       u16 r.payload 4 + u16 r.payload 8 ≤ lppW (s.takeReq 0x0407 r).viewAll.lpp.cfg ∧
       u16 r.payload 6 + u16 r.payload 10 ≤ lppH (s.takeReq 0x0407 r).viewAll.lpp.cfg) ∧
    (∃ (s : State), ∃ (r : Req), Ready s 0x0408 r) ∧
    (∃ (s : State), ∃ (r : Req), Ready s 0x0401 r ∧ s.isTile = false ∧ s.isLead = true ∧ u8 r.payload 0 < 16 ∧ u8 r.payload 1 ≠ 0 ∧
       u8 r.payload 1 ≤ s.nLayers ∧ u16 r.payload 4 ≤ 1023 ∧ (s.takeReq 0x0401 r).flipEntryBad (flipEntries r.payload) = none ∧
       Map.find s.pix.flips (u8 r.payload 0) = none ∧ (∀ e ∈ flipEntries r.payload, s.layerFlipping e.1 = false) ∧
       decodeOver s.lch.cfg ((s.takeReq 0x0401 r).viewAll.pix.layers.map Prod.snd) = false) ∧
    (∃ (s : State), ∃ (r : Req), Ready s 0x0402 r ∧ 1 ≤ u16 r.payload 0 ∧ u16 r.payload 0 ≤ 1023 ∧ let f := u16 r.payload 0; let v := u32 r.payload 4; v = Map.at s.pix.fences 0 f) ∧
    (∃ (s : State), ∃ (r : Req), Ready s 0x0402 r ∧ 1 ≤ u16 r.payload 0 ∧ u16 r.payload 0 ≤ 1023 ∧ let f := u16 r.payload 0; let v := u32 r.payload 4; v ≠ Map.at s.pix.fences 0 f ∧ fenceOk v (Map.at s.pix.fences 0 f) = true) ∧
    (∃ (s : State), ∃ (r : Req), Ready s 0x0402 r ∧ 1 ≤ u16 r.payload 0 ∧ u16 r.payload 0 ≤ 1023 ∧ let f := u16 r.payload 0; let v := u32 r.payload 4; v ≠ Map.at s.pix.fences 0 f ∧ fenceOk v (Map.at s.pix.fences 0 f) = false) ∧
    (∃ (s : State), ∃ g, ∃ f, s.alive = true ∧ s.pix.flips.find? (fun f => !f.2.ready && (match f.2.deadline with | some d => decide (d < s.now) | none => false)) = some (g, f) ∧ s.isArmed 0x0401 = false) ∧
    (∃ (s : State), ∃ g, ∃ f, s.alive = true ∧ s.pix.flips.find? (fun f => !f.2.ready && (match f.2.deadline with | some d => decide (d < s.now) | none => false)) = some (g, f) ∧ s.isArmed 0x0401 = true) ∧
    (∃ (s : State), ∃ (r : Req), Ready s 0x0405 r ∧ u8 r.payload 0 < 32 ∧ u16 r.payload 2 % 8 = 0 ∧ u16 r.payload 2 + (r.payload.drop 4).length ≤ 33800 ∧ s.pix.staged.any (fun p => match p.change with | .layer q => layerNo q == u8 r.payload 0 && (u8 q 1).testBit 1 | _ => false) = false) ∧
    (∃ (s : State), ∃ (cfg : Word), s.alive = true ∧ cfg.toNat.testBit 0 = false) ∧
    (∃ (s : State), ∃ (cfg : Word), s.alive = true ∧ cfg.toNat.testBit 0 = true ∧ s.cmpRefusal = 0) ∧
    (∃ (s : State), ∃ (cfg : Word), s.alive = true ∧ cfg.toNat.testBit 0 = true ∧ s.cmpRefusal ≠ 0) ∧
    (∃ (s : State), ∃ (n : Nat), ∃ (slot : Nat), ∃ chain, ∃ pos, ∃ (l : Launch), s.composes n slot = true ∧ s.composeNext n = some (slot, chain, pos) ∧ s.lch.table.find? (fun l => l.n == n) = some l ∧ s.lockState l slot chain pos = .ready ∧ ∃ px, (s.useFrames l).tilePixels slot chain pos = .ok px) ∧
    (∃ (s : State), ∃ (n : Nat), ∃ (slot : Nat), ∃ chain, ∃ pos, ∃ (l : Launch), s.composes n slot = true ∧ s.composeNext n = some (slot, chain, pos) ∧ s.lch.table.find? (fun l => l.n == n) = some l ∧ s.lockState l slot chain pos = .ready ∧ ∃ (bad : BadRead), (s.useFrames l).tilePixels slot chain pos = .error bad) ∧
    (∃ (s : State), ∃ (slot : Nat), ∃ chain, ∃ pos, ∃ (bad : BadRead), (∀ e ∈ s.tileMap, (e.1, e.2.1) = (chain,
       pos) ∨ s.feeds bad slot e.1 e.2.1 = false)) ∧
    (∃ (s : State), ∃ (r : Req), Ready s 0x0500 r ∧ u8 r.payload 0 < 4 ∧ u8 r.payload 1 < 4 ∧ u8 r.payload 2 < 2 ∧
       (u8 r.payload 1 = 0 → u8 r.payload 2 = 0) ∧ (u8 r.payload 1 = 0 ∨ u8 r.payload 2 = 0 → u8 r.payload 3 = 0) ∧
       (u8 r.payload 2 = 1 → 1 ≤ u8 r.payload 3 ∧ u8 r.payload 3 ≤ sMax (u8 r.payload 1)) ∧ s.lch.cfg = []) ∧
    (∃ (s : State), ∃ (r : Req), Ready s 0x0501 r) ∧
    (∃ (s : State) (slice : Nat) (c : Composed) (rest : List Composed), s.alive = true ∧ s.isLead = true ∧ slice < 8 ∧ s.pix.composed = c :: rest) ∧
    (∃ (s : State) (slice : Nat) (c : Composed) (rest : List Composed), s.alive = true ∧ s.isLead = true ∧ slice < 8 ∧ s.pix.composed = c :: rest ∧
       s.tileKey (s.tileAddr c.chain c.pos) = 0) ∧
    (∃ (s : State) (slice : Nat) (c : Composed) (rest : List Composed), s.alive = true ∧ s.isLead = true ∧ slice < 8 ∧ s.pix.composed = c :: rest ∧ s.tileKey (s.tileAddr c.chain c.pos) ≠ 0 ∧ (let reg := Reg.cmpTmap1 + 8 * (64 * c.chain + c.pos); let x := s.pix.coder.getD c.chain (0, 0, 0); (pixRuns (encodeSub x.1 x.2.1 x.2.2 c.slot (s.fld reg 9 0) (s.fld reg 19 10) c.n c.pixels)).length = 1)) :=
  ⟨⟨memLead, rq (b2 255 ++ b1 1 ++ b1 0 ++ b2 16 ++ b2 8192 ++ b1 3 ++ zeros 3 ++ b8 0), ready_of (by decide +kernel), by decide +kernel⟩,
   ⟨lead, rq (zeros 20), ready_of (by decide +kernel), by decide +kernel⟩,
   ⟨lead.onPix ({ · with surfs := [(1, surf0)] }), rq (b2 1 ++ zeros 2 ++ b4 248 ++ zeros 8), surf0, okOr (((lead.onPix ({ · with surfs := [(1, surf0)] })).takeReq 0x0404 (rq (b2 1 ++ zeros 2 ++ b4 248 ++ zeros 8))).mergeBlocks surf0 248 (zeros 8) (touched surf0 248 8)) lead,
      ready_of (by decide +kernel), by decide +kernel, by decide +kernel, by decide +kernel, by decide +kernel, by decide +kernel,
      (by decide +kernel), by decide +kernel, (ok_of _ lead (by decide +kernel))⟩,
   ⟨tile.onPix ({ · with surfs := [(1, surf0)] }), 1, 0, 0, surf0, by decide +kernel⟩,
   ⟨lead.onPix ({ · with surfs := [(1, surf0)] }), rq lay0, ready_of (by decide +kernel), by decide +kernel⟩,
   ⟨begunTile.onLpp ({ · with cfg := zeros 2 ++ b2 16 ++ b2 16 ++ zeros 42 }), rq (b1 2 ++ zeros 23), ready_of (by decide +kernel),
      by decide +kernel⟩,
   ⟨begunTile, rq [], ready_of (by decide +kernel)⟩,
   ⟨lead.onPix ({ · with surfs := [(1, surf0)] }), rq (b1 15 ++ b1 1 ++ zeros 10 ++ b1 31 ++ b1 0 ++ b2 1), ready_of (by decide +kernel),
      by decide +kernel⟩,
   ⟨lead, rq (b2 1023 ++ zeros 6), ready_of (by decide +kernel), by decide +kernel⟩,
   ⟨lead, rq (b2 1023 ++ zeros 2 ++ b4 0x7FFFFFFF), ready_of (by decide +kernel), by decide +kernel⟩,
   ⟨lead, rq (b2 1 ++ zeros 2 ++ b4 0x80000000), ready_of (by decide +kernel), by decide +kernel⟩,
   ⟨late.onPix ({ · with flips := [(15, flip0)] }), 15, flip0, by decide +kernel⟩,
   ⟨{ late.onPix ({ · with flips := [(15, flip0)] }) with armed := [0x0401] }, 15, flip0, by decide +kernel⟩,
   ⟨lead, rq (b1 31 ++ b1 0 ++ b2 33792 ++ zeros 8), ready_of (by decide +kernel), by decide +kernel⟩,
   ⟨tile, 0, by decide +kernel⟩,
   ⟨bareLead, 1, by decide +kernel⟩,
   ⟨lead.onPwr ({ · with domOff := 2 ^ 71 }), 1, by decide +kernel⟩,
   ⟨composeLead, 9, 0, 3, 63, { n := 9, at_ := 1000 }, by decide +kernel, by decide +kernel, by decide +kernel, by decide +kernel,
      okOr ((composeLead.useFrames { n := 9, at_ := 1000 }).tilePixels 0 3 63) [], (ok_of _ [] (by decide +kernel))⟩,
   ⟨badLead, 9, 0, 3, 63, { n := 9, at_ := 1000 }, by decide +kernel, by decide +kernel, by decide +kernel, by decide +kernel, .block 1 0 3, (rfl)⟩,
   ⟨bareLead, 0, 3, 63, .block 1 0 1, by decide +kernel⟩,
   ⟨lead, rq (b1 3 ++ b1 3 ++ b1 1 ++ b1 10), ready_of (by decide +kernel), by decide +kernel⟩,
   ⟨lead, rq [], ready_of (by decide +kernel)⟩,
   ⟨lead.onPix ({ · with composed := [cmp0] }), 7, cmp0, [], by decide +kernel, by decide +kernel, by decide +kernel, rfl⟩,
   ⟨lead.onPix ({ · with composed := [cmp0] }), 0, cmp0, [], by decide +kernel, by decide +kernel, by decide +kernel, rfl, by decide +kernel⟩,
   ⟨((lead.onPix ({ · with composed := [cmp0] })).onKey ({ · with tileLast := [(255, 1)] })).setReg (Reg.cmpTmap1 + 8 * 255) 0x80000401, 0, cmp0, [],
      by decide +kernel, by decide +kernel, by decide +kernel, rfl, by decide +kernel⟩⟩

/-- States and operands that meet the hypotheses of each clause of `LampCommandsComplete`. -/
theorem witness_LampCommandsComplete :
    (∃ (s : State), ∃ (slot : Nat), ∃ frame, ∃ (group : Nat), ∃ (h : List Byte), s.pipeRuns = true ∧ s.failReason slot frame = none ∧
       group ∉ ((s.subOf slot frame).getD { slot := slot, frame := frame }).groups ∧ s.pixHeader slot frame = some h ∧
       s.headerFault slot frame h ≠ 0) ∧
    (∃ (s : State), ∃ (slot : Nat), ∃ frame, ∃ (group : Nat), ∃ (h : List Byte), ∃ (b : List Byte), s.pipeRuns = true ∧ s.failReason slot frame = none ∧ let x := (s.subOf slot frame).getD { slot := slot, frame := frame }; let ratio := u8 h 1 % 4; let first := 32 * group; let count := min 32 (nBlk (u16 h 4) (u16 h 6) - first); let len := (if group = 0 then 16 else 0) + count * blkBytes ratio; group ∉ x.groups ∧ s.pixHeader slot frame = some h ∧ s.headerFault slot frame h = 0 ∧ first < nBlk (u16 h 4) (u16 h 6) ∧ s.pixBytes slot frame (if group = 0 then 0 else blkOffset ratio first) (len + 2) = some b ∧ x.begun = none ∧ s.buffersFull count = true ∧ (s.freeRegion.isSome = true ∨ s.releasable.isSome = true)) ∧
    (∃ (s : State), ∃ (slot : Nat), ∃ frame, ∃ (group : Nat), ∃ (h : List Byte), ∃ (b : List Byte), s.pipeRuns = true ∧ s.failReason slot frame = none ∧ let x := (s.subOf slot frame).getD { slot := slot, frame := frame }; let ratio := u8 h 1 % 4; let first := 32 * group; let count := min 32 (nBlk (u16 h 4) (u16 h 6) - first); let len := (if group = 0 then 16 else 0) + count * blkBytes ratio; group ∉ x.groups ∧ s.pixHeader slot frame = some h ∧ s.headerFault slot frame h = 0 ∧ first < nBlk (u16 h 4) (u16 h 6) ∧ s.pixBytes slot frame (if group = 0 then 0 else blkOffset ratio first) (len + 2) = some b ∧ x.begun = none ∧ s.buffersFull count = true ∧ s.freeRegion = none ∧ s.releasable = none) ∧
    (∃ (s : State), ∃ (slot : Nat), ∃ frame, ∃ (group : Nat), ∃ (h : List Byte), ∃ (b : List Byte), s.pipeRuns = true ∧ s.failReason slot frame = none ∧ let x := (s.subOf slot frame).getD { slot := slot, frame := frame }; let ratio := u8 h 1 % 4; let first := 32 * group; let count := min 32 (nBlk (u16 h 4) (u16 h 6) - first); let len := (if group = 0 then 16 else 0) + count * blkBytes ratio; group ∉ x.groups ∧ s.pixHeader slot frame = some h ∧ s.headerFault slot frame h = 0 ∧ first < nBlk (u16 h 4) (u16 h 6) ∧ s.pixBytes slot frame (if group = 0 then 0 else blkOffset ratio first) (len + 2) = some b ∧ (x.begun.isNone && s.buffersFull count) = false ∧ crc16 (b.take len) ≠ u16 b len) ∧
    (∃ (s : State), ∃ (slot : Nat), ∃ frame, ∃ (group : Nat), ∃ (h : List Byte), ∃ (b : List Byte), s.pipeRuns = true ∧ s.failReason slot frame = none ∧ let x := (s.subOf slot frame).getD { slot := slot, frame := frame }; let ratio := u8 h 1 % 4; let first := 32 * group; let count := min 32 (nBlk (u16 h 4) (u16 h 6) - first); let len := (if group = 0 then 16 else 0) + count * blkBytes ratio; group ∉ x.groups ∧ s.pixHeader slot frame = some h ∧ s.headerFault slot frame h = 0 ∧ first < nBlk (u16 h 4) (u16 h 6) ∧ s.pixBytes slot frame (if group = 0 then 0 else blkOffset ratio first) (len + 2) = some b ∧ (x.begun.isNone && s.buffersFull count) = false ∧ crc16 (b.take len) = u16 b len ∧ (∀ i, i < count → (decodeBlk ratio (slice (b.drop (if group = 0 then 16 else 0)) (i * blkBytes ratio) (blkBytes ratio))).isSome = true)) ∧
    (∃ (s : State), ∃ (r : Req), Ready s 0x0600 r ∧ (lppPrims r.payload = 3 ∨ lppPrims r.payload = 4) ∧ u8 r.payload 1 ≤ 4 ∧ (lppPrims r.payload = 3 → u8 r.payload 1 = 0) ∧ 1 ≤ lppW r.payload ∧ lppW r.payload ≤ 512 ∧ 1 ≤ lppH r.payload ∧ lppH r.payload ≤ 512 ∧ 1 ≤ u8 r.payload 7 ∧ u8 r.payload 7 ≤ 10 ∧ (∀ k, k < 16 → 0x4000 ≤ u16 r.payload (8 + 2 * k)) ∧ (∀ k, k < lppPrims r.payload → s.forced (72 + k) = false) ∧ let v := (s.takeReq 0x0600 r).viewAll; tileOver s.lch.cfg r.payload (v.pix.layers.map Prod.snd) v.pix.prot = false ∧ v.lpp.cfg = []) ∧
    (∃ (s : State), ∃ (r : Req), Ready s 0x0601 r ∧ u8 r.payload 0 ≤ 2 ∧ (u8 r.payload 1).testBit 0 = false ∧ let count := (r.payload.length - 4) / 3; 1 ≤ count ∧ u16 r.payload 2 + count ≤ 4096 ∧ s.pix.staged.any (fun q => match q.change with | .lut k => k == u8 r.payload 0 | _ => false) = false) ∧
    (∃ (s : State), ∃ (r : Req), Ready s 0x0602 r ∧ u8 r.payload 0 ≤ 3 ∧ -160 ≤ signed 16 (u16 r.payload 2) ∧ signed 16 (u16 r.payload 2) ≤ 1280 ∧ let k := u8 r.payload 0; let o := u32 r.payload 4; let data := r.payload.drop 8; let z := setBytes (s.takeReq 0x0602 r).viewAll.lpp.cfg; o % 64 = 0 ∧ o + data.length ≤ z ∧ (data.length % 64 = 0 ∨ o + data.length = z) ∧ s.setInUse k = false ∧ s.mem.enabled = true) ∧
    (∃ (s : State), ∃ (r : Req), Ready s 0x0602 r ∧ u8 r.payload 0 ≤ 3 ∧ -160 ≤ signed 16 (u16 r.payload 2) ∧ signed 16 (u16 r.payload 2) ≤ 1280 ∧ let k := u8 r.payload 0; let o := u32 r.payload 4; let data := r.payload.drop 8; let z := setBytes (s.takeReq 0x0602 r).viewAll.lpp.cfg; o % 64 = 0 ∧ o + data.length ≤ z ∧ (data.length % 64 = 0 ∨ o + data.length = z) ∧ s.setInUse k = false ∧ s.mem.enabled = false) ∧
    (∃ (s : State), ∃ (r : Req), Ready s 0x0603 r ∧ s.stagedMask = none ∧ (∀ g, s.lpp.regen = some g → g.enable = none) ∧ let m := u8 r.payload 0 % 16; (∀ k ∈ s.maskSets m, (s.lpp.sets.getD k {}).loaded = true) ∧ (∀ a ∈ s.maskSets m, ∀ b ∈ s.maskSets m, a ≠ b → (s.lpp.sets.getD a {}).temp ≠ (s.lpp.sets.getD b {}).temp) ∧ m ≠ 0) ∧
    (∃ (s : State), ∃ (r : Req), Ready s 0x0603 r ∧ s.stagedMask = none ∧ s.lpp.regen = none ∧ u8 r.payload 0 % 16 = 0) ∧
    (∃ (s : State), ∃ (r : Req), Ready s 0x0604 r) ∧
    (∃ (s : State), ∃ (slot : Nat), ∃ frame, ∃ (h : List Byte), ∃ (r : Nat), s.pipeRuns = true ∧ s.firstToBegin slot frame = true ∧
       s.pixHeader slot frame = some h ∧ s.headerFault slot frame h = 0 ∧ s.nInRange (u32 h 8) = true ∧ s.freeRegion = some r) ∧
    (∃ (s : State), ∃ (slot : Nat), ∃ frame, ∃ (h : List Byte), s.pipeRuns = true ∧ s.firstToBegin slot frame = true ∧
       s.pixHeader slot frame = some h ∧ s.headerFault slot frame h = 0 ∧ s.nInRange (u32 h 8) = false) ∧
    (∃ (s : State), ∃ (slot : Nat), ∃ (n : Nat), ∃ corrected, ∃ f, ∃ r, ∃ codes, s.pipeRuns = true ∧ s.subOf slot (frameOfN n) = some f ∧
       f.begun = some (n, r) ∧ (∀ g, g < (nBlk (lppW (s.viewFor n).lpp.cfg) (lppH (s.viewFor n).lpp.cfg) + 31) / 32 → g ∈ f.groups) ∧
       s.pixWhole slot (frameOfN n) = true ∧ (s.bumpBy Reg.lppC3Corr corrected).subCodes f n = .ok codes) ∧
    (∃ (s : State), ∃ (slot : Nat), ∃ (n : Nat), ∃ x, ∃ r, s.pipeRuns = true ∧ s.subOf slot (frameOfN n) = some x ∧ x.begun = some (n, r)) ∧
    (∃ (s : State), ∃ z, s.alive = true ∧ s.isTile = true ∧ z < 64 ∧ s.zoneSrc z = 0 ∧ (s.lpp.zones.getD z {}).stale = false ∧
       s.freshReports z = []) ∧
    (∃ (s : State), s.alive = true ∧ s.isTile = true ∧ s.lpp.mask ≠ 0 ∧ s.lpp.regen = none ∧ s.stagedMask = none ∧
       s.lpp.regenAt + rawMs (100 * u8 s.lpp.cfg 7) ≤ s.now) ∧
    (∃ (s : State), ∃ g, s.alive = true ∧ s.lpp.regen = some g ∧ g.enable = none ∧ (s.maskSets g.buf.mask).find? s.almBad = none ∧
       s.now < g.start + rawMs (100 * u8 s.lpp.cfg 7)) ∧
    (∃ (s : State), ∃ g, s.alive = true ∧ s.lpp.regen = some g ∧ g.enable = none) :=
  ⟨⟨(pipeTile sub0).onLpp ({ · with cfg := [3] }), 0, 9, 0, sub0.take 16, by decide +kernel⟩,
   ⟨((pipeTile (sub0.take 18)).onLpp ({ · with subs := (List.range 80).map (fun k => { slot := 1, frame := k, blocks := List.replicate 92 (0, []) }) })).onEms ({ · with cfg := emsPay }), 0, 9, 0, sub0.take 16, sub0.take 18 ++ zeros 144, by decide +kernel⟩,
   ⟨(pipeTile (sub0.take 18)).onLpp ({ · with subs := (List.range 80).map (fun k => { slot := 1, frame := k, blocks := List.replicate 92 (0, []) }) }), 0, 9, 0, sub0.take 16, sub0.take 18 ++ zeros 144, by decide +kernel⟩,
   ⟨pipeTile (sub0.take 18), 0, 9, 0, sub0.take 16, sub0.take 18 ++ zeros 144, by decide +kernel⟩,
   ⟨pipeTile sub0, 0, 9, 0, sub0.take 16, sub0, by decide +kernel⟩,
   ⟨tile, rq lppPay, ready_of (by decide +kernel), by decide +kernel⟩,
   ⟨tile, rq ([2, 0] ++ b2 4095 ++ [0, 0, 7]), ready_of (by decide +kernel), by decide +kernel⟩,
   ⟨(pipeTile []).onMem ({ · with enabled := true }), rq ([3, 0] ++ b2 1280 ++ b4 768 ++ zeros 48), ready_of (by decide +kernel), by decide +kernel⟩,
   ⟨pipeTile [], rq ([3, 0] ++ b2 0xFF60 ++ b4 0 ++ zeros 64), ready_of (by decide +kernel), by decide +kernel⟩,
   ⟨almTile, rq [3, 0, 0, 0], ready_of (by decide +kernel), by decide +kernel⟩,
   ⟨begunTile, rq (zeros 4), ready_of (by decide +kernel), by decide +kernel⟩,
   ⟨tile, rq [], ready_of (by decide +kernel)⟩,
   ⟨(pipeTile sub0).onEms ({ · with cfg := emsPay }), 0, 9, sub0.take 16, 0, by decide +kernel⟩,
   ⟨(pipeTile sub0).onLch ({ · with past := [{ n := 9, at_ := 0 }] }), 0, 9, sub0.take 16, by decide +kernel⟩,
   ⟨(pipeTile sub0).onLpp ({ · with subs := [subf0] }), 0, 9, 0, subf0, 7,
      okOr (((pipeTile sub0).onLpp ({ · with subs := [subf0] })).subCodes subf0 9) [], by decide +kernel, by decide +kernel, by decide +kernel,
      by decide +kernel, by decide +kernel, (ok_of _ [] (by decide +kernel))⟩,
   ⟨(pipeTile sub0).onLpp ({ · with subs := [subf0] }), 0, 9, subf0, 7, by decide +kernel⟩,
   ⟨tile, 63, by decide +kernel⟩,
   ⟨(lateTile.onLpp ({ · with mask := 1 })), by decide +kernel⟩,
   ⟨tile.onLpp ({ · with cfg := lppPay, regen := some { buf := {}, start := 0 } }), { buf := {}, start := 0 }, by decide +kernel⟩,
   ⟨tile.onLpp ({ · with regen := some { buf := {}, start := 0 } }), { buf := {}, start := 0 }, by decide +kernel⟩⟩

/-- States and operands that meet the hypotheses of each clause of `EmissionCommandsComplete`. -/
theorem witness_EmissionCommandsComplete :
    (∃ (s : State), ∃ (r : Req), Ready s 0x0700 r ∧ s.ems.enabled = false ∧ s.ems.init = none ∧ s.lch.cfg = [] ∧ emsFieldBad [] r.payload = none ∧
       (∀ b, b < 4 → (emsBanks r.payload).testBit b = true → s.forced (76 + b) = false)) ∧
    (∃ (s : State), ∃ (r : Req), Ready s 0x0701 r ∧ s.ems.enabled = false ∧ s.ems.init = none ∧ s.ems.cfg ≠ [] ∧ s.pwr.inert = false ∧
       s.ems.hold = false ∧ s.pllLock 2 = true ∧ u32 r.payload 0 ≤ 65536000 ∧ s.lch.cfg = [] ∧ (∀ b,
       b < 4 → (emsBanks s.ems.cfg).testBit b = true → s.forced (76 + b) = false) ∧ s.forced 148 = false ∧ s.mapScan = 0) ∧
    (∃ (s : State), ∃ (r : Req), Ready s 0x0701 r ∧ (65536000 < u32 r.payload 0 ∨ (s.lch.cfg ≠ [] ∧
       windowsEnd s.lch.cfg (u32 r.payload 0) = false))) ∧
    (∃ (s : State), ∃ (r : Req), Ready s 0x0702 r) ∧
    (∃ (s : State), ∃ (r : Req), Ready s 0x0703 r ∧ s.ems.cfg ≠ [] ∧ u8 r.payload 4 = 0 ∧ r.payload.length = 8 ∧ (∀ b,
       b < 4 → (u8 r.payload 0).testBit b = true → (emsBanks s.ems.cfg).testBit b = true) ∧ u8 r.payload 3 ≠ 1) ∧
    (∃ (s : State), ∃ (r : Req), Ready s 0x0704 r ∧ 1 ≤ u16 r.payload 2 ∧ u16 r.payload 2 ≤ 511 ∧ u16 r.payload 0 + u16 r.payload 2 ≤ 16384) ∧
    (∃ (s : State), ∃ (n : Nat), ∃ (w : Nat), ∃ (f : Nat), ∃ (codes : Option (Map (List Nat))), s.alive = true ∧ s.isTile = true ∧
       s.ems.enabled = true ∧ s.ems.hold = false ∧ s.nextWindow = some (n, w, f, codes) ∧ s.ems.pre ≠ some (n, w) ∧
       s.edgeOf f ≤ s.nowFine + cycleTime (emsTsh s.ems.cfg) ∧ s.shiftAllowed w f = true) ∧
    (∃ (s : State), ∃ (n : Nat), ∃ (w : Nat), ∃ (f : Nat), ∃ (codes : Option (Map (List Nat))), s.alive = true ∧ s.isTile = true ∧
       s.ems.enabled = true ∧ s.ems.hold = false ∧ s.nextWindow = some (n, w, f, codes) ∧ s.ems.pre ≠ some (n, w) ∧
       s.edgeOf f ≤ s.nowFine + cycleTime (emsTsh s.ems.cfg) ∧ s.shiftAllowed w f = false) ∧
    (∃ (s : State), ∃ (w : Win), ∃ u, s.alive = true ∧ s.isTile = true ∧ s.ems.enabled = true ∧ s.ems.hold = false ∧ s.ems.win = none ∧
       s.opensNow = some w ∧ (s.planOf w).head? = some u) ∧
    (∃ (s : State), ∃ (w : Win), ∃ u, s.alive = true ∧ s.isTile = true ∧ s.ems.enabled = true ∧ s.ems.hold = false ∧ s.ems.win = some w ∧
       (s.planOf w)[w.next]? = some u ∧ w.edge u.show_ ≤ s.nowFine ∧ w.open_ = (!u.dark && decide (0 < w.next))) ∧
    (∃ (s : State), ∃ (w : Win), ∃ u, ∃ (v : Shown), s.alive = true ∧ s.ems.enabled = true ∧ s.ems.hold = false ∧ s.ems.win = some w ∧
       w.open_ = true ∧ (s.planOf w)[w.next - 1]? = some u ∧ (s.planOf w)[w.next]? = some v ∧ v.dark = true ∧ w.edge u.stop ≤ s.nowFine) ∧
    (∃ (s : State), ∃ (w : Win), ∃ u, s.alive = true ∧ s.ems.enabled = true ∧ s.ems.hold = false ∧ s.ems.win = some w ∧ w.open_ = true ∧
       (s.planOf w)[w.next - 1]? = some u ∧ (s.planOf w)[w.next]? = none ∧ w.edge u.stop ≤ s.nowFine) ∧
    (∃ (s : State), ∃ (n : Nat), ∃ l, s.alive = true ∧ s.isTile = true ∧ s.ems.enabled = true ∧ s.ems.hold = false ∧ s.ems.emits = true ∧ emsFill s.ems.cfg = true ∧ s.ems.fillDone = false ∧ s.ems.win = none ∧ s.windowsLeft = [] ∧ s.ems.launch = some (n, l) ∧ let c := s.ems.cfg; let g := (s.ems.grid.1 + fillStart c, s.ems.grid.2); gridEdge g 0 ≤ s.nowFine + cycleTime (emsTsh c)) ∧
    (∃ (s : State), ∃ (w : Win), s.alive = true ∧ s.ems.enabled = true ∧ s.ems.win = some w ∧ w.fill = false ∧ w.cut = false) ∧
    (∃ (s : State), s.alive = true ∧ s.isTile = true ∧ s.ems.enabled = true ∧ emsStat s.ems.cfg ≠ 0 ∧
       s.ems.collectAt + rawMs (emsStat s.ems.cfg) ≤ s.now) ∧
    (∃ (s : State), ∃ (x : Setup), ∃ rest, ∃ r, s.alive = true ∧ s.isTile = true ∧ s.ems.hold = false ∧ s.ems.enabled = false ∧ s.pwr.inert = false ∧
       s.ems.setups = x :: rest ∧ x.kind = 0 ∧ x.req = some r ∧ (∀ b, s.ems.selected.getD b none = none)) ∧
    (∃ (s : State), ∃ (x : Setup), ∃ rest, ∃ r, s.alive = true ∧ s.isTile = true ∧ s.ems.enabled = true ∧ s.ems.setups = x :: rest ∧
       x.since + rawSec 1 ≤ s.now ∧ x.kind = 0 ∧ x.req = some r) :=
  ⟨⟨tile, rq emsPay, ready_of (by decide +kernel), by decide +kernel⟩,
   ⟨tile.onEms ({ · with cfg := emsPay }), rq (b4 65536000 ++ zeros 4), ready_of (by decide +kernel), by decide +kernel⟩,
   ⟨tile, rq (b2 15873 ++ b2 511 ++ zeros 4), ready_of (by decide +kernel), by decide +kernel⟩,
   ⟨tile, rq [], ready_of (by decide +kernel)⟩,
   ⟨tile.onEms ({ · with cfg := emsPay }), rq [1, 0x80, 0xA5, 0, 0, 0, 0, 0], ready_of (by decide +kernel), by decide +kernel⟩,
   ⟨tile, rq (b2 15873 ++ b2 511), ready_of (by decide +kernel), by decide +kernel⟩,
   ⟨emTile, 7, 0, emTile.winAt 0 0, none, by decide +kernel, by decide +kernel, by decide +kernel, by decide +kernel, (rfl), by decide +kernel⟩,
   ⟨(emTile.onTmu ({ · with raw := 0 })).onLch ({ · with cfg := splice lcfg 20 (b4 1) }), 7, 0, emTile.winAt 0 0, none, by decide +kernel,
      by decide +kernel, by decide +kernel, by decide +kernel, (rfl), by decide +kernel⟩,
   ⟨emTile.onEms ({ · with pre := some (7, 0) }), { slot := 0, n := 7, start := (emTile.gridOf (emTile.winAt 0 0)).1, phase := (emTile.gridOf (emTile.winAt 0 0)).2 },
      lastShown ((windowPlan emsPay).take 1), by decide +kernel⟩,
   ⟨emTile.onEms ({ · with win := some (winN 2) }), winN 2, lastShown ((windowPlan emsPay).take 3), by decide +kernel⟩,
   ⟨emTile.onEms ({ · with win := some (winN 1) }), winN 1, lastShown ((windowPlan emsPay).take 1), lastShown ((windowPlan emsPay).take 2),
      by decide +kernel⟩,
   ⟨emTile.onEms ({ · with win := some (winN 17) }), winN 17, lastShown (windowPlan emsPay), by decide +kernel⟩,
   ⟨emTile.onEms ({ · with ended := [0] }), 7, 0, by decide +kernel⟩,
   ⟨emTile.onEms ({ · with win := some (winN 2) }), winN 2, by decide +kernel⟩,
   ⟨emTile, by decide +kernel⟩,
   ⟨tile.onEms ({ · with setups := [setup0] }), setup0, [], {}, by decide +kernel, by decide +kernel, by decide +kernel, by decide +kernel,
      by decide +kernel, (by decide +kernel), by decide +kernel, by decide +kernel, (by intro b; match b with | 0 | 1 | 2 | 3 => rfl | _ + 4 => rfl)⟩,
   ⟨emTile.onEms ({ · with setups := [setup0] }), setup0, [], {}, by decide +kernel⟩⟩

/-- States and operands that meet the hypotheses of each clause of `CalibrationCommandsComplete`. -/
theorem witness_CalibrationCommandsComplete :
    (∃ (s : State), ∃ (r : Req), Ready s 0x0A00 r ∧ s.cal.run = none ∧ u8 r.payload 0 = 0x40) ∧
    (∃ (s : State), ∃ (r : Req), Ready s 0x0A00 r ∧ s.cal.run = none ∧ u8 r.payload 0 < 0x14 ∧ s.isLead = false ∧ u8 r.payload 1 ≤ 3 ∧
       (s.ems.enabled = true → emsNcw s.ems.cfg = 0)) ∧
    (∃ (s : State), ∃ (r : Req), Ready s 0x0A00 r ∧ s.cal.run = none ∧ 0x20 ≤ u8 r.payload 0 ∧ u8 r.payload 0 ≤ 0x23 ∧ s.isLead = false ∧
       s.lclkRuns (u8 r.payload 0 - 0x20) = true) ∧
    (∃ (s : State), ∃ (r : Req), Ready s 0x0A00 r ∧ s.cal.run = none ∧ 0x30 ≤ u8 r.payload 0 ∧ u8 r.payload 0 ≤ 0x37 ∧
       s.portPresent (u8 r.payload 0 - 0x30) = true ∧ s.portState (u8 r.payload 0 - 0x30) ≠ .up ∧ s.portState (u8 r.payload 0 - 0x30) ≠ .open_ ∧
       s.portState (u8 r.payload 0 - 0x30) ≠ .active) ∧
    (∃ (s : State), ∃ (n : Nat), s.alive = true ∧ s.isTile = true ∧ s.ems.enabled = true ∧ s.ems.lit = none ∧ s.ems.scale = 0 ∧ s.nextShow = none ∧
       s.cal.spare = some n ∧ s.cal.run = none) ∧
    (∃ (s : State), ∃ (q : CalRun), s.alive = true ∧ s.isTile = true ∧ s.ems.enabled = true ∧ s.ems.lit = none ∧ s.ems.scale = 0 ∧ s.nextShow = none ∧
       s.cal.spare = none ∧ s.cal.run = some q ∧ q.target < 0x14 ∧ q.abort = false) ∧
    (∃ (s : State), ∃ (q : CalRun), ∃ c, ∃ a, ∃ b, ∃ pa, ∃ pb, ∃ ta, ∃ tb, s.alive = true ∧ s.cal.run = some q ∧ s.ems.enabled = false ∧
       s.runFault q { spareA := a, spareB := b, a := pa, b := pb, tA := ta, tB := tb } = some c) ∧
    (∃ (s : State), ∃ (q : CalRun), ∃ a, ∃ b, ∃ pa, ∃ pb, ∃ ta, ∃ tb, s.alive = true ∧ s.cal.run = some q ∧ s.ems.enabled = false ∧
       s.runFault q { spareA := a, spareB := b, a := pa, b := pb, tA := ta, tB := tb } = none ∧ ¬(0x10 ≤ q.target ∧ q.target < 0x14 ∧
       q.out % 4 < 3)) ∧
    (∃ (s : State), ∃ (r : Req), Ready s 0x0A01 r ∧ u8 r.payload 0 = 0 ∧ s.isLead = false ∧ u8 r.payload 1 ≤ 3 ∧ u8 r.payload 2 ≤ 3 ∧
       -640 ≤ signed 16 (u16 r.payload 4) ∧ signed 16 (u16 r.payload 4) ≤ 2000 ∧
       nearOther (s.takeReq 0x0A01 r).viewAll.cal.sets (u8 r.payload 1) (u8 r.payload 2) (signed 16 (u16 r.payload 4)) = false ∧ s.cal.run = none) ∧
    (∃ (s : State), ∃ (r : Req), Ready s 0x0A01 r ∧ u8 r.payload 0 = 1 ∧ s.isLead = false) ∧
    (∃ (s : State), ∃ (r : Req), Ready s 0x0A01 r ∧ u8 r.payload 0 = 2 ∧ s.portPresent (u8 r.payload 1) = true) ∧
    (∃ (s : State), ∃ (r : Req), Ready s 0x0A02 r) ∧
    (∃ (s : State), ∃ (diff : Int), s.alive = true ∧ s.bit Reg.calCfg 0 = true ∧ s.cal.refAt + rawMs 100 ≤ s.now ∧ diff.natAbs ≤ 200) ∧
    (∃ (s : State), ∃ (diff : Int), s.alive = true ∧ s.bit Reg.calCfg 0 = true ∧ s.cal.refAt + rawMs 100 ≤ s.now ∧ 200 < diff.natAbs) ∧
    (∃ (s : State), ∃ (data : Word), s.alive = true ∧ 5 ≤ bitsOf data.toNat 15 8 ∧ bitsOf data.toNat 15 8 ≤ 100 ∧
       data.toNat.testBit 0 = s.bit Reg.calCfg 0) ∧
    (∃ (s : State), ∃ (data : Word), s.alive = true ∧ 5 ≤ bitsOf data.toNat 15 8 ∧ bitsOf data.toNat 15 8 ≤ 100 ∧
       data.toNat.testBit 0 ≠ s.bit Reg.calCfg 0 ∧ s.ems.enabled = false) ∧
    (∃ (s : State), ∃ (data : Word), s.alive = true ∧ 5 ≤ bitsOf data.toNat 15 8 ∧ bitsOf data.toNat 15 8 ≤ 100 ∧
       data.toNat.testBit 0 ≠ s.bit Reg.calCfg 0 ∧ s.ems.enabled = true) ∧
    (∃ (s : State), ∃ (data : Word), s.alive = true ∧ (bitsOf data.toNat 15 8 < 5 ∨ 100 < bitsOf data.toNat 15 8) ∧
       data.toNat.testBit 0 = s.bit Reg.calCfg 0) ∧
    (∃ (s : State), ∃ (n : Nat), s.alive = true ∧ s.isTile = true ∧ n < 16) ∧
    (∃ (s : State), s.alive = true ∧ s.isTile = true ∧ s.calIdle = true ∧ s.cal.updAt + rawMs 100 ≤ s.now) :=
  ⟨⟨lead, rq [0x40, 3, 0, 0], ready_of (by decide +kernel), by decide +kernel⟩,
   ⟨tile, rq [0x13, 3, 0, 0], ready_of (by decide +kernel), by decide +kernel⟩,
   ⟨emTile, rq [0x20, 0, 0, 0], ready_of (by decide +kernel), by decide +kernel⟩,
   ⟨lead, rq [0x37, 0, 0, 0], ready_of (by decide +kernel), by decide +kernel⟩,
   ⟨(emTile.onEms ({ · with emits := false })).onCal ({ · with spare := some 15 }), 15, by decide +kernel⟩,
   ⟨(emTile.onEms ({ · with emits := false })).onCal ({ · with run := some (calRun 0x13) }), calRun 0x13, by decide +kernel⟩,
   ⟨lead.onCal ({ · with run := some { calRun 0x37 with abort := true } }), { calRun 0x37 with abort := true }, 0x0A06, 0, 0, 0, 0, 0, 0,
      by decide +kernel⟩,
   ⟨tile.onCal ({ · with run := some (calRun 0x0F) }), calRun 0x0F, 1000, 1000, 1000, 1000, 0, 8, by decide +kernel⟩,
   ⟨tile, rq ([0, 3, 3, 0] ++ b2 2000 ++ zeros 10), ready_of (by decide +kernel), by decide +kernel⟩,
   ⟨tile, rq (b1 1 ++ zeros 15), ready_of (by decide +kernel), by decide +kernel⟩,
   ⟨lead, rq ([2, 7] ++ zeros 14), ready_of (by decide +kernel), by decide +kernel⟩,
   ⟨lead, rq [], ready_of (by decide +kernel)⟩,
   ⟨late.setReg Reg.calCfg 1, -200, by decide +kernel⟩,
   ⟨late.setReg Reg.calCfg 1, 201, by decide +kernel⟩,
   ⟨tile, 0x0500, by decide +kernel⟩,
   ⟨tile, 0x6401, by decide +kernel⟩,
   ⟨emTile, 0x6401, by decide +kernel⟩,
   ⟨tile, 0x0400, by decide +kernel⟩,
   ⟨tile, 15, by decide +kernel⟩,
   ⟨lateTile, by decide +kernel⟩⟩

/-- States and operands that meet the hypotheses of each clause of `MemoryCommandsComplete`. -/
theorem witness_MemoryCommandsComplete :
    ((∃ (s : State) (r : Req), Ready s 0x0800 r ∧ s.mem.enabled = false ∧ s.mem.training = none ∧ s.memConfigBad r.payload = none ∧
       s.memForced (memNch r.payload) = false ∧ memKeepFlag r.payload = false) ∧ ∃ (s : State) (r : Req), Ready s 0x0800 r ∧ s.mem.enabled = false ∧
       s.mem.training = none ∧ s.memConfigBad r.payload = none ∧ s.memForced (memNch r.payload) = false ∧ memKeepFlag r.payload = true ∧
       bitsOf (s.reg Reg.memKeep).toNat 3 0 &&& chanMask (memNch r.payload) = chanMask (memNch r.payload) ∧
       bitsOf (s.reg Reg.memKeep).toNat 31 16 = memSig r.payload) ∧
    (∃ (s : State), ∃ (r : Req), ∃ x, Ready s 0x0800 r ∧ s.mem.enabled = false ∧ s.mem.training = some x) ∧
    (∃ (s : State), ∃ (r : Req), s.alive = true ∧ s.mem.training = some (r, none)) ∧
    (∃ (s : State), ∃ (r : Req), s.alive = true ∧ s.mem.training = some (r, none) ∧ memKeepFlag s.mem.cfg = true) ∧
    (∃ (s : State), ∃ (r : Req), s.alive = true ∧ s.mem.training = some (r, none) ∧ ∃ (n : Nat), ∃ lane, n < memNch s.mem.cfg ∧ lane < 256) ∧
    (∃ (s : State), ∃ (r : Req), ∃ (n : Nat), s.alive = true ∧ s.mem.training = some (r, some n)) ∧
    (∃ (s : State), ∃ (r : Req), Ready s 0x0801 r) ∧
    (∃ (s : State), ∃ (r : Req), Ready s 0x0801 r ∧ s.mem.enabled = false) ∧
    (∃ (s : State), ∃ (r : Req), Ready s 0x0802 r ∧ u8 r.payload 0 < 4 ∧ (s.chan (u8 r.payload 0)).st = .hold ∧ s.mem.enabled = false) ∧
    (∃ (s : State), ∃ (r : Req), Ready s 0x0802 r ∧ u8 r.payload 0 < 4 ∧ (s.chan (u8 r.payload 0)).st = .hold ∧ s.mem.enabled = true ∧
       s.mem.training = none) ∧
    (∃ (s : State), ∃ (r : Req), Ready s 0x0803 r ∧ u8 r.payload 0 ≤ 48) ∧
    (∃ (s : State), ∃ (ch : Nat), ∃ (arrived : List MemReq), s.alive = true ∧ ch < 4 ∧ s.mem.enabled = true ∧ (∀ r ∈ arrived, r.addr + 64 ≤ s.installed) ∧ let mine := arrived.filter (fun r => s.hasClient r.client && s.chanOf r.addr == ch && r.addr % 64 == 0); let t := s.arrive ch mine; (s.chan ch).st = .run ∧ ∃ (q : Queued), bestQueued (t.chan ch).candidates = some q) ∧
    (∃ (s : State), ∃ (ch : Nat), ∃ (arrived : List MemReq), s.alive = true ∧ ch < 4 ∧ s.mem.enabled = true ∧ (∀ r ∈ arrived, r.addr + 64 ≤ s.installed) ∧ let mine := arrived.filter (fun r => s.hasClient r.client && s.chanOf r.addr == ch && r.addr % 64 == 0); let t := s.arrive ch mine; (s.chan ch).st = .run ∧ bestQueued (t.chan ch).candidates = none) ∧
    (∃ (s : State), ∃ (ch : Nat), ∃ (arrived : List MemReq), s.alive = true ∧ ch < 4 ∧ s.mem.enabled = true ∧ (∀ r ∈ arrived,
       r.addr + 64 ≤ s.installed) ∧ (s.chan ch).st = .hold) ∧
    (∃ (s : State), ∃ (ch : Nat), ∃ (r : MemReq), s.alive = true ∧ ch < 4 ∧ s.mem.enabled = true ∧ s.installed < r.addr + 64) ∧
    (∃ (s : State), ∃ (ch : Nat), s.alive = true ∧ ch < 4) ∧
    (∃ (s : State), ∃ (ch : Nat), ∃ (words : List Nat), ∃ r, ∃ rest, s.alive = true ∧ ch < 4 ∧ (s.chan ch).flight = r :: rest ∧ let ws := (words ++ List.replicate 8 0).take 8; 1 ∉ ws) ∧
    (∃ (s : State), ∃ (ch : Nat), ∃ (words : List Nat), ∃ r, ∃ rest, s.alive = true ∧ ch < 4 ∧ (s.chan ch).flight = r :: rest ∧ let ws := (words ++ List.replicate 8 0).take 8; let t := (s.setChan ch { s.chan ch with flight := rest }).checkWords ch r 0 ws; 1 ∈ ws ∧ (∀ i, i < 8 → r.addr / 8 + i ∉ t.mem.bad) ∧ (∀ w ∈ (t.chan ch).writes, w.req.addr ≠ r.addr) ∧ (t.chan ch).writes.length < 64) ∧
    (∃ (s : State), ∃ (ch : Nat), ∃ rank, s.alive = true ∧ ch < 4 ∧ rank < memRanks s.mem.cfg ∧ (s.chan ch).st = .run ∧ (s.chan ch).refAt.getD rank 0 ≤ s.now ∧ let c := s.chan ch; c.q0 = 0) ∧
    (∃ (s : State), ∃ (ch : Nat), ∃ rank, s.alive = true ∧ ch < 4 ∧ rank < memRanks s.mem.cfg ∧ (s.chan ch).st = .run ∧ (s.chan ch).refAt.getD rank 0 ≤ s.now ∧ let c := s.chan ch; c.q0 ≠ 0 ∧ c.debt.getD rank 0 < 8) ∧
    (∃ (s : State), ∃ (ch : Nat), ∃ rank, s.alive = true ∧ ch < 4 ∧ rank < memRanks s.mem.cfg ∧ (s.chan ch).st = .run ∧ (s.chan ch).refAt.getD rank 0 ≤ s.now ∧ let c := s.chan ch; c.q0 ≠ 0 ∧ 8 ≤ c.debt.getD rank 0) ∧
    (∃ (s : State), ∃ (ch : Nat), s.alive = true ∧ ch < 4 ∧ (s.chan ch).st = .run ∧ (s.chan ch).trainDue = none ∧
       (s.chan ch).trainedAt + rawMs 100 ≤ s.now) ∧
    (∃ (s : State) (ch l : Nat), s.alive = true ∧ ch < 4 ∧ (s.chan ch).st = .run ∧ (s.chan ch).trainDue.isSome = true ∧ (s.chan ch).q0 = 0 ∧
       s.backlog ch < s.fld Reg.memRetrain 15 0 ∧ l < 256) ∧
    (∃ (s : State), ∃ (ch : Nat), ∃ d, s.alive = true ∧ ch < 4 ∧ (s.chan ch).st = .run ∧ (s.chan ch).flight = [] ∧ (s.chan ch).trainDue = some d ∧
       d + rawSec 1 ≤ s.now) ∧
    (∃ (s : State), ∃ (ch : Nat), ∃ rank, s.alive = true ∧ ch < 4 ∧ rank < memRanks s.mem.cfg ∧ (s.chan ch).st = .run ∧ s.fld Reg.memCfg 15 0 ≠ 0 ∧
       (∀ q ∈ (s.chan ch).reads ++ (s.chan ch).writes, s.rankOf q.req.addr ≠ rank) ∧ rank ∉ (s.chan ch).pd ∧
       (s.chan ch).lastReq.getD rank 0 + roundDivN (s.fld Reg.memCfg 15 0 * 5 * 65536) 4000 ≤ s.now) ∧
    (∃ (s : State), ∃ (ch : Nat), s.alive = true ∧ ch < 4 ∧ (s.chan ch).st = .run ∧ let c := s.chan ch; let k := if c.since < 32 then c.alerts + 1 else 1; memStack s.mem.cfg = 1 ∧ k < 4) ∧
    (∃ (s : State), ∃ (ch : Nat), s.alive = true ∧ ch < 4 ∧ (s.chan ch).st = .run ∧ let c := s.chan ch; let k := if c.since < 32 then c.alerts + 1 else 1; memStack s.mem.cfg = 1 ∧ 4 ≤ k) ∧
    (∃ (s : State), ∃ (ch : Nat), s.alive = true ∧ ch < 4 ∧ (s.chan ch).st = .run ∧ memStack s.mem.cfg ≠ 1) ∧
    (∃ (s : State), ∃ (ch : Nat), s.alive = true ∧ ch < 4 ∧ s.mem.enabled = true ∧ (s.chan ch).st = .run ∧ s.fld Reg.memScrub 5 0 ≠ 0 ∧ (s.chan ch).reads.length < 64 ∧ (s.chan ch).scrubAt ≤ s.now ∧ let nxt := (s.chan ch).scrub + 64; nxt < chanBytes s.mem.cfg) ∧
    (∃ (s : State), ∃ (ch : Nat), s.alive = true ∧ ch < 4 ∧ s.mem.enabled = true ∧ (s.chan ch).st = .run ∧ s.fld Reg.memScrub 5 0 ≠ 0 ∧ (s.chan ch).reads.length < 64 ∧ (s.chan ch).scrubAt ≤ s.now ∧ let nxt := (s.chan ch).scrub + 64; chanBytes s.mem.cfg ≤ nxt) :=
  ⟨⟨⟨lead, rq memPay, ready_of (by decide +kernel), by decide +kernel⟩, keptLead, rq keepPay, ready_of (by decide +kernel), by decide +kernel⟩,
   ⟨lead.onMem ({ · with training := some ({}, none) }), rq memPay, ({}, none), ready_of (by decide +kernel), by decide +kernel⟩,
   ⟨lead.onMem ({ · with training := some ({}, none) }), {}, by decide +kernel⟩,
   ⟨lead.onMem ({ · with cfg := keepPay, training := some ({}, none) }), {}, by decide +kernel⟩,
   ⟨lead.onMem ({ · with cfg := memPay, training := some ({}, none) }), {}, by decide +kernel, by decide +kernel, 3, 0, by decide +kernel⟩,
   ⟨lead.onMem ({ · with training := some ({}, some 3) }), {}, 3, by decide +kernel⟩,
   ⟨lead, rq [], ready_of (by decide +kernel)⟩,
   ⟨tile, rq [], ready_of (by decide +kernel), by decide +kernel⟩,
   ⟨lead.onMem ({ · with chans := [{}, {}, {}, { st := .hold }] }), rq [3, 0, 0, 0], ready_of (by decide +kernel), by decide +kernel⟩,
   ⟨lead.onMem ({ · with enabled := true, chans := [{}, {}, {}, { st := .hold }] }), rq [3, 0, 0, 0], ready_of (by decide +kernel),
      by decide +kernel⟩,
   ⟨lead, rq [48, 0, 0, 0], ready_of (by decide +kernel), by decide +kernel⟩,
   ⟨runMem {}, 3, [req3], by decide +kernel, by decide +kernel, by decide +kernel, by decide +kernel, by decide +kernel, { req := req3, entry := 0 },
      by decide +kernel⟩,
   ⟨runMem {}, 3, [], by decide +kernel⟩,
   ⟨memLead.onMem ({ · with chans := [{}, {}, {}, { st := .hold }] }), 3, [req3], by decide +kernel⟩,
   ⟨memLead, 3, { addr := 2 ^ 36, client := .planeFeed, write := false }, by decide +kernel⟩,
   ⟨lead, 3, by decide +kernel⟩,
   ⟨runMem { flight := [req3] }, 3, [2], req3, [], by decide +kernel⟩,
   ⟨runMem { flight := [req3] }, 3, [1], req3, [], by decide +kernel⟩,
   ⟨runMem {}, 3, 1, by decide +kernel⟩,
   ⟨runMem { reads := [{ req := req3, entry := 0 }] }, 3, 1, by decide +kernel⟩,
   ⟨runMem { reads := [{ req := req3, entry := 0 }], debt := [0, 8] }, 3, 1, by decide +kernel⟩,
   ⟨(runMem {}).onTmu ({ · with raw := 2 ^ 60 }), 3, by decide +kernel⟩,
   ⟨runMem { trainDue := some 0 }, 3, 255, by decide +kernel⟩,
   ⟨(runMem { trainDue := some 0 }).onTmu ({ · with raw := 2 ^ 60 }), 3, 0, by decide +kernel⟩,
   ⟨((runMem {}).setReg Reg.memCfg 1).onTmu ({ · with raw := 2 ^ 60 }), 3, 1, by decide +kernel⟩,
   ⟨runMem { since := 31, alerts := 2 }, 3, by decide +kernel⟩,
   ⟨runMem { since := 31, alerts := 3 }, 3, by decide +kernel⟩,
   ⟨(runMem {}).onMem ({ · with cfg := [4, 0, 2, 8, 16, 2] ++ zeros 42 }), 3, by decide +kernel⟩,
   ⟨(runMem {}).setReg Reg.memScrub 48, 3, by decide +kernel⟩,
   ⟨(runMem { scrub := 2 ^ 34 - 64 }).setReg Reg.memScrub 48, 3, by decide +kernel⟩⟩

/-- States and operands that meet the hypotheses of each clause of `PairCommandsComplete`. -/
theorem witness_PairCommandsComplete :
    (∃ (s : State), ∃ (r : Req), Ready s 0x0900 r ∧ u8 r.payload 0 = s.partnerNum ∧ s.topoLocked = true ∧ s.paired = true ∧ s.pai.state = .solo ∧ let lease := if u8 r.payload 2 = 0 then 2 else u8 r.payload 2; let guard_ := if u8 r.payload 3 = 0 then 4 else u8 r.payload 3; let ring := u8 r.payload 4 % 16; 2 ≤ lease ∧ lease ≤ 16 ∧ guard_ ≤ 4 ∧ ring ≠ 0 ∧ u8 r.payload 1 = 1) ∧
    (∃ (s : State), ∃ (r : Req), Ready s 0x0900 r ∧ u8 r.payload 0 = s.partnerNum ∧ s.topoLocked = true ∧ s.paired = true ∧ s.pai.state = .solo ∧ let lease := if u8 r.payload 2 = 0 then 2 else u8 r.payload 2; let guard_ := if u8 r.payload 3 = 0 then 4 else u8 r.payload 3; let ring := u8 r.payload 4 % 16; 2 ≤ lease ∧ lease ≤ 16 ∧ guard_ ≤ 4 ∧ ring ≠ 0 ∧ u8 r.payload 1 = 2) ∧
    (∃ (s : State), ∃ (r : Req), Ready s 0x0901 r) ∧
    (∃ (s : State), ∃ (r : Req), ∃ h, Ready s 0x0902 r ∧ timeAt r.payload 0 = some h ∧ s.pai.state = .active ∧ s.pai.handover = none) ∧
    (∃ (s : State), ∃ (r : Req), Ready s 0x0903 r ∧ s.pai.save = none) ∧
    (∃ (s : State), ∃ r, s.alive = true ∧ s.coreFaulted 0 = false ∧ s.pai.save = some r ∧ s.pwr.flashBad = false) ∧
    (∃ (s : State), ∃ r, s.alive = true ∧ s.coreFaulted 0 = false ∧ s.pai.save = some r ∧ s.pwr.flashBad = true) ∧
    (∃ (s : State), ∃ (r : Req), Ready s 0x0904 r ∧ (s.pai.state = .solo ∨ s.pai.state = .standby) ∧ s.pai.restore = none) ∧
    (∃ (s : State), ∃ r, s.alive = true ∧ s.coreFaulted 0 = false ∧ s.pai.restore = some r ∧ s.savedState = none) ∧
    (∃ (s : State), ∃ r, ∃ l, s.alive = true ∧ s.coreFaulted 0 = false ∧ s.pai.restore = some r ∧ s.savedState = some l ∧ s.pai.state ≠ .standby) ∧
    (∃ (s : State), ∃ r, ∃ l, s.alive = true ∧ s.coreFaulted 0 = false ∧ s.pai.restore = some r ∧ s.savedState = some l ∧ s.pai.state = .standby) ∧
    (∃ (s : State), s.alive = true ∧ s.isLead = true ∧ s.pai.state = .takeover ∧ s.now < s.pai.claimEnd ∧ (∀ a,
       s.pai.claimAt = some a → a + s.leaseUnit ≤ s.now)) ∧
    (∃ (s : State), s.alive = true ∧ s.isLead = true ∧ s.pai.state = .takeover ∧ s.pai.claimEnd ≤ s.now) ∧
    (∃ (s : State), ∃ m, s.beatFrom m 3 = true ∧ s.pai.state = .takeover ∧ s.leadNum % 2 = 1) ∧
    (∃ (s : State), ∃ m, s.beatFrom m 3 = true ∧ s.pai.state = .takeover ∧ s.leadNum % 2 = 0) ∧
    (∃ (s : State), ∃ m, s.beatFrom m 3 = true ∧ s.pai.state = .standby) ∧
    (∃ (s : State), s.alive = true ∧ s.isLead = true ∧ s.pai.state = .active ∧ s.renewDue = true) ∧
    (∃ (s : State), s.alive = true ∧ s.isLead = true ∧ s.pai.state = .active ∧ s.renewDue = true ∧ s.pai.renewAcked = false) ∧
    (∃ (s : State), ∃ m, s.beatFrom m 1 = true ∧ s.pai.state = .takeover) ∧
    (∃ (s : State), ∃ m, s.beatFrom m 1 = true ∧ s.pai.state = .standby) ∧
    (∃ (s : State), ∃ (m : Msg), ∃ a, s.beatFrom m 2 = true ∧ s.pai.state = .active ∧ s.pai.renews.find? (fun x => x.1 == u32 m.body 8) = some (u32 m.body 8, a) ∧ u32 m.body 16 = s.pai.mseqAck ∧ s.pai.tHold = none ∧ s.pai.handover = none ∧ s.pai.relay = 0) ∧
    (∃ (s : State), s.alive = true ∧ s.isLead = true ∧ s.pai.state = .active ∧ s.leaseOver = true) ∧
    (∃ (s : State), s.alive = true ∧ s.isLead = true ∧ s.pai.state = .standby ∧ s.pwr.inert = false ∧ (∃ x, s.expiry = some x ∧ x ≤ s.now) ∧
       s.pai.lastTry = none ∧ s.isArmed 0x0901 = false ∧ (∀ c ∈ s.ringChains, s.portState c ≠ .open_)) ∧
    (∃ (s : State), s.alive = true ∧ s.isLead = true ∧ s.pai.state = .standby ∧ s.pwr.inert = false ∧ (∃ x, s.expiry = some x ∧ x ≤ s.now) ∧
       s.pai.lastTry = none ∧ s.isArmed 0x0901 = true ∧ s.mirrorCur = true ∧ s.ringChains = []) ∧
    (∃ (s : State), ∃ r, ∃ (h : Nat), s.alive = true ∧ s.pai.handover = some (r, h) ∧ s.pai.flushing = none ∧ (h : Int) ≤ s.derivedNow ∧
       s.pai.state = .active ∧ s.pai.partner = 3 ∧ s.pai.bound = true) ∧
    (∃ (s : State), ∃ r, ∃ (h : Nat), s.alive = true ∧ s.pai.handover = some (r, h) ∧ s.pai.flushing = none ∧ (h : Int) ≤ s.derivedNow ∧
       s.pai.partner ≠ 3) ∧
    (∃ (s : State), ∃ r, ∃ h, ∃ a, s.alive = true ∧ s.pai.handover = some (r, h) ∧ s.pai.flushing = some a ∧ a + s.leaseTime ≤ s.now) ∧
    (∃ (s : State), ∃ (m : Msg), ∃ l, s.beatFrom m 6 = true ∧ s.pai.state = .standby ∧ timeAt m.body 24 = some l) ∧
    (∃ (s : State), ∃ (m : Msg), s.alive = true ∧ s.isLead = false ∧ let e := u32 m.body 4; u8 m.body 1 = 4 ∧ s.fromPair m = true ∧ u32 m.body 12 = s.leadEpoch ∧ e ≠ 0 ∧ e ≠ s.leadEpoch) ∧
    (∃ (s : State), ∃ m, s.alive = true ∧ s.isLead = false ∧ s.fromPair m = false) ∧
    (∃ (s : State), ∃ (m : Msg), s.alive = true ∧ s.isTile = true ∧ u8 m.body 1 = 5 ∧ s.fromPair m = true ∧ u32 m.body 4 = s.leadEpoch ∧
       m.relay = true ∧ m.port = s.downPort) ∧
    (∃ (s : State), ∃ (m : Msg), s.alive = true ∧ s.isTile = true ∧ m.relay = false) ∧
    (∃ (s : State), s.alive = true ∧ s.isLead = true ∧ s.pai.state = .active ∧ s.portState 6 = .active ∧ (∀ a,
       s.pai.deltaAt = some a → a + s.leaseUnit ≤ s.now)) ∧
    (∃ (s : State), ∃ (d : MirrorDelta), s.alive = true ∧ s.isLead = true ∧ s.pai.state = .standby ∧ d.first = false ∧ s.pai.begun = true ∧
       d.mseq = (s.pai.mseqAck + 1) % 2 ^ 32) ∧
    (∃ (s : State), ∃ (d : MirrorDelta), s.alive = true ∧ s.isLead = true ∧ s.pai.state = .standby ∧ d.first = false ∧
       d.mseq ≠ (s.pai.mseqAck + 1) % 2 ^ 32) ∧
    (∃ (s : State), ∃ a, s.alive = true ∧ s.isLead = true ∧ s.pai.mirrorStale = false ∧ s.pai.state = .standby ∧ s.pai.behind = some a ∧
       a + s.leaseTime ≤ s.now) ∧
    (∃ (s : State), s.alive = true ∧ s.isLead = true ∧ s.pai.mirrorStale = false ∧ s.pai.state = .active ∧ s.pai.ackAt + s.leaseTime ≤ s.now) :=
  ⟨⟨pairLead .solo, rq [1, 1, 2, 4, 1, 0, 0, 0], ready_of (by decide +kernel), by decide +kernel⟩,
   ⟨pairLead .solo, rq [1, 2, 0, 0, 15, 0, 0, 0], ready_of (by decide +kernel), by decide +kernel⟩,
   ⟨lead, rq [], ready_of (by decide +kernel)⟩,
   ⟨pairLead .active, rq (timeBytes 5), 5, ready_of (by decide +kernel), by decide +kernel⟩,
   ⟨lead, rq [], ready_of (by decide +kernel), by decide +kernel⟩,
   ⟨lead.onPai ({ · with save := some {} }), {}, by decide +kernel⟩,
   ⟨(lead.onPai ({ · with save := some {} })).onPwr ({ · with flashBad := true }), {}, by decide +kernel⟩,
   ⟨lead, rq [], ready_of (by decide +kernel), by decide +kernel⟩,
   ⟨lead.onPai ({ · with restore := some {} }), {}, by decide +kernel⟩,
   ⟨(lead.setJournal 4 [{ half := 0, seq := 1, data := .state [], marked := true }]).onPai ({ · with restore := some {} }), {}, [],
      by decide +kernel⟩,
   ⟨(lead.setJournal 4 [{ half := 0, seq := 1, data := .state [], marked := true }]).onPai ({ · with restore := some {}, state := .standby }), {}, [],
      by decide +kernel⟩,
   ⟨(pairLead .takeover).onPai ({ · with claimEnd := 2 ^ 61 }), by decide +kernel⟩,
   ⟨pairLead .takeover, by decide +kernel⟩,
   ⟨oddLead .takeover, bt 3 0 [], by decide +kernel⟩,
   ⟨pairLead .takeover, bt 3 1 [], by decide +kernel⟩,
   ⟨pairLead .standby, bt 3 1 [], by decide +kernel⟩,
   ⟨pairLead .active, by decide +kernel⟩,
   ⟨(pairLead .active).onPai ({ · with renewAcked := false }), by decide +kernel⟩,
   ⟨pairLead .takeover, bt 1 1 [], by decide +kernel⟩,
   ⟨pairLead .standby, bt 1 1 [], by decide +kernel⟩,
   ⟨(pairLead .active).onPai ({ · with renews := [(9, 77)] }), bt 2 1 (zeros 4 ++ b4 9 ++ zeros 20), 77, by decide +kernel⟩,
   ⟨(pairLead .active).onPai ({ · with bound := true, tHold := some 0 }), by decide +kernel⟩,
   ⟨(pairLead .standby).onPai ({ · with tRecv := some 0 }), by decide +kernel⟩,
   ⟨{ (pairLead .standby).onPai ({ · with tRecv := some 0, baseline := true }) with armed := [0x0901] }, by decide +kernel⟩,
   ⟨(pairLead .active).onPai ({ · with handover := some ({}, 0), partner := 3, bound := true }), {}, 0, by decide +kernel⟩,
   ⟨(pairLead .active).onPai ({ · with handover := some ({}, 0) }), {}, 0, by decide +kernel⟩,
   ⟨(pairLead .active).onPai ({ · with handover := some ({}, 0), flushing := some 1 }), {}, 0, 1, by decide +kernel⟩,
   ⟨pairLead .standby, bt 6 1 (zeros 20 ++ timeBytes 1000), 1000, by decide +kernel⟩,
   ⟨pairTile, bt 4 0 (b4 4 ++ zeros 4 ++ b4 3 ++ zeros 36), by decide +kernel⟩,
   ⟨pairTile, bt 4 2 [], by decide +kernel⟩,
   ⟨pairTile, { bt 5 0 (b4 3 ++ zeros 44) with relay := true, port := 1 }, by decide +kernel⟩,
   ⟨tile, bt 5 0 [], by decide +kernel⟩,
   ⟨((pairLead .active).setPortState 6 .active), by decide +kernel⟩,
   ⟨(pairLead .standby).onPai ({ · with begun := true }), { first := false, mseq := 1, last := true, items := [] }, by decide +kernel⟩,
   ⟨pairLead .standby, { first := false, mseq := 7, last := true, items := [] }, by decide +kernel⟩,
   ⟨(pairLead .standby).onPai ({ · with behind := some 0 }), 0, by decide +kernel⟩,
   ⟨pairLead .active, by decide +kernel⟩⟩

/-- States and operands that meet the hypotheses of each clause of `IslandRowsComplete`. -/
theorem witness_IslandRowsComplete :
    (∃ (s : State), s.met.run = true ∧ s.met.meter.mono + 1 < s.met.perStart + s.met.par.perLen ∧ s.met.params = []) ∧
    (∃ (s : State), s.met.run = true ∧ s.met.perStart + s.met.par.perLen ≤ s.met.meter.mono + 1 ∧ s.met.params = []) ∧
    (∃ (s : State), s.met.run = true ∧ ∃ x, s.met.params = [x] ∧ s.met.sealPin = false) ∧
    (∃ (s : State), s.met.run = true ∧ ∃ x, s.met.params = [x] ∧ s.met.sealPin = true ∧ s.met.meter.mono + 1 < s.met.perStart + s.met.par.perLen) ∧
    (∃ (s : State), s.met.run = false) ∧
    (∃ (s : State), ∃ (ch : Nat), s.met.run = true ∧ s.met.cal = none ∧ ch < 4 ∧ s.met.meter.mono % s.met.par.calInt = ch * s.met.par.calInt / 4 ∧
       (∀ k < ch, s.met.meter.mono % s.met.par.calInt ≠ k * s.met.par.calInt / 4)) ∧
    (∃ (s : State), (s.met.run = false ∨ s.met.cal.isSome = true)) ∧
    (∃ (s : State), s.met.run = true ∧ s.met.saved.mono + 900 ≤ s.met.meter.mono) ∧
    (∃ (s : State), (s.met.run = false ∨ s.met.meter.mono < s.met.saved.mono + 900)) ∧
    (∃ (s : State), ∃ i, s.met.run = true ∧ s.met.duty = none ∧ i = false) ∧
    (∃ (s : State), ∃ i, s.met.run = true ∧ s.met.duty = none ∧ i = true) ∧
    (∃ (s : State), s.met.run = true) ∧
    (∃ (s : State), s.met.run = true ∧ s.met.label = none) ∧
    (∃ (s : State), ∃ t, ∃ l, s.met.run = true ∧ s.met.label = some l ∧ let want := l.time + (s.met.meter.mono - l.mono) * unitsPerSec; want ≤ t + 2 * unitsPerSec ∧ t ≤ want + 2 * unitsPerSec) ∧
    (∃ (s : State), ∃ t, ∃ l, s.met.run = true ∧ s.met.label = some l ∧ let want := l.time + (s.met.meter.mono - l.mono) * unitsPerSec; want + 2 * unitsPerSec < t) ∧
    (∃ (s : State), s.met.run = true ∧ s.met.clkFault = false) ∧
    (∃ (s : State), ∃ mv, mv < metTrip s.met.cls33 ∧ s.met.run = true) ∧
    (∃ (s : State), ∃ mv, mv < metTrip s.met.cls33 ∧ s.met.run = false) ∧
    (∃ (s : State), ∃ mv, metTrip s.met.cls33 ≤ mv) ∧
    (∃ (s : State), s.met.power = true ∧ s.met.run = true) ∧
    (∃ (s : State), s.met.power = true ∧ s.met.run = false) ∧
    (∃ (s : State), s.met.power = false) ∧
    (∃ (s : State), ∃ mv, s.met.run = false ∧ let ok : Bool := decide (metTrip (decide (2500 ≤ mv)) + (if s.met.low then metHyst (decide (2500 ≤ mv)) else 0) ≤ mv); ok = true) ∧
    (∃ (s : State), ∃ mv, s.met.run = false ∧ let ok : Bool := decide (metTrip (decide (2500 ≤ mv)) + (if s.met.low then metHyst (decide (2500 ≤ mv)) else 0) ≤ mv); ok = false) ∧
    (∃ (s : State), ∃ mv, s.met.run = true ∧ let ok : Bool := decide (metTrip (decide (2500 ≤ mv)) + (if s.met.low then metHyst (decide (2500 ≤ mv)) else 0) ≤ mv); ok = true) ∧
    (∃ (s : State), ∃ (w : Bool), w = !s.met.run) ∧
    (∃ (s : State), ∃ (low : Bool), s.met.run = true ∧ s.met.sealed ≠ low) ∧
    (∃ (s : State), ∃ (low : Bool), (s.met.run = false ∨ s.met.sealed = low)) :=
  ⟨⟨metLead, by decide +kernel⟩,
   ⟨metSt ({ · with meter := { mono := 3600 } }), by decide +kernel⟩,
   ⟨metSt ({ · with params := [(1, 3, [])], sealPin := false }), by decide +kernel, (1, 3, []), by decide +kernel⟩,
   ⟨metSt ({ · with params := [(1, 3, [])] }), by decide +kernel, (1, 3, []), by decide +kernel⟩,
   ⟨State.reset, by decide +kernel⟩,
   ⟨metSt ({ · with meter := { mono := 450 } }), 2, by decide +kernel⟩,
   ⟨lead, by decide +kernel⟩,
   ⟨metSt ({ · with meter := { mono := 900 } }), by decide +kernel⟩,
   ⟨metLead, by decide +kernel⟩,
   ⟨metLead, false, by decide +kernel⟩,
   ⟨metLead, true, by decide +kernel⟩,
   ⟨metLead, by decide +kernel⟩,
   ⟨metLead, by decide +kernel⟩,
   ⟨metSt ({ · with label := some { time := 0, valid := true, mono := 0 } }), 1, { time := 0, valid := true, mono := 0 }, by decide +kernel⟩,
   ⟨metSt ({ · with label := some { time := 0, valid := true, mono := 0 } }), 2 ^ 60, { time := 0, valid := true, mono := 0 }, by decide +kernel⟩,
   ⟨metLead, by decide +kernel⟩,
   ⟨metLead, 0, (metTrip_pos _), by decide +kernel⟩,
   ⟨State.reset, 0, (metTrip_pos _), by decide +kernel⟩,
   ⟨metLead, 3300, (Nat.le_trans (metTrip_le _) (by decide))⟩,
   ⟨metLead, by decide +kernel⟩,
   ⟨metLead.onMet ({ · with run := false }), by decide +kernel⟩,
   ⟨lead, by decide +kernel⟩,
   ⟨lead, 3300, by decide +kernel, (by have h := metTrip_le true; have e : lead.met.low = true := (by decide +kernel); simp [e, metHyst]; omega)⟩,
   ⟨lead, 0, by decide +kernel, (by have h := metTrip_pos false; simp; omega)⟩,
   ⟨metLead, 3300, by decide +kernel, (by have h := metTrip_le true; have e : metLead.met.low = true := (by decide +kernel); simp [e, metHyst]; omega)⟩,
   ⟨metLead, false, by decide +kernel⟩,
   ⟨metLead, false, by decide +kernel⟩,
   ⟨metLead, true, by decide +kernel⟩⟩

/-- States and operands that meet the hypotheses of each clause of `IslandMailboxComplete`. -/
theorem witness_IslandMailboxComplete :
    (∃ s : State, s.alive = true ∧ s.metm.dutyAt + rawSec 1 ≤ s.now ∧ s.credit.pwr.inert = true) ∧
    (∃ s : State, s.alive = true ∧ s.metm.dutyAt + rawSec 1 ≤ s.now ∧ s.credit.pwr.inert = false ∧ s.credit.domOn 72 = true) ∧
    (∃ (s : State), s.now < s.metm.dutyAt + rawSec 1) ∧
    (∃ (s : State), s.mailboxOn = true ∧ s.metm.labelAt + rawSec 1 ≤ s.now) ∧
    (∃ (s : State), s.now < s.metm.labelAt + rawSec 1) ∧
    (∃ (s : State), s.mailboxOn = true ∧ s.metm.pollAt + rawMs 100 ≤ s.now ∧ s.metm.poll = none) ∧
    (∃ (s : State), s.mailboxOn = true ∧ s.metm.pollAt + rawMs 100 ≤ s.now ∧ ∃ p, s.metm.poll = some p ∧ s.met.power = true ∧
       p.snapSeq ≠ s.metWord 0) ∧
    (∃ (s : State), s.mailboxOn = true ∧ s.metm.pollAt + rawMs 100 ≤ s.now ∧ ∃ p, s.metm.poll = some p ∧ s.met.power = false ∧
       p.snapSeq = s.metWord 0 ∧ p.told = false ∧ p.snapAt + rawSec 3 ≤ s.now) ∧
    (∃ (s : State), s.now < s.metm.pollAt + rawMs 100) ∧
    (∃ (s : State), ∃ (r : Req), Ready s 0x0B00 r ∧ let o := u32 r.payload 0; let n := u16 r.payload 4; o % 4 = 0 ∧ o < 0x2000 ∧ 1 ≤ n ∧ n ≤ 1023 ∧ s.met.power = true ∧ s.met.run = true) ∧
    (∃ (s : State), ∃ (r : Req), Ready s 0x0B00 r ∧ let o := u32 r.payload 0; let n := u16 r.payload 4; o % 4 = 0 ∧ o < 0x2000 ∧ 1 ≤ n ∧ n ≤ 1023 ∧ (s.met.power = false ∨ s.met.run = false)) ∧
    (∃ (s : State), ∃ (r : Req), Ready s 0x0B01 r ∧ s.met.power = true ∧ s.met.run = true ∧ let f := u32 r.payload 0; let n := u16 r.payload 4; let head := s.metWord 0x018; 1 ≤ n ∧ n ≤ 15 ∧ head ≤ f + 4095 ∧ f ≤ head) ∧
    (∃ (s : State), ∃ (r : Req), Ready s 0x0B01 r ∧ s.met.power = true ∧ s.met.run = true ∧ let f := u32 r.payload 0; let n := u16 r.payload 4; let head := s.metWord 0x018; 1 ≤ n ∧ n ≤ 15 ∧ (f + 4095 < head ∨ head < f)) ∧
    (∃ (s : State), ∃ (r : Req), Ready s 0x0B02 r ∧ s.metm.sent = none) ∧
    (∃ (s : State), ∃ (r : Req), Ready s 0x0B02 r ∧ s.metm.sent.isSome = true) ∧
    (∃ (s : State), ∃ r, ∃ a, ∃ (n : Nat), s.alive = true ∧ s.metm.sent = some (r, a, n) ∧ s.met.power = true ∧ n ≠ s.met.answers) ∧
    (∃ (s : State), ∃ r, ∃ a, ∃ (n : Nat), s.alive = true ∧ s.metm.sent = some (r, a, n) ∧ n = s.met.answers) ∧
    (∃ (s : State), ∃ r, ∃ a, ∃ (n : Nat), s.alive = true ∧ s.metm.sent = some (r, a, n) ∧ n = s.met.answers ∧ a + rawMs 200 ≤ s.now ∧
       (u8 r.payload 20 ≠ 3 ∨ s.met.run = false)) ∧
    (∃ (s : State), ∃ r, ∃ a, ∃ (n : Nat), s.alive = true ∧ s.metm.sent = some (r, a, n) ∧ s.now < a + rawMs 200) ∧
    (∃ (s : State), ∃ (r : Req), Ready s 0x0B03 r) :=
  ⟨⟨late.onPwr ({ · with inert := true }), by decide +kernel⟩,
   ⟨lateTile.onLpp ({ · with cfg := lppPay }), by decide +kernel⟩,
   ⟨lead, by decide +kernel⟩,
   ⟨late, by decide +kernel⟩,
   ⟨lead, by decide +kernel⟩,
   ⟨late, by decide +kernel⟩,
   ⟨metLead.onMetm ({ · with poll := some ⟨0, true, 0, 0, 0, false, false, 0, 7, 0, false⟩ }), by decide +kernel, by decide +kernel, ⟨0, true, 0, 0,
      0, false, false, 0, 7, 0, false⟩, by decide +kernel⟩,
   ⟨late.onMetm ({ · with poll := some ⟨0, true, 0, 0, 0, false, false, 0, 0, 0, false⟩ }), by decide +kernel, by decide +kernel, ⟨0, true, 0, 0, 0,
      false, false, 0, 0, 0, false⟩, by decide +kernel⟩,
   ⟨lead, by decide +kernel⟩,
   ⟨metLead, rq (b4 0 ++ b2 1023 ++ zeros 2), ready_of (by decide +kernel), by decide +kernel⟩,
   ⟨lead, rq (b4 0x1FFC ++ b2 1 ++ zeros 2), ready_of (by decide +kernel), by decide +kernel⟩,
   ⟨metLead, rq (b4 0 ++ b2 15 ++ zeros 2), ready_of (by decide +kernel), by decide +kernel⟩,
   ⟨metLead, rq (b4 9 ++ b2 1 ++ zeros 2), ready_of (by decide +kernel), by decide +kernel⟩,
   ⟨metLead, rq (zeros 120), ready_of (by decide +kernel), by decide +kernel⟩,
   ⟨metLead.onMetm ({ · with sent := some ({}, 0, 0) }), rq (zeros 120), ready_of (by decide +kernel), by decide +kernel⟩,
   ⟨metLead.onMetm ({ · with sent := some ({}, 0, 7) }), {}, 0, 7, by decide +kernel⟩,
   ⟨metLead.onMetm ({ · with sent := some ({}, 0, 0) }), {}, 0, 0, by decide +kernel⟩,
   ⟨metLead.onMetm ({ · with sent := some ({}, 0, 0) }), {}, 0, 0, by decide +kernel⟩,
   ⟨metLead.onMetm ({ · with sent := some ({}, 2 ^ 60, 0) }), {}, 2 ^ 60, 0, by decide +kernel⟩,
   ⟨lead, rq [], ready_of (by decide +kernel)⟩⟩

/-- States and operands that meet the hypotheses of each clause of `SecurityCommandsComplete`. -/
theorem witness_SecurityCommandsComplete :
    (∃ (s : State), ∃ (r : Req), Ready s 0x0C00 r) ∧
    (∃ (s : State), ∃ (r : Req), ∃ (slot : Nat), Ready s 0x0C01 r ∧ u8 r.payload 0 = slot ∧ slot ≤ 15) ∧
    (∃ (s : State), ∃ (r : Req), Ready s 0x0C01 r ∧ u8 r.payload 0 = 16) ∧
    (∃ (s : State), ∃ (r : Req), ∃ (slot : Nat), Ready s 0x0C02 r ∧ u8 r.payload 0 = slot ∧ s.pwr.flashBad = false ∧ slot ≤ 15 ∧
       s.provMap.testBit slot = true) ∧
    (∃ (s : State), ∃ (r : Req), ∃ (slot : Nat), Ready s 0x0C02 r ∧ u8 r.payload 0 = slot ∧ s.pwr.flashBad = false ∧ slot = 16 ∧
       s.provMap.testBit 16 = true) ∧
    (∃ (s : State), ∃ (r : Req), ∃ (slot : Nat), Ready s 0x0C02 r ∧ u8 r.payload 0 = slot ∧ s.pwr.flashBad = false ∧ slot ≤ 16 ∧
       s.provMap.testBit slot = false) ∧
    (∃ (s : State), ∃ (r : Req), ∃ (slot : Nat), Ready s 0x0C03 r ∧ u8 r.payload 0 = slot ∧ slot ≤ 14 ∧ (Map.find s.ks.creds slot).isSome = true ∧
       s.pwr.flashBad = false) ∧
    (∃ (s : State), ∃ (r : Req), ∃ (slot : Nat), Ready s 0x0C03 r ∧ u8 r.payload 0 = slot ∧ slot ≤ 14 ∧ (Map.find s.ks.creds slot).isSome = true ∧
       s.pwr.flashBad = true) ∧
    (∃ (s : State), ∃ (r : Req), ∃ (slot : Nat), Ready s 0x0C03 r ∧ u8 r.payload 0 = slot ∧ slot ≤ 14 ∧ Map.find s.ks.creds slot = none) ∧
    (∃ (s : State), ∃ (r : Req), Ready s 0x0C04 r ∧ let id := u8 r.payload 0; id ≤ 1 ∧ s.key.lastId ≠ some id) ∧
    (∃ (s : State), ∃ (r : Req), Ready s 0x0C04 r ∧ let id := u8 r.payload 0; id ≤ 1 ∧ s.key.lastId = some id) ∧
    (∃ (s : State), ∃ (r : Req), Ready s 0x0C05 r ∧ s.sec.gate = none) ∧
    (∃ (s : State), ∃ (r : Req), Ready s 0x0C05 r ∧ s.sec.gate.isSome = true) ∧
    (∃ (s : State), ∃ r, ∃ open_, s.alive = true ∧ s.coreFaulted 0 = false ∧ s.sec.gate = some (r, open_)) :=
  ⟨⟨lead, rq (zeros 32), ready_of (by decide +kernel)⟩,
   ⟨lead, rq (b1 15 ++ zeros 163), 15, ready_of (by decide +kernel), by decide +kernel⟩,
   ⟨lead, rq (b1 16 ++ zeros 163), ready_of (by decide +kernel), by decide +kernel⟩,
   ⟨lead.onKs ({ · with creds := [(15, [])] }), rq [15, 0, 0, 0], 15, ready_of (by decide +kernel), by decide +kernel⟩,
   ⟨lead.onKs ({ · with group := some [] }), rq [16, 0, 0, 0], 16, ready_of (by decide +kernel), by decide +kernel⟩,
   ⟨lead, rq [16, 0, 0, 0], 16, ready_of (by decide +kernel), by decide +kernel⟩,
   ⟨lead.onKs ({ · with creds := [(14, [])] }), rq [14, 0, 0xFF, 0xFF], 14, ready_of (by decide +kernel), by decide +kernel⟩,
   ⟨(lead.onKs ({ · with creds := [(14, [])] })).onPwr ({ · with flashBad := true }), rq [14, 0, 0xFF, 0xFF], 14, ready_of (by decide +kernel),
      by decide +kernel⟩,
   ⟨lead, rq [14, 0, 0xFF, 0xFF], 14, ready_of (by decide +kernel), by decide +kernel⟩,
   ⟨tile, rq (b1 1 ++ zeros 323), ready_of (by decide +kernel), by decide +kernel⟩,
   ⟨tile.onKey ({ · with lastId := some 1 }), rq (b1 1 ++ zeros 323), ready_of (by decide +kernel), by decide +kernel⟩,
   ⟨lead, rq (zeros 212), ready_of (by decide +kernel), by decide +kernel⟩,
   ⟨lead.onSec ({ · with gate := some ({}, true) }), rq (zeros 212), ready_of (by decide +kernel), by decide +kernel⟩,
   ⟨lead.onSec ({ · with gate := some ({}, false) }), {}, false, by decide +kernel⟩⟩

/-- States and operands that meet the hypotheses of each clause of `UpdateCommandsComplete`. -/
theorem witness_UpdateCommandsComplete :
    (∃ (s : State), ∃ (r : Req), ∃ (k : Nat), Ready s 0x0D00 r ∧ s.beginSlot (u8 r.payload 0) = some k ∧ let size := u32 r.payload 4; 4097 ≤ size ∧ size ≤ 8388608 ∧ s.sec.trial = false ∧ s.sec.running ≠ some k ∧ s.flash.pend = none ∧ s.sec.upd = none ∧ k < 2 ∧ s.pwr.flashBad = false) ∧
    (∃ (s : State), ∃ (r : Req), ∃ (k : Nat), Ready s 0x0D00 r ∧ s.beginSlot (u8 r.payload 0) = some k ∧ let size := u32 r.payload 4; 4097 ≤ size ∧ size ≤ 8388608 ∧ s.sec.trial = false ∧ s.sec.running ≠ some k ∧ s.flash.pend = none ∧ s.sec.upd = none ∧ k = 2) ∧
    (∃ (s : State), ∃ (r : Req), ∃ (k : Nat), Ready s 0x0D00 r ∧ s.beginSlot (u8 r.payload 0) = some k ∧ let size := u32 r.payload 4; 4097 ≤ size ∧ size ≤ 8388608 ∧ s.sec.trial = false ∧ s.sec.running ≠ some k ∧ s.flash.pend = none ∧ s.sec.upd = none ∧ k < 2 ∧ s.pwr.flashBad = true) ∧
    (∃ (s : State), ∃ (k : Nat), s.alive = true ∧ s.coreFaulted 0 = false ∧ s.flash.erasing = some k) ∧
    (∃ (s : State), ∃ (r : Req), ∃ u, Ready s 0x0D01 r ∧ s.sec.upd = some u ∧ s.flash.erasing ≠ some u.slot ∧ s.pwr.flashBad = false ∧ let o := u32 r.payload 0; let d := r.payload.drop 4; let n := d.length; let x := s.imgSlot u.slot; let same := ∀ i < n, u.units.contains ((o + i) / 64) = true → Map.at x.img 0xFF (o + i) = d.getD i 0; o % 64 = 0 ∧ o + n ≤ u.size ∧ (n % 64 = 0 ∨ o + n = u.size) ∧ same) ∧
    (∃ (s : State), ∃ (r : Req), ∃ u, Ready s 0x0D01 r ∧ s.sec.upd = some u ∧ s.flash.erasing ≠ some u.slot ∧ s.pwr.flashBad = false ∧ let o := u32 r.payload 0; let d := r.payload.drop 4; let n := d.length; let x := s.imgSlot u.slot; let same := ∀ i < n, u.units.contains ((o + i) / 64) = true → Map.at x.img 0xFF (o + i) = d.getD i 0; o % 64 = 0 ∧ o + n ≤ u.size ∧ (n % 64 = 0 ∨ o + n = u.size) ∧ ¬ same) ∧
    (∃ (s : State), ∃ u, s.sec.upd = some u ∧ s.flash.erasing = some u.slot) ∧
    (∃ (s : State), ∃ (r : Req), ∃ u, Ready s 0x0D02 r ∧ s.sec.upd = some u ∧ u.verify = none ∧ u.size ≤ u.firstGap) ∧
    (∃ (s : State), ∃ r, ∃ u, s.alive = true ∧ s.coreFaulted 0 = false ∧ s.sec.upd = some u ∧ u.verify = some r) ∧
    (∃ (s : State) (r : Req) (k : Nat), Ready s 0x0D03 r ∧ u8 r.payload 1 ≤ 7 ∧ s.flash.pend = none ∧ s.pwr.flashBad = false ∧ (s.pcieBoot && s.inRecovery) = false ∧ [0, 1].find? (fun k => (s.imgSlot k).mark == 2) = some k ∧ u8 r.payload 0 = 0) ∧
    (∃ (s : State) (r : Req) (k t : Nat), Ready s 0x0D03 r ∧ u8 r.payload 1 ≤ 7 ∧ s.flash.pend = none ∧ s.pwr.flashBad = false ∧ (s.pcieBoot && s.inRecovery) = false ∧ [0, 1].find? (fun k => (s.imgSlot k).mark == 2) = some k ∧ u8 r.payload 0 = 1 ∧ s.inRecovery = false ∧ timeAt r.payload 4 = some t ∧ s.actDom.valid = true ∧ s.derivedNow + 1000 * rawMs 1000 ≤ (t : Int)) ∧
    (∃ (s : State), ∃ (r : Req), Ready s 0x0D03 r ∧ u8 r.payload 0 = 0 ∧ u8 r.payload 1 ≤ 7 ∧ s.flash.pend = none ∧
       (s.pcieBoot && s.inRecovery) = true ∧ s.sec.load.mark = 2) ∧
    (∃ (s : State), ∃ (t : Nat), s.alive = true ∧ s.flash.pend = some (some t) ∧ s.actDom.valid = true ∧ (t : Int) ≤ s.derivedNow) ∧
    (∃ (s : State), ∃ (t : Nat), s.alive = true ∧ s.flash.pend = some (some t) ∧ s.actDom.valid = true ∧ s.derivedNow < (t : Int)) ∧
    (∃ (s : State), ∃ (t : Nat), s.alive = true ∧ s.flash.pend = some (some t) ∧ s.actDom.valid = false) ∧
    (∃ (s : State), ∃ (r : Req), Ready s 0x0D04 r ∧ s.flash.pend.isSome = true ∧ s.pwr.flashBad = false) ∧
    (∃ (s : State), ∃ (r : Req), Ready s 0x0D04 r ∧ s.flash.pend.isSome = true ∧ s.pwr.flashBad = true) ∧
    (∃ (s : State), ∃ (r : Req), Ready s 0x0D04 r ∧ s.flash.pend = none) ∧
    (∃ (s : State), ∃ (r : Req), Ready s 0x0D04 r ∧ s.flash.pend = none ∧ ∃ x, s.sec.upd = some x ∧ x.slot < 3) ∧
    (∃ (s : State) (r : Req) (k : Nat), Ready s 0x0D04 r ∧ s.flash.pend = none ∧ k < 3 ∧ (s.imgSlot k).mark ≠ 2 ∧ s.sec.upd = none) ∧
    (∃ (s : State), ∃ (r : Req), ∃ (k : Nat), Ready s 0x0D05 r ∧ s.sec.trial = true ∧ s.sec.running = some k ∧ s.pwr.flashBad = false) ∧
    (∃ (s : State), ∃ (r : Req), Ready s 0x0D05 r ∧ s.sec.trial = false) ∧
    (∃ (s : State), ∃ (r : Req), Ready s 0x0D06 r) :=
  ⟨⟨lead, rq (b4 0 ++ b4 8388608), 1, ready_of (by decide +kernel), by decide +kernel⟩,
   ⟨recLead, rq (b4 0 ++ b4 4097), 2, ready_of (by decide +kernel), by decide +kernel⟩,
   ⟨lead.onPwr ({ · with flashBad := true }), rq (b4 0 ++ b4 8388608), 1, ready_of (by decide +kernel), by decide +kernel⟩,
   ⟨(updLead 8192 [0] none).onFlash ({ · with erasing := some 1 }), 1, by decide +kernel⟩,
   ⟨updLead 8192 [0] none, rq (b4 64 ++ b1 7 ++ zeros 63), { slot := 1, size := 8192, units := [0] }, ready_of (by decide +kernel),
      by decide +kernel⟩,
   ⟨updLead 8192 [0] none, rq (b4 0 ++ b1 7 ++ zeros 63), { slot := 1, size := 8192, units := [0] }, ready_of (by decide +kernel), by decide +kernel⟩,
   ⟨(updLead 8192 [0] none).onFlash ({ · with erasing := some 1 }), { slot := 1, size := 8192, units := [0] }, by decide +kernel⟩,
   ⟨updLead 130 [0, 1, 2] none, rq [], { slot := 1, size := 130, units := [0, 1, 2] }, ready_of (by decide +kernel), by decide +kernel⟩,
   ⟨updLead 130 [0, 1, 2] (some {}), {}, { slot := 1, size := 130, units := [0, 1, 2], verify := some {} }, by decide +kernel⟩,
   ⟨verLead, rq ([0, 7] ++ zeros 14), 1, ready_of (by decide +kernel), by decide +kernel⟩,
   ⟨verLead.onTmu ({ · with d0 := { valid := true } }), rq ([1, 0, 0, 0] ++ timeBytes (1000 * rawMs 1000)), 1, 1000 * rawMs 1000,
      ready_of (by decide +kernel), by decide +kernel⟩,
   ⟨recLead.onSec ({ · with load := { mark := 2 } }), rq (zeros 16), ready_of (by decide +kernel), by decide +kernel⟩,
   ⟨(lead.onTmu ({ · with d0 := { valid := true } })).onFlash ({ · with pend := some (some 0) }), 0, by decide +kernel⟩,
   ⟨(lead.onTmu ({ · with d0 := { valid := true } })).onFlash ({ · with pend := some (some 9) }), 9, by decide +kernel⟩,
   ⟨lead.onFlash ({ · with pend := some (some 9) }), 9, by decide +kernel⟩,
   ⟨lead.onFlash ({ · with pend := some none }), rq [], ready_of (by decide +kernel), by decide +kernel⟩,
   ⟨(lead.onFlash ({ · with pend := some none })).onPwr ({ · with flashBad := true }), rq [], ready_of (by decide +kernel), by decide +kernel⟩,
   ⟨updLead 8192 [] none, rq [], ready_of (by decide +kernel), by decide +kernel⟩,
   ⟨updLead 8192 [] none, rq [], ready_of (by decide +kernel), by decide +kernel, { slot := 1, size := 8192 }, by decide +kernel⟩,
   ⟨lead, rq [], 1, ready_of (by decide +kernel), by decide +kernel⟩,
   ⟨lead.onSec ({ · with trial := true, running := some 1 }), rq [], 1, ready_of (by decide +kernel), by decide +kernel⟩,
   ⟨lead, rq [], ready_of (by decide +kernel), by decide +kernel⟩,
   ⟨lead, rq [], ready_of (by decide +kernel)⟩⟩

theorem witness_StepRunsFrontCommand : ∃ c rest, ∃ s : State, s.pending = c :: rest :=
  ⟨.powerOnReset, [.checkpoint], { lead with pending := [.powerOnReset, .checkpoint] }, rfl⟩

theorem witness_EmptyQueueTicks : (∃ s : State, s.pending = [] ∧ s.alive = true ∧ s.tmu.switch = none) ∧
    (∃ (s : State) (w : Switch), s.pending = [] ∧ s.alive = true ∧ s.tmu.switch = some w ∧ w.deferred = true) ∧
    ∃ s : State, s.pending = [] ∧ s.alive = false :=
  ⟨⟨lead, by decide⟩, ⟨lead.onTmu ({ · with switch := some { new := 1, stepOk := true, deferred := true } }), { new := 1, stepOk := true, deferred := true },
     by decide⟩, State.reset, by decide⟩

theorem witness_NoCommandTouchesTheQueue : ∃ c, ∃ s t : State, s.pending = [.checkpoint] ∧ exec c s = .next t :=
  ⟨.poresetNAssert, { lead with pending := [.checkpoint] }, _, rfl, rfl⟩

theorem witness_MainSideLeavesTheIsland : (∃ c, ∃ s t : State, ofIsland c = false ∧ exec c s = .next t) ∧
    (∃ a : Nat, ∃ s : State, s.alive = true ∧ 0x00E00000 ≤ a ∧ a < 0x00F00000) ∧
    (∃ (r : Req) (s : State) (k : Nat), Ready s 0x0003 r ∧ u32 r.payload 0 % 4 = 0 ∧ k < (words32 (r.payload.drop 4)).length ∧
      0x00E00000 ≤ u32 r.payload 0 + 4 * k ∧ u32 r.payload 0 + 4 * k < 0x00F00000 ∧
      ((s.takeReq 0x0003 r).firstRefused r (u32 r.payload 0) 0 ((words32 (r.payload.drop 4)).take k)) = none) :=
  ⟨⟨.poresetNAssert, metLead, _, rfl, rfl⟩, ⟨0x00E00000, lead, by decide +kernel⟩,
    ⟨rq (b4 0x00EFFFFC ++ zeros 4), lead, 0, ready_of (by decide +kernel), by decide +kernel⟩⟩

theorem witness_IslandRowsTouchTheIslandAlone : ∃ c, ∃ s t : State, ofIsland c = true ∧ exec c s = .next t :=
  ⟨.sealChange false, metLead, _, rfl, rfl⟩

theorem witness_RawCounterStaysWhole : ∃ s t : State, s.RawWhole ∧ step s = .next t := ⟨late, _, rfl, rfl⟩

theorem witness_OneTimeMemoryOnlyGrows : ∃ s t : State, s.otp.arb = 3 ∧ step s = .next t := ⟨lead.onOtp ({ · with arb := 3 }), _, rfl, rfl⟩

theorem witness_OnlyResetsChangeRoleAndPhase : ∃ c, ∃ s t : State, resetsMain c = false ∧ exec c s = .next t :=
  ⟨.crystalFault, metLead, _, rfl, rfl⟩

theorem witness_HeldUntilTheResetEnds : (∃ c code r, ∃ s : State, requestOf c = some (code, r) ∧ s.alive = false) ∧
    ∃ c, ∃ s t : State, s.alive = false ∧ exec c s = .next t ∧ (∀ a b, c ≠ .poresetNRise a b) ∧ (∀ a b n, c ≠ .supplyBackInRange a b n) :=
  ⟨⟨.nop {}, 0, {}, State.reset, by decide⟩, .checkpoint, State.reset, _, by decide, rfl, nofun, nofun⟩

theorem witness_WrongRoleIsRefused : ∃ c code r o, ∃ s : State, requestOf c = some (code, r) ∧ opRow code = some o ∧ s.alive = true ∧
    s.waits code r = false ∧ s.strayNearest r = false ∧ s.bootRefusal code = none ∧ o.lenOk r.payload.length = true ∧
       s.fieldLenOk code r.payload = true ∧
    o.roleOk s = false :=
  ⟨.sessionKey (rq (zeros 324)), 0x0C04, rq (zeros 324), rowOf 0x0C04, lead, rfl, rfl, by decide +kernel⟩

theorem witness_RefusedBeforeItsParameters :
    (∃ c code r o, ∃ s : State, requestOf c = some (code, r) ∧ opRow code = some o ∧ s.alive = true ∧ s.waits code r = false ∧
      (∀ q, c = .imgBlock q → s.sec.upd.any (fun u => s.flash.erasing == some u.slot) = false) ∧ s.strayNearest r = true) ∧
    (∃ c code r o, ∃ s : State, requestOf c = some (code, r) ∧ opRow code = some o ∧ s.alive = true ∧ s.waits code r = false ∧
      (∀ q, c = .imgBlock q → s.sec.upd.any (fun u => s.flash.erasing == some u.slot) = false) ∧ s.strayNearest r = false ∧
      ∃ a, s.earlyRefusal o r = some a ∧ s.bootRefusal code = none ∧ o.lenOk r.payload.length = false) ∧
    (∃ c code r o, ∃ s : State, requestOf c = some (code, r) ∧ opRow code = some o ∧ s.alive = true ∧ s.waits code r = false ∧
      (∀ q, c = .imgBlock q → s.sec.upd.any (fun u => s.flash.erasing == some u.slot) = false) ∧ s.strayNearest r = false ∧
      ∃ a, s.earlyRefusal o r = none ∧ s.lateRefusal o r = some a ∧ r.isMore = true) ∧
    (∃ c code r o, ∃ s : State, requestOf c = some (code, r) ∧ opRow code = some o ∧ s.alive = true ∧ s.waits code r = false ∧
      (∀ q, c = .imgBlock q → s.sec.upd.any (fun u => s.flash.erasing == some u.slot) = false) ∧ s.strayNearest r = false ∧
      ∃ a, s.earlyRefusal o r = none ∧ s.lateRefusal o r = some a ∧ r.isMore = false ∧ needsCore0 code = true ∧ s.coreFaulted 0 = true) :=
  ⟨⟨.nop { flags := 0x10 }, 0x0000, { flags := 0x10 }, rowOf 0, heldTile, rfl, rfl, by decide +kernel, by decide +kernel, nofun, by decide +kernel⟩,
    ⟨.attest (rq (zeros 31)), 0x0C00, rq (zeros 31), rowOf 0x0C00, lead,
      rfl, rfl, by decide +kernel, by decide +kernel, nofun, by decide +kernel, rspErr 0x0101 32, by decide +kernel⟩,
    ⟨.attest { flags := 0x08, payload := zeros 32 }, 0x0C00, { flags := 0x08, payload := zeros 32 }, rowOf 0x0C00, lead,
      rfl, rfl, by decide +kernel, by decide +kernel, nofun, by decide +kernel, rspErr 0x0102 1, by decide +kernel⟩,
    ⟨.attest (rq (zeros 32)), 0x0C00, rq (zeros 32), rowOf 0x0C00, lead.onPwr ({ · with cores := [{ state := 3 }, {}] }),
      rfl, rfl, by decide +kernel, by decide +kernel, nofun, by decide +kernel, rspErr 0x0700, by decide +kernel⟩⟩

theorem witness_ReservedStrapStaysInert :
    (∃ (s : State) (role : Nat), s.pwr.poresetLow = true ∧ s.coreSupplyOut = false ∧ s.pwr.inert = true ∧ s.net.ports.length = 8 ∧
      (role = 3 ∨ (role = 2 ∧ s.gateOpen = false))) ∧
    (∃ c code r o, ∃ s : State, s.pwr.phase = .strap ∧ requestOf c = some (code, r) ∧ s.waits code r = false ∧ s.strayNearest r = false ∧
       code = 0x0100 ∧ opRow code = some o) ∧
    (∃ c code r, ∃ s : State, s.pwr.phase = .strap ∧ requestOf c = some (code, r) ∧ s.waits code r = false ∧ s.strayNearest r = false ∧
      ¬(code = 0x0000 ∨ code = 0x0001 ∨ code = 0x0C00 ∨ code = 0x0F00 ∨ code = 0x0100) ∧
      ∀ q, c = .imgBlock q → s.sec.upd.any (fun u => s.flash.erasing == some u.slot) = false) :=
  ⟨⟨State.reset.onPwr ({ · with poresetLow := true }), 2, by decide +kernel⟩,
    ⟨.probeNearest {}, 0x0100, {}, rowOf 0x0100, tile.onPwr ({ · with phase := .strap }), rfl, rfl, by decide +kernel, by decide +kernel, rfl, rfl⟩,
    ⟨.assignAddress {}, 0x0101, {}, tile.onPwr ({ · with phase := .strap }), rfl, rfl, by decide +kernel, by decide +kernel, by decide, nofun⟩⟩

theorem witness_AnOccurrenceIsCounted : (∃ j k : Nat, j ≠ k) ∧ ∃ (s : State) (k : Nat), s.masked k = true :=
  ⟨⟨1023, 0, by decide⟩, lead.setReg (Reg.evtMask + 124) 0x80000000, 1023, by decide +kernel⟩

theorem witness_RecordsAreRateLimited : ∃ (s : State) (k : Nat), s.fld Reg.evtCfg 12 8 = 1 ∧
    s.fld Reg.evtCfg 12 8 ≤ ((Map.at s.evt.srcs {} k).times.filter (fun t => s.now < t + 65536000000)).length :=
  ⟨(late.setReg Reg.evtCfg 0x100).onEvt ({ · with srcs := [(7, { times := [2 ^ 60 - 65535999999] })] }), 7, by decide +kernel⟩

theorem witness_RegistersOutOfReach :
    (∃ (s : State) (r : Req), Ready s 0x0002 r ∧ 1 ≤ u16 r.payload 4 ∧ u16 r.payload 4 ≤ 1023 ∧ u32 r.payload 0 % 4 ≠ 0) ∧
    (∃ (s : State) (r : Req) (k : Nat), Ready s 0x0002 r ∧ u16 r.payload 4 ≤ 1023 ∧ u32 r.payload 0 % 4 = 0 ∧ k < u16 r.payload 4 ∧
      (∀ j < k, (regRow (u32 r.payload 0 + 4 * j)).isSome = true ∧ s.regOff (u32 r.payload 0 + 4 * j) = false) ∧
         regRow (u32 r.payload 0 + 4 * k) = none) ∧
    (∃ (s : State) (r : Req) (k : Nat), Ready s 0x0002 r ∧ u16 r.payload 4 ≤ 1023 ∧ u32 r.payload 0 % 4 = 0 ∧ k < u16 r.payload 4 ∧
      (∀ j < k, (regRow (u32 r.payload 0 + 4 * j)).isSome = true ∧ s.regOff (u32 r.payload 0 + 4 * j) = false) ∧
      s.regOff (u32 r.payload 0 + 4 * k) = true) ∧
    (∃ (s : State) (r : Req), Ready s 0x0003 r ∧ u32 r.payload 0 % 4 ≠ 0) ∧
    (∃ (s : State) (r : Req), Ready s 0x0003 r ∧ u32 r.payload 0 % 4 = 0 ∧ 8 ≤ r.payload.length ∧ u32 r.payload 0 / 2 ^ 20 ≠ 0xE ∧
      regRow (u32 r.payload 0) = none) ∧
    (∃ (s : State) (r : Req), Ready s 0x0003 r ∧ u32 r.payload 0 % 4 = 0 ∧ 8 ≤ r.payload.length ∧ u32 r.payload 0 / 2 ^ 20 ≠ 0xE ∧
      s.regOff (u32 r.payload 0) = true) ∧
    (∃ (s : State) (a : Nat), s.alive = true ∧ a < 0x00E00000 ∧ (regRow (a / 4 * 4) = none ∨ s.regOff (a / 4 * 4) = true)) :=
  ⟨⟨lead, rq (b4 2 ++ b2 1023 ++ zeros 2), ready_of (by decide +kernel), by decide +kernel⟩,
    ⟨lead, rq (b4 Reg.glbChipId ++ b2 1023 ++ zeros 2), 1, ready_of (by decide +kernel), by decide +kernel⟩,
    ⟨tile, rq (b4 0x00520000 ++ b2 1 ++ zeros 2), 0, ready_of (by decide +kernel), by decide +kernel⟩,
    ⟨lead, rq (b4 2 ++ zeros 4), ready_of (by decide +kernel), by decide +kernel⟩,
    ⟨lead, rq (b4 0xFFFFFFFC ++ zeros 4), ready_of (by decide +kernel), by decide +kernel⟩,
    ⟨tile, rq (b4 0x00520000 ++ zeros 4), ready_of (by decide +kernel), by decide +kernel⟩,
    ⟨lead, 0x00DFFFFC, by decide +kernel⟩⟩

theorem witness_OneIslandRequestAtATime : (∃ (s : State) (r : Req), Ready s 0x0B02 r ∧ s.metm.sent = none) ∧
    ∃ (s : State) (r : Req), Ready s 0x0B02 r ∧ s.metm.sent.isSome = true :=
  ⟨⟨metLead, rq (zeros 120), ready_of (by decide +kernel), by decide +kernel⟩,
    ⟨metLead.onMetm ({ · with sent := some ({}, 0, 0) }), rq (zeros 4096), ready_of (by decide +kernel), by decide +kernel⟩⟩

theorem witness_CoderStatusLayout : (∃ (s : State) (r : Req), Ready s 0x0501 r ∧ s.isTile = true) ∧ ∃ (s : State) (r : Req), Ready s 0x0501 r ∧
   s.isLead = true :=
  ⟨⟨tile, rq [], ready_of (by decide +kernel), by decide +kernel⟩, ⟨lead, rq [], ready_of (by decide +kernel), by decide +kernel⟩⟩

theorem witness_PcieResetLeavesTheWallRunning : ∃ (s : State) (kind : Nat), s.isLead = true ∧ s.alive = true ∧ kind ≤ 2 := ⟨ringOn, 2,
   by decide +kernel⟩

theorem witness_CoderErrorBound :
    (∃ (ratio mode floor : Nat) (px : List Rgb), ratio ≤ 3 ∧ mode ≤ 1 ∧ (mode = 0 → floor = 0) ∧ (mode = 1 → 1 ≤ floor ∧ floor ≤ sMax ratio) ∧
      px.length = 32 ∧ (∀ p ∈ px, ∀ c < 3, Rgb.comp p c < 4096) ∧ mode = 1) ∧
    (∃ (ratio mode floor : Nat) (px : List Rgb), ratio ≤ 3 ∧ mode ≤ 1 ∧ (mode = 0 → floor = 0) ∧ (mode = 1 → 1 ≤ floor ∧ floor ≤ sMax ratio) ∧
      px.length = 32 ∧ (∀ p ∈ px, ∀ c < 3, Rgb.comp p c < 4096) ∧ ratio ≠ 0 ∧ mode = 0 ∧
      ((blkComps px).map (fun l => bitLen (maxOf l - minOf l))).sum ≤ wMax ratio) ∧
    (∃ (ratio mode floor : Nat) (px : List Rgb), ratio ≤ 3 ∧ mode ≤ 1 ∧ (mode = 0 → floor = 0) ∧ (mode = 1 → 1 ≤ floor ∧ floor ≤ sMax ratio) ∧
      px.length = 32 ∧ (∀ p ∈ px, ∀ c < 3, Rgb.comp p c < 4096) ∧ 0 < blkShift ratio mode floor px) :=
  ⟨⟨3, 1, sMax 3, List.replicate 32 (4095, 0, 4095), by decide +kernel⟩, ⟨3, 0, 0, List.replicate 32 (4095, 0, 4095), by decide +kernel⟩,
    ⟨3, 0, 0, (0, 4095, 0) :: List.replicate 31 (4095, 0, 4095), by decide +kernel⟩⟩

theorem witness_MemoryKeepsItsForm : ∃ s : State, s.mem.dram = [(5, 9), (2 ^ 36 - 1, 255)] ∧ Memory.wf s.mem.dram = true ∧ regsWf s.regs = true ∧
   s.regs ≠ [] :=
  ⟨(memLead.onMem ({ · with dram := [(5, 9), (2 ^ 36 - 1, 255)] })).setReg Reg.prtCfg 0, by decide +kernel⟩

theorem witness_WrittenBytesReadBack :
    (∃ (s : State) (a : Nat) (l : List Byte), 2 ≤ l.length ∧ ∀ i < l.length, (s.chan (s.chanOf (a + i))).st = .run) ∧
    (∃ (s : State) (a : Nat) (l : List Byte), 2 ≤ l.length ∧ ∀ i < l.length, (s.chan (s.chanOf (a + i))).st = .hold) :=
  ⟨⟨memLead.onMem ({ · with chans := [{ st := .run }, {}, {}, { st := .run }] }), 0x7FFF, [1, 2], by decide +kernel⟩,
    ⟨memLead.onMem ({ · with chans := [{ st := .hold }, {}, {}, { st := .hold }] }), 0x7FFF, [1, 2], by decide +kernel⟩⟩

theorem witness_SequenceNumbersRunOnce :
    (∃ (s t : State) (r : Req), s.checkSeq r = (t, none) ∧ r.seq.toNat = 0xFFFEFFFF) ∧
    (∃ (w : Replay) (a b : Nat), w.accepts a = true ∧ w.accepts b = false) ∧
    (∃ (s : State) (r : Req), (s.replayOf (slotClass r.slot r.cls)).accepts r.seq.toNat = false) :=
  ⟨⟨lead, (lead.checkSeq { seq := 0xFFFEFFFF }).1, { seq := 0xFFFEFFFF }, by rw [Prod.ext_iff]; exact ⟨rfl, by decide +kernel⟩, by decide⟩,
    ⟨{ h := 100, seen := 0 }, 37, 36, by decide +kernel⟩, lead, {}, by decide +kernel⟩

theorem witness_MainResetLeaves : (∃ a, a ≠ Reg.memKeep) ∧ (∃ (s : State) (k f : Nat), Map.find s.ks.floors k = some f) :=
  ⟨⟨0, by decide⟩, lead.onKs ({ · with floors := [(3, 64)] }), 3, 64, by decide +kernel⟩


theorem witness_SupplyClassAndThreshold :
    (∃ (s : State) (watchdog : Bool) (mv : Nat), s.met.run = watchdog ∧
      metTrip (decide (2500 ≤ mv)) + (if s.met.low then (if 2500 ≤ mv then 100 else 60) else 0) ≤ mv) ∧
    (∃ (s : State) (watchdog : Bool) (mv : Nat), s.met.run = watchdog ∧
      mv < metTrip (decide (2500 ≤ mv)) + (if s.met.low then (if 2500 ≤ mv then 100 else 60) else 0)) ∧
    (∃ (s : State) (mv : Nat), mv < metTrip s.met.cls33) ∧ ∃ (s : State) (mv : Nat), metTrip s.met.cls33 ≤ mv := by
  have h := metTrip_le true
  have l := metTrip_pos false
  have e : metLead.met.low = true := by decide +kernel
  refine ⟨⟨metLead, true, 3300, rfl, ?_⟩, ⟨State.reset, false, 0, rfl, ?_⟩, ⟨metLead, 0, metTrip_pos _⟩, metLead, 3300,
    Nat.le_trans (metTrip_le _) (by decide)⟩
  · simp [e]; omega
  · simp; omega

/-- A key store record. -/
def rec0 (marked : Bool) : FlashRec := { half := 1, seq := 2 ^ 64 - 1, data := .keys {}, marked := marked }

/-- A lead whose stores hold a boot pointer, a key store and a schema. -/
def storeLead : State := lead.onFlash ({ · with journals := [[{ half := 0, seq := 1, data := .pointer 1 true 7, marked := true }],
  [rec0 false, rec0 true], [{ half := 0, seq := 1, data := .settings (some (1, 2)), marked := true }], [], []] })

theorem witness_TheLastExistingRecordStands : (∃ r : FlashRec, r.seq < 2 ^ 64 ∧ r.marked = true) ∧ (∃ r : FlashRec, r.seq < 2 ^ 64 ∧
   r.marked = false) ∧
    (∃ s : State, s.flash.journals.length = 5) ∧
    ∃ (s : State) (ks : KeyStore) (a : Nat) (b : Bool) (c : Nat) (x : Option (Nat × Nat)), (∀ k d, 1 ≤ k → s.storeContent k = some d → d.store = k) ∧
      s.storeContent 2 = some (.keys ks) ∧ s.storeContent 1 = some (.pointer a b c) ∧ s.storeContent 3 = some (.settings x) :=
  ⟨⟨rec0 true, by decide, rfl⟩, ⟨rec0 false, by decide, rfl⟩, ⟨storeLead, rfl⟩, storeLead, {}, 1, true, 7, some (1, 2), (by
    intro k d hk h
    match k with
    | 0 => exact absurd hk (by decide)
    | 1 => cases h; rfl
    | 2 => cases h; rfl
    | 3 => cases h; rfl
    | 4 => cases h
    | 5 => cases h
    | _ + 6 => cases h), rfl, rfl, rfl⟩

/-- A layer as the blend takes it, one colour throughout. -/
def in0 : Config.LayerIn :=
  { plain := true, fmt := 4, colour := 9, alpha := 0xFFF, gain := 0x1000, lw := 0, coefX := coefUnit, coefY := coefUnit,
    taps := List.replicate 64 [256, 256, 256] }

theorem witness_OutputCodesAreNearExact : (∃ ls : List Config.LayerIn, ls = []) ∧ (∃ ls : List Config.LayerIn, ls ≠ []) ∧
    ∃ (ls : List Config.LayerIn) (l : Config.LayerIn), ls = [l] ∧ l.plain = true ∧ l.fmt ≠ 6 ∧ l.gain = 0x1000 ∧ l.alpha = 0xFFF :=
  ⟨⟨[], rfl⟩, ⟨[in0, in0], by decide⟩, [in0], in0, by decide⟩

theorem witness_InertDrivesNothing : ∃ (s : State) (m : TxMsg), s.pwr.inert = true ∧ m.isContent = true :=
  ⟨late.onPwr ({ · with inert := true }), { port := 1, typ := 6, dest := 0, key := 0, body := [] }, by decide +kernel⟩
end Sys2Proof.Machine
end

section
/-! PROOFS. Every request of the table runs by one of four courses, and a request that checks 1 to 7 of R58 refuse where it executes is answered
alike in all of them: without a tag and without any effect (R56). -/

namespace Sys2Proof.Machine

/-! ### The row of an opcode -/

/-- The row that an opcode finds is its own. -/
theorem opRow_code {code : Nat} {o : OpRow} (h : opRow code = some o) : o.code = code := by
  simpa using List.find?_some h

/-- A request of the wrong role that passes the checks before the role (R455, R479, R49) is refused for the role (R2). -/
theorem State.earlyRefusal_wrongRole {s : State} {o : OpRow} {r : Req} (hboot : s.bootRefusal o.code = none)
    (hlen : o.lenOk r.payload.length = true) (hfield : s.fieldLenOk o.code r.payload = true) (hrole : o.roleOk s = false) :
    s.earlyRefusal o r = some (rspErr stUnsupportedRole) := by
  simp [State.earlyRefusal, hboot, hlen, hfield, hrole]

/-- A row of both roles suits the chip whatever its role. -/
theorem OpRow.roleOk_of_both {o : OpRow} (h : o.role = 0) (s : State) : o.roleOk s = true := by
  simp [OpRow.roleOk, h]

/-- IMG_BLOCK suits both roles (R71). -/
theorem opRow_imgBlock_role {o : OpRow} (h : opRow 0x0D01 = some o) : o.role = 0 := by
  have hrow : (opRow 0x0D01).map OpRow.role = some 0 := rfl
  simpa [h] using hrow

/-! ### The courses of a request -/

/-- How a request executes: by the course whose reply follows at once, by the one whose reply may come later, or as WARM_RESET, which resets behind
its reply (R474), or IMG_BLOCK, which first waits for the erase of its slot. -/
theorem exec_request_course {c : Instr} {code : Nat} {r : Req} (h : requestOf c = some (code, r)) (s : State) :
    (∃ f, exec c s = runReq code r s f) ∨ (∃ f, exec c s = runReqLater code r s f) ∨
      (c = .warmReset r ∧ code = 0x0008) ∨ (c = .imgBlock r ∧ code = 0x0D01) := by
  cases c with
  | warmReset _ => cases h; exact .inr (.inr (.inl ⟨rfl, rfl⟩))
  | imgBlock _ => cases h; exact .inr (.inr (.inr ⟨rfl, rfl⟩))
  | regWrite _ | portOpen _ | releaseAddress _ | eclipseClear _ | layerConfig _ | flip _ | protLayerSet _ | protLayerClear _ | lppConfig _
  | lutLoad _ | almanacLoad _ | almanacEnable _ | emitEnable _ | memConfig _ | memRelease _ | sleepPropose _ | sleepCommit _
  | sleepResume _ => cases h; simp only [exec]; exact .inr (.inl ⟨_, rfl⟩)
  | _ => cases h <;> (simp only [exec]; exact .inl ⟨_, rfl⟩)

/-! ### Refused by the checks repeated at the execution -/

section
variable {code : Nat} {r : Req} {o : OpRow} {a : Rsp} {s : State} (ho : opRow code = some o) (halive : s.alive = true)
  (hwaits : s.waits code r = false) (hstray : s.strayNearest r = false) (hearly : s.earlyRefusal o r = some a)
include ho halive hwaits hstray hearly

theorem runReq_earlyRefusal (f : State → State × Rsp) : runReq code r s f = .next ((s.takeReq code r).answerPlain code r a) := by
  simp [runReq, ho, halive, hwaits, hstray, hearly]

theorem runReqLater_earlyRefusal (f : State → State × Option Rsp) :
    runReqLater code r s f = .next ((s.takeReq code r).answerPlain code r a) := by
  simp [runReqLater, ho, halive, hwaits, hstray, hearly]

end

/-- A refused WARM_RESET resets nothing. -/
theorem execWarmReset_earlyRefusal {r : Req} {o : OpRow} {a : Rsp} {s : State} (ho : opRow 0x0008 = some o) (halive : s.alive = true)
    (hwaits : s.waits 0x0008 r = false) (hstray : s.strayNearest r = false) (hearly : s.earlyRefusal o r = some a) :
    execWarmReset r s = .next ((s.takeReq 0x0008 r).answerPlain 0x0008 r a) := by
  have hpre : s.preRefusal o r = some a := by simp [State.preRefusal, hearly]
  simp [execWarmReset, runReqLater_earlyRefusal ho halive hwaits hstray hearly, ho, hpre]

/-- An IMG_BLOCK whose slot is not being erased runs by the course whose reply follows at once. -/
theorem execImgBlock_course {r : Req} {s : State} (h : s.sec.upd.any (fun u => s.flash.erasing == some u.slot) = false) :
    ∃ f, execImgBlock r s = runReq 0x0D01 r s f := by
  unfold execImgBlock
  rw [if_neg (by simp [h])]
  exact ⟨_, rfl⟩

/-- Every request that checks 1 to 7 of R58 refuse where it executes is answered without a tag (R56) and has no other effect; an IMG_BLOCK where
its slot is not being erased. -/
theorem exec_earlyRefusal {c : Instr} {code : Nat} {r : Req} {o : OpRow} {a : Rsp} {s : State} (hc : requestOf c = some (code, r))
    (ho : opRow code = some o) (halive : s.alive = true) (hwaits : s.waits code r = false) (hstray : s.strayNearest r = false)
    (herase : ∀ q, c = .imgBlock q → s.sec.upd.any (fun u => s.flash.erasing == some u.slot) = false)
    (hearly : s.earlyRefusal o r = some a) : exec c s = .next ((s.takeReq code r).answerPlain code r a) := by
  rcases exec_request_course hc s with ⟨f, hf⟩ | ⟨f, hf⟩ | ⟨rfl, rfl⟩ | ⟨rfl, rfl⟩
  · rw [hf, runReq_earlyRefusal ho halive hwaits hstray hearly]
  · rw [hf, runReqLater_earlyRefusal ho halive hwaits hstray hearly]
  · exact execWarmReset_earlyRefusal ho halive hwaits hstray hearly
  · obtain ⟨f, hf⟩ := execImgBlock_course (r := r) (herase r rfl)
    exact hf.trans (runReq_earlyRefusal ho halive hwaits hstray hearly f)

/-! ### The wrong role (R2) -/

/-- Settles O12: the role is one of the checks repeated at the execution. IMG_BLOCK, the one request that an erase can hold up, suits both roles. -/
theorem wrongRoleIsRefused : Obligations.WrongRoleIsRefused := by
  intro c code r o s hc ho halive hwaits hstray hboot hlen hfield hrole
  have herase : ∀ q, c = .imgBlock q → s.sec.upd.any (fun u => s.flash.erasing == some u.slot) = false := by
    rintro q rfl
    cases hc
    simp [OpRow.roleOk_of_both (opRow_imgBlock_role ho)] at hrole
  obtain rfl := opRow_code ho
  exact exec_earlyRefusal hc ho halive hwaits hstray herase (State.earlyRefusal_wrongRole hboot hlen hfield hrole)

end Sys2Proof.Machine
end

section
/-! PROOFS. Every row of the main side follows the state it starts from: the queue and the island stay (R31). What reaches for the mailbox is refused,
through BAR0 and in a REG_WRITE. -/

namespace Sys2Proof.Machine

/-! ### What each row of the main side leaves -/

/-- The rows that burn one-time memory on a running chip: the debug gate's thermometers (R447) and, at a confirmed image, the minimum epoch and the
revocations (R462). -/
def burnsOtp : Instr → Bool
  | .debugGateComplete | .imgConfirm _ => true
  | _ => false

/-- A row of the main side that neither resets nor boots nor burns one-time memory keeps the anchor. -/
theorem exec_anchored {c : Instr} (hisland : ofIsland c = false) (hreset : resetsMain c = false) (hburn : burnsOtp c = false) (s : State) :
    Anchored s (exec c s) := by
  cases c with
  | pllLossOfLock _ => exact execPllLossOfLock_anchor _ s
  | fifoFault _ => exact execFifoFault_anchor _ s
  | coreFault _ _ => exact execCoreFault_anchor _ _ s
  | temperatureMeasurement _ => exact execTemperatureMeasurement_anchor _ s
  | avsMeasurement _ => exact execAvsMeasurement_anchor _ s
  | jtagInstructionLoad _ => exact execJtagInstructionLoad_anchor _ s
  | pcieEndpointReset _ => exact execPcieEndpointReset_anchor _ s
  | pciePowerStateChange _ _ => exact execPciePowerStateChange_anchor _ _ s
  | pmeStatusClear => exact execPmeStatusClear_anchor s
  | doorbellWrite _ _ => exact execDoorbellWrite_anchor _ _ s
  | descriptorFetch _ _ _ => exact execDescriptorFetch_anchor _ _ _ s
  | cmdRingEnable _ _ => exact execCmdRingEnable_anchor _ _ s
  | udpCommandDatagram _ _ _ _ _ _ _ => exact execUdpCommandDatagram_anchor _ _ _ _ _ _ _ s
  | commandPacketDiscard _ _ => exact execCommandPacketDiscard_anchor _ _ s
  | undefinedOpcode _ _ => exact execUndefinedOpcode_anchor _ _ s
  | tileReplyReceived _ => exact execTileReplyReceived_anchor _ s
  | tileTimeout => exact execTileTimeout_anchor s
  | farLeadReplyTimeout => exact execFarLeadReplyTimeout_anchor s
  | registerWrite _ _ _ => exact execRegisterWrite_anchor _ _ _ s
  | eventRingHeadWrite _ => exact execEventRingHeadWrite_anchor _ s
  | evtRingEnable _ => exact execEvtRingEnable_anchor _ s
  | eventRingWrite => exact execEventRingWrite_anchor s
  | rateLimitRelease _ => exact execRateLimitRelease_anchor _ s
  | evtNotify _ => exact execEvtNotify_anchor _ s
  | mergeWindowClose => exact execMergeWindowClose_anchor s
  | nop _ => exact execNop_anchor _ s
  | getInfo _ => exact execGetInfo_anchor _ s
  | regRead _ => exact execRegRead_anchor _ s
  | regWrite _ => exact execRegWrite_anchor _ s
  | halt _ => exact execHalt_anchor _ s
  | resume _ => exact execResume_anchor _ s
  | arm _ => exact execArm_anchor _ s
  | coreRestart _ => exact execCoreRestart_anchor _ s
  | credStatus _ => exact execCredStatus_anchor _ s
  | probeNearest _ => exact execProbeNearest_anchor _ s
  | assignAddress _ => exact execAssignAddress_anchor _ s
  | portOpen _ => exact execPortOpen_anchor _ s
  | portClose _ => exact execPortClose_anchor _ s
  | releaseAddress _ => exact execReleaseAddress_anchor _ s
  | topoRead _ => exact execTopoRead_anchor _ s
  | glbTopoEpochWrite _ => exact execGlbTopoEpochWrite_anchor _ s
  | prtCfgFuncWrite _ _ => exact execPrtCfgFuncWrite_anchor _ _ s
  | prtCfgFecEnWrite _ _ => exact execPrtCfgFecEnWrite_anchor _ _ s
  | portQualified _ => exact execPortQualified_anchor _ s
  | portOpenTimeout _ _ => exact execPortOpenTimeout_anchor _ _ s
  | linkLost _ _ => exact execLinkLost_anchor _ _ s
  | linkQualifiesAgain _ => exact execLinkQualifiesAgain_anchor _ s
  | syncMarkerReceived _ _ _ => exact execSyncMarkerReceived_anchor _ _ _ s
  | superframeLockLost _ => exact execSuperframeLockLost_anchor _ s
  | markerError _ _ => exact execMarkerError_anchor _ _ s
  | slotTransmit _ _ => exact execSlotTransmit_anchor _ _ s
  | cellReceived _ _ _ _ => exact execCellReceived_anchor _ _ _ _ s
  | transitEgress _ _ _ => exact execTransitEgress_anchor _ _ _ s
  | eclipseMarkerReceived _ _ => exact execEclipseMarkerReceived_anchor _ _ s
  | eclipseSend _ => exact execEclipseSend_anchor _ s
  | eclipseClear _ => exact execEclipseClear_anchor _ s
  | prtCntClr _ _ => exact execPrtCntClr_anchor _ _ s
  | tmuNowRead _ => exact execTmuNowRead_anchor _ s
  | tmuStgGo _ => exact execTmuStgGo_anchor _ s
  | tmuStgCancel _ => exact execTmuStgCancel_anchor _ s
  | stagedWriteApply _ => exact execStagedWriteApply_anchor _ s
  | timeRead _ => exact execTimeRead_anchor _ s
  | timeSet _ => exact execTimeSet_anchor _ s
  | timeRate _ => exact execTimeRate_anchor _ s
  | timeSelect _ => exact execTimeSelect_anchor _ s
  | ptpConfig _ => exact execPtpConfig_anchor _ s
  | pathCal _ => exact execPathCal_anchor _ s
  | timeStatus _ => exact execTimeStatus_anchor _ s
  | shrefEdgeCapture _ _ => exact execShrefEdgeCapture_anchor _ _ s
  | tmuCapPop _ => exact execTmuCapPop_anchor _ s
  | timeSyncSend _ _ => exact execTimeSyncSend_anchor _ _ s
  | dreqSend _ => exact execDreqSend_anchor _ s
  | pdreqSend _ => exact execPdreqSend_anchor _ s
  | timeSyncReceived _ => exact execTimeSyncReceived_anchor _ s
  | followReceived _ => exact execFollowReceived_anchor _ s
  | dreqReceived _ => exact execDreqReceived_anchor _ s
  | drespReceived _ => exact execDrespReceived_anchor _ s
  | pdreqReceived _ => exact execPdreqReceived_anchor _ s
  | pdrespReceived _ => exact execPdrespReceived_anchor _ s
  | loopCellReturn _ => exact execLoopCellReturn_anchor _ s
  | pathCalComplete _ => exact execPathCalComplete_anchor _ s
  | servoHoldoverTimeout _ => exact execServoHoldoverTimeout_anchor _ s
  | ptpMessageReceived _ _ => exact execPtpMessageReceived_anchor _ _ s
  | announceReceiptTimeout _ => exact execAnnounceReceiptTimeout_anchor _ s
  | bridgeComplete => exact execBridgeComplete_anchor s
  | lchConfig _ => exact execLchConfig_anchor _ s
  | lchStart _ => exact execLchStart_anchor _ s
  | lchStop _ => exact execLchStop_anchor _ s
  | shrefConfig _ => exact execShrefConfig_anchor _ s
  | lchStatus _ => exact execLchStatus_anchor _ s
  | launchAnnounce => exact execLaunchAnnounce_anchor s
  | lnchRepeat => exact execLnchRepeat_anchor s
  | stoppingEnd => exact execStoppingEnd_anchor s
  | leadSubframeCut _ _ _ => exact execLeadSubframeCut_anchor _ _ _ s
  | lnchCellReceived _ => exact execLnchCellReceived_anchor _ s
  | underrunCheck => exact execUnderrunCheck_anchor s
  | launch => exact execLaunch_anchor s
  | missingLaunchDecision => exact execMissingLaunchDecision_anchor s
  | coastLaunch => exact execCoastLaunch_anchor s
  | tileStopPeriodEnd => exact execTileStopPeriodEnd_anchor s
  | lchCntClr _ => exact execLchCntClr_anchor _ s
  | ingestFrameReceived _ _ => exact execIngestFrameReceived_anchor _ _ s
  | arpRequestRetry => exact execArpRequestRetry_anchor s
  | arpEntryExpiry => exact execArpEntryExpiry_anchor s
  | streamEnable _ _ => exact execStreamEnable_anchor _ _ s
  | streamDisable _ _ => exact execStreamDisable_anchor _ _ s
  | streamPacketReceived _ _ _ => exact execStreamPacketReceived_anchor _ _ _ s
  | packetLossDeclared _ => exact execPacketLossDeclared_anchor _ s
  | legLoss _ _ => exact execLegLoss_anchor _ _ s
  | lockWindowEnd _ => exact execLockWindowEnd_anchor _ s
  | ingStrCntClr _ _ => exact execIngStrCntClr_anchor _ _ s
  | surfaceAlloc _ => exact execSurfaceAlloc_anchor _ s
  | surfaceWrite _ => exact execSurfaceWrite_anchor _ s
  | layerConfig _ => exact execLayerConfig_anchor _ s
  | flip _ => exact execFlip_anchor _ s
  | fenceSignal _ => exact execFenceSignal_anchor _ s
  | fenceTimeout => exact execFenceTimeout_anchor s
  | meshLoad _ => exact execMeshLoad_anchor _ s
  | streamConfig _ => exact execStreamConfig_anchor _ s
  | protLayerSet _ => exact execProtLayerSet_anchor _ s
  | protLayerClear _ => exact execProtLayerClear_anchor _ s
  | cmpEnable _ => exact execCmpEnable_anchor _ s
  | composeTile _ _ _ _ => exact execComposeTile_anchor _ _ _ _ s
  | cmpCntClr _ => exact execCmpCntClr_anchor _ s
  | coderConfig _ => exact execCoderConfig_anchor _ s
  | coderStatus _ => exact execCoderStatus_anchor _ s
  | encodeSubframe _ _ => exact execEncodeSubframe_anchor _ _ s
  | transportGroupDecode _ _ _ => exact execTransportGroupDecode_anchor _ _ _ s
  | surfaceBlockPack _ _ => exact execSurfaceBlockPack_anchor _ _ s
  | surfaceBlockDecode _ _ _ => exact execSurfaceBlockDecode_anchor _ _ _ s
  | bcdCntClr _ => exact execBcdCntClr_anchor _ s
  | lppConfig _ => exact execLppConfig_anchor _ s
  | lutLoad _ => exact execLutLoad_anchor _ s
  | almanacLoad _ => exact execAlmanacLoad_anchor _ s
  | almanacEnable _ => exact execAlmanacEnable_anchor _ s
  | zoneRead _ => exact execZoneRead_anchor _ s
  | subframeProcessBegin _ _ => exact execSubframeProcessBegin_anchor _ _ s
  | subframeWriteComplete _ _ _ => exact execSubframeWriteComplete_anchor _ _ _ s
  | pipelineCheckFailure _ _ _ _ => exact execPipelineCheckFailure_anchor _ _ _ _ s
  | zoneStale _ => exact execZoneStale_anchor _ s
  | almanacRegenerationStart => exact execAlmanacRegenerationStart_anchor s
  | almanacRegenerationComplete _ => exact execAlmanacRegenerationComplete_anchor _ s
  | deferredChangeReply => exact execDeferredChangeReply_anchor s
  | lppCntClr _ => exact execLppCntClr_anchor _ s
  | emsConfig _ => exact execEmsConfig_anchor _ s
  | emitEnable _ => exact execEmitEnable_anchor _ s
  | emitDisable _ => exact execEmitDisable_anchor _ s
  | setupTransfer _ => exact execSetupTransfer_anchor _ s
  | driverStatus _ => exact execDriverStatus_anchor _ s
  | windowPreshift _ => exact execWindowPreshift_anchor _ s
  | unitShow _ => exact execUnitShow_anchor _ s
  | darkLatch => exact execDarkLatch_anchor s
  | fillStart _ => exact execFillStart_anchor _ s
  | windowCut _ _ => exact execWindowCut_anchor _ _ s
  | statusCollection => exact execStatusCollection_anchor s
  | setupTransferRun _ => exact execSetupTransferRun_anchor _ s
  | setupTransferDrop => exact execSetupTransferDrop_anchor s
  | emsCntClr _ => exact execEmsCntClr_anchor _ s
  | memConfig _ => exact execMemConfig_anchor _ s
  | memTrainingComplete _ => exact execMemTrainingComplete_anchor _ s
  | memStatus _ => exact execMemStatus_anchor _ s
  | memRelease _ => exact execMemRelease_anchor _ s
  | scrubConfig _ => exact execScrubConfig_anchor _ s
  | dramRequestIssue _ _ => exact execDramRequestIssue_anchor _ _ s
  | requestPromotion _ => exact execRequestPromotion_anchor _ s
  | dramReadComplete _ _ => exact execDramReadComplete_anchor _ _ s
  | refreshDue _ _ => exact execRefreshDue_anchor _ _ s
  | retrainDue _ => exact execRetrainDue_anchor _ s
  | retrainWindow _ _ => exact execRetrainWindow_anchor _ _ s
  | retrainForced _ _ => exact execRetrainForced_anchor _ _ s
  | powerDownEntry _ _ => exact execPowerDownEntry_anchor _ _ s
  | caParityAlert _ => exact execCaParityAlert_anchor _ s
  | scrubRead _ => exact execScrubRead_anchor _ s
  | memChCntClr _ _ => exact execMemChCntClr_anchor _ _ s
  | pairConfig _ => exact execPairConfig_anchor _ s
  | pairStatus _ => exact execPairStatus_anchor _ s
  | pairHandover _ => exact execPairHandover_anchor _ s
  | stateSave _ => exact execStateSave_anchor _ s
  | stateSaveComplete => exact execStateSaveComplete_anchor s
  | stateRestore _ => exact execStateRestore_anchor _ s
  | stateRestoreComplete => exact execStateRestoreComplete_anchor s
  | claimSend => exact execClaimSend_anchor s
  | claimWindowEnd => exact execClaimWindowEnd_anchor s
  | claimReceived _ => exact execClaimReceived_anchor _ s
  | renewSend => exact execRenewSend_anchor s
  | renewReceived _ => exact execRenewReceived_anchor _ s
  | ackReceived _ => exact execAckReceived_anchor _ s
  | leaseLapse => exact execLeaseLapse_anchor s
  | takeoverAttempt _ => exact execTakeoverAttempt_anchor _ s
  | takeReceived _ => exact execTakeReceived_anchor _ s
  | rmapReceived _ => exact execRmapReceived_anchor _ s
  | handoverStart => exact execHandoverStart_anchor s
  | handoverReceived _ => exact execHandoverReceived_anchor _ s
  | mirrorDeltaSend => exact execMirrorDeltaSend_anchor s
  | mirrorDeltaApply _ => exact execMirrorDeltaApply_anchor _ s
  | mirrorStale => exact execMirrorStale_anchor s
  | paiCntClr _ => exact execPaiCntClr_anchor _ s
  | calRun _ => exact execCalRun_anchor _ s
  | spareHandover => exact execSpareHandover_anchor s
  | calRunComplete _ _ _ _ _ _ => exact execCalRunComplete_anchor _ _ _ _ _ _ s
  | calTrimLoad _ => exact execCalTrimLoad_anchor _ s
  | calStatus _ => exact execCalStatus_anchor _ s
  | irefCodeUpdate => exact execIrefCodeUpdate_anchor s
  | refInCompare _ => exact execRefInCompare_anchor _ s
  | refSelWrite _ => exact execRefSelWrite_anchor _ s
  | irefTargetWrite _ _ => exact execIrefTargetWrite_anchor _ _ s
  | dutySend => exact execDutySend_anchor s
  | labelSend => exact execLabelSend_anchor s
  | mailboxPoll => exact execMailboxPoll_anchor s
  | metRead _ => exact execMetRead_anchor _ s
  | metLogRead _ => exact execMetLogRead_anchor _ s
  | metSealed _ => exact execMetSealed_anchor _ s
  | metSealedComplete => exact execMetSealedComplete_anchor s
  | metRequestTimeout => exact execMetRequestTimeout_anchor s
  | metIdent _ => exact execMetIdent_anchor _ s
  | attest _ => exact execAttest_anchor _ s
  | credProvision _ => exact execCredProvision_anchor _ s
  | credRevoke _ => exact execCredRevoke_anchor _ s
  | credPerm _ => exact execCredPerm_anchor _ s
  | sessionKey _ => exact execSessionKey_anchor _ s
  | debugOpen _ => exact execDebugOpen_anchor _ s
  | imgBegin _ => exact execImgBegin_anchor _ s
  | slotEraseComplete _ => exact execSlotEraseComplete_anchor _ s
  | imgBlock _ => exact execImgBlock_anchor _ s
  | imgVerify _ => exact execImgVerify_anchor _ s
  | imgVerifyComplete => exact execImgVerifyComplete_anchor s
  | imgAbort _ => exact execImgAbort_anchor _ s
  | imgStatus _ => exact execImgStatus_anchor _ s
  | pwrSet _ => exact execPwrSet_anchor _ s
  | sleepPropose _ => exact execSleepPropose_anchor _ s
  | sleepCommit _ => exact execSleepCommit_anchor _ s
  | sleepResume _ => exact execSleepResume_anchor _ s
  | pwrStatus _ => exact execPwrStatus_anchor _ s
  | twilightEntry => exact execTwilightEntry_anchor s
  | beaconSend => exact execBeaconSend_anchor s
  | plainBeaconReceived _ _ => exact execPlainBeaconReceived_anchor _ _ s
  | beaconLoss _ => exact execBeaconLoss_anchor _ s
  | wakeBeaconReceived _ _ => exact execWakeBeaconReceived_anchor _ _ s
  | resumeDwellEnd => exact execResumeDwellEnd_anchor s
  | resumeBeaconRepeat => exact execResumeBeaconRepeat_anchor s
  | resumeBeaconReceived _ _ => exact execResumeBeaconReceived_anchor _ _ s
  | tileResumeComplete => exact execTileResumeComplete_anchor s
  | evtRead _ => exact execEvtRead_anchor _ s
  | evtClear _ => exact execEvtClear_anchor _ s
  | evtConfig _ => exact execEvtConfig_anchor _ s
  | faultEpoch _ => exact execFaultEpoch_anchor _ s
  | evtSubscribe _ => exact execEvtSubscribe_anchor _ s
  | pllLockRegained _ => exact execPllLockRegained_anchor _ s
  | coreRestartComplete _ => exact execCoreRestartComplete_anchor _ s
  | handoverAckTimeout => exact execHandoverAckTimeout_anchor s
  | powerOnReset | poresetNAssert | poresetNRise | wresetNAssert | supplyOutOfRange | supplyBackInRange | warmReset | imgActivate
  | activationInstant => cases hreset
  | debugGateComplete | imgConfirm => cases hburn
  | _ => cases hisland

/-- A row that resets or boots the main side follows the state it starts from (R473). -/
theorem exec_followed_of_resetsMain {c : Instr} (hreset : resetsMain c = true) (s : State) : Followed s (exec c s) := by
  cases c with
  | powerOnReset => exact execPowerOnReset_followed s
  | poresetNAssert => exact execPoresetNAssert_followed s
  | poresetNRise role boot => exact execPoresetNRise_followed role boot s
  | wresetNAssert lowRaw => exact execWresetNAssert_followed lowRaw s
  | supplyOutOfRange n => exact execSupplyOutOfRange_followed n s
  | supplyBackInRange n role boot => exact execSupplyBackInRange_followed n role boot s
  | warmReset r => exact execWarmReset_followed r s
  | imgActivate r => exact execImgActivate_followed r s
  | activationInstant => exact execActivationInstant_followed s
  | _ => cases hreset

/-- A row that burns one-time memory follows the state it starts from. -/
theorem exec_followed_of_burnsOtp {c : Instr} (hburn : burnsOtp c = true) (s : State) : Followed s (exec c s) := by
  cases c with
  | debugGateComplete => exact execDebugGateComplete_followed s
  | imgConfirm r => exact execImgConfirm_followed r s
  | _ => cases hburn

/-- Every row of the main side follows the state it starts from. -/
theorem exec_followed {c : Instr} (hisland : ofIsland c = false) (s : State) : Followed s (exec c s) := by
  cases hreset : resetsMain c with
  | true => exact exec_followed_of_resetsMain hreset s
  | false =>
    cases hburn : burnsOtp c with
    | true => exact exec_followed_of_burnsOtp hburn s
    | false => exact followed_of_anchored (exec_anchored hisland hreset hburn s)

/-- No row of the main side changes the island's state (R31). -/
theorem exec_met_of_mainSide {c : Instr} {s t : State} (hisland : ofIsland c = false) (h : exec c s = .next t) : t.met = s.met := by
  have hfollowed := exec_followed hisland s
  rw [h] at hfollowed
  obtain ⟨-, hmet, -, -⟩ := hfollowed
  exact hmet

/-! ### The mailbox through BAR0 -/

/-- A BAR0 write of an address in the mailbox, or above it in the map, raises EV_25 and does nothing else (R31, log entry 48). -/
theorem execRegisterWrite_ignored {a be : Nat} {d : Word} {s : State} (halive : s.alive = true) (hlo : 0x00E00000 ≤ a) (hhi : a < 0x01000000) :
    execRegisterWrite a be d s = .next (s.raise 25 1 (a / 4 * 4)) := by
  have hbelow : a / 4 * 4 < 0x01000000 := by omega
  have hbox : 0x00E00000 ≤ a / 4 * 4 := by omega
  simp [execRegisterWrite, halive, hbelow, hbox]

/-! ### The mailbox in a REG_WRITE -/

/-- A word of a REG_WRITE in the mailbox is refused for its address (R31). -/
theorem State.writeWord_mailbox (s : State) (r : Req) {a k : Nat} (w : Word) (hlo : 0x00E00000 ≤ a + 4 * k) (hhi : a + 4 * k < 0x00F00000) :
    s.writeWord r a k w = (s, some (rspErr stNotAuthorized r.slot)) := by
  have hbox : (a + 4 * k) / 2 ^ 20 = 0xE := by omega
  simp only [State.writeWord, if_pos hbox, RegRefusal.rsp]

/-- Past words of which none is refused, the lowest refused word is looked for in the rest. -/
theorem State.firstRefused_append {s : State} {r : Req} {a k : Nat} {ws : List Word} (h : s.firstRefused r a k ws = none) (vs : List Word) :
    s.firstRefused r a k (ws ++ vs) = s.firstRefused r a (k + ws.length) vs := by
  induction ws generalizing k with
  | nil => rfl
  | cons w ws ih =>
    rcases hw : s.writeWord r a k w with ⟨t, _ | x⟩
    · simp only [State.firstRefused, hw] at h
      simp only [List.cons_append, State.firstRefused, hw, ih h, List.length_cons]
      congr 1
      omega
    · simp [State.firstRefused, hw] at h

/-- The lowest refused word of a REG_WRITE is the first in the mailbox where no word before it is refused. -/
theorem State.firstRefused_mailbox {s : State} {r : Req} {a k : Nat} {ws : List Word} (hk : k < ws.length) (hlo : 0x00E00000 ≤ a + 4 * k)
    (hhi : a + 4 * k < 0x00F00000) (hbefore : s.firstRefused r a 0 (ws.take k) = none) :
    s.firstRefused r a 0 ws = some (s, rspErr stNotAuthorized r.slot) := by
  have hsplit : ws = ws.take k ++ ws[k] :: ws.drop (k + 1) := by
    rw [← List.drop_eq_getElem_cons hk, List.take_append_drop]
  have hlen : 0 + (ws.take k).length = k := by simpa using hk.le
  calc s.firstRefused r a 0 ws = s.firstRefused r a 0 (ws.take k ++ ws[k] :: ws.drop (k + 1)) := by rw [← hsplit]
    _ = s.firstRefused r a k (ws[k] :: ws.drop (k + 1)) := by rw [State.firstRefused_append hbefore, hlen]
    _ = some (s, rspErr stNotAuthorized r.slot) := by simp only [State.firstRefused, s.writeWord_mailbox r _ hlo hhi]

/-- A REG_WRITE with a refused word is answered for the lowest of them, and has the effect of that refusal alone (R540). -/
theorem exec_regWrite_firstRefused {r : Req} {s t : State} {x : Rsp} (hready : Ready s 0x0003 r) (halign : u32 r.payload 0 % 4 = 0)
    (h : (s.takeReq 0x0003 r).firstRefused r (u32 r.payload 0) 0 (words32 (r.payload.drop 4)) = some (t, x)) :
    exec (.regWrite r) s = .next ((s.takeReq 0x0003 r).answer t 0x0003 r x) := by
  refine (runReqLater_now hready ?_ : execRegWrite r s = _)
  simp [halign, h]

/-- Settles O6: each row's lemma says that it follows its state, which holds the island still; a word in the mailbox is refused before anything else
about it is looked at. -/
theorem mainSideLeavesTheIsland : Obligations.MainSideLeavesTheIsland := by
  refine ⟨fun _ _ _ hisland h => exec_met_of_mainSide hisland h, ?_, ?_⟩
  · intro a be d s halive hlo hhi
    exact execRegisterWrite_ignored halive hlo (by omega)
  · intro r s k hready halign hk hlo hhi hbefore
    exact exec_regWrite_firstRefused hready halign (State.firstRefused_mailbox hk hlo hhi hbefore)

end Sys2Proof.Machine
end

section
/-! PROOFS. The reply of CODER_STATUS (R269): each of its parts is the bytes of what the register of that name reads as, in the order of their
addresses. -/

namespace Sys2Proof.Machine

/-! ### Words of a reply -/

/-- The bytes of a list of words are those of its words, one after another. -/
theorem wordBytes_eq_flatMap (ws : List Word) : wordBytes ws = ws.flatMap (fun w => b4 w.toNat) := by
  induction ws with
  | nil => rfl
  | cons w ws ih => simp [wordBytes, ih]

/-! ### What the registers of the block coder read as (R268) -/

/-- The address of entry k of an array of registers has the index k. -/
theorem regIdx_add_mul {base stride count k : Nat} (hstride : 0 < stride) (hk : k < count) :
    regIdx base stride count (base + stride * k) = some k := by
  simp [regIdx, Nat.mul_div_cancel_left k hstride, hk]

/-- In the address range of BCD, what the chip computes for a register is what BCD computes. -/
theorem State.computed_bcd (s : State) {a : Nat} (h : a / 2 ^ 20 = 0x8) : s.computed a = s.viewBcd a := by
  simp only [State.computed, h]

/-- BCD_CHAINc reads as the chain's word. -/
theorem State.regView_bcdChain (s : State) {c : Nat} (hc : c < 4) : s.regView (Reg.bcdChain + 4 * c) = BitVec.ofNat 32 (s.chainWord c) := by
  have hrange : (Reg.bcdChain + 4 * c) / 2 ^ 20 = 0x8 := by simp only [Reg.bcdChain]; omega
  have henc : Reg.bcdChain + 4 * c ≠ Reg.bcdEncBusy := by simp only [Reg.bcdChain, Reg.bcdEncBusy]; omega
  have hdec : Reg.bcdChain + 4 * c ≠ Reg.bcdDecBusy := by simp only [Reg.bcdChain, Reg.bcdDecBusy]; omega
  rw [State.regView, s.computed_bcd hrange, State.viewBcd, if_neg henc, if_neg hdec, inArray, regIdx_add_mul (by decide) hc, Option.map_some]

/-- BCD_ENC_BUSY reads as the encoder's measured load. -/
theorem State.regView_bcdEncBusy (s : State) : s.regView Reg.bcdEncBusy = BitVec.ofNat 32 (s.busyWord true) := rfl

/-- BCD_DEC_BUSY reads as the decoder's measured load, the free value after the encoder's. -/
theorem State.regView_bcdDecBusy (s : State) : s.regView Reg.bcdDecBusy = BitVec.ofNat 32 (s.freeNext.busyWord false) := rfl

/-- The encoder slices of a tile are off (R241, R268). -/
theorem State.regView_bcdEncBusy_of_isTile {s : State} (h : s.isTile = true) : s.regView Reg.bcdEncBusy = 0 := by
  simp [State.regView_bcdEncBusy, State.busyWord, h]

/-! ### CODER_STATUS (R269) -/

/-- CODER_STATUS runs by the course whose reply follows at once. -/
theorem exec_coderStatus (r : Req) (s : State) : exec (.coderStatus r) s = runReq 0x0501 r s fun u => (u.freeNext.freeNext, rspOk (
    (List.range 4).flatMap (fun c => b4 (u.chainWord c)) ++ b4 (u.busyWord true) ++ b4 (u.freeNext.busyWord false) ++
      (List.range 7).flatMap (fun k => b4 (u.reg (Reg.bcdC2Trn + 4 * k)).toNat) ++ b4 (u.reg Reg.bcdSmax).toNat)) := by
  simp only [exec, execCoderStatus]

/-- CODER_STATUS takes no payload: every other length is refused before it runs (R49). -/
theorem Ready.coderStatus_payload {s : State} {r : Req} (h : Ready s 0x0501 r) : r.payload = [] := by
  obtain ⟨-, hlen, -⟩ := h.facts (o := { code := 0x0501, name := "CODER_STATUS", cred := 1, qlo := 12, qhi := 15, lmin := 0, lmax := 0 }) rfl
  simpa [OpRow.lenOk, Nat.mod_one] using hlen

/-- The words CODER_STATUS reports, in the order of R269: the chains, the busy fractions, the seven counters, and BCD_SMAX. -/
def State.coderStatusWords (s : State) : List Word :=
  (List.range 4).map (fun c => s.regView (Reg.bcdChain + 4 * c)) ++ [s.regView Reg.bcdEncBusy, s.regView Reg.bcdDecBusy] ++
    (List.range 7).map (fun k => s.reg (Reg.bcdC2Trn + 4 * k)) ++ [s.reg Reg.bcdSmax]

/-- The words CODER_STATUS reports, as bytes: those of the chains' words, the two loads, and the stored counters. -/
theorem State.wordBytes_coderStatusWords (s : State) : wordBytes s.coderStatusWords =
    (List.range 4).flatMap (fun c => b4 (s.chainWord c)) ++ b4 (s.busyWord true) ++ b4 (s.freeNext.busyWord false) ++
      (List.range 7).flatMap (fun k => b4 (s.reg (Reg.bcdC2Trn + 4 * k)).toNat) ++ b4 (s.reg Reg.bcdSmax).toNat := by
  have hchains : (List.range 4).flatMap (fun c => b4 (s.regView (Reg.bcdChain + 4 * c)).toNat) =
      (List.range 4).flatMap (fun c => b4 (s.chainWord c)) :=
    List.flatMap_congr fun c hc => by rw [s.regView_bcdChain (List.mem_range.mp hc), b4_ofNat]
  simp only [State.coderStatusWords, wordBytes_eq_flatMap, List.flatMap_append, List.flatMap_map, hchains, List.flatMap_cons, List.flatMap_nil,
    s.regView_bcdEncBusy, s.regView_bcdDecBusy, b4_ofNat, List.append_assoc, List.append_nil]

/-- CODER_STATUS is answered with the words it reports, and takes the two free values its busy fractions come from. -/
theorem Ready.does_coderStatus {s : State} {r : Req} (h : Ready s 0x0501 r) :
    Does (.coderStatus r) 0x0501 r s fun u => ({ u with free := u.free + 2 }, rspOk (wordBytes s.coderStatusWords)) := by
  rw [s.wordBytes_coderStatusWords]
  exact does_run h (exec_coderStatus r s) rfl

/-- Settles O19: CODER_STATUS answers the words of R269; its busy fractions are what BCD_ENC_BUSY and BCD_DEC_BUSY read as. -/
theorem coderStatusLayout : Obligations.CoderStatusLayout := by
  intro s r hready
  exact ⟨hready.coderStatus_payload, s.regView Reg.bcdEncBusy, s.regView Reg.bcdDecBusy, hready.does_coderStatus,
    State.regView_bcdEncBusy_of_isTile⟩

end Sys2Proof.Machine
end

section
/-! PROOFS. The one request that the island holds (R430): MET_SEALED asks whether a request is in the island where it executes, and leaving the list
of the requests waiting for execution does not change that. -/

namespace Sys2Proof.Machine

/-- MET_SEALED runs by the course whose reply follows at once (R428, R430). -/
theorem exec_metSealed (r : Req) (s : State) : exec (.metSealed r) s = runReq 0x0B02 r s fun u =>
    if u.metm.sent.isSome then (u, rspErr stBusy 0x0B02)
    else (({ u with metm := { u.metm with sent := some (r, u.now, u.met.answers) } }).emit (.request r.payload), rspAccepted) := by
  simp only [exec, execMetSealed]

/-- With no request in the island, MET_SEALED sends its own, holds it with the time and the island's count of answers, and is answered ACCEPTED. -/
theorem Ready.does_metSealed_of_none {s : State} {r : Req} (h : Ready s 0x0B02 r) (hsent : s.metm.sent = none) :
    Does (.metSealed r) 0x0B02 r s fun u =>
      (({ u with metm := { u.metm with sent := some (r, s.now, s.met.answers) } }).emit (.request r.payload), rspAccepted) := by
  have hfree : ¬ (s.takeReq 0x0B02 r).metm.sent.isSome = true := by simp [hsent]
  exact does_run h (exec_metSealed r s) (if_neg hfree)

/-- With a request in the island, MET_SEALED is answered BUSY with DETAIL 0x0B02 and has no effect (R430). -/
theorem Ready.does_metSealed_of_isSome {s : State} {r : Req} (h : Ready s 0x0B02 r) (hsent : s.metm.sent.isSome = true) :
    Does (.metSealed r) 0x0B02 r s fun u => (u, rspErr stBusy 0x0B02) := by
  have hbusy : (s.takeReq 0x0B02 r).metm.sent.isSome = true := by rwa [State.takeReq_metm]
  exact does_run h (exec_metSealed r s) (if_pos hbusy)

/-- Settles O18: either a request is in the island where MET_SEALED executes, or none is. -/
theorem oneIslandRequestAtATime : Obligations.OneIslandRequestAtATime := by
  intro s r hready
  exact ⟨hready.does_metSealed_of_none, hready.does_metSealed_of_isSome⟩

end Sys2Proof.Machine
end

section
/-! PROOFS. A reserved strap (R479): the boot stops in the strap phase, and the command responder answers five opcodes alone. -/

namespace Sys2Proof.Machine

/-! ### What a frame says of the ports -/

section
variable {ps : List Part} {rs : List Nat} {s t : State} (h : Keeps ps rs s t) (hnet : Part.net ∉ ps)
include h hnet

/-- A change that leaves the chip's links, but for what waits to be sent, leaves the ports. -/
theorem Keeps.ports : t.net.ports = s.net.ports := by
  have hlinks : { t.net with tx := [] } = { s.net with tx := [] } := h.1 .net hnet
  have hports := congrArg NetS.ports hlinks
  exact hports

/-- So it leaves the state of every port. -/
theorem Keeps.portState (p : Nat) : t.portState p = s.portState p := by
  rw [State.portState, State.port, h.ports hnet]
  rfl

end

/-! ### The interrupted erase (R451) -/

/-- The parts of the state that an erase done again may touch: the boot flash, the load area, a free value for the sector, and EV_644. -/
def redoEraseParts : List Part := [.flash, .sec, .free] ++ eventParts

theorem State.setImgSlot_keeps (s : State) (k : Nat) (x : ImgSlot) : Keeps redoEraseParts [Reg.evtRingCfg] s (s.setImgSlot k x) := by
  unfold State.setImgSlot
  split <;> exact ⟨fun q h => by revert h; cases q <;> simp [Part.same, redoEraseParts, eventParts], fun _ _ => rfl⟩

@[simp] theorem State.setImgSlot_evt (s : State) (k : Nat) (x : ImgSlot) : (s.setImgSlot k x).evt = s.evt := by
  unfold State.setImgSlot
  split <;> rfl

/-- An erase found interrupted and done again touches these parts, and OVERFLOW of EVT_RING_CFG where EV_644 is lost. -/
theorem State.redoErase_keeps (s : State) : Keeps redoEraseParts [Reg.evtRingCfg] s s.redoErase := by
  unfold State.redoErase
  split
  · exact Keeps.refl _ _ s
  · rename_i k _
    refine Keeps.trans ?_ ((State.raise_keeps _ _ _ _).mono (by simp [redoEraseParts, eventParts]) (by simp))
    refine (s.setImgSlot_keeps k { s.imgSlot k with mark := 0 }).trans ?_
    exact ⟨fun q h => by revert h; cases q <;> simp [Part.same, redoEraseParts, eventParts], fun _ _ => rfl⟩

/-- The erase done again is reported in EV_644 alone. -/
theorem State.redoErase_src (s : State) {j : Nat} (h : j ≠ 644) : Map.at s.redoErase.evt.srcs {} j = Map.at s.evt.srcs {} j := by
  unfold State.redoErase
  split
  · rfl
  · rw [State.raise, State.raiseA_other _ h]
    simp

/-! ### The ports of a tile after its boot (R481) -/

@[simp] theorem State.bootPorts_pwr (s : State) : s.bootPorts.pwr = s.pwr := by
  simp [State.bootPorts, apply_ite State.pwr]

@[simp] theorem State.bootPorts_evt (s : State) : s.bootPorts.evt = s.evt := by
  simp [State.bootPorts, apply_ite State.evt]

/-- P0 and P1 of a tile listen after its boot. -/
theorem State.bootPorts_listen {s : State} (htile : s.isTile = true) {p : Nat} (hp : p < 2) (hlen : 2 ≤ s.net.ports.length) :
    s.bootPorts.portState p = .listen := by
  have hports : s.bootPorts.net.ports = (s.net.ports.set 0 { state := .listen }).set 1 { state := .listen } := by
    simp [State.bootPorts, htile, State.setPort]
  have h0 : 0 < s.net.ports.length := by omega
  have h1 : 1 < s.net.ports.length := by omega
  rw [State.portState, State.port, hports]
  interval_cases p <;> simp [List.getD_eq_getElem?_getD, h0, h1]

/-! ### The boot of a reserved strap -/

/-- The role straps that R479 reserves: 0b11, and 0b10 while the debug gate is closed. -/
theorem State.strapRole_reserved {s : State} (h : s.pwr.roleStrap = 3 ∨ (s.pwr.roleStrap = 2 ∧ s.gateOpen = false)) :
    s.strapRole = .reserved := by
  rcases h with h | ⟨h, hgate⟩
  · simp [State.strapRole, h]
  · simp [State.strapRole, h, hgate]

/-- A cold boot as it begins: the role is taken, the two cores serve, and no activation is pending. -/
def State.takeRole (s : State) (role : Role) : State :=
  { s with pwr := { s.pwr with role := role, phase := .strap, cores := [{ state := 1 }, { state := 1 }] }, flash := { s.flash with pend := none } }

/-- A chip whose ROLE is reserved ends its boot with EV_37 (R479). -/
theorem State.boot_reserved {s : State} (h : s.strapRole = .reserved) (kept : Bool) :
    let u := (s.takeRole .reserved).redoErase.bootPorts
    s.boot true kept = u.raise 37 3 (u.pwr.roleStrap % 4 + u.pwr.bootStrap % 4 * 4) := by
  simp only [State.boot, if_true, h]
  rfl

/-- What the boot of a reserved strap leaves (R479): the strap phase, as inert as before, P0 and P1 in LISTEN, one more occurrence of EV_37. -/
theorem State.boot_reserved_leaves {s : State} (h : s.strapRole = .reserved) (kept : Bool) (hlen : 2 ≤ s.net.ports.length) :
    (s.boot true kept).pwr = (s.takeRole .reserved).pwr ∧ (∀ p < 2, (s.boot true kept).portState p = .listen) ∧
      (Map.at (s.boot true kept).evt.srcs {} 37).count = min 0xFFFFFFFF ((Map.at s.evt.srcs {} 37).count + 1) := by
  have herase := (s.takeRole .reserved).redoErase_keeps
  have hpwr : (s.takeRole .reserved).redoErase.pwr = (s.takeRole .reserved).pwr := herase.1 .pwr (by decide)
  have hports : (s.takeRole .reserved).redoErase.net.ports = s.net.ports := herase.ports (by decide)
  have htile : (s.takeRole .reserved).redoErase.isTile = true := by rw [State.isTile, hpwr]; rfl
  rw [State.boot_reserved h kept]
  generalize (s.takeRole .reserved).redoErase.bootPorts.pwr.roleStrap % 4 +
    (s.takeRole .reserved).redoErase.bootPorts.pwr.bootStrap % 4 * 4 = detail
  have hraise := (s.takeRole .reserved).redoErase.bootPorts.raise_keeps 37 3 detail
  refine ⟨?_, fun p hp => ?_, ?_⟩
  · exact (hraise.1 .pwr (by decide)).trans ((State.bootPorts_pwr _).trans hpwr)
  · rw [hraise.portState (by decide), State.bootPorts_listen htile hp (by rwa [hports])]
  · obtain ⟨hcount, -⟩ := State.raiseA_src (s.takeRole .reserved).redoErase.bootPorts 37 3 detail false
    rw [State.raise, hcount, State.bootPorts_evt, State.redoErase_src _ (by decide)]
    rfl

/-- The straps sampled as PORESET_N rises (R478). -/
def State.sampleStraps (s : State) (role boot : Nat) : State :=
  { s with pwr := { s.pwr with poresetLow := false, roleStrap := role % 4, bootStrap := boot % 4 } }

/-- PORESET_N rising on a chip that no core supply holds samples the straps and boots it (R478, R480). -/
theorem exec_poresetNRise {s : State} {role boot : Nat} (hlow : s.pwr.poresetLow = true) (hsupply : s.coreSupplyOut = false) :
    exec (.poresetNRise role boot) s = .next ((s.sampleStraps role boot).boot true false) := by
  have hfree : (s.sampleStraps role boot).coreSupplyOut = false := hsupply
  rw [State.sampleStraps] at hfree
  simp [exec, execPoresetNRise, hlow, hfree, State.sampleStraps]

/-! ### The command responder of a reserved strap (R479) -/

/-- Every request has a row in the table of R71. -/
theorem opRow_of_requestOf {c : Instr} {code : Nat} {r : Req} (h : requestOf c = some (code, r)) : ∃ o, opRow code = some o := by
  have hall : ∀ c, (requestOf c).all (fun q => (opRow q.1).isSome) = true := by
    intro c
    cases c <;> rfl
  have hrow := hall c
  rw [h] at hrow
  exact Option.isSome_iff_exists.mp hrow

section
variable {s : State} (hphase : s.pwr.phase = .strap) {o : OpRow}
include hphase

/-- An opcode that a reserved strap answers meets the checks that it meets in a chip that is up. -/
theorem State.preRefusal_of_strapOps (hop : strapOps.contains o.code = true) (r : Req) :
    s.preRefusal o r = ({ s with pwr := { s.pwr with phase := .up } } : State).preRefusal o r := by
  have hstrap : s.bootRefusal o.code = none := by simp only [State.bootRefusal, hphase, hop, if_true]
  have hup : ({ s with pwr := { s.pwr with phase := .up } } : State).bootRefusal o.code = none := rfl
  simp only [State.preRefusal, State.earlyRefusal, hstrap, hup]
  rfl

/-- Any other opcode is refused with UNSUPPORTED_ROLE before anything else about its request is looked at. -/
theorem State.earlyRefusal_of_not_strapOps (hop : strapOps.contains o.code = false) (r : Req) :
    s.earlyRefusal o r = some (rspErr stUnsupportedRole) := by
  have hstrap : s.bootRefusal o.code = some (rspErr stUnsupportedRole) := by
    simp only [State.bootRefusal, hphase, hop, Bool.false_eq_true, if_false]
  simp only [State.earlyRefusal, hstrap]

end

/-- The five opcodes that a reserved strap answers. -/
theorem strapOps_contains (code : Nat) :
    strapOps.contains code = true ↔ code = 0x0000 ∨ code = 0x0001 ∨ code = 0x0C00 ∨ code = 0x0F00 ∨ code = 0x0100 := by
  simp [strapOps]

/-- Settles O14: the reserved role ends the boot in the strap phase, and the boot's state is the first thing that a request is checked for. -/
theorem reservedStrapStaysInert : Obligations.ReservedStrapStaysInert := by
  refine ⟨?_, ?_⟩
  · intro s role boot hlow hsupply hinert hlen hstrap
    have hrole : (s.sampleStraps role boot).strapRole = .reserved := by
      refine State.strapRole_reserved ?_
      rcases hstrap with rfl | ⟨rfl, hgate⟩
      · exact .inl rfl
      · exact .inr ⟨rfl, hgate⟩
    have hports : 2 ≤ s.net.ports.length := by omega
    obtain ⟨hpwr, hlisten, hcount⟩ := State.boot_reserved_leaves hrole false hports
    exact ⟨_, exec_poresetNRise hlow hsupply, congrArg PwrS.phase hpwr, (congrArg PwrS.inert hpwr).trans hinert, hlisten 0 (by decide),
      hlisten 1 (by decide), hcount⟩
  · intro c code r s hphase hc hwaits hstray
    split
    case isTrue hop =>
      intro o ho
      obtain rfl := opRow_code ho
      exact State.preRefusal_of_strapOps hphase ((strapOps_contains _).mpr hop) r
    case isFalse hop =>
      intro herase
      obtain ⟨o, ho⟩ := opRow_of_requestOf hc
      have halive : s.alive = true := by simp [State.alive, hphase]
      obtain rfl := opRow_code ho
      have hother : strapOps.contains o.code = false := by rwa [← Bool.not_eq_true, strapOps_contains]
      exact exec_earlyRefusal hc ho halive hwaits hstray herase (State.earlyRefusal_of_not_strapOps hphase hother r)

end Sys2Proof.Machine
end

section
/-! PROOFS. A reset of the PCIe endpoint (R483): the ENABLE bits of the rings, the function's power state and EV_47 are all that it changes. -/

namespace Sys2Proof.Machine

/-! ### ENABLE of a ring -/

/-- A word with bit 0 set to 0 has bit 0 clear. -/
theorem testBit_setBits_zero (x : Nat) : (BitVec.ofNat 32 (setBits x 0 0 0)).toNat.testBit 0 = false := by
  simp only [setBits, bitsOf, Nat.testBit_eq_decide_div_mod_eq, BitVec.toNat_ofNat, decide_eq_false_iff_not]
  omega

/-- Clearing bit 0 of a register clears it there and sets it nowhere. -/
theorem State.bit_setFld_zero {s : State} {a b : Nat} (h : b = a ∨ s.bit b 0 = false) : (s.setFld a 0 0 0).bit b 0 = false := by
  by_cases hb : b = a
  · subst hb
    rw [State.bit, State.setFld, State.reg_setReg_same, testBit_setBits_zero]
  · rw [State.bit, State.setFld, State.reg_setReg_other s hb]
    exact h.resolve_left hb

/-- ENABLE cleared in the rings whose configuration registers these are. -/
def State.disableRings (s : State) (rings : List Nat) : State := rings.foldl (fun t a => t.setFld a 0 0 0) s

/-- Each of the rings is disabled, and one that was disabled stays so. -/
theorem State.disableRings_bit {s : State} {rings : List Nat} {a : Nat} (h : a ∈ rings ∨ s.bit a 0 = false) :
    (s.disableRings rings).bit a 0 = false := by
  induction rings generalizing s with
  | nil => exact h.resolve_left List.not_mem_nil
  | cons b rings ih =>
    refine ih (s := s.setFld b 0 0 0) ?_
    rcases h with hmem | hbit
    · exact (List.mem_cons.mp hmem).symm.imp_right fun hab => State.bit_setFld_zero (.inl hab)
    · exact .inr (State.bit_setFld_zero (.inr hbit))

/-- Disabling rings touches their configuration registers alone. -/
theorem State.disableRings_keeps (s : State) (rings : List Nat) : Keeps [] rings s (s.disableRings rings) := by
  induction rings generalizing s with
  | nil => exact Keeps.refl _ _ s
  | cons a rings ih =>
    exact ((s.setFld_keeps a 0 0 0).mono (by simp) (by simp)).trans ((ih (s.setFld a 0 0 0)).mono (by simp) (by simp))

/-! ### PCIE_ENDPOINT_RESET -/

/-- The configuration registers of the sixteen command rings and of the event ring. -/
def pcieRings : List Nat := (List.range 16).map (fun c => Reg.cmdRingCfg + 0x20 * c) ++ [Reg.evtRingCfg]

/-- Disabling them all is disabling the command rings, then the event ring. -/
theorem State.disableRings_pcieRings (s : State) : s.disableRings pcieRings =
    ((List.range 16).foldl (fun t c => t.setFld (Reg.cmdRingCfg + 0x20 * c) 0 0 0) s).setFld Reg.evtRingCfg 0 0 0 := by
  rw [State.disableRings, pcieRings, List.foldl_append, List.foldl_map, List.foldl_cons, List.foldl_nil]

/-- The power state of the PCIe function ended. -/
def State.endPciePower (s : State) : State := { s with pwr := { s.pwr with d3hot := false, pmeEn := false } }

theorem State.endPciePower_keeps (s : State) : Keeps [.pwr] [] s s.endPciePower :=
  ⟨fun q h => by revert h; cases q <;> simp [Part.same, State.endPciePower], fun _ _ => rfl⟩

/-- The state as a reset of the PCIe endpoint leaves it before it is reported: its rings disabled and its power state ended. -/
def State.resetPcie (s : State) : State := (s.disableRings pcieRings).endPciePower

/-- A reset of a lead's PCIe endpoint is reported in EV_47. -/
theorem exec_pcieEndpointReset {s : State} {kind : Nat} (hlead : s.isLead = true) (halive : s.alive = true) (hkind : kind ≤ 2) :
    exec (.pcieEndpointReset kind) s = .next (s.resetPcie.raise 47 2 (2 ^ kind)) := by
  have hruns : ¬ (!s.isLead || !s.alive || decide (2 < kind)) = true := by simp [hlead, halive, hkind]
  simp only [exec, execPcieEndpointReset, if_neg hruns, State.resetPcie, State.disableRings_pcieRings, State.endPciePower]

/-- What the reset itself touches: the registers of its rings and the power state. -/
theorem State.resetPcie_keeps (s : State) : Keeps [.pwr] pcieRings s s.resetPcie :=
  ((s.disableRings_keeps pcieRings).mono (by simp) (List.Subset.refl _)).trans ((State.endPciePower_keeps _).mono (by simp) (by simp))

/-- Of the power unit the reset ends the function's power state alone. -/
theorem State.resetPcie_pwr (s : State) : s.resetPcie.pwr = { s.pwr with d3hot := false, pmeEn := false } := by
  have hpwr : (s.disableRings pcieRings).pwr = s.pwr := (s.disableRings_keeps pcieRings).1 .pwr (by decide)
  simp only [State.resetPcie, State.endPciePower, hpwr]

/-- Every ring is disabled by the reset. -/
theorem State.resetPcie_bit (s : State) {a : Nat} (h : a ∈ pcieRings) : s.resetPcie.bit a 0 = false := by
  have hbit := State.disableRings_bit (s := s) (rings := pcieRings) (.inl h)
  have hreg : s.resetPcie.reg a = (s.disableRings pcieRings).reg a := (State.endPciePower_keeps _).2 a List.not_mem_nil
  rwa [State.bit, hreg]

/-- EV_47 leaves ENABLE of every ring, the event ring's too, whose OVERFLOW it may set. -/
theorem State.raise_bit_enable (s : State) (k sev detail a : Nat) : (s.raise k sev detail).bit a 0 = s.bit a 0 := by
  by_cases ha : a = Reg.evtRingCfg
  · subst ha
    exact s.raiseA_ring k sev detail false
  · rw [State.bit, (s.raise_keeps k sev detail).2 a (by simpa using ha), State.bit]

/-- Settles O20: the reset touches its rings and the power state, and the event that reports it touches the event unit. -/
theorem pcieResetLeavesTheWallRunning : Obligations.PcieResetLeavesTheWallRunning := by
  intro s kind hlead halive hkind
  have hreset := s.resetPcie_keeps
  have hraise := s.resetPcie.raise_keeps 47 2 (2 ^ kind)
  have hbit : ∀ a ∈ pcieRings, (s.resetPcie.raise 47 2 (2 ^ kind)).bit a 0 = false := fun a ha => by
    rw [State.raise_bit_enable, s.resetPcie_bit ha]
  have hevt : s.resetPcie.evt = s.evt := hreset.1 .evt (by decide)
  refine ⟨_, exec_pcieEndpointReset hlead halive hkind, fun c hc => hbit _ ?_, hbit _ ?_, ?_, ?_, ?_⟩
  · simp only [pcieRings, List.mem_append, List.mem_map, List.mem_range]
    exact .inl ⟨c, hc, rfl⟩
  · simp [pcieRings]
  · obtain ⟨hcount, -⟩ := State.raiseA_src s.resetPcie 47 2 (2 ^ kind) false
    rw [State.raise, hcount, hevt]
  · exact (hraise.1 .pwr (by decide)).trans s.resetPcie_pwr
  · refine (hreset.mono ?_ ?_).trans (hraise.mono ?_ ?_) <;> simp [pcieRings]

end Sys2Proof.Machine
end

section
/-! PROOFS. What a step keeps, row by row: a row of the island writes the island alone (R31), the raw counter stays whole (R148), the one-time memory
only grows (R436), and the boot phase and the role change in the rows that reset or boot the main side (R1, R480), two of which end a reset (R470). -/

namespace Sys2Proof.Machine

/-! ### One step -/

/-- A step takes the command at the front of the queue. -/
theorem step_cons {s : State} {c : Instr} {rest : List Instr} (h : s.pending = c :: rest) : step s = exec c { s with pending := rest } := by
  simp only [step, h]

/-- A step on an empty queue is a TIME clock edge. -/
theorem step_nil {s : State} (h : s.pending = []) : step s = .next s.tick := by
  simp only [step, h]

/-- Settles O1: it is the second equation of a step. -/
theorem stepRunsFrontCommand : Obligations.StepRunsFrontCommand := fun _ _ _ h => step_cons h

/-- While the main side is held, no edge counts. -/
theorem State.tick_held {s : State} (h : s.alive = false) : s.tick = s := by simp [State.tick, h]

/-- An edge with a domain switch deferred tries it again at the new raw value (R174). -/
theorem State.tick_deferred {s : State} {w : Switch} (halive : s.alive = true) (hsw : s.tmu.switch = some w) (hdef : w.deferred = true) :
    s.tick = ({ s with tmu := { s.tmu with raw := s.tmu.raw + 64 } }).runSwitch := by
  simp [State.tick, halive, hsw, hdef]

/-- An edge with no domain switch deferred adds 64 to the raw counter and does nothing else. -/
theorem State.tick_plain {s : State} (halive : s.alive = true) (hdef : ∀ w, s.tmu.switch = some w → w.deferred = false) :
    s.tick = { s with tmu := { s.tmu with raw := s.tmu.raw + 64 } } := by
  cases hsw : s.tmu.switch with
  | none => simp [State.tick, halive, hsw]
  | some w => simp [State.tick, halive, hsw, hdef w hsw]

/-- An edge leaves what the anchor holds but the raw counter, to which it adds 64. -/
theorem State.tick_anchor {s : State} (halive : s.alive = true) :
    s.tick.anchor = ({ s with tmu := { s.tmu with raw := s.tmu.raw + 64 } } : State).anchor := by
  simp only [State.tick, if_pos halive]
  split <;> split <;> first | rfl | exact State.runSwitch_anchor _

theorem State.anchor_inj {s t : State} (h : t.anchor = s.anchor) : t.pending = s.pending ∧ t.met = s.met ∧ t.tmu.raw = s.tmu.raw ∧ t.otp = s.otp ∧
    t.pwr.phase = s.pwr.phase ∧ t.pwr.role = s.pwr.role := by
  simpa only [State.anchor, Prod.mk.injEq] using h

/-- Settles O2: a switch that is deferred runs on the state that has counted the edge. -/
theorem emptyQueueTicks : Obligations.EmptyQueueTicks := by
  intro s hq
  refine ⟨fun halive => ⟨s.tick, step_nil hq, ?_, ?_, fun h => ?_, fun w hw hd => State.tick_deferred halive hw hd⟩, fun hheld => ?_⟩
  · obtain ⟨-, -, hraw, -⟩ := State.anchor_inj (State.tick_anchor halive)
    exact hraw
  · obtain ⟨hpending, -⟩ := State.anchor_inj (State.tick_anchor halive)
    exact hpending.trans hq
  · rw [State.tick_plain halive h]
  · rw [step_nil hq, State.tick_held hheld]

/-! ### The island's rows -/

/-- A row of the island ends in a state that differs from the one it starts from in the island and the counter of free values alone. -/
def IslandOnly (s : State) : Res → Prop | .next t => t = { s with met := t.met, free := t.free } | _ => True

theorem islandOnly_ite {s : State} {p : Prop} [Decidable p] {x y : Res} (hx : IslandOnly s x) (hy : IslandOnly s y) :
    IslandOnly s (if p then x else y) := by
  split <;> assumption

theorem exec_islandOnly {c : Instr} (h : ofIsland c = true) (s : State) : IslandOnly s (exec c s) := by
  cases c with
  | integrationBoundary samples agreement => exact islandOnly_ite rfl rfl
  | selfCalibrationStart agreement =>
    simp only [exec, execSelfCalibrationStart]
    split
    · exact islandOnly_ite rfl rfl
    · rfl
  | checkpoint => exact islandOnly_ite rfl rfl
  | dutyFrame duty inert crcOk => exact islandOnly_ite rfl (islandOnly_ite rfl rfl)
  | labelFrame time valid crcOk => exact islandOnly_ite rfl (islandOnly_ite rfl rfl)
  | logselFrame rseq crcOk => exact islandOnly_ite rfl (islandOnly_ite rfl rfl)
  | requestFrame payload crcOk => exact islandOnly_ite rfl (islandOnly_ite rfl rfl)
  | crystalFault => exact islandOnly_ite rfl rfl
  | metPowerFail mv => rfl
  | metResetNAssert => exact islandOnly_ite rfl rfl
  | islandStart watchdog mv => exact islandOnly_ite rfl (islandOnly_ite rfl rfl)
  | sealChange low => rfl
  | _ => cases h

/-- Settles O7: each of the twelve rows writes the island, and CRYSTAL_FAULT takes a free value. -/
theorem islandRowsTouchTheIslandAlone : Obligations.IslandRowsTouchTheIslandAlone := by
  intro c s t hisland h
  have honly := exec_islandOnly hisland s
  rwa [h] at honly

/-! ### Every row -/

/-- Every row follows the state it starts from, the island apart. -/
theorem exec_follows {c : Instr} {s t : State} (h : exec c s = .next t) :
    t.pending = s.pending ∧ (t.tmu.raw = s.tmu.raw ∨ t.tmu.raw = 0) ∧ s.otp.Grew t.otp := by
  cases hisland : ofIsland c with
  | true =>
    rw [islandRowsTouchTheIslandAlone c s t hisland h]
    exact ⟨rfl, .inl rfl, .refl _⟩
  | false =>
    have hfollowed := exec_followed hisland s
    rw [h] at hfollowed
    obtain ⟨hpending, -, hraw, hotp⟩ := hfollowed
    exact ⟨hpending, hraw, hotp⟩

/-- Settles O5: a main-side row keeps the queue with the anchor, or across its reset; a row of the island writes the island. -/
theorem noCommandTouchesTheQueue : Obligations.NoCommandTouchesTheQueue := fun _ _ _ h => (exec_follows h).1

/-- Adding 64 keeps bits 5:0 zero, also where the counter wraps. -/
theorem raw_add_64_whole (x : BitVec 72) (h : x.toNat % 64 = 0) : (x + 64).toNat % 64 = 0 := by
  rw [BitVec.toNat_add]
  change (x.toNat + 64) % 2 ^ 72 % 64 = 0
  omega

/-- Settles O8: an edge adds 64, and a row leaves the counter or restarts it at 0. -/
theorem rawCounterStaysWhole : Obligations.RawCounterStaysWhole := by
  intro s t hwhole h
  cases hq : s.pending with
  | nil =>
    obtain rfl : s.tick = t := by simpa [step_nil hq] using h
    cases halive : s.alive with
    | true =>
      obtain ⟨-, -, hraw, -⟩ := State.anchor_inj (State.tick_anchor halive)
      rw [State.RawWhole, hraw]
      exact raw_add_64_whole _ hwhole
    | false => rwa [State.tick_held halive]
  | cons c rest =>
    rw [step_cons hq] at h
    obtain ⟨-, hraw | hraw, -⟩ := exec_follows h
    · rw [State.RawWhole, hraw]
      exact hwhole
    · rw [State.RawWhole, hraw]
      rfl

/-- Settles O9: an edge leaves the one-time memory, and every row lets it only grow. -/
theorem oneTimeMemoryOnlyGrows : Obligations.OneTimeMemoryOnlyGrows := by
  intro s t h
  cases hq : s.pending with
  | nil =>
    obtain rfl : s.tick = t := by simpa [step_nil hq] using h
    cases halive : s.alive with
    | true =>
      obtain ⟨-, -, -, hotp, -⟩ := State.anchor_inj (State.tick_anchor halive)
      rw [hotp]
      exact .refl _
    | false => rw [State.tick_held halive]; exact .refl _
  | cons c rest =>
    rw [step_cons hq] at h
    obtain ⟨-, -, hotp⟩ := exec_follows h
    exact hotp

/-! ### Role and boot phase -/

/-- The second state has the boot phase and the role of the first. -/
def State.SameBoot (s t : State) : Prop := t.pwr.role = s.pwr.role ∧ t.pwr.phase = s.pwr.phase

theorem State.SameBoot.trans {s t u : State} (h : s.SameBoot t) (k : t.SameBoot u) : s.SameBoot u := ⟨k.1.trans h.1, k.2.trans h.2⟩

theorem sameBoot_of_anchor {s t : State} (h : t.anchor = s.anchor) : s.SameBoot t := by
  obtain ⟨-, -, -, -, hphase, hrole⟩ := State.anchor_inj h
  exact ⟨hrole, hphase⟩

/-- A next state has the same boot phase and role. -/
def BootKept (s : State) : Res → Prop | .next t => s.SameBoot t | _ => True

theorem bootKept_of_anchored {s : State} {r : Res} (h : Anchored s r) : BootKept s r := by
  cases r with
  | next t => exact sameBoot_of_anchor h
  | _ => trivial

/-- A request keeps boot phase and role where its effect does. -/
theorem runReq_bootKept {code : Nat} {r : Req} {s : State} {f : State → State × Rsp} (h : ∀ u : State, u.SameBoot (f u).1) :
    BootKept s (runReq code r s f) := by
  unfold runReq
  split
  · exact ⟨rfl, rfl⟩
  · split
    · extract_lets u
      have hu : s.SameBoot u := sameBoot_of_anchor (State.takeReq_anchor _ _ _)
      split
      · exact hu.trans (sameBoot_of_anchor (State.judgeReq_anchor ..))
      · split
        · exact hu.trans (sameBoot_of_anchor (State.answerPlain_anchor ..))
        · split
          · exact hu.trans (sameBoot_of_anchor (State.answer_anchor ..))
          · exact hu.trans ((h u).trans (sameBoot_of_anchor (State.answer_anchor ..)))
    · exact ⟨rfl, rfl⟩

/-- DEBUG_GATE_COMPLETE burns a thermometer and leaves the boot alone (R447). -/
theorem execDebugGateComplete_bootKept (s : State) : BootKept s (execDebugGateComplete s) := by
  unfold execDebugGateComplete
  split
  · exact ⟨rfl, rfl⟩
  · split
    · exact ⟨rfl, rfl⟩
    · refine State.SameBoot.trans ?_ (sameBoot_of_anchor ((State.complete_anchor ..).trans ((State.raise_anchor ..).trans
        (State.tryCommit_anchor ..))))
      exact ⟨rfl, rfl⟩

/-- IMG_CONFIRM burns the minimum epoch and the revocations and leaves the boot alone (R462). -/
theorem execImgConfirm_bootKept (r : Req) (s : State) : BootKept s (execImgConfirm r s) := by
  unfold execImgConfirm
  refine runReq_bootKept fun u => ?_
  split
  · split
    · exact sameBoot_of_anchor (State.flashFail_anchor ..)
    · extract_lets _ _ _ _ _ _ t t'
      have ht : u.SameBoot t' :=
        State.SameBoot.trans (t := t) ⟨rfl, rfl⟩ (sameBoot_of_anchor ((State.commit_anchor _ _).trans (State.dropOld_anchor _)))
      clear_value t t'
      dsimp only
      split
      · exact ht
      · exact ht.trans (sameBoot_of_anchor (State.raise_anchor ..))
  · exact ⟨rfl, rfl⟩

/-- Every row but those that reset or boot the main side keeps its boot phase and role. -/
theorem exec_bootKept {c : Instr} (hreset : resetsMain c = false) (s : State) : BootKept s (exec c s) := by
  cases hisland : ofIsland c with
  | true =>
    have honly := exec_islandOnly hisland s
    cases hx : exec c s with
    | next t => rw [hx] at honly; exact (honly : t = _) ▸ ⟨rfl, rfl⟩
    | _ => trivial
  | false =>
    cases hburn : burnsOtp c with
    | false => exact bootKept_of_anchored (exec_anchored hisland hreset hburn s)
    | true =>
      cases c with
      | debugGateComplete => exact execDebugGateComplete_bootKept s
      | imgConfirm r => exact execImgConfirm_bootKept r s
      | _ => cases hburn

/-- Settles O10: the rows that burn one-time memory are followed through; every other one keeps the anchor or writes the island alone. -/
theorem onlyResetsChangeRoleAndPhase : Obligations.OnlyResetsChangeRoleAndPhase := by
  intro c s t hreset h
  have hkept := exec_bootKept hreset s
  rwa [h] at hkept

/-! ### Held in reset -/

theorem runReq_held {s : State} (h : s.alive = false) (code : Nat) (r : Req) (f : State → State × Rsp) : runReq code r s f = .next s := by
  unfold runReq
  split <;> simp [h]

theorem runReqLater_held {s : State} (h : s.alive = false) (code : Nat) (r : Req) (f : State → State × Option Rsp) :
    runReqLater code r s f = .next s := by
  unfold runReqLater
  split <;> simp [h]

/-- No request runs while the main side is held in reset. -/
theorem exec_request_held {c : Instr} {code : Nat} {r : Req} (hc : requestOf c = some (code, r)) {s : State} (h : s.alive = false) :
    exec c s = .next s := by
  rcases exec_request_course hc s with ⟨f, hf⟩ | ⟨f, hf⟩ | ⟨rfl, rfl⟩ | ⟨rfl, rfl⟩
  · rw [hf, runReq_held h]
  · rw [hf, runReqLater_held h]
  · simp only [exec, execWarmReset, runReqLater_held h, h]
    split <;> rfl
  · simp only [exec, execImgBlock, runReq_held h, ite_self]

/-- A state with the boot phase of a held one is held. -/
theorem State.alive_of_phase {s t : State} (h : t.pwr.phase = s.pwr.phase) : t.alive = s.alive := by simp only [State.alive, h]

/-- A reset of the main side leaves it held. -/
theorem State.mainReset_alive (s : State) (cold : Bool) (cause : Nat) : (s.mainReset cold cause).alive = false := rfl

theorem State.stickSupply_alive (s : State) (n : Nat) : (s.stickSupply n).alive = s.alive := rfl

/-- A supply that fails resets the main side or leaves it held (R470). -/
theorem execSupplyOutOfRange_held {s t : State} {n : Nat} (hheld : s.alive = false) (h : execSupplyOutOfRange n s = .next t) : t.alive = false := by
  have hstay : ∀ l k, (State.stickSupply { s with pwr := { s.pwr with supplyOut := l } } k).alive = false := fun _ _ => hheld
  unfold execSupplyOutOfRange at h
  split at h
  · cases h; exact hheld
  · simp only at h
    split at h
    · cases h; rw [State.stickSupply_alive, State.mainReset_alive]
    · split at h
      · cases h; rw [State.stickSupply_alive, State.mainReset_alive]
      · split at h
        · cases h; exact hstay _ _
        · split at h
          · cases h; exact hstay _ _
          · rename_i hnot; exact absurd hheld (by simpa [State.alive] using hnot)

/-- Settles O11: of the rows that reset or boot the main side, all but two do nothing while it is held, or hold it anew. -/
theorem heldUntilTheResetEnds : Obligations.HeldUntilTheResetEnds := by
  refine ⟨fun c code r s hc h => exec_request_held hc h, fun c s t hheld h hrise hback => ?_⟩
  cases hreset : resetsMain c with
  | false =>
    obtain ⟨-, hphase⟩ := onlyResetsChangeRoleAndPhase c s t hreset h
    exact (State.alive_of_phase hphase).trans hheld
  | true =>
    cases c with
    | powerOnReset => cases h; rfl
    | poresetNAssert => cases h; rfl
    | poresetNRise role boot => exact absurd rfl (hrise _ _)
    | supplyBackInRange n role boot => exact absurd rfl (hback _ _ _)
    | wresetNAssert lowRaw =>
      simp only [exec, execWresetNAssert, hheld, Bool.not_false, Bool.true_or, if_true] at h
      cases h; exact hheld
    | supplyOutOfRange n => exact execSupplyOutOfRange_held hheld h
    | warmReset r => rw [exec_request_held rfl hheld] at h; cases h; exact hheld
    | imgActivate r => rw [exec_request_held rfl hheld] at h; cases h; exact hheld
    | activationInstant =>
      simp only [exec, execActivationInstant, hheld, Bool.not_false, if_true] at h
      split at h <;> (cases h; exact hheld)
    | _ => cases hreset

end Sys2Proof.Machine
end

section
/-! PROOFS. Registers, counters and DRAM: what is stored reads back and nothing else changes (R11, R345, R348), a channel in HOLD takes no byte
(R354), the canonical forms hold at reset and are kept, and the CNT_CLR registers clear the counters that their bits name. -/

namespace Sys2Proof.Machine

/-! ### Reset -/

/-- Settles O3: the fields of the state at reset, and the registers that State.reset does not list. -/
theorem resetIsHeld : Obligations.ResetIsHeld :=
  ⟨rfl, rfl, fun _ => rfl, rfl, rfl, rfl, rfl, rfl, rfl, rfl, rfl, rfl, rfl, rfl, rfl, rfl, rfl, rfl, rfl, rfl, rfl⟩

/-- Settles O4: both maps are empty at reset, and the counter is 0. -/
theorem resetKeepsForm : Obligations.ResetKeepsForm := ⟨rfl, rfl, rfl⟩

/-! ### Registers -/

/-- A counter below its largest value counts up by one, and stops there. -/
theorem satInc_toNat (w : Word) : (satInc w).toNat = min (2 ^ 32 - 1) (w.toNat + 1) := by
  unfold satInc
  split
  · next h => subst h; rfl
  · next h =>
    have hlt : w.toNat < 2 ^ 32 := w.isLt
    have hne : w.toNat ≠ 2 ^ 32 - 1 := fun he => h (BitVec.eq_of_toNat_eq he)
    rw [BitVec.toNat_add]
    change (w.toNat + 1) % 2 ^ 32 = _
    omega

/-- Settles O24: the law of the register map, and the saturating increment. -/
theorem registersReadBack : Obligations.RegistersReadBack := fun s a w =>
  ⟨fun b => s.reg_setReg a b w, s.setReg_keeps a w, by rw [State.bump, State.reg_setReg_same, satInc_toNat]⟩

/-! ### Counters -/

/-- The counters are four bytes apart, so one of them is cleared by its own bit alone. -/
theorem State.clearCounters_reg (s : State) (base n w a : Nat) :
    (s.clearCounters base n w).reg a = if ∃ k < n, a = base + 4 * k ∧ w.testBit k = true then 0 else s.reg a := by
  induction n with
  | zero => simp [State.clearCounters]
  | succ n ih =>
    simp only [State.clearCounters, Nat.exists_lt_succ_right]
    by_cases hbit : w.testBit n = true
    · rw [if_pos hbit, State.reg_setReg, ih]
      by_cases ha : a = base + 4 * n <;> simp only [ha, hbit, and_self, or_true, if_true, and_true, or_false, if_false]
    · rw [if_neg hbit, ih]
      simp only [hbit, and_false, or_false, Bool.false_eq_true]

/-- Each of the counters after the clear. -/
theorem State.clearCounters_counter (s : State) (base n w : Nat) {k : Nat} (hk : k < n) :
    (s.clearCounters base n w).reg (base + 4 * k) = if w.testBit k then 0 else s.reg (base + 4 * k) := by
  rw [State.clearCounters_reg]
  congr 1
  refine propext ⟨?_, fun h => ⟨k, hk, rfl, h⟩⟩
  rintro ⟨j, -, hj, hbit⟩
  obtain rfl : j = k := by omega
  exact hbit

theorem State.clearCounters_keeps (s : State) (base n w : Nat) :
    Keeps [] ((List.range n).map (fun k => base + 4 * k)) s (s.clearCounters base n w) := by
  induction n with
  | zero => exact Keeps.refl _ _ s
  | succ n ih =>
    have hmono : (List.range n).map (fun k => base + 4 * k) ⊆ (List.range (n + 1)).map (fun k => base + 4 * k) :=
      List.map_subset _ (by simp [List.range_succ])
    simp only [State.clearCounters]
    split
    · exact (ih.mono (List.Subset.refl _) hmono).trans ((State.setReg_keeps _ _ _).mono (List.Subset.refl _) (by simp [List.range_succ]))
    · exact ih.mono (List.Subset.refl _) hmono

/-- A row that clears counters by the bits of its word. -/
theorem clears_of {c : Instr} {s : State} {base n : Nat} {w : Word} (h : exec c s = .next (s.clearCounters base n w.toNat)) :
    Clears c s base n w :=
  ⟨_, h, fun _ hk => s.clearCounters_counter base n w.toNat hk, s.clearCounters_keeps base n w.toNat⟩

/-- BCD_CNT_CLR: bit 7 clears the largest shift besides. -/
theorem exec_bcdCntClr {s : State} (halive : s.alive = true) (w : Word) : exec (.bcdCntClr w) s =
    .next (if w.toNat.testBit 7 then (s.clearCounters Reg.bcdC2Trn 7 w.toNat).setReg Reg.bcdSmax 0 else s.clearCounters Reg.bcdC2Trn 7 w.toNat) := by
  simp only [exec, execBcdCntClr, halive, Bool.not_true, Bool.false_eq_true, if_false]

/-- Settles O34: each row that answers its word clears its counters; a stream's are held while it is enabled. -/
theorem counterClears : Obligations.CounterClears := by
  intro s w halive
  refine ⟨fun p hp htile => clears_of ?_, clears_of ?_, fun m hm hlead hoff => clears_of ?_, fun m hm hlead hon => ?_, clears_of ?_,
    fun h7 => clears_of ?_, fun h7 => ⟨_, (exec_bcdCntClr halive w).trans (by rw [if_pos h7]), State.reg_setReg_same _ _ _, fun k hk => ?_, ?_⟩,
    fun htile => clears_of ?_, fun htile => clears_of ?_, fun ch hch htile => clears_of ?_, fun hlead => clears_of ?_⟩
  · have hrun : ¬ ((!s.alive || decide (8 ≤ p) || (s.isTile && decide (2 ≤ p))) = true) := by
      cases ht : s.isTile with
      | true => have hlt := htile ht; simp [halive]; omega
      | false => simp [halive]; omega
    simp only [exec, execPrtCntClr, if_neg hrun, prt]
  · simp [exec, execLchCntClr, halive]
  · have hrun : ¬ ((!s.alive || !s.isLead || decide (4 ≤ m)) = true) := by simp [halive, hlead]; omega
    simp only [exec, execIngStrCntClr, if_neg hrun, hoff, strReg, Bool.false_eq_true, if_false]
  · have hrun : ¬ ((!s.alive || !s.isLead || decide (4 ≤ m)) = true) := by simp [halive, hlead]; omega
    simp only [exec, execIngStrCntClr, if_neg hrun, hon, strReg, if_true]
  · simp [exec, execCmpCntClr, halive]
  · rw [exec_bcdCntClr halive, if_neg (by simp [h7])]
  · rw [State.reg_setReg_other _ (by simp only [Reg.bcdC2Trn, Reg.bcdSmax]; omega)]
    exact s.clearCounters_counter _ _ _ hk
  · exact ((s.clearCounters_keeps _ _ _).mono (List.Subset.refl _) (List.subset_cons_self _ _)).trans
      ((State.setReg_keeps _ _ _).mono (List.Subset.refl _) (by simp))
  · simp [exec, execLppCntClr, halive, htile]
  · simp [exec, execEmsCntClr, halive, htile]
  · have hrun : ¬ (!s.alive ∨ 4 ≤ ch ∨ (s.isTile ∧ ch ≠ 0)) := by
      simp only [halive, Bool.not_true, Bool.false_eq_true, false_or, not_or, not_and, not_not]
      exact ⟨by omega, htile⟩
    simp only [exec, execMemChCntClr, if_neg hrun, memReg]
  · simp [exec, execPaiCntClr, halive, hlead]

/-! ### DRAM -/

/-- Settles O22: each of the four operations keeps the form, by its own lemma. -/
theorem memoryKeepsItsForm : Obligations.MemoryKeepsItsForm := fun s h =>
  ⟨fun a l => s.memWrite_wf a l h, fun lo hi l => s.applyData_wf lo hi l h, fun cold cause => s.mainReset_wf cold cause h,
    fun a w hregs => s.setReg_wf a w hregs⟩

/-- A counted drop leaves the state and the place of every channel, and every byte (R354). -/
theorem State.dropWrite_mem (s : State) (n : Nat) : ∃ c : Chan, c.st = (s.chan n).st ∧ (s.dropWrite n).mem = (s.setChan n c).mem := by
  unfold State.dropWrite
  extract_lets c t
  split
  · exact ⟨{ c with dropAt := s.now, drops := 1 }, rfl, by rw [State.raise_mem]; rfl⟩
  · exact ⟨{ c with drops := c.drops + 1 }, rfl, rfl⟩

/-- The memories agree in the bytes, in which channel serves an address, and in the channels' states. -/
def State.SameBytes (s t : State) : Prop := (∀ c, t.memByte c = s.memByte c) ∧ (∀ a, t.chanOf a = s.chanOf a) ∧ ∀ n, (t.chan n).st = (s.chan n).st

theorem State.SameBytes.refl (s : State) : s.SameBytes s := ⟨fun _ => rfl, fun _ => rfl, fun _ => rfl⟩

theorem State.SameBytes.trans {s t u : State} (h : s.SameBytes t) (k : t.SameBytes u) : s.SameBytes u := by
  obtain ⟨hb, ho, hc⟩ := h
  obtain ⟨kb, ko, kc⟩ := k
  exact ⟨fun c => (kb c).trans (hb c), fun a => (ko a).trans (ho a), fun n => (kc n).trans (hc n)⟩

/-- A channel's entry replaced by one of the same state. -/
theorem State.sameBytes_of_setChan {s t : State} {n : Nat} {c : Chan} (hst : c.st = (s.chan n).st) (h : t.mem = (s.setChan n c).mem) :
    s.SameBytes t := by
  refine ⟨fun a => by simp only [State.memByte, h, State.setChan], fun a => by simp only [State.chanOf, h, State.setChan], fun k => ?_⟩
  simp only [State.chan, h, State.setChan]
  by_cases hk : k = n
  · subst hk
    rcases Nat.lt_or_ge k s.mem.chans.length with hlt | hge
    · simpa [List.getD_eq_getElem?_getD, List.getElem?_set, hlt, State.chan] using hst
    · rw [List.set_eq_of_length_le hge]
  · simp [List.getD_eq_getElem?_getD, List.getElem?_set_ne (Ne.symm hk)]

theorem State.dropWrite_sameBytes (s : State) (n : Nat) : s.SameBytes (s.dropWrite n) := by
  obtain ⟨c, hst, hmem⟩ := s.dropWrite_mem n
  exact State.sameBytes_of_setChan hst hmem

theorem State.memSet_hold {s : State} {a : Nat} (h : (s.chan (s.chanOf a)).st = .hold) (b : Byte) : s.SameBytes (s.memSet a b) := by
  simp only [State.memSet, h]
  split
  · exact s.dropWrite_sameBytes _
  · exact .refl s

/-- Bytes written through channels in HOLD change nothing that a read sees (R354). -/
theorem State.memWriteFrom_hold {s : State} {a : Nat} {l : List Byte} (h : ∀ i < l.length, (s.chan (s.chanOf (a + i))).st = .hold) :
    s.SameBytes (s.memWriteFrom a l) := by
  induction l generalizing s a with
  | nil => exact .refl s
  | cons b bs ih =>
    have hset : s.SameBytes (s.memSet a b) := State.memSet_hold (h 0 (by simp)) b
    refine hset.trans (ih fun i hi => ?_)
    obtain ⟨-, hof, hst⟩ := hset
    rw [hst, hof, show a + 1 + i = a + (i + 1) by omega]
    exact h (i + 1) (by simpa using hi)

theorem State.memWrite_hold {s : State} {a : Nat} {l : List Byte} (h : ∀ i < l.length, (s.chan (s.chanOf (a + i))).st = .hold) :
    s.SameBytes (s.memWrite a l) := by
  unfold State.memWrite
  extract_lets part
  split
  · have hdrop := s.dropWrite_sameBytes (s.chanOf a)
    refine hdrop.trans (State.memWriteFrom_hold fun i hi => ?_)
    obtain ⟨-, hof, hst⟩ := hdrop
    rw [hst, hof]
    exact h i hi
  · exact State.memWriteFrom_hold h

/-- Settles O23: by induction on the bytes, each stored by a running channel and dropped by one in HOLD. -/
theorem writtenBytesReadBack : Obligations.WrittenBytesReadBack := fun s a l =>
  ⟨fun h c => s.memByte_memWrite a c l h, fun h => (State.memWrite_hold h).1⟩

/-! ### An inert chip -/

/-- Settles O53: each of the three looks at the inert flag first. -/
theorem inertDrivesNothing : Obligations.InertDrivesNothing := by
  intro s hinert
  have hsend : ∀ m : TxMsg, m.isContent = true → s.maySend m = false := fun m hm => by simp [State.maySend, hinert, hm]
  refine ⟨fun n => by simp [State.irefPin, hinert], fun b => by simp [State.lclkRuns, hinert], fun m hm => ⟨hsend m hm, ?_⟩⟩
  simp [State.send, hsend m hm]

end Sys2Proof.Machine
end

section
/-! PROOFS. Events, replay, resets and stores: an occurrence is counted (R80), a sequence number runs once (R64, R65), what a reset of the main side
leaves (R473), and which record of a store stands (R450). -/

namespace Sys2Proof.Machine

/-! ### An occurrence (R80) -/

/-- A source that may form no record now forms none. -/
theorem State.tryRecord_none {s : State} {k : Nat} (h : s.mayRecord k (Map.at s.evt.srcs {} k) = false) : s.tryRecord k = s := by
  unfold State.tryRecord
  simp only [h, Bool.false_eq_true, if_false]

/-- An occurrence of a masked source changes the source alone. -/
theorem State.raiseA_masked {s : State} {k : Nat} (h : s.masked k = true) (sev detail : Nat) (armed : Bool) :
    ∃ m, s.raiseA k sev detail armed = { s with evt := { s.evt with srcs := m } } := by
  unfold State.raiseA
  refine ⟨_, State.tryRecord_none ?_⟩
  unfold State.mayRecord
  have hmask : ∀ m, State.masked { s with evt := { s.evt with srcs := m } } k = true := fun _ => h
  rw [hmask, Bool.not_true, Bool.false_and, Bool.false_and, Bool.false_and]

/-- Settles O15: the laws of an occurrence, and that a masked source forms no record. -/
theorem anOccurrenceIsCounted : Obligations.AnOccurrenceIsCounted := by
  intro s k sev detail armed e t e'
  obtain ⟨hcount, hfirst, hlast, hdetail, hsev⟩ := s.raiseA_src k sev detail armed
  refine ⟨hcount, hfirst, hlast, hdetail, hsev, fun j hj => s.raiseA_other hj sev detail armed, fun hmask => ?_, s.raiseA_keeps k sev detail armed⟩
  obtain ⟨m, hm⟩ := State.raiseA_masked hmask sev detail armed
  simp only [t, hm, and_self]

/-! ### Replay (R64, R65) -/

/-- Which numbers a replay window refuses: 0, every one once H is at its end, and one below H that lies 64 or more back or is seen. -/
theorem Replay.accepts_eq_false {w : Replay} {b : Nat} :
    w.accepts b = false ↔ b = 0 ∨ w.h = 0xFFFFFFFF ∨ (b ≤ w.h ∧ (64 ≤ w.h - b ∨ w.seen.testBit (w.h - b) = true)) := by
  simp only [Replay.accepts, Bool.and_eq_false_iff, Bool.or_eq_false_iff, bne_eq_false_iff_eq, decide_eq_false_iff_not, Bool.not_eq_eq_eq_not,
    Bool.not_false, not_lt]
  constructor
  · rintro ((h | h) | ⟨h1, (h2 | h2) | h2⟩)
    · exact .inl h
    · exact .inr (.inl h)
    · exact .inr (.inr ⟨h1, .inl h2⟩)
    · exact absurd h1 h2
    · exact .inr (.inr ⟨h1, .inr h2⟩)
  · rintro (h | h | ⟨h1, h2 | h2⟩)
    · exact .inl (.inl h)
    · exact .inl (.inr h)
    · exact .inr ⟨h1, .inl (.inl h2)⟩
    · exact .inr ⟨h1, .inr h2⟩

/-- A number that is accepted is not 0. -/
theorem Replay.ne_zero_of_accepts {w : Replay} {a : Nat} (h : w.accepts a = true) : a ≠ 0 := by
  rintro rfl
  exact absurd h (by simp [Replay.accepts])

/-- The seen bits move up by as much as H does, and the new H is seen. -/
theorem testBit_shift_one (x k i : Nat) (hk : 0 < k) (hi : i < 64) :
    ((x * 2 ^ k + 1) % 2 ^ 64).testBit i = (decide (i = 0) || (decide (k ≤ i) && x.testBit (i - k))) := by
  have hor : x * 2 ^ k + 1 = x <<< k ||| 1 := by
    rw [← Nat.shiftLeft_eq, Nat.shiftLeft_add_eq_or_of_lt (Nat.one_lt_two_pow hk.ne')]
  rw [Nat.testBit_mod_two_pow, hor, Nat.testBit_or, Nat.testBit_shiftLeft, Bool.or_comm]
  have hone : Nat.testBit 1 i = decide (i = 0) := by cases i <;> simp [Nat.testBit_succ]
  simp only [hi, hone, decide_true, Bool.true_and, ge_iff_le]

/-- A number marked is not accepted again. -/
theorem Replay.mark_refuses_self (w : Replay) (a : Nat) : (w.mark a).accepts a = false := by
  rw [Replay.accepts_eq_false, Replay.mark]
  split
  · exact .inr (.inr ⟨le_rfl, .inr (by rw [Nat.sub_self, testBit_shift_one _ _ _ (by omega) (by omega)]; simp)⟩)
  · next h => exact .inr (.inr ⟨by simpa using h, .inr (by simp [Nat.testBit_or, Nat.testBit_two_pow_self])⟩)

/-- What the window refuses it refuses after any number it accepts. -/
theorem Replay.mark_refuses {w : Replay} {a b : Nat} (ha : w.accepts a = true) (hb : w.accepts b = false) : (w.mark a).accepts b = false := by
  have hopen : w.h ≠ 0xFFFFFFFF := by
    intro h
    exact absurd ha (by simp [Replay.accepts, h])
  rw [Replay.accepts_eq_false] at hb ⊢
  rcases hb with hb | hb | ⟨hle, hseen⟩
  · exact .inl hb
  · exact absurd hb hopen
  · refine .inr (.inr ?_)
    rw [Replay.mark]
    split
    · next hup =>
      refine ⟨hle.trans hup.le, ?_⟩
      change 64 ≤ a - b ∨ ((w.seen * 2 ^ (a - w.h) + 1) % 2 ^ 64).testBit (a - b) = true
      by_cases hfar : 64 ≤ a - b
      · exact .inl hfar
      · refine .inr ?_
        have hbit : w.seen.testBit (w.h - b) = true := hseen.resolve_left (by omega)
        rw [testBit_shift_one _ _ _ (by omega) (by omega), show a - b - (a - w.h) = w.h - b by omega, hbit]
        simp only [Bool.and_true, Bool.or_eq_true, decide_eq_true_eq]
        omega
    · exact ⟨hle, hseen.imp_right fun h => by rw [Nat.testBit_or, h, Bool.true_or]⟩

/-- A number below the last 64K moves the floor above itself (R65). -/
theorem lt_newFloor {sq : Nat} (h : sq < 0xFFFF0000) : sq < newFloor sq := by
  unfold newFloor
  extract_lets f
  have hf : f = sq / 65536 * 65536 + 65536 := rfl
  split <;> omega

/-- A request whose number passes check 8: the window accepts it and marks it, and the floor then lies above it. -/
theorem State.checkSeq_passed {s t : State} {r : Req} (h : s.checkSeq r = (t, none)) :
    (s.replayOf (slotClass r.slot r.cls)).accepts r.seq.toNat = true ∧
    t.replayOf (slotClass r.slot r.cls) = (s.replayOf (slotClass r.slot r.cls)).mark r.seq.toNat ∧
    (r.seq.toNat < 0xFFFF0000 → r.seq.toNat < Map.at t.ks.floors 0 (slotClass r.slot r.cls)) := by
  unfold State.checkSeq at h
  extract_lets k w det sq at h
  split at h
  · cases h
  split at h
  · cases h
  next haccepts =>
  have hacc : w.accepts sq = true := by simpa using haccepts
  split at h
  · split at h
    · cases h
    split at h
    · cases h
    cases h
    refine ⟨hacc, Map.at_put_same _ _ _ _, fun hsq => ?_⟩
    rw [State.commit_ks, Map.at_put_same]
    exact lt_newFloor hsq
  · next hfloor =>
    cases h
    exact ⟨hacc, Map.at_put_same _ _ _ _, fun _ => by simpa using hfloor⟩

/-- A number that the window refuses is answered REPLAY. -/
theorem State.checkSeq_refused {s : State} {r : Req} (h : (s.replayOf (slotClass r.slot r.cls)).accepts r.seq.toNat = false) :
    (s.checkSeq r).2 = some (rspErr 0x0202 r.slot) := by
  unfold State.checkSeq
  extract_lets k w det sq
  have hacc : (!w.accepts sq) = true := by simpa using h
  split
  · rfl
  · rfl

/-- Settles O25: what passes check 8 is marked, and the window keeps what it has marked. -/
theorem sequenceNumbersRunOnce : Obligations.SequenceNumbersRunOnce := by
  refine ⟨fun s t r h => ?_, fun w a b ha hb => Replay.mark_refuses ha hb, fun s r h => State.checkSeq_refused h⟩
  obtain ⟨haccepts, hmark, hfloor⟩ := State.checkSeq_passed h
  exact ⟨Replay.ne_zero_of_accepts haccepts, State.checkSeq_refused (by rw [hmark, Replay.mark_refuses_self]), hfloor⟩

/-! ### A reset of the main side (R473) -/

/-- Taking a store's content leaves the journals and the image slots. -/
theorem State.openStore_flash (s : State) (o : Option StoreData) :
    (s.openStore o).flash.journals = s.flash.journals ∧ (s.openStore o).flash.slots = s.flash.slots := by
  unfold State.openStore
  split <;> exact ⟨rfl, rfl⟩

theorem State.openStores_flash (s : State) : s.openStores.flash.journals = s.flash.journals ∧ s.openStores.flash.slots = s.flash.slots := by
  unfold State.openStores
  obtain ⟨hj1, hs1⟩ := s.openStore_flash (s.storeContent 1)
  obtain ⟨hj2, hs2⟩ := (s.openStore (s.storeContent 1)).openStore_flash (s.storeContent 2)
  obtain ⟨hj3, hs3⟩ := ((s.openStore (s.storeContent 1)).openStore (s.storeContent 2)).openStore_flash (s.storeContent 3)
  exact ⟨hj3.trans (hj2.trans hj1), hs3.trans (hs2.trans hs1)⟩

/-- Every stored floor starts its window at the floor, all before it seen (R65). -/
theorem find_replayFrom {floors : Map Nat} {k f : Nat} (h : Map.find floors k = some f) :
    Map.find (replayFrom floors) k = some { h := f, seen := 2 ^ 64 - 1 } := by
  induction floors with
  | nil => cases h
  | cons x m ih =>
    obtain ⟨a, v⟩ := x
    simp only [replayFrom, List.map_cons, Map.find] at h ⊢
    split
    · next hk => rw [if_pos hk] at h; cases h; rfl
    · next hk => rw [if_neg hk] at h; exact ih h

/-- The registers after a reset hold MEM_KEEP alone. -/
theorem State.mainReset_reg (s : State) (cold : Bool) (cause : Nat) {a : Nat} (h : a ≠ Reg.memKeep) :
    (s.mainReset cold cause).reg a = regReset a := by
  simp only [State.reg, State.mainReset]
  rw [Map.find_store_other regReset [] h]
  rfl

/-- Settles O26: the reset builds its state from the one at reset, and the lists above say what it takes over. -/
theorem mainResetLeaves : Obligations.MainResetLeaves := by
  intro s cold cause t
  obtain ⟨-, hmet, hraw, -⟩ := s.mainReset_follows cold cause
  obtain ⟨hpending, -, -, hotp, -⟩ := State.anchor_inj s.openStores_anchor
  obtain ⟨hjournals, hslots⟩ := s.openStores_flash
  refine ⟨fun a ha => s.mainReset_reg cold cause ha, rfl, rfl, rfl, rfl, rfl, rfl, rfl, rfl, rfl, rfl, rfl, rfl, rfl, rfl, hotp, hmet, hpending,
    rfl, rfl, hjournals, hslots, fun k f hf => ?_, fun hcold => ?_, fun hwarm => ?_⟩
  · exact congrArg (fun o : Option Replay => o.getD {}) (find_replayFrom hf)
  · subst hcold
    exact ⟨rfl, rfl, rfl⟩
  · subst hwarm
    obtain ⟨-, -, hraw, -⟩ := State.anchor_inj s.openStores_anchor
    exact hraw

end Sys2Proof.Machine
end

section
/-! PROOFS. What comes before the parameters of a request (R2, R49, R50, R95, R476), registers out of reach (R9, R11, R29), the records of a store
(R450), and the supply class of the island (R513). -/

namespace Sys2Proof.Machine

/-! ### Before the parameters -/

/-- A request that is ready and answered at once: its effect and its answer. -/
theorem Ready.run {code : Nat} {r : Req} {s : State} {f : State → State × Rsp} {g : State × Rsp} (h : Ready s code r)
    (e : f (s.takeReq code r) = g) : runReq code r s f = .next ((s.takeReq code r).answer g.1 code r g.2) := by
  rw [runReq_ready h, e]

section
variable {code : Nat} {r : Req} {o : OpRow} {a : Rsp} {s : State} (ho : opRow code = some o) (halive : s.alive = true)
  (hwaits : s.waits code r = false)
include ho halive hwaits

theorem runReq_stray (hstray : s.strayNearest r = true) (f : State → State × Rsp) :
    runReq code r s f = .next ((s.takeReq code r).judgeReq code r) := by
  simp [runReq, ho, halive, hwaits, hstray]

theorem runReqLater_stray (hstray : s.strayNearest r = true) (f : State → State × Option Rsp) :
    runReqLater code r s f = .next ((s.takeReq code r).judgeReq code r) := by
  simp [runReqLater, ho, halive, hwaits, hstray]

theorem runReq_lateRefusal (hstray : s.strayNearest r = false) (hearly : s.earlyRefusal o r = none) (hlate : s.lateRefusal o r = some a)
    (f : State → State × Rsp) : runReq code r s f = .next ((s.takeReq code r).answer (s.takeReq code r) code r a) := by
  simp [runReq, ho, halive, hwaits, hstray, hearly, hlate]

theorem runReqLater_lateRefusal (hstray : s.strayNearest r = false) (hearly : s.earlyRefusal o r = none) (hlate : s.lateRefusal o r = some a)
    (f : State → State × Option Rsp) : runReqLater code r s f = .next ((s.takeReq code r).answer (s.takeReq code r) code r a) := by
  simp [runReqLater, ho, halive, hwaits, hstray, hearly, hlate]

end

/-- A WARM_RESET whose course ends in one of its refusals resets nothing. -/
theorem execWarmReset_refused {r : Req} {o : OpRow} {s t : State} (ho : opRow 0x0008 = some o)
    (hno : s.strayNearest r = true ∨ (s.preRefusal o r).isSome = true)
    (hcourse : ∀ f, runReqLater 0x0008 r s f = .next t) : execWarmReset r s = .next t := by
  have hskip : (s.alive && !s.waits 0x0008 r && !(s.takeReq 0x0008 r).strayNearest r && ((s.takeReq 0x0008 r).preRefusal o r).isNone) = false := by
    rcases hno with h | h
    · simp [h]
    · simp [Option.isNone_eq_false_iff.mpr h]
  simp only [execWarmReset, hcourse, ho, hskip, Bool.false_eq_true, if_false]

section
variable {c : Instr} {code : Nat} {r : Req} {o : OpRow} {s : State} (hc : requestOf c = some (code, r)) (ho : opRow code = some o)
  (halive : s.alive = true) (hwaits : s.waits code r = false)
  (herase : ∀ q, c = .imgBlock q → s.sec.upd.any (fun u => s.flash.erasing == some u.slot) = false)
include hc ho halive hwaits herase

/-- A NEAREST request that its tile must not answer is judged again (R95, R107). -/
theorem exec_stray (hstray : s.strayNearest r = true) : exec c s = .next ((s.takeReq code r).judgeReq code r) := by
  rcases exec_request_course hc s with ⟨f, hf⟩ | ⟨f, hf⟩ | ⟨rfl, rfl⟩ | ⟨rfl, rfl⟩
  · rw [hf, runReq_stray ho halive hwaits hstray]
  · rw [hf, runReqLater_stray ho halive hwaits hstray]
  · exact execWarmReset_refused ho (.inl hstray) (runReqLater_stray ho halive hwaits hstray)
  · obtain ⟨f, hf⟩ := execImgBlock_course (r := r) (herase r rfl)
    exact hf.trans (runReq_stray ho halive hwaits hstray f)

/-- What MORE, the core or a block on hold refuses is answered with a tag and has no other effect. -/
theorem exec_lateRefusal {a : Rsp} (hstray : s.strayNearest r = false) (hearly : s.earlyRefusal o r = none) (hlate : s.lateRefusal o r = some a) :
    exec c s = .next ((s.takeReq code r).answer (s.takeReq code r) code r a) := by
  rcases exec_request_course hc s with ⟨f, hf⟩ | ⟨f, hf⟩ | ⟨rfl, rfl⟩ | ⟨rfl, rfl⟩
  · rw [hf, runReq_lateRefusal ho halive hwaits hstray hearly hlate]
  · rw [hf, runReqLater_lateRefusal ho halive hwaits hstray hearly hlate]
  · exact execWarmReset_refused ho (.inr (by simp [State.preRefusal, hearly, hlate]))
      (runReqLater_lateRefusal ho halive hwaits hstray hearly hlate)
  · obtain ⟨f, hf⟩ := execImgBlock_course (r := r) (herase r rfl)
    exact hf.trans (runReq_lateRefusal ho halive hwaits hstray hearly hlate f)

end

/-- Past the boot state, a wrong length is what refuses (R49, R57). -/
theorem State.earlyRefusal_length {s : State} {o : OpRow} {r : Req} (hboot : s.bootRefusal o.code = none)
    (hlen : o.lenOk r.payload.length = false ∨ s.fieldLenOk o.code r.payload = false) :
    s.earlyRefusal o r = some (rspErr stBadLength o.lenDetail) := by
  rcases hlen with h | h <;> simp [State.earlyRefusal, hboot, h]

/-- Settles O13: the four courses of a request refuse alike, and the refusals are read off their lists. -/
theorem refusedBeforeItsParameters : Obligations.RefusedBeforeItsParameters := by
  intro c code r o s hc ho halive hwaits herase
  obtain rfl := opRow_code ho
  refine ⟨fun hstray => exec_stray hc ho halive hwaits herase hstray, fun hstray => ⟨fun a hearly => ⟨?_, fun hboot hlen => ?_⟩,
    fun a hearly hlate => ⟨exec_lateRefusal hc ho halive hwaits herase hstray hearly hlate, fun hmore => ?_, fun hmore hneeds hcore => ?_⟩⟩⟩
  · exact exec_earlyRefusal hc ho halive hwaits hstray herase hearly
  · exact Option.some.inj (hearly.symm.trans (State.earlyRefusal_length hboot hlen))
  · exact Option.some.inj (hlate.symm.trans (by rw [State.lateRefusal, if_pos hmore]))
  · exact Option.some.inj (hlate.symm.trans (by simp [State.lateRefusal, hmore, hneeds, hcore]))

/-! ### Registers out of reach -/

/-- An address between words refuses the access (R11). -/
theorem State.rangeRefusal_unaligned (s : State) {a : Nat} (n : Nat) (h : a % 4 ≠ 0) : s.rangeRefusal a n = some (rspErr stBadAddress) :=
  if_pos h

/-- The lowest address that is out of reach refuses the access. -/
theorem State.rangeRefusal_first {s : State} {a n k : Nat} (halign : a % 4 = 0) (hk : k < n)
    (hbelow : ∀ j < k, (regRow (a + 4 * j)).isSome = true ∧ s.regOff (a + 4 * j) = false)
    (hhit : regRow (a + 4 * k) = none ∨ s.regOff (a + 4 * k) = true) :
    s.rangeRefusal a n = some (if (regRow (a + 4 * k)).isNone then rspErr stBadAddress else rspErr stUnsupportedRole) := by
  have hfind : (regRange a n).find? (fun x => (regRow x).isNone || s.regOff x) = some (a + 4 * k) := by
    rw [regRange, List.find?_map, List.find?_range_eq_some.mpr]
    · rfl
    · refine ⟨?_, List.mem_range.mpr hk, fun j hj => ?_⟩
      · rcases hhit with h | h <;> simp [h]
      · obtain ⟨hsome, hon⟩ := hbelow j hj
        simp [Option.isNone_eq_false_iff.mpr hsome, hon]
  simp only [State.rangeRefusal, halign, ne_eq, not_true_eq_false, if_false, hfind]

/-- A REG_READ of words that something refuses. -/
theorem regRead_refused {s : State} {r : Req} {x : Rsp} (hready : Ready s 0x0002 r) (hlo : 1 ≤ u16 r.payload 4) (hhi : u16 r.payload 4 ≤ 1023)
    (h : s.rangeRefusal (u32 r.payload 0) (u16 r.payload 4) = some x) : Does (.regRead r) 0x0002 r s fun u => (u, x) := by
  refine (hready.run ?_ : execRegRead r s = _)
  have hcount : ¬ (u16 r.payload 4 < 1 ∨ 1023 < u16 r.payload 4) := by omega
  have htake : (s.takeReq 0x0002 r).rangeRefusal (u32 r.payload 0) (u16 r.payload 4) = some x := h
  simp only [if_neg hcount, htake]

/-- A register off in the role is in the map. -/
theorem State.regRow_isSome_of_regOff {s : State} {a : Nat} (h : s.regOff a = true) : (regRow a).isSome = true := by
  cases hrow : regRow a with
  | none => simp [State.regOff, hrow] at h
  | some x => rfl

/-- A REG_WRITE whose first word is refused before its value is looked at. -/
theorem regWrite_first {s : State} {r : Req} {x : Rsp} (hready : Ready s 0x0003 r) (halign : u32 r.payload 0 % 4 = 0) (hlen : 8 ≤ r.payload.length)
    (h : ∀ w, (s.takeReq 0x0003 r).writeWord r (u32 r.payload 0) 0 w = (s.takeReq 0x0003 r, some x)) :
    Does (.regWrite r) 0x0003 r s fun u => (u, x) := by
  refine exec_regWrite_firstRefused hready halign ?_
  have hwords : words32 (r.payload.drop 4) ≠ [] := by
    have hlen32 := words32_length (r.payload.drop 4)
    rw [List.length_drop] at hlen32
    intro hnil
    rw [hnil, List.length_nil] at hlen32
    omega
  obtain ⟨w, ws, hcons⟩ := List.exists_cons_of_ne_nil hwords
  simp only [hcons, State.firstRefused, h]

/-- The first word of a REG_WRITE at an address without a register. -/
theorem State.writeWord_noRow {s : State} {r : Req} {a : Nat} (w : Word) (hbox : a / 2 ^ 20 ≠ 0xE) (h : regRow a = none) :
    s.writeWord r a 0 w = (s, some (rspErr stBadAddress)) := by
  simp only [State.writeWord, Nat.mul_zero, Nat.add_zero, if_neg hbox, h, Option.isNone_none, if_true]

/-- The first word of a REG_WRITE at a register off in the role. -/
theorem State.writeWord_off {s : State} {r : Req} {a : Nat} (w : Word) (hbox : a / 2 ^ 20 ≠ 0xE) (h : s.regOff a = true) :
    s.writeWord r a 0 w = (s, some (rspErr stUnsupportedRole)) := by
  have hrow : ¬ (regRow a).isNone = true := by simp [Option.isNone_eq_false_iff.mpr (State.regRow_isSome_of_regOff h)]
  simp only [State.writeWord, Nat.mul_zero, Nat.add_zero, if_neg hbox, if_neg hrow, h, true_or, if_true]

/-- Settles O17: the checks of a range, of a REG_WRITE's first word, and of a BAR0 write, each before a value is looked at. -/
theorem registersOutOfReach : Obligations.RegistersOutOfReach := by
  refine ⟨fun s r hready hlo hhi halign => regRead_refused hready hlo hhi (s.rangeRefusal_unaligned _ halign),
    fun s r k hready hhi halign hk hbelow => ⟨fun hnone => ?_, fun hoff => ?_⟩, fun s r hready halign => ?_,
    fun s r hready halign hlen hbox => ⟨fun hnone => ?_, fun hoff => ?_⟩, fun s a be data halive ha hout => ?_⟩
  · refine regRead_refused hready (by omega) hhi ?_
    rw [State.rangeRefusal_first halign hk hbelow (.inl hnone), hnone]
    rfl
  · refine regRead_refused hready (by omega) hhi ?_
    rw [State.rangeRefusal_first halign hk hbelow (.inr hoff), Option.isNone_eq_false_iff.mpr (State.regRow_isSome_of_regOff hoff)]
    exact congrArg some (if_neg (by simp))
  · refine (runReqLater_now hready ?_ : execRegWrite r s = _)
    simp only [ne_eq, halign, not_false_eq_true, if_true]
  · exact regWrite_first hready halign hlen fun w => State.writeWord_noRow w hbox hnone
  · exact regWrite_first hready halign hlen fun w => State.writeWord_off w hbox hoff
  · have hrun : ¬ ((!s.alive) = true ∨ 0x01000000 ≤ a / 4 * 4) := by simp [halive]; omega
    have hbelow : ¬ 0x00E00000 ≤ a / 4 * 4 := by omega
    have hsilent : (regRow (a / 4 * 4)).isNone = true ∨ s.regOff (a / 4 * 4) = true := hout.imp_left fun h => by rw [h]; rfl
    simp only [exec, execRegisterWrite, if_neg hrun, if_neg hbelow, if_pos hsilent]

/-! ### The records of a store (R450) -/

/-- A field inside what follows a part of a known length. -/
theorem fieldAt_append_right (x y : List Byte) (o n : Nat) : fieldAt (x ++ y) (x.length + o) n = fieldAt y o n := by
  simp [fieldAt, slice, List.drop_append, List.drop_eq_nil_of_le]

/-- A field inside the first part of a string. -/
theorem fieldAt_append_left {x y : List Byte} {o n : Nat} (h : o + n ≤ x.length) : fieldAt (x ++ y) o n = fieldAt x o n := by
  rw [fieldAt, fieldAt, slice, slice, List.drop_append_of_le_length (by omega), List.take_append_of_le_length (by simp; omega)]

/-- A field that is the whole of what was written. -/
theorem fieldAt_beBytes (n v : Nat) : fieldAt (beBytes n v) 0 n = v % 256 ^ n := by
  rw [fieldAt, slice, List.drop_zero, List.take_of_length_le (by simp), beNat_beBytes]

theorem crc32cBit_lt {c : Nat} (h : c < 2 ^ 32) : crc32cBit c < 2 ^ 32 := by
  unfold crc32cBit
  split
  · exact Nat.xor_lt_two_pow (by omega) (by norm_num)
  · omega

theorem crc32cByte_lt {c : Nat} (h : c < 2 ^ 32) (b : Byte) : crc32cByte c b < 2 ^ 32 := by
  have hiter : ∀ n x, x < 2 ^ 32 → iter n crc32cBit x < 2 ^ 32 := by
    intro n
    induction n with
    | zero => exact fun _ hx => hx
    | succ n ih => exact fun x hx => ih _ (crc32cBit_lt hx)
  exact hiter 8 _ (Nat.xor_lt_two_pow h (lt_trans b.isLt (by norm_num)))

/-- A CRC-32C is a word. -/
theorem crc32c_lt (bs : List Byte) : crc32c bs < 2 ^ 32 := by
  have hfold : ∀ (l : List Byte) x, x < 2 ^ 32 → l.foldl crc32cByte x < 2 ^ 32 := by
    intro l
    induction l with
    | nil => exact fun _ hx => hx
    | cons b l ih => exact fun x hx => ih _ (crc32cByte_lt hx b)
  exact Nat.xor_lt_two_pow (hfold bs _ (by norm_num)) (by norm_num)

/-- SEQ and DCRC of a record's header. -/
theorem recHeader_fields (store seq : Nat) (d : List Byte) :
    u64 (recHeader store seq d) 8 = seq % 2 ^ 64 ∧ u32 (recHeader store seq d) 20 = crc32c d := by
  have hseq : u64 (recHeader store seq d) 8 = u64 (b8 seq ++ (b4 d.length ++ (b4 (crc32c d) ++ zeros 8))) 0 := by
    have h1 := fieldAt_append_right (b4 0x4A524E4C) (b1 store ++ (zeros 3 ++ (b8 seq ++ (b4 d.length ++ (b4 (crc32c d) ++ zeros 8))))) 4 8
    have h2 := fieldAt_append_right (b1 store) (zeros 3 ++ (b8 seq ++ (b4 d.length ++ (b4 (crc32c d) ++ zeros 8)))) 3 8
    have h3 := fieldAt_append_right (zeros 3) (b8 seq ++ (b4 d.length ++ (b4 (crc32c d) ++ zeros 8))) 0 8
    exact h1.trans (h2.trans h3)
  have hcrc : u32 (recHeader store seq d) 20 = u32 (b4 (crc32c d) ++ zeros 8) 0 := by
    have h1 := fieldAt_append_right (b4 0x4A524E4C) (b1 store ++ (zeros 3 ++ (b8 seq ++ (b4 d.length ++ (b4 (crc32c d) ++ zeros 8))))) 16 4
    have h2 := fieldAt_append_right (b1 store) (zeros 3 ++ (b8 seq ++ (b4 d.length ++ (b4 (crc32c d) ++ zeros 8)))) 15 4
    have h3 := fieldAt_append_right (zeros 3) (b8 seq ++ (b4 d.length ++ (b4 (crc32c d) ++ zeros 8))) 12 4
    have h4 := fieldAt_append_right (b8 seq) (b4 d.length ++ (b4 (crc32c d) ++ zeros 8)) 4 4
    have h5 := fieldAt_append_right (b4 d.length) (b4 (crc32c d) ++ zeros 8) 0 4
    exact h1.trans (h2.trans (h3.trans (h4.trans h5)))
  rw [hseq, hcrc]
  refine ⟨?_, ?_⟩
  · exact (fieldAt_append_left (by simp)).trans (fieldAt_beBytes 8 seq)
  · exact ((fieldAt_append_left (by simp)).trans (fieldAt_beBytes 4 _)).trans (Nat.mod_eq_of_lt (crc32c_lt d))

/-- The three fields of a commit marker. -/
theorem recMarker_fields (seq : Nat) (h : List Byte) :
    u32 (recMarker seq h) 0 = 0x434F4D54 ∧ u32 (recMarker seq h) 4 = seq % 2 ^ 32 ∧ u32 (recMarker seq h) 8 = crc32c h := by
  refine ⟨?_, ?_, ?_⟩
  · exact (fieldAt_append_left (by simp)).trans (fieldAt_beBytes 4 _)
  · have h1 := fieldAt_append_right (b4 0x434F4D54) (b4 (seq % 2 ^ 32) ++ (b4 (crc32c h) ++ zeros 4)) 0 4
    exact h1.trans ((fieldAt_append_left (by simp)).trans ((fieldAt_beBytes 4 _).trans (Nat.mod_mod _ _)))
  · have h1 := fieldAt_append_right (b4 0x434F4D54) (b4 (seq % 2 ^ 32) ++ (b4 (crc32c h) ++ zeros 4)) 4 4
    have h2 := fieldAt_append_right (b4 (seq % 2 ^ 32)) (b4 (crc32c h) ++ zeros 4) 0 4
    exact h1.trans (h2.trans (((fieldAt_append_left (by simp)).trans (fieldAt_beBytes 4 _)).trans (Nat.mod_eq_of_lt (crc32c_lt h))))

/-- A record exists where its marker was written, and only there: an erased marker spells another word. -/
theorem FlashRec.stands (r : FlashRec) (hseq : r.seq < 2 ^ 64) : recStands r.header r.bytes r.marker = r.marked := by
  obtain ⟨hnum, hdcrc⟩ := recHeader_fields r.data.store r.seq r.bytes
  rw [Nat.mod_eq_of_lt hseq] at hnum
  cases hmarked : r.marked with
  | true =>
    obtain ⟨hmagic, hlow, hcrc⟩ := recMarker_fields r.seq r.header
    rw [← FlashRec.header] at hnum hdcrc
    simp only [recStands, FlashRec.marker, hmarked, if_true, hmagic, hlow, hcrc, hnum, hdcrc, beq_self_eq_true, Bool.and_self]
  | false =>
    have herased : u32 (List.replicate 16 0xFF) 0 ≠ 0x434F4D54 := by decide
    simp only [recStands, FlashRec.marker, hmarked, Bool.false_eq_true, if_false, beq_eq_false_iff_ne.mpr herased, Bool.false_and]

/-- The half that is erased is not the one of the newest existing record. -/
theorem nextHalf_ne {j : List FlashRec} {r : FlashRec} (h : newestRec j = some r) : r.half ≠ nextHalf j := by
  simp only [nextHalf, h]
  omega

/-- An erase of the next half leaves the newest existing record. -/
theorem newestRec_filter (j : List FlashRec) : newestRec (j.filter (fun r => r.half != nextHalf j)) = newestRec j := by
  have hne := fun r => @nextHalf_ne j r
  revert hne
  generalize nextHalf j = n
  intro hne
  induction j with
  | nil => rfl
  | cons x j ih =>
    by_cases hmarked : x.marked = true
    · have hx : newestRec (x :: j) = some x := by simp [newestRec, hmarked]
      have hkeep : (x.half != n) = true := by simpa using hne x hx
      rw [hx]
      simp [newestRec, hkeep, hmarked]
    · have hskip : newestRec (x :: j) = newestRec j := by simp [newestRec, hmarked]
      rw [hskip] at hne ⊢
      rw [← ih hne, List.filter_cons]
      split
      · simp [newestRec, hmarked]
      · rfl

/-- The newest existing record after one more: that one, if it is marked. -/
theorem newestRec_appendRec (j : List FlashRec) (d : StoreData) (marked : Bool) :
    (newestRec (appendRec j d marked)).map (·.data) = if marked then some d else (newestRec j).map (·.data) := by
  cases marked with
  | true => rfl
  | false =>
    have hrest : newestRec (appendRec j d false) = newestRec (if fitsHalf j d then j else j.filter (fun r => r.half != nextHalf j)) := rfl
    rw [hrest]
    split
    · rfl
    · rw [newestRec_filter]; rfl

/-- The journal of a store after one is replaced. -/
theorem State.journal_setJournal (s : State) (store k : Nat) (j : List FlashRec) (hlen : store - 1 < s.flash.journals.length) :
    (s.setJournal store j).journal k = if k - 1 = store - 1 then j else s.journal k := by
  simp only [State.journal, State.setJournal, List.getD_eq_getElem?_getD]
  by_cases h : k - 1 = store - 1
  · simp [h, hlen]
  · rw [if_neg h, List.getElem?_set_ne (Ne.symm h)]

theorem StoreData.store_range (d : StoreData) : 1 ≤ d.store ∧ d.store ≤ 5 := by
  cases d <;> simp [StoreData.store]

/-- The erase-intent journal's own halves are less than a sector, so its erases leave no intents (log entry 43). -/
theorem halfSectors_intents (h : Nat) : halfSectors 5 h = [] := rfl

/-- The journals after a record: its own store's has it, and of the others the erase-intent journal alone may grow. -/
theorem State.putRecord_journal (s : State) (d : StoreData) (marked : Bool) (hlen : s.flash.journals.length = 5) :
    (s.putRecord d marked).journal d.store = appendRec (s.journal d.store) d marked ∧
    ∀ k, 1 ≤ k → k ≤ 4 → k ≠ d.store → (s.putRecord d marked).journal k = s.journal k := by
  obtain ⟨hlo, hhi⟩ := d.store_range
  unfold State.putRecord
  extract_lets j t
  have ht : ∀ k, t.journal k = if k - 1 = d.store - 1 then appendRec j d marked else s.journal k := fun k =>
    State.journal_setJournal s d.store k _ (by omega)
  have htlen : t.flash.journals.length = 5 := by
    rw [← hlen]
    exact List.length_set
  refine ⟨?_, fun k hk1 hk4 hkd => ?_⟩
  · rw [State.journal_setJournal t 5 _ _ (by omega)]
    split
    · next h =>
      obtain h5 : d.store = 5 := by omega
      have hown : t.journal 5 = appendRec j d marked := by rw [ht, if_pos (by omega)]
      rw [h5, halfSectors_intents, hown, ← h5]
      exact ite_self _
    · rw [ht, if_pos rfl]
  · rw [State.journal_setJournal t 5 _ _ (by omega), if_neg (by omega), ht, if_neg (by omega)]

/-- What the three stores that a reset opens hold, where each holds its own kind of record. -/
theorem State.openStores_content {s : State} (hkind : ∀ k d, 1 ≤ k → s.storeContent k = some d → d.store = k) :
    (∀ ks, s.storeContent 2 = some (.keys ks) → s.openStores.ks = ks) ∧
    (∀ a b c, s.storeContent 1 = some (.pointer a b c) →
      s.openStores.flash.active = a ∧ s.openStores.flash.trial = b ∧ s.openStores.flash.left = c) ∧
    ∀ x, s.storeContent 3 = some (.settings x) → s.openStores.flash.schema = x := by
  have h2 : ∀ (u : State) o, (∀ d, o = some d → d.store = 2) → (u.openStore o).flash = u.flash := by
    intro u o h
    unfold State.openStore
    split <;> first | rfl | exact absurd (h _ rfl) (by simp [StoreData.store])
  have h3 : ∀ (u : State) o, (∀ d, o = some d → d.store = 3) → (u.openStore o).ks = u.ks ∧ (u.openStore o).flash.active = u.flash.active ∧
      (u.openStore o).flash.trial = u.flash.trial ∧ (u.openStore o).flash.left = u.flash.left := by
    intro u o h
    unfold State.openStore
    split <;> first | exact ⟨rfl, rfl, rfl, rfl⟩ | exact absurd (h _ rfl) (by simp [StoreData.store])
  have hkeys := fun u => h2 u _ (fun d => hkind 2 d (by omega))
  have hset := fun u => h3 u _ (fun d => hkind 3 d (by omega))
  refine ⟨fun ks h => ?_, fun a b c h => ?_, fun x h => ?_⟩
  · obtain ⟨hks, -⟩ := hset ((s.openStore (s.storeContent 1)).openStore (s.storeContent 2))
    rw [State.openStores, hks, h]
    rfl
  · obtain ⟨-, ha, hb, hc⟩ := hset ((s.openStore (s.storeContent 1)).openStore (s.storeContent 2))
    rw [State.openStores, ha, hb, hc, hkeys, h]
    exact ⟨rfl, rfl, rfl⟩
  · rw [State.openStores, h]
    rfl

/-- Settles O51: an erase never takes the half of the newest existing record, and a reset opens the three stores. -/
theorem theLastExistingRecordStands : Obligations.TheLastExistingRecordStands := by
  refine ⟨fun r h => r.stands h, fun s d marked hlen => ?_, fun s cold cause hkind => State.openStores_content hkind⟩
  obtain ⟨hown, hother⟩ := s.putRecord_journal d marked hlen
  refine ⟨?_, hother⟩
  rw [State.storeContent, hown]
  exact newestRec_appendRec _ d marked

/-! ### The supply class of the island (R513) -/

theorem metTrip_range : 2870 ≤ metTrip true ∧ metTrip true ≤ 2930 ∧ 1660 ≤ metTrip false ∧ metTrip false ≤ 1700 := by
  simp only [metTrip, clampInt, Bool.false_eq_true, if_true, if_false]
  omega

/-- May the island start: at its threshold, raised by the hysteresis after a power fail. -/
theorem MetS.mayStart_iff (m : MetS) (mv : Nat) :
    m.mayStart mv = true ↔ metTrip (decide (2500 ≤ mv)) + (if m.low then (if 2500 ≤ mv then 100 else 60) else 0) ≤ mv := by
  simp only [MetS.mayStart, metHyst, decide_eq_true_eq]

/-- The island's record of a seal, and the image that it swaps in, leave what a start sets. -/
theorem MetS.swap_noteSeal_kept (m : MetS) : (m.swapFw.noteSeal).run = m.run ∧ (m.swapFw.noteSeal).cls33 = m.cls33 ∧
    (m.swapFw.noteSeal).vdd = m.vdd ∧ (m.swapFw.noteSeal).low = m.low := by
  have hswap : m.swapFw.run = m.run ∧ m.swapFw.cls33 = m.cls33 ∧ m.swapFw.vdd = m.vdd ∧ m.swapFw.low = m.low := by
    unfold MetS.swapFw
    split <;> exact ⟨rfl, rfl, rfl, rfl⟩
  have hnote : ∀ x : MetS, x.noteSeal.run = x.run ∧ x.noteSeal.cls33 = x.cls33 ∧ x.noteSeal.vdd = x.vdd ∧ x.noteSeal.low = x.low := by
    intro x
    unfold MetS.noteSeal
    split <;> exact ⟨rfl, rfl, rfl, rfl⟩
  obtain ⟨h1, h2, h3, h4⟩ := hnote m.swapFw
  obtain ⟨k1, k2, k3, k4⟩ := hswap
  exact ⟨h1.trans k1, h2.trans k2, h3.trans k3, h4.trans k4⟩

/-- A stopped island does not run, whatever it did before, and keeps class and voltage. -/
theorem MetS.stop_kept (m : MetS) : m.stop.run = false ∧ m.stop.cls33 = m.cls33 ∧ m.stop.vdd = m.vdd := by
  unfold MetS.stop
  split
  · next h => exact ⟨by simpa using h, rfl, rfl⟩
  · exact ⟨rfl, rfl, rfl⟩

/-- Settles O50: the start's guard and the stop's, at their thresholds. -/
theorem supplyClassAndThreshold : Obligations.SupplyClassAndThreshold := by
  refine ⟨metTrip_range, fun s watchdog mv hrun => ⟨fun hup => ?_, fun hdown => ?_⟩, fun s mv => ?_⟩
  · have hstart : MetS.mayStart { s.met with vdd := mv } mv = true := (MetS.mayStart_iff _ mv).mpr hup
    have hdog : ¬ ((MetS.run { s.met with vdd := mv } != watchdog) = true) := by simp [hrun]
    refine ⟨_, by simp only [exec, execIslandStart, if_neg hdog, hstart, Bool.not_true, Bool.false_eq_true, if_false]; rfl, ?_⟩
    exact MetS.swap_noteSeal_kept _
  · have hstart : ¬ (MetS.mayStart { s.met with vdd := mv } mv = true) := fun h => absurd ((MetS.mayStart_iff _ mv).mp h) (by simpa using hdown)
    have hdog : ¬ ((MetS.run { s.met with vdd := mv } != watchdog) = true) := by simp [hrun]
    simp only [exec, execIslandStart, if_neg hdog, Bool.not_eq_true] at hstart ⊢
    simp only [hstart, Bool.not_false, if_true]
  · refine ⟨_, rfl, ?_⟩
    obtain ⟨hstop, hcls, hvdd⟩ := MetS.stop_kept { s.met with vdd := mv }
    by_cases hlow : mv < metTrip s.met.cls33
    · rw [if_pos hlow]
      exact ⟨hvdd, hcls, fun _ => ⟨hstop, rfl⟩, fun h => absurd h (by omega)⟩
    · rw [if_neg hlow]
      exact ⟨rfl, rfl, fun h => absurd h hlow, fun _ => rfl⟩

end Sys2Proof.Machine
end

section
/-! PROOFS. The general commands (R17 to R24, R154, R474, R477, R539): each runs on the state in which its request has left the list of those that
wait, which differs from the one it finds in that list alone. -/

namespace Sys2Proof.Machine

/-! ### What a request that runs sees -/

section
variable (s : State) (code : Nat) (r : Req)

@[simp] theorem State.reg_takeReq (a : Nat) : (s.takeReq code r).reg a = s.reg a := rfl
@[simp] theorem State.fld_takeReq (a hi lo : Nat) : (s.takeReq code r).fld a hi lo = s.fld a hi lo := rfl
@[simp] theorem State.bit_takeReq (a i : Nat) : (s.takeReq code r).bit a i = s.bit a i := rfl
@[simp] theorem State.isLead_takeReq : (s.takeReq code r).isLead = s.isLead := rfl
@[simp] theorem State.isTile_takeReq : (s.takeReq code r).isTile = s.isTile := rfl
@[simp] theorem State.inertCause_takeReq : (s.takeReq code r).inertCause = s.inertCause := rfl
@[simp] theorem State.sleepAt_takeReq (c : Nat) : (s.takeReq code r).sleepAt c = s.sleepAt c := rfl
@[simp] theorem State.dwellEnd_takeReq (c : Nat) : (s.takeReq code r).dwellEnd c = s.dwellEnd c := rfl
@[simp] theorem State.now_takeReq : (s.takeReq code r).now = s.now := rfl
@[simp] theorem State.actDom_takeReq : (s.takeReq code r).actDom = s.actDom := rfl
@[simp] theorem State.derived_takeReq : (s.takeReq code r).derived = s.derived := rfl
@[simp] theorem State.derivedNow_takeReq : (s.takeReq code r).derivedNow = s.derivedNow := rfl
@[simp] theorem State.rangeRefusal_takeReq (a n : Nat) : (s.takeReq code r).rangeRefusal a n = s.rangeRefusal a n := rfl

end

/-- A request that is ready and answered at once, and what holds of its effect and its answer. -/
theorem Ready.run_with {code : Nat} {r : Req} {s : State} {f : State → State × Rsp} {g : State × Rsp} {P : State → Rsp → Prop} (h : Ready s code r)
    (e : f (s.takeReq code r) = g) (hg : P g.1 g.2) :
    ∃ u a, runReq code r s f = .next ((s.takeReq code r).answer u code r a) ∧ P u a :=
  ⟨g.1, g.2, h.run e, hg⟩

/-! ### GET_INFO -/

/-- The slot that GET_INFO reports: the one that runs, else a free value. -/
def State.infoSlot (s : State) : State × Nat :=
  if s.sec.running = some 0 then (s, 0) else if s.sec.running = some 1 then (s, 1) else (s.freeNext, s.freeVal)

/-- The address that GET_INFO reports. -/
def State.infoAddr (s : State) : Nat := if s.isLead then 0x8000 + leadAddr s.leadNum else bn s.net.valid * 0x8000 + s.net.addr % 4096

/-- The 40 bytes of GET_INFO. -/
def State.infoBytes (s : State) (slot : Nat) : List Byte :=
  b4 0x947200A1 ++ b1 (s.pwr.roleStrap % 4) ++ zeros 1 ++ b2 s.infoAddr ++ unitIdBytes ++ b4 s.leadEpoch ++ b4 (s.imgSlot 0).version ++
    b4 (s.imgSlot 1).version ++ b1 slot ++ zeros 3

theorem exec_getInfo (r : Req) (s : State) : exec (.getInfo r) s = runReq 0x0001 r s fun u => (u.infoSlot.1, rspOk (u.infoBytes u.infoSlot.2)) := by
  simp only [exec, execGetInfo, State.infoBytes, State.infoAddr, State.infoSlot]

/-- Where a slot runs, GET_INFO reports it; else it takes one free value. -/
theorem State.infoSlot_keeps (s : State) : Keeps [.free] [] s s.infoSlot.1 := by
  have hfree : Keeps [.free] [] s s.freeNext := ⟨fun q h => by cases q <;> first | rfl | simp at h, fun _ _ => rfl⟩
  unfold State.infoSlot
  split
  · exact Keeps.refl _ _ s
  · split
    · exact Keeps.refl _ _ s
    · exact hfree

theorem State.infoSlot_running {s : State} {k : Nat} (h : s.sec.running = some k) (hk : k < 2) : s.infoSlot.2 = k := by
  obtain rfl | rfl : k = 0 ∨ k = 1 := by omega
  · simp [State.infoSlot, h]
  · simp [State.infoSlot, h]

/-! ### The commands -/

/-- WARM_RESET whose request is ready answers, sends what the answer queued, and resets (R474). -/
theorem Ready.exec_warmReset {s : State} {r : Req} (h : Ready s 0x0008 r) : exec (.warmReset r) s =
    .next (((((s.takeReq 0x0008 r).answer (s.takeReq 0x0008 r) 0x0008 r rspOk).flushCells
      (((s.takeReq 0x0008 r).answer (s.takeReq 0x0008 r) 0x0008 r rspOk).net.tx.drop (s.takeReq 0x0008 r).net.tx.length)).mainReset false 4).boot
        false false) := by
  have hcourse := runReqLater_later h (f := fun s => (s, none)) rfl
  obtain ⟨o, ho, halive, hwaits, hstray, hpre⟩ := h
  simp only [exec, execWarmReset, hcourse, ho, halive, hwaits, State.strayNearest_takeReq, hstray, State.preRefusal_takeReq, hpre, Bool.not_false,
    Bool.and_self, Option.isNone_none, if_true, State.warmReset]

/-- An arming identifier finds its role. -/
theorem armIds_find {id role : Nat} (h : (id, role) ∈ armIds) : armIds.find? (fun x => x.1 == id) = some (id, role) := by
  have hall : ∀ x ∈ armIds, armIds.find? (fun y => y.1 == x.1) = some x := by decide
  exact hall _ h

/-- Settles O27: each command's course is read off its definition. -/
theorem generalCommandsComplete : Obligations.GeneralCommandsComplete := by
  refine ⟨?nop, ?getInfo, ?regRead, ?halt, ?resume, ?resumeLapsed, ?arm, ?coreRestart, ?warmReset, ?credStatus⟩
  case nop => exact fun s r h => (h.run rfl : execNop r s = _)
  case getInfo =>
    intro s r h
    rw [Answers, exec_getInfo]
    refine h.run_with rfl ⟨?_, rfl, rfl, rfl, ?_, rfl, rfl, fun k hk hlt => ?_⟩
    · exact ((s.takeReq_keeps 0x0001 r).mono (by simp) (by simp)).trans ((State.infoSlot_keeps _).mono (by simp) (by simp))
    · rfl
    · have hslot : (s.takeReq 0x0001 r).infoSlot.2 = k := State.infoSlot_running hk hlt
      rw [hslot]
      rfl
  case regRead =>
    intro s r h hlo hhi hrange
    have hcount : ¬ (u16 r.payload 4 < 1 ∨ 1023 < u16 r.payload 4) := by omega
    refine (h.run ?_ : execRegRead r s = _)
    simp only [if_neg hcount, State.rangeRefusal_takeReq, hrange]
  case halt => exact fun s r h => (h.run rfl : execHalt r s = _)
  case resume =>
    intro s r h hinert hsafe hcause hlapsed
    have hfree : ¬ (s.pwr.haltSafety && !r.isSafety) = true := by simpa using hsafe
    have hstays : ¬ (s.isLead && s.pai.state == .lapsed) = true := by simpa using hlapsed
    refine (h.run ?_ : execResume r s = _)
    simp [hinert, hfree, hcause, hstays]
  case resumeLapsed =>
    intro s r h hinert hsafe hcause hlead hlapsed
    have hfree : ¬ (s.pwr.haltSafety && !r.isSafety) = true := by simpa using hsafe
    refine (h.run ?_ : execResume r s = _)
    simp [hinert, hfree, hcause, hlead, hlapsed]
  case arm =>
    intro s r role h hid hlead htile
    have hrole : ¬ ((role = 1 ∧ (!s.isLead) = true) ∨ (role = 2 ∧ s.isLead = true)) := by
      rintro (⟨h1, hn⟩ | ⟨h2, hn⟩)
      · simp [hlead h1] at hn
      · simp [htile h2] at hn
    refine ⟨fun hon => ?_, fun hoff hrelay => ?_, fun hoff hrelay => ?_⟩
    all_goals
      refine (h.run ?_ : execArm r s = _)
      simp only [armIds_find hid, State.isLead_takeReq, if_neg hrole]
    · simp [hon]
    · simp [hoff, hrelay]
    · simp [hoff, hrelay]
  case coreRestart =>
    intro s r h hk hst
    have hcore : ¬ 1 < u8 r.payload 0 := by omega
    refine (h.run ?_ : execCoreRestart r s = _)
    simp only [if_neg hcore, State.takeReq_pwr, hst, ne_eq, not_true_eq_false, if_false, State.setCore]
  case warmReset => exact fun s r h => h.exec_warmReset
  case credStatus => exact fun s r h => (h.run rfl : execCredStatus r s = _)

end Sys2Proof.Machine
end

section
/-! PROOFS. The rows of the event unit (R79 to R84, R541 to R543). -/

namespace Sys2Proof.Machine

/-- Bit 0 of a word under a mask that has it. -/
theorem testBit_zero_and {x m : Word} (h : x.toNat.testBit 0 = true) (hm : m.toNat.testBit 0 = true) : (x &&& m).toNat.testBit 0 = true := by
  rw [BitVec.toNat_and, Nat.testBit_and, h, hm, Bool.and_self]

/-! ### The event ring -/

/-- A write of EVT_RING_CFG that turns the ring on empties it (R543). -/
theorem State.writeEvtRingCfg_on {s : State} {cfg : Word} (hon : cfg.toNat.testBit 0 = true)
    (hlo : 6 ≤ bitsOf (cfg &&& 0x003F1F01#32).toNat 12 8) (hhi : bitsOf (cfg &&& 0x003F1F01#32).toNat 12 8 ≤ 16)
    (hoff : (s.reg Reg.evtRingCfg).toNat.testBit 0 = false) :
    s.writeEvtRingCfg cfg = ({ s with evt := { s.evt with ringTail := 0, ringHead := 0 } }).setReg Reg.evtRingCfg
      ((cfg &&& 0x003F1F01#32) ||| (if cfg.toNat.testBit 1 then 0#32 else s.reg Reg.evtRingCfg &&& 2#32)) := by
  have hset : (cfg &&& 0x003F1F01#32).toNat.testBit 0 = true := testBit_zero_and hon (by decide)
  simp only [State.writeEvtRingCfg, hset, if_pos (And.intro hlo hhi), hoff, if_true, Bool.false_eq_true, if_false]
  rfl

/-- The host's read pointer of the event ring; one outside the ring raises EV_23 (R76). -/
theorem State.setEvtHead_eq (s : State) (v : Nat) :
    s.setEvtHead v = if v < s.evtRingSize then { s with evt := { s.evt with ringHead := v } } else s.raise 23 3 16 := by
  by_cases h : v < s.evtRingSize
  · exact (if_neg (Nat.not_le.mpr h)).trans (if_pos h).symm
  · exact (if_pos (Nat.not_lt.mp h)).trans (if_neg h).symm

/-- With nothing lost, no EV_24 follows the records. -/
theorem State.reportLost_none {s : State} (h : s.evt.lost = 0) : s.reportLost = s := by
  simp [State.reportLost, h]

/-- The ring's write of one record, or of a group event's two, in a lead whose ring is on (R84). -/
theorem eventRingWrite_course {s : State} (hlead : s.isLead = true) (halive : s.alive = true) (hd0 : s.pwr.d3hot = false)
    (hon : s.bit Reg.evtRingCfg 0 = true) (hlost : s.evt.lost = 0) :
    (∀ r rest, s.evt.heldRecs = r :: rest → (∀ b l, rest = b :: l → b.bitmap = none) → 1 ≤ s.ringFree → exec .eventRingWrite s = .next { s with
      evt := { s.evt with heldRecs := rest, ringTail := (s.evt.ringTail + 1) % s.evtRingSize },
      out := s.out ++ [.hostWrite (s.evtBase + 32 * s.evt.ringTail) r.bytes, .msix (s.fld Reg.evtRingCfg 21 16)] }) ∧
    (∀ r b rest, s.evt.heldRecs = r :: b :: rest → b.bitmap.isSome = true → 2 ≤ s.ringFree → exec .eventRingWrite s = .next { s with
      evt := { s.evt with heldRecs := rest, ringTail := ((s.evt.ringTail + 1) % s.evtRingSize + 1) % s.evtRingSize },
      out := s.out ++ [.hostWrite (s.evtBase + 32 * s.evt.ringTail) r.bytes,
        .hostWrite (s.evtBase + 32 * ((s.evt.ringTail + 1) % s.evtRingSize)) b.bytes, .msix (s.fld Reg.evtRingCfg 21 16)] }) := by
  have hrun : ¬ (!s.isLead || !s.alive) = true := by simp [hlead, halive]
  have hring : ¬ (!s.bit Reg.evtRingCfg 0) = true := by simp [hon]
  refine ⟨fun r rest hheld hsingle hfree => ?_, fun r b rest hheld hgroup hfree => ?_⟩
  · cases rest with
    | nil =>
      simp only [exec, execEventRingWrite, if_neg hrun, hd0, Bool.false_eq_true, if_false, if_neg hring, hheld, if_pos hfree]
      rw [State.reportLost_none (by exact hlost)]
      simp only [State.emit, State.putRing, List.append_assoc]
      rfl
    | cons b l =>
      simp only [exec, execEventRingWrite, if_neg hrun, hd0, Bool.false_eq_true, if_false, if_neg hring, hheld, hsingle b l rfl,
        Option.isSome_none, if_pos hfree]
      rw [State.reportLost_none (by exact hlost)]
      simp only [State.emit, State.putRing, List.append_assoc]
      rfl
  · simp only [exec, execEventRingWrite, if_neg hrun, hd0, Bool.false_eq_true, if_false, if_neg hring, hheld, hgroup, if_true, if_pos hfree]
    rw [State.reportLost_none (by exact hlost)]
    simp only [State.emit, State.putRing, List.append_assoc]
    rfl

/-! ### EVT_CONFIG -/

/-- The masks after they are written one after the other. -/
theorem State.writeMasks_reg (s : State) (k : Nat) (ws : List Word) (j : Nat) :
    (s.writeMasks k ws).reg (Reg.evtMask + 4 * j) = if k ≤ j then ws.getD (j - k) (s.reg (Reg.evtMask + 4 * j)) else s.reg (Reg.evtMask + 4 * j) := by
  induction ws generalizing s k with
  | nil => simp [State.writeMasks]
  | cons w ws ih =>
    rw [State.writeMasks, ih, State.reg_setReg]
    have haddr : Reg.evtMask + 4 * j = Reg.evtMask + 4 * k ↔ j = k := by omega
    rcases Nat.lt_trichotomy j k with hlt | rfl | hgt
    · simp [show ¬ k + 1 ≤ j by omega, show ¬ k ≤ j by omega, show j ≠ k by omega]
    · simp
    · rw [if_pos (show k + 1 ≤ j by omega), if_pos hgt.le, if_neg (by omega), show j - k = j - (k + 1) + 1 by omega, List.getD_cons_succ]

theorem State.writeMasks_keeps (s : State) (k : Nat) (ws : List Word) :
    Keeps [] ((List.range (k + ws.length)).map (fun j => Reg.evtMask + 4 * j)) s (s.writeMasks k ws) := by
  induction ws generalizing s k with
  | nil => exact Keeps.refl _ _ s
  | cons w ws ih =>
    rw [State.writeMasks, List.length_cons, show k + (ws.length + 1) = k + 1 + ws.length by omega]
    refine ((s.setReg_keeps _ w).mono (List.Subset.refl _) ?_).trans (ih _ (k + 1))
    exact List.cons_subset.mpr ⟨List.mem_map.mpr ⟨k, List.mem_range.mpr (by omega), rfl⟩, List.nil_subset _⟩

/-- What EVT_CONFIG stores in EVT_CFG: a tile's MERGE_EN stays 1. -/
def evtCfgWord (lead : Bool) (c : Nat) : Nat := if lead then bitsOf c 12 0 else setBits (bitsOf c 12 0) 7 7 1

theorem evtCfgWord_fields (lead : Bool) (c : Nat) : bitsOf (BitVec.ofNat 32 (evtCfgWord lead c)).toNat 12 8 = bitsOf c 12 8 ∧
    bitsOf (BitVec.ofNat 32 (evtCfgWord lead c)).toNat 6 0 = bitsOf c 6 0 ∧
    (BitVec.ofNat 32 (evtCfgWord lead c)).toNat.testBit 7 = (if lead then c.testBit 7 else true) := by
  cases lead <;>
    simp only [evtCfgWord, setBits, bitsOf, BitVec.toNat_ofNat, Nat.testBit_eq_decide_div_mod_eq, Bool.false_eq_true, if_true, if_false,
      decide_eq_true_eq, decide_eq_decide] <;> omega

/-- EVT_CONFIG has 132 bytes of payload (R541). -/
theorem Ready.evtConfig_payload {s : State} {r : Req} (h : Ready s 0x0F02 r) : r.payload.length = 132 := by
  obtain ⟨-, hlen, -⟩ := h.facts (o := { code := 0x0F02, name := "EVT_CONFIG", cred := 1, qlo := 4, qhi := 7, lmin := 132, lmax := 132 }) rfl
  simp only [OpRow.lenOk, Bool.and_eq_true, decide_eq_true_eq] at hlen
  omega

/-- The 32 mask words of an EVT_CONFIG payload. -/
theorem evtConfig_masks {p : List Byte} (hlen : p.length = 132) {k : Nat} (hk : k < 32) (d : Word) :
    (words32 (slice p 4 128)).getD k d = BitVec.ofNat 32 (u32 p (4 + 4 * k)) := by
  have hslice : (slice p 4 128).length = 128 := slice_length p 4 128 (by omega)
  rw [List.getD_eq_getElem?_getD, words32_get _ k (by omega), Option.getD_some]
  exact congrArg (BitVec.ofNat 32) (fieldAt_slice p 4 128 (4 * k) 4 (by omega))

/-! ### The rows -/

/-- Settles O28: each row's course is read off its definition. -/
theorem eventCommandsComplete : Obligations.EventCommandsComplete := by
  refine ⟨?headWrite, ?ringEnable, ?ringWriteOne, ?ringWriteTwo, ?rateRelease, ?notify, ?mergeAlone, ?mergeGroup, ?read, ?clear, ?config, ?epoch,
    ?subscribe, ?unsubscribe⟩
  case headWrite =>
    intro s data hlead halive
    simp only [exec, execEventRingHeadWrite, hlead, halive, Bool.not_true, Bool.or_self, Bool.false_eq_true, if_false, State.setEvtHead_eq]
  case ringEnable =>
    intro s cfg hlead halive hon hlo hhi hoff
    simp only [exec, execEvtRingEnable, hlead, halive, Bool.not_true, Bool.or_self, Bool.false_eq_true, if_false]
    rw [State.writeEvtRingCfg_on hon hlo hhi hoff]
  case ringWriteOne =>
    intro s r rest hlead halive hd0 hon hlost
    exact (eventRingWrite_course hlead halive hd0 hon hlost).1 r rest
  case ringWriteTwo =>
    intro s r b rest hlead halive hd0 hon hlost
    exact (eventRingWrite_course hlead halive hd0 hon hlost).2 r b rest
  case rateRelease =>
    intro s k halive hdirty
    simp [exec, execRateLimitRelease, halive, hdirty]
  case notify =>
    intro s m halive hlead hcase hop
    simp only [exec, execEvtNotify, halive, hlead, Bool.not_true, Bool.or_self, Bool.false_eq_true, if_false, hcase, hop, ne_eq,
      not_true_eq_false]
  case mergeAlone =>
    intro s m hfind hheld
    have hlone : ¬ 2 ≤ m.latest.length := by simp [Merge.latest, hheld]
    simp [exec, execMergeWindowClose, hfind, State.closeMerge, hlone, hheld]
  case mergeGroup =>
    intro s m hfind htwo hsub hroom
    simp only [exec, execMergeWindowClose, hfind, State.closeMerge, if_pos htwo, State.toHost, hsub, ite_self, State.holdRecs,
      List.length_cons, List.length_nil, Nat.zero_add, Nat.reduceAdd, if_pos hroom]
    rfl
  case read =>
    intro s r h hmode hfirst hlo hhi
    have h1 : ¬ 1 < u8 r.payload 0 := by omega
    have h2 : ¬ (u8 r.payload 0 = 1 ∧ 1023 < u16 r.payload 2) := by rintro ⟨h1, h2⟩; have := hfirst h1; omega
    have h3 : ¬ (u16 r.payload 4 < 1 ∨ 127 < u16 r.payload 4) := by omega
    exact (h.run ((if_neg h1).trans ((if_neg h2).trans (if_neg h3))) : execEvtRead r s = _)
  case clear =>
    intro s r h hle hhi
    have h1 : ¬ 1023 < u16 r.payload 0 := by omega
    have h2 : ¬ (1023 < u16 r.payload 2 ∨ u16 r.payload 2 < u16 r.payload 0) := by omega
    exact (h.run ((if_neg h1).trans (if_neg h2)) : execEvtClear r s = _)
  case config =>
    intro s r h hrlo hrhi hwlo hwhi
    have hrange : ¬ (bitsOf (u32 r.payload 0) 12 8 < 1 ∨ 16 < bitsOf (u32 r.payload 0) 12 8 ∨ bitsOf (u32 r.payload 0) 6 0 < 1 ∨
      100 < bitsOf (u32 r.payload 0) 6 0) := by omega
    have hlen := h.evtConfig_payload
    have hwords : (words32 (slice r.payload 4 128)).length = 32 := by rw [words32_length, slice_length _ _ _ (by omega)]
    obtain ⟨hrate, hwin, hmerge⟩ := evtCfgWord_fields s.isLead (u32 r.payload 0)
    have hmasks := ((s.takeReq 0x0F02 r).setReg Reg.evtCfg (BitVec.ofNat 32 (evtCfgWord s.isLead (u32 r.payload 0)))).writeMasks_keeps 0
      (words32 (slice r.payload 4 128))
    rw [hwords] at hmasks
    have hcfg := hmasks.2 Reg.evtCfg (by simp [Reg.evtCfg, Reg.evtMask]; omega)
    rw [State.reg_setReg_same] at hcfg
    simp only [Answers, exec, execEvtConfig]
    refine h.run_with (if_neg hrange) ⟨rfl, ?_, ?_, ?_, fun k hk => ?_, ?_⟩
    · exact (congrArg (fun w : Word => bitsOf w.toNat 12 8) hcfg).trans hrate
    · exact (congrArg (fun w : Word => bitsOf w.toNat 6 0) hcfg).trans hwin
    · exact (congrArg (fun w : Word => w.toNat.testBit 7) hcfg).trans hmerge
    · exact (State.writeMasks_reg _ 0 _ k).trans (evtConfig_masks hlen hk _)
    · refine ((s.takeReq_keeps 0x0F02 r).mono (by simp) (by simp)).trans (((State.setReg_keeps _ _ _).mono (by simp) (by simp)).trans
        (hmasks.mono (by simp) ?_))
      exact List.subset_cons_self _ _
  case epoch => exact fun s r h => (h.run rfl : execFaultEpoch r s = _)
  case subscribe =>
    intro s r p ip port h hvia hip
    refine (h.run ?_ : execEvtSubscribe r s = _)
    simp only [hvia, if_neg hip]
  case unsubscribe =>
    intro s r h hip
    refine (h.run ?_ : execEvtSubscribe r s = _)
    simp only [if_pos hip]

end Sys2Proof.Machine
end

section
/-! PROOFS. The rows by which commands reach a chip, and what comes back from the wall (R48, R60, R61, R73 to R77, R538). -/

namespace Sys2Proof.Machine

/-- A choice between two next states. -/
theorem next_ite {p : Prop} [Decidable p] (t u : State) : (if p then (.next t : Res) else .next u) = .next (if p then t else u) :=
  (apply_ite Host.Outcome.next p t u).symm

/-- Where a lead runs, a row of the lead does not stop at its guard. -/
theorem leadRow {s : State} (halive : s.alive = true) (hlead : s.isLead = true) : (!s.alive || !s.isLead) = false := by
  rw [halive, hlead]
  rfl

/-- A write of CMD_RING_CFG that turns a ring on (R76). -/
theorem State.writeRingCfg_on {s : State} {ring : Nat} {cfg : Word} (hon : (cfg &&& 0x003F1F01#32).toNat.testBit 0 = true)
    (hlo : 6 ≤ bitsOf (cfg &&& 0x003F1F01#32).toNat 12 8) (hhi : bitsOf (cfg &&& 0x003F1F01#32).toNat 12 8 ≤ 16) :
    s.writeRingCfg ring cfg = s.setReg (Reg.cmdRingCfg + 0x20 * ring) (cfg &&& 0x003F1F01#32) :=
  (if_pos hon).trans (if_pos ⟨hlo, hhi⟩)

/-- A write that turns a ring off (R76). -/
theorem State.writeRingCfg_off {s : State} {ring : Nat} {cfg : Word} (hoff : (cfg &&& 0x003F1F01#32).toNat.testBit 0 = false) :
    s.writeRingCfg ring cfg = (({ s with cmd := { s.cmd with
      ringHead := Map.put s.cmd.ringHead ring 0, ringTail := Map.put s.cmd.ringTail ring 0,
      ringHold := s.cmd.ringHold.filter (· != ring) } }).setReg (Reg.cmdRingCfg + 0x20 * ring) (cfg &&& 0x003F1F01#32)) :=
  if_neg (by rw [hoff]; exact Bool.false_ne_true)

/-- CMD_RING_ENABLE of a running lead's ring writes its configuration. -/
theorem exec_cmdRingEnable {s : State} {ring : Nat} (cfg : Word) (hlead : s.isLead = true) (halive : s.alive = true) (hring : ring < 16) :
    exec (.cmdRingEnable ring cfg) s = .next (s.writeRingCfg ring cfg) := by
  have hrun : ¬ (!s.isLead || !s.alive || decide (16 ≤ ring)) = true := by simp [hlead, halive, hring]
  exact if_neg hrun

/-- A doorbell at the start of a page of BAR2 is a ring's. -/
theorem exec_doorbellWrite {s : State} {c : Nat} (data : Word) (hlead : s.isLead = true) (halive : s.alive = true) (hc : c < 16) :
    exec (.doorbellWrite (0x1000 * c) data) s = if s.ringSize c ≤ data.toNat % 65536 then .next (s.raise 23 3 c)
      else .next { s with cmd := { s.cmd with ringTail := Map.put s.cmd.ringTail c (data.toNat % 65536) } } := by
  have hrun : ¬ (!s.isLead || !s.alive || 0x1000 * c % 0x1000 != 0) = true := by simp [hlead, halive]
  have hring : 0x1000 * c / 0x1000 = c := by omega
  simp only [exec, execDoorbellWrite, if_neg hrun, hring, if_pos hc]

/-- Settles O29: each row's course is read off its definition. -/
theorem transportCommandsComplete : Obligations.TransportCommandsComplete := by
  refine ⟨?doorbell, ?doorbellBad, ?doorbellEvent, ?fetch, ?fetchError, ?ringOn, ?ringOff, ?datagram, ?discard, ?undefined, ?replyUnicast,
    ?replyBroadcast, ?replyFarLead, ?replyLate, ?replyDamaged, ?timeoutUnicast, ?timeoutBroadcast, ?timeoutFarLead⟩
  case doorbell =>
    intro s data c hlead halive hc hsize
    exact (exec_doorbellWrite data hlead halive hc).trans (if_neg (Nat.not_le.mpr hsize))
  case doorbellBad =>
    intro s data c hlead halive hc hsize
    exact (exec_doorbellWrite data hlead halive hc).trans (if_pos hsize)
  case doorbellEvent =>
    intro s data hlead halive hsize
    have hrun : ¬ (!s.isLead || !s.alive || 0x10000 % 0x1000 != 0) = true := by simp [hlead, halive]
    simp only [exec, execDoorbellWrite, if_neg hrun, Nat.reduceDiv, Nat.lt_irrefl, if_false, if_true, State.setEvtHead_eq, if_pos hsize]
  case fetch =>
    intro s ring d p hruns i
    have hrun : ¬ (!s.ringRuns ring) = true := by simp [hruns]
    exact if_neg hrun
  case fetchError =>
    intro s ring d hruns
    have hrun : ¬ (!s.ringRuns ring) = true := by simp [hruns]
    cases d <;> exact if_neg hrun
  case ringOn =>
    intro s ring cfg hlead halive hring hon hlo hhi
    rw [exec_cmdRingEnable cfg hlead halive hring, State.writeRingCfg_on hon hlo hhi]
  case ringOff =>
    intro s ring cfg hlead halive hring hoff
    rw [exec_cmdRingEnable cfg hlead halive hring, State.writeRingCfg_off hoff]
  case datagram =>
    intro s port srcIp srcPort dstIp dstPort fragment data halive htakes
    simp only [exec, execUdpCommandDatagram, halive, htakes, Bool.and_self, if_true, State.udpCommand]
  case discard =>
    intro s via data c halive hcase
    simp [exec, execCommandPacketDiscard, halive, hcase]
  case undefined =>
    intro s op r halive hop
    simp [exec, execUndefinedOpcode, halive, hop]
  case replyUnicast =>
    intro s m j halive hlead hcase hfind hkind
    simp only [exec, execTileReplyReceived, leadRow halive hlead, Bool.false_eq_true, if_false, hcase, State.takeMsgRow_cmd, hfind, if_neg hkind]
  case replyBroadcast =>
    intro s m j halive hlead hcase hfind hkind hport
    simp only [exec, execTileReplyReceived, leadRow halive hlead, Bool.false_eq_true, if_false, hcase, State.takeMsgRow_cmd, hfind, if_pos hkind,
      if_neg hport, next_ite]
  case replyFarLead =>
    intro s m j halive hlead hcase hfind hkind hport
    simp only [exec, execTileReplyReceived, leadRow halive hlead, Bool.false_eq_true, if_false, hcase, State.takeMsgRow_cmd, hfind, if_pos hkind,
      if_pos hport, next_ite]
  case replyLate =>
    intro s m x halive hlead hcase hfind hlate
    simp only [exec, execTileReplyReceived, leadRow halive hlead, Bool.false_eq_true, if_false, hcase, State.takeMsgRow_cmd, hfind,
      State.lateReply, hlate]
  case replyDamaged =>
    intro s m c halive hlead hcase
    simp only [exec, execTileReplyReceived, leadRow halive hlead, Bool.false_eq_true, if_false, hcase]
  case timeoutUnicast =>
    intro s j halive hlead hfind hbroadcast hforeign hprobe hfar
    simp only [exec, execTileTimeout, leadRow halive hlead, Bool.false_eq_true, if_false, hfind, hfar, if_neg hbroadcast, if_neg hforeign, hprobe,
      false_and]
  case timeoutBroadcast =>
    intro s j halive hlead hfind hkind hfar
    simp only [exec, execTileTimeout, leadRow halive hlead, Bool.false_eq_true, if_false, hfind, hfar, if_pos hkind, next_ite]
  case timeoutFarLead =>
    intro s j halive hlead hfind
    simp only [exec, execFarLeadReplyTimeout, leadRow halive hlead, Bool.false_eq_true, if_false]
    erw [hfind]
    simp only [next_ite]

end Sys2Proof.Machine
end

section
/-! PROOFS. Resets, supplies, clocks, management cores, test access and the PCIe function (R40, R41, R470, R472 to R477, R483, R494, R503, R518). -/

namespace Sys2Proof.Machine

/-! ### Supplies -/

/-- Where a supply that was in range falls out of it, the course by its number (R470). -/
theorem exec_supplyOutOfRange {s : State} {n : Nat} (hn : n ≤ 10) (hin : s.pwr.supplyOut.contains n = false) :
    let t := { s with pwr := { s.pwr with supplyOut := n :: s.pwr.supplyOut } }
    exec (.supplyOutOfRange n) s =
      if n = 0 then .next ((t.mainReset true 0).stickSupply 0)
      else if n < 3 then .next ((t.mainReset true 2).stickSupply n)
      else if n = 10 then .next (t.stickSupply 10)
      else if !s.alive then .next (t.stickSupply n)
      else .next (((t.stickSupply n).goInert.holdFed n).raise 35 4 n) := by
  have hrun : ¬ (10 < n ∨ s.pwr.supplyOut.contains n = true) := by simp only [hin, Bool.false_eq_true, or_false]; omega
  exact if_neg hrun

/-- Where a supply comes back into its range, the course by its number (R470). -/
theorem exec_supplyBackInRange {s : State} {n role src : Nat} (hout : s.pwr.supplyOut.contains n = true) :
    let t := { s with pwr := { s.pwr with supplyOut := s.pwr.supplyOut.filter (· != n) } }
    exec (.supplyBackInRange n role src) s =
      if n < 3 then
        if t.coreSupplyOut || t.pwr.poresetLow then .next t
        else .next (({ t with pwr := { t.pwr with roleStrap := role % 4, bootStrap := src % 4 } }).boot true false)
      else if n = 10 ∨ !s.alive then .next t
      else .next (t.raise 35 4 (n + 256)) := by
  have hrun : ¬ (!s.pwr.supplyOut.contains n) = true := by rw [hout]; exact Bool.false_ne_true
  exact if_neg hrun

/-! ### Clocks and FIFOs -/

/-- A PLL that loses its lock: the course by its number (R41). -/
theorem exec_pllLossOfLock {s : State} {n : Nat} (hn : n ≤ 15) (hlock : s.pllLock n = true) :
    let t := ({ s with pwr := { s.pwr with pllLost := n :: s.pwr.pllLost } }).setFld Reg.glbPllStatus (16 + n) (16 + n) 1
    exec (.pllLossOfLock n) s = if n = 1 then .next t.timeLost.lchHold
      else if n = 2 then .next ((t.endEmission true).raise 519 3 1)
      else .next (t.raiseIn (pllBlock n) (t.freeVal / 64 % 5) n) := by
  have hrun : ¬ (15 < n ∨ (!s.pllLock n) = true) := by rw [hlock]; simpa using hn
  exact if_neg hrun

/-- A FIFO fault into any block but the lamp port and the DRAM channels holds the block's commands (R40, log entry 21). -/
theorem exec_fifoFault_block {s : State} {b : Nat} (halive : s.alive = true) (hb : b < 17) : exec (.fifoFault (5 + b)) s =
    .next (({ s with pwr := { s.pwr with held := b :: s.pwr.held } }).raiseIn b 4 (5 + b)) := by
  have hrun : ¬ (!s.alive || (5 + b == 0 && !s.isTile)) = true := by simp [halive]
  have hblock : fifoBlock (5 + b) = b := by simp only [fifoBlock]; split <;> [omega; split <;> omega]
  simp only [exec, execFifoFault, if_neg hrun, hblock, if_neg (show ¬ 5 + b = 0 by omega), if_neg (show ¬ 5 + b < 5 by omega)]

/-! ### Management cores -/

/-- A serving core that faults: restarted where that is armed and it has not been restarted three times in the last 60 s (R476, R477). -/
theorem exec_coreFault {s : State} {k cause : Nat} (halive : s.alive = true) (hk : k ≤ 1) (hserves : (s.pwr.cores.getD k {}).state = 1) :
    let c := s.pwr.cores.getD k {}
    let recent := c.autos.filter (fun t => decide (s.now < t + rawSec 60))
    let out := s.isArmed 0x0001 && decide (3 ≤ recent.length)
    let go := s.isArmed 0x0001 && !out
    exec (.coreFault k cause) s = .next ((s.setCore k { c with
      state := if go then 3 else 2, cause := cause % 4, autos := if go then s.now :: recent else recent }).raise 33 4
        (k + cause % 4 * 2 + bn out * 256)) := by
  have hrun : ¬ (!s.alive || decide (1 < k) || (s.pwr.cores.getD k {}).state != 1) = true := by
    simp only [halive, hserves, Bool.not_true, Bool.false_or, bne_self_eq_false, Bool.or_false, decide_eq_true_eq]
    omega
  exact if_neg hrun

/-! ### The PCIe function -/

/-- Disabling rings writes registers alone. -/
theorem State.disableRings_regs (s : State) (rings : List Nat) : ∃ m, s.disableRings rings = { s with regs := m } := by
  induction rings generalizing s with
  | nil => exact ⟨s.regs, rfl⟩
  | cons a rings ih =>
    obtain ⟨m, hm⟩ := ih (s.setFld a 0 0 0)
    exact ⟨m, hm⟩

/-- A reset of the endpoint writes the configuration of the rings and ends the power state. -/
theorem State.resetPcie_eq (s : State) : s.resetPcie = { s with regs := s.resetPcie.regs, pwr := { s.pwr with d3hot := false, pmeEn := false } } := by
  obtain ⟨m, hm⟩ := s.disableRings_regs pcieRings
  rw [State.resetPcie, hm]
  rfl

/-! ### The rows -/

/-- Settles O30: each row's course is read off its definition. -/
theorem powerCommandsComplete : Obligations.PowerCommandsComplete := by
  refine ⟨fun _ => rfl, fun _ => rfl, ?poresetRise, ?wreset, ?supplyOut, ?supplyBack, ?pllLost, ?pllBack, ?fifoLamp, ?fifoMemory, ?fifoBlock,
    ?coreFault, ?coreFaultArmed, ?coreRestarted, ?temperature, ?avs, fun _ => rfl, fun _ => rfl, ?jtag, ?pcieReset, ?pcieStay, ?pcieSleep,
    ?pcieWake, ?pmeClear, ?pwrSet, ?pwrStatus⟩
  case poresetRise =>
    intro s role src hlow t
    have hrun : ¬ (!s.pwr.poresetLow) = true := by simp [hlow]
    exact if_neg hrun
  case wreset =>
    intro s low halive hlong
    have hrun : ¬ (!s.alive || decide (low < rawNs 10)) = true := by simp [halive, hlong]
    exact if_neg hrun
  case supplyOut =>
    intro s n hn hin t
    have hcourse := exec_supplyOutOfRange hn hin
    refine ⟨fun h0 => ?_, fun h12 => ?_, fun hlo hhi halive => ?_, fun h10 => ?_⟩
    · exact hcourse.trans (if_pos h0)
    · exact hcourse.trans ((if_neg (by omega)).trans (if_pos (by omega)))
    · have hup : ¬ (!s.alive) = true := by simp [halive]
      exact hcourse.trans ((if_neg (by omega)).trans ((if_neg (by omega)).trans ((if_neg (by omega)).trans (if_neg hup))))
    · exact hcourse.trans ((if_neg (by omega)).trans ((if_neg (by omega)).trans (if_pos h10)))
  case supplyBack =>
    intro s n role src hout t
    have hcourse := exec_supplyBackInRange (role := role) (src := src) hout
    refine ⟨fun hcore hrest hpin => ?_, fun hlo hhi halive => ?_⟩
    · have hboot : ¬ (t.coreSupplyOut || t.pwr.poresetLow) = true := by
        rw [hrest, Bool.false_or]
        exact Bool.eq_false_iff.mp hpin
      exact hcourse.trans ((if_pos hcore).trans (if_neg hboot))
    · have hup : ¬ (n = 10 ∨ (!s.alive) = true) := by rw [halive]; simp; omega
      exact hcourse.trans ((if_neg (by omega)).trans (if_neg hup))
  case pllLost =>
    intro s n hn hlock t
    have hcourse := exec_pllLossOfLock hn hlock
    exact ⟨fun h1 => hcourse.trans (if_pos h1), fun h2 => hcourse.trans ((if_neg (by omega)).trans (if_pos h2)),
      fun h1 h2 => ⟨_, hcourse.trans ((if_neg h1).trans (if_neg h2))⟩⟩
  case pllBack =>
    intro s n hlost t
    have hrun : ¬ (!s.pwr.pllLost.contains n) = true := by rw [hlost]; exact Bool.false_ne_true
    exact if_neg hrun
  case fifoLamp =>
    intro s halive htile
    simp [exec, execFifoFault, halive, htile, fifoBlock]
  case fifoMemory =>
    intro s n halive hn hoff hhold
    have hrun : ¬ (!s.alive || (n + 1 == 0 && !s.isTile)) = true := by simp [halive]
    have hblock : fifoBlock (n + 1) = 0x0B := by simp only [fifoBlock]; split <;> [omega; split <;> omega]
    have hup : ¬ ((s.chan n).st = .off ∨ (s.chan n).st = .hold) := by simp [hoff, hhold]
    simp only [exec, execFifoFault, if_neg hrun, hblock, if_neg (show ¬ n + 1 = 0 by omega), if_pos (show n + 1 < 5 by omega), Nat.add_sub_cancel,
      if_neg hup]
  case fifoBlock => exact fun s b halive hb => exec_fifoFault_block halive hb
  case coreFault =>
    intro s k cause halive hk hserves harmed c
    rw [exec_coreFault halive hk hserves]
    simp [harmed, bn, c]
  case coreFaultArmed =>
    intro s k cause halive hk hserves harmed c recent
    rw [exec_coreFault halive hk hserves]
    by_cases hfew : recent.length < 3
    · have hout : decide (3 ≤ recent.length) = false := by simpa using hfew
      rw [if_pos hfew]
      simp only [c, recent] at hout ⊢
      simp only [harmed, hout, Bool.and_false, Bool.not_false, Bool.and_self, if_true, bn, Bool.false_eq_true, if_false, Nat.zero_mul, Nat.add_zero]
    · have hout : decide (3 ≤ recent.length) = true := by simpa using hfew
      rw [if_neg hfew]
      simp only [c, recent] at hout ⊢
      simp only [harmed, hout, Bool.and_self, Bool.not_true, Bool.and_false, if_true, bn, Bool.false_eq_true, if_false, Nat.one_mul]
  case coreRestarted =>
    intro s k halive hk hst
    have hrun : ¬ (!s.alive || decide (1 < k) || (s.pwr.cores.getD k {}).state != 3) = true := by
      simp only [halive, hst, Bool.not_true, Bool.false_or, bne_self_eq_false, Bool.or_false, decide_eq_true_eq]
      omega
    exact if_neg hrun
  case temperature =>
    intro s sensors halive t u
    have hrun : ¬ (!s.alive) = true := by simp [halive]
    exact if_neg hrun
  case avs =>
    intro s mv halive
    have hrun : ¬ (!s.alive) = true := by simp [halive]
    exact if_neg hrun
  case jtag =>
    intro s i hother hidcode
    simp [exec, execJtagInstructionLoad, hother, hidcode]
  case pcieReset =>
    intro s kind hlead halive hkind
    have hlist : pcieRings ⊆ Reg.evtRingCfg :: (List.range 16).map (fun c => Reg.cmdRingCfg + 0x20 * c) := by
      simp [pcieRings]
    refine ⟨s.resetPcie, exec_pcieEndpointReset hlead halive hkind, s.resetPcie_eq, fun c hc => s.resetPcie_bit ?_, s.resetPcie_bit ?_,
      s.resetPcie_keeps.mono (List.Subset.refl _) hlist⟩
    · exact List.mem_append_left _ (List.mem_map.mpr ⟨c, List.mem_range.mpr hc, rfl⟩)
    · exact List.mem_append_right _ (List.mem_singleton.mpr rfl)
  case pcieStay =>
    intro s en hlead halive hd0
    simp [exec, execPciePowerStateChange, hlead, halive, hd0]
  case pcieSleep =>
    intro s hlead halive hd0
    simp [exec, execPciePowerStateChange, hlead, halive, hd0]
  case pcieWake =>
    intro s en hlead halive hd3
    simp [exec, execPciePowerStateChange, hlead, halive, hd3]
  case pmeClear =>
    intro s hlead halive
    simp [exec, execPmeStatusClear, hlead, halive]
  case pwrSet =>
    intro s r h m halways hoff
    have h1 : ¬ [146, 147, 150, 151].any m.testBit = true := by
      rw [List.any_eq_true]
      rintro ⟨d, hd, hbit⟩
      rw [halways d hd] at hbit
      exact Bool.false_ne_true hbit
    have h2 : ¬ (List.range 152).any (fun d => m.testBit d && s.domOn d) = true := by
      rw [List.any_eq_true]
      rintro ⟨d, hd, hbit⟩
      rw [Bool.and_eq_true] at hbit
      rw [hoff d (List.mem_range.mp hd) hbit.1] at hbit
      exact Bool.false_ne_true hbit.2
    exact (h.run ((if_neg h1).trans (if_neg h2)) : execPwrSet r s = _)
  case pwrStatus => exact fun s r h => (h.run rfl : execPwrStatus r s = _)

end Sys2Proof.Machine
end

section
/-! PROOFS. Sleep, beacons, wake and resume (R484 to R493). -/

namespace Sys2Proof.Machine

/-! ### The sleep opcodes -/

/-- A tile that may sleep takes a proposal of a later epoch (R485). -/
theorem State.proposeTile_taken {s : State} {r : Req} {t : Nat} (htime : timeAt r.payload 4 = some t) (hbcast : r.isBcast = true)
    (hepoch : r.epoch.toNat ≠ 0) (hafter : isAfter r.epoch.toNat (s.sleepAt 0).epoch = true) (hupd : s.sec.upd = none) (hcal : s.cal.run = none)
    (hset : s.ems.setups = []) (htwi : (s.sleepAt 0).state ≠ .twilight) (hwak : (s.sleepAt 0).state ≠ .waking) :
    let v := s.setSleep 0 { s.sleepAt 0 with epoch := r.epoch.toNat, at_ := t }
    s.proposeTile r = (({ v with pwr := { v.pwr with wakeCause := 0 } }).sleepTo 0 .proposed, rspOk) := by
  simp [State.proposeTile, htime, hbcast, hepoch, hafter, hupd, hcal, hset, htwi, hwak]

/-- What a lead asks of a proposal before it sends it (R485). -/
structure Proposable (s : State) (r : Req) (t : Nat) : Prop where
  time : timeAt r.payload 4 = some t
  chain : u8 r.payload 0 < 4
  epoch : r.epoch.toNat = nextSleep (s.sleepAt (u8 r.payload 0)).epoch
  early : s.derivedNow + (1000 * rawMs 20 : Nat) ≤ t
  late : (t : Int) ≤ s.derivedNow + (1000 * rawSec 10 : Nat)
  relay : s.pai.relay.testBit (u8 r.payload 0) = false
  valid : s.actDom.valid = true
  pair : s.pai.state = .solo ∨ s.pai.state = .active
  group : s.ks.group.isSome = true
  state : (s.sleepAt (u8 r.payload 0)).state = .awake ∨ (s.sleepAt (u8 r.payload 0)).state = .proposed

/-- The state in which a lead sends a proposal, and the broadcast. -/
def State.sendPropose (s : State) (r : Req) (t : Nat) : State × Option Rsp :=
  ((s.setSleep (u8 r.payload 0) { s.sleepAt (u8 r.payload 0) with epoch := r.epoch.toNat, at_ := t, allOk := false, resuming := false }).sleepTo
    (u8 r.payload 0) .proposed).sleepJob 0x0E01 (u8 r.payload 0) 4 r.epoch.toNat (some r)

/-- A proposable proposal is broadcast; of a chain without tiles all have agreed at once. -/
theorem State.proposeLead_course {s : State} {r : Req} {t : Nat} (h : Proposable s r t) :
    ((s.sendPropose r t).2 = none → s.proposeLead r = ((s.sendPropose r t).1, none)) ∧
    ∀ a, (s.sendPropose r t).2 = some a → a.status = stOk → s.proposeLead r =
      ((s.sendPropose r t).1.setSleep (u8 r.payload 0) { (s.sendPropose r t).1.sleepAt (u8 r.payload 0) with allOk := true }, some a) := by
  have hlate : ¬ ((t : Int) < s.derivedNow + (1000 * rawMs 20 : Nat) ∨ s.derivedNow + (1000 * rawSec 10 : Nat) < t) :=
    not_or.mpr ⟨not_lt.mpr h.early, not_lt.mpr h.late⟩
  have hchain : ¬ 4 ≤ u8 r.payload 0 := Nat.not_le.mpr h.chain
  have hpair : ¬ (s.pai.state ≠ .solo ∧ s.pai.state ≠ .active) := by
    rintro ⟨h1, h2⟩
    exact h.pair.elim h1 h2
  have hstate : ¬ ((s.sleepAt (u8 r.payload 0)).state ≠ .awake ∧ (s.sleepAt (u8 r.payload 0)).state ≠ .proposed) := by
    rintro ⟨h1, h2⟩
    exact h.state.elim h1 h2
  have hgroup : s.ks.group.isNone = false := Option.isNone_eq_false_iff.mpr h.group
  have hcourse : s.proposeLead r = (match s.sendPropose r t with
      | (v, none) => (v, none)
      | (v, some a) => if a.status = stOk then (v.setSleep (u8 r.payload 0) { v.sleepAt (u8 r.payload 0) with allOk := true }, some a)
          else (s.raise 20 1 (r.cls * 4096 + s.leadField * 256 + u8 r.payload 0 * 64), some a)) := by
    simp only [State.proposeLead, h.time, if_neg hchain, ← h.epoch, ne_eq, not_true_eq_false, if_false, if_neg hlate, h.relay, h.valid, hgroup,
      Bool.false_eq_true, Bool.not_true, State.sendPropose]
    rw [if_neg hpair, if_neg hstate] <;> rfl
  rw [hcourse]
  rcases s.sendPropose r t with ⟨v, _ | b⟩
  · exact ⟨fun _ => rfl, fun a ha => nomatch ha⟩
  · refine ⟨fun hb => (nomatch hb), fun a ha hok => ?_⟩
    cases ha
    exact if_pos hok

/-! ### Beacons -/

/-- One chain's turn in RESUME_BEACON_REPEAT (R490). -/
def State.repeatResume (t : State) (c : Nat) : State :=
  let x := t.sleepAt c
  if x.resuming ∧ x.nextBeacon ≤ t.now then
    (t.setSleep c { x with nextBeacon := t.now + rawUs 100 }).emit (.beacon c (beaconBytes 3 0xFF x.beaconEpoch 0))
  else t

/-- Is a chain being resumed and its next beacon due? -/
def State.resumeDue (s : State) (c : Nat) : Bool := (s.sleepAt c).resuming && decide ((s.sleepAt c).nextBeacon ≤ s.now)

theorem State.sleepAt_setSleep (s : State) {c d : Nat} (x : SleepS) (hd : d < s.pwr.sleep.length) :
    (s.setSleep c x).sleepAt d = if d = c then x else s.sleepAt d := by
  simp only [State.sleepAt, State.setSleep, List.getD_eq_getElem?_getD]
  by_cases h : d = c
  · subst h; simp [hd]
  · rw [List.getElem?_set_ne (Ne.symm h), if_neg h]

/-- The first n chains have had their turn: nothing but their sleep state and the outputs differs. -/
def Repeated (s t : State) (n : Nat) : Prop :=
  t = { s with pwr := { s.pwr with sleep := t.pwr.sleep }, out := t.out } ∧ t.pwr.sleep.length = s.pwr.sleep.length ∧
  t.out = s.out ++ ((List.range n).filter s.resumeDue).map (fun c => Out.beacon c (beaconBytes 3 0xFF (s.sleepAt c).beaconEpoch 0)) ∧
  ∀ c, c < s.pwr.sleep.length → t.sleepAt c =
    if c < n ∧ s.resumeDue c = true then { s.sleepAt c with nextBeacon := s.now + rawUs 100 } else s.sleepAt c

/-- A turn sees its own chain as it was, for the turns before it write their own chains alone. -/
theorem Repeated.step {s t : State} {n : Nat} (h : Repeated s t n) (hn : n < s.pwr.sleep.length) : Repeated s (t.repeatResume n) (n + 1) := by
  obtain ⟨hframe, hlen, hout, hsleep⟩ := h
  have hown : t.sleepAt n = s.sleepAt n := by rw [hsleep n hn, if_neg (by omega)]
  have hnow : t.now = s.now := by rw [hframe]; rfl
  have hdue : (t.sleepAt n).resuming = true ∧ (t.sleepAt n).nextBeacon ≤ t.now ↔ s.resumeDue n = true := by
    rw [hown, hnow, State.resumeDue, Bool.and_eq_true, decide_eq_true_eq]
  have hrange : (List.range (n + 1)).filter s.resumeDue = (List.range n).filter s.resumeDue ++ if s.resumeDue n = true then [n] else [] := by
    rw [List.range_succ, List.filter_append]
    by_cases hd : s.resumeDue n = true <;> simp [hd]
  by_cases hd : s.resumeDue n = true
  · have hturn : t.repeatResume n = (t.setSleep n { s.sleepAt n with nextBeacon := s.now + rawUs 100 }).emit
        (.beacon n (beaconBytes 3 0xFF (s.sleepAt n).beaconEpoch 0)) := by
      rw [← hown, ← hnow]
      exact if_pos (hdue.mpr hd)
    rw [hturn]
    refine ⟨?_, ?_, ?_, fun c hc => ?_⟩
    · rw [hframe]; rfl
    · exact List.length_set.trans hlen
    · rw [hrange, if_pos hd, List.map_append, ← List.append_assoc, ← hout]
      rfl
    · change (t.setSleep n _).sleepAt c = _
      rw [State.sleepAt_setSleep t _ (hlen.symm ▸ hc)]
      by_cases hcn : c = n
      · subst hcn; simp [hd]
      · rw [if_neg hcn, hsleep c hc]
        simp only [show (c < n + 1 ↔ c < n) by omega]
  · have hturn : t.repeatResume n = t := if_neg (fun hx => hd (hdue.mp hx))
    rw [hturn]
    refine ⟨hframe, hlen, ?_, fun c hc => ?_⟩
    · rw [hrange, if_neg hd, List.append_nil, hout]
    · rw [hsleep c hc]
      by_cases hcn : c = n
      · subst hcn; simp [hd]
      · simp only [show (c < n + 1 ↔ c < n) by omega]

theorem repeated_fold (s : State) (n : Nat) (hn : n ≤ s.pwr.sleep.length) : Repeated s ((List.range n).foldl State.repeatResume s) n := by
  induction n with
  | zero => exact ⟨rfl, rfl, by simp, fun c _ => by simp⟩
  | succ n ih =>
    rw [List.range_succ, List.foldl_append]
    exact (ih (by omega)).step (by omega)

/-! ### The rows -/

/-- Settles O31: each row's course is read off its definition. -/
theorem twilightCommandsComplete : Obligations.TwilightCommandsComplete := by
  refine ⟨?proposeTile, ?proposeLead, ?commitTile, ?commitLead, ?resumeTile, ?resumeLead, ?entryTile, ?entryUncommitted, ?entryLead, ?beaconSend,
    ?plainBeacon, ?beaconLoss, ?wakeBeacon, ?wakeBeaconArmed, ?dwellEnd, ?beaconRepeat, ?resumeBeacon, ?tileResumed⟩
  case proposeTile =>
    intro s r t h htile htime hbcast hepoch hafter hupd hcal hset htwi hwak
    have htaken := State.proposeTile_taken (s := s.takeReq 0x0E01 r) htime hbcast hepoch hafter hupd hcal hset htwi hwak
    refine (runReqLater_now h ?_ : execSleepPropose r s = _)
    simp only [State.isTile_takeReq, if_pos htile, htaken]
  case proposeLead =>
    intro s r t h htile htime hchain x hepoch hearly hlate hrelay hvalid hpair hgroup hstate f
    have hcourse := State.proposeLead_course (s := s.takeReq 0x0E01 r) (r := r) (t := t)
      ⟨htime, hchain, hepoch, hearly, hlate, hrelay, hvalid, hpair, hgroup, hstate⟩
    have hpick : (s.takeReq 0x0E01 r).isTile = false := htile
    obtain ⟨hsent, hdone⟩ := hcourse
    refine ⟨fun hnone => (runReqLater_later h ?_ : execSleepPropose r s = _), fun a ha hok => (runReqLater_now h ?_ : execSleepPropose r s = _)⟩
    · simp only [hpick, Bool.false_eq_true, if_false]
      exact hsent hnone
    · simp only [hpick, Bool.false_eq_true, if_false]
      exact hdone a ha hok
  case commitTile =>
    intro s r h htile hbcast hepoch hst
    have hb : ¬ (!r.isBcast) = true := by simp [hbcast]
    exact (runReqLater_now h ((if_pos htile).trans ((if_neg hb).trans ((if_neg (not_not.mpr hepoch)).trans (if_pos hst)))) :
      execSleepCommit r s = _)
  case commitLead =>
    intro s r h htile hchain x hepoch hzero hst hall hmargin f
    have h1 : ¬ s.isTile = true := by simp [htile]
    have h2 : ¬ (r.epoch.toNat ≠ x.epoch ∨ r.epoch.toNat = 0) := by
      rintro (hne | h0)
      · exact hne hepoch
      · exact hzero (hepoch.symm.trans h0)
    have h3 : ¬ (!x.allOk) = true := by simp [hall]
    have h4 : ¬ (x.at_ : Int) < s.derivedNow + commitMargin := not_lt.mpr hmargin
    rcases hjob : (s.takeReq 0x0E02 r).sleepJob 0x0E02 (u8 r.payload 0) 4 r.epoch.toNat (some r) with ⟨t, _ | b⟩
    · refine ⟨fun _ => (runReqLater_later h ?_ : execSleepCommit r s = _), fun a ha => ?_⟩
      · simp only [State.isTile_takeReq, State.sleepAt_takeReq, State.derivedNow_takeReq, if_neg h1, if_neg (Nat.not_le.mpr hchain), if_neg h2,
          hst, ne_eq, not_true_eq_false, if_false, if_neg h3, if_neg h4, hjob, f, x]
      · simp only [f, hjob, reduceCtorEq] at ha
    · refine ⟨fun hn => ?_, fun a ha hok => (runReqLater_now h ?_ : execSleepCommit r s = _)⟩
      · simp only [f, hjob, reduceCtorEq] at hn
      · simp only [f, hjob, Option.some.injEq] at ha
        subst ha
        simp only [State.isTile_takeReq, State.sleepAt_takeReq, State.derivedNow_takeReq, if_neg h1, if_neg (Nat.not_le.mpr hchain), if_neg h2,
          hst, ne_eq, not_true_eq_false, if_false, if_neg h3, if_neg h4, hjob, if_pos hok, f, x]
  case resumeTile =>
    intro s r h htile hbcast hepoch hst
    have hb : ¬ (!r.isBcast) = true := by simp [hbcast]
    have he : ¬ (r.epoch.toNat ≠ 0 ∧ r.epoch.toNat ≠ (s.sleepAt 0).epoch) := by rintro ⟨h0, h1⟩; exact hepoch.elim h0 h1
    exact (runReqLater_now h ((if_pos htile).trans ((if_neg hb).trans ((if_neg he).trans (if_pos hst)))) : execSleepResume r s = _)
  case resumeLead =>
    intro s r h htile hchain c x hepoch hwait hst
    have h1 : ¬ s.isTile = true := by simp [htile]
    have h2 : ¬ (r.epoch.toNat ≠ 0 ∧ r.epoch.toNat ≠ x.epoch) := by rintro ⟨h0, h1⟩; exact hepoch.elim h0 h1
    have h3 : ¬ (x.waiting.isSome = true ∨ x.state = .waking) := by simp [hwait, hst]
    have h4 : ¬ x.state = .awake := by simp [hst]
    refine (runReqLater_later h ((if_neg h1).trans ((if_neg (Nat.not_le.mpr hchain)).trans ((if_neg h2).trans ((if_neg h3).trans
      ((if_neg h4).trans ?_))))) : execSleepResume r s = _)
    by_cases hdwell : (s.dwellEnd c : Int) ≤ s.derivedNow
    · exact (if_pos ⟨hst, hdwell⟩).trans (congrArg (·, none) (if_pos hdwell).symm)
    · exact (if_neg fun hx => hdwell hx.2).trans (congrArg (·, none) (if_neg hdwell).symm)
  case entryTile =>
    intro s halive htile hst hat
    simp [exec, execTwilightEntry, halive, htile, hst, hat]
  case entryUncommitted =>
    intro s halive htile hst hat
    simp [exec, execTwilightEntry, halive, htile, hst, hat]
  case entryLead =>
    intro s halive htile hlead hst hat
    simp [exec, execTwilightEntry, halive, htile, hlead, hst, hat, List.range_succ]
  case beaconSend =>
    intro s c htime hlead hone
    have hlate : ¬ s.now < s.pwr.plainAt + rawMs 10 := Nat.not_lt.mpr htime
    simp [exec, execBeaconSend, hlate, hone, hlead, State.emit]
  case plainBeacon =>
    intro s p b hmode hkind
    exact if_pos ⟨hmode, hkind⟩
  case beaconLoss =>
    intro s p htile hlead hmode hst hlost
    have hst' : (s.pwr.sleep.getD 0 {}).state = .twilight := hst
    simp only [exec, execBeaconLoss, htile, hmode, hlost, and_self, if_true, State.wakeRequest, Bool.not_true, Bool.false_eq_true, if_false, hst',
      Nat.reducePow]
  case wakeBeacon =>
    intro s p b halive hkind htile hlead hp hepoch hst harmed t
    simp [exec, execWakeBeaconReceived, halive, hkind, htile, hlead, hp, hepoch, hst, harmed, t]
  case wakeBeaconArmed =>
    intro s p b halive hkind htile hlead hp hepoch hst harmed hwait v t
    simp [exec, execWakeBeaconReceived, halive, hkind, htile, hlead, hp, hepoch, hst, harmed, hwait, t, v, next_ite]
  case dwellEnd =>
    intro s halive hlead hwaits hst hdwell
    have hdue : ((s.sleepAt 0).armedWait || (s.sleepAt 0).waiting.isSome) = true := by simpa using hwaits
    simp only [exec, execResumeDwellEnd, leadRow halive hlead, Bool.false_eq_true, if_false, List.range_succ, List.range_zero, List.nil_append,
      List.cons_append, List.find?_cons, hdue, hst, hdwell, beq_self_eq_true, Bool.true_or, Bool.and_self, decide_true, if_true]
  case beaconRepeat =>
    intro s halive hlead hlen
    obtain ⟨hframe, -, hout, hsleep⟩ := repeated_fold s 4 (by omega)
    refine ⟨_, if_neg (by rw [leadRow halive hlead]; exact Bool.false_ne_true), hframe, hout, fun c hc => ?_⟩
    refine (hsleep c (by omega)).trans ?_
    simp only [hc, true_and, State.resumeDue, Bool.and_eq_true, decide_eq_true_eq]
  case resumeBeacon =>
    intro s p b halive htile hkind hport hst hepoch
    have hrun : ¬ (!s.alive || !s.isTile || beaconKind b != some 3 || !s.linkPorts.contains p) = true := by
      rw [halive, htile, hkind, hport]
      exact Bool.false_ne_true
    have hsleeps : ¬ ((s.sleepAt 0).state ≠ .twilight ∧ (s.sleepAt 0).state ≠ .waking) := fun hx => hx.1 hst
    have hmine : ¬ (u16 b 4 ≠ 0 ∧ u16 b 4 ≠ (s.sleepAt 0).epoch % 65536) := fun hx => hepoch.elim hx.1 hx.2
    simp only [exec, execResumeBeaconReceived, if_neg hrun, if_neg hsleeps, if_neg hmine, if_pos hst]
  case tileResumed =>
    intro s halive htile hst hqual
    have hrun : ¬ (!s.alive || !s.isTile || (s.sleepAt 0).state != .waking || !s.pwr.qualifying.isEmpty) = true := by
      simp [halive, htile, hst, hqual]
    simp only [exec, execTileResumeComplete, if_neg hrun, next_ite]

end Sys2Proof.Machine
end

section
/-! PROOFS. The wall's topology: addresses, ports, the lead epoch (R92, R95 to R106, R110, R545). -/

namespace Sys2Proof.Machine

section
variable (s : State) (code : Nat) (r : Req)

@[simp] theorem State.port_takeReq (p : Nat) : (s.takeReq code r).port p = s.port p := rfl
@[simp] theorem State.portState_takeReq (p : Nat) : (s.takeReq code r).portState p = s.portState p := rfl
@[simp] theorem State.topoLocked_takeReq : (s.takeReq code r).topoLocked = s.topoLocked := rfl
@[simp] theorem State.chainPortOk_takeReq (p : Nat) : (s.takeReq code r).chainPortOk p = s.chainPortOk p := rfl
@[simp] theorem State.portForcedOff_takeReq (p : Nat) : (s.takeReq code r).portForcedOff p = s.portForcedOff p := rfl

end

/-! ### Ports and the network -/

/-- What leaves the network and the cells to send alone leaves both. -/
theorem Keeps.net_eq {ps : List Part} {rs : List Nat} {s t : State} (h : Keeps ps rs s t) (hnet : Part.net ∉ ps) (htx : Part.tx ∉ ps) :
    t.net = s.net := by
  have hrest : { t.net with tx := [] } = { s.net with tx := [] } := h.1 .net hnet
  have hcells : t.net.tx = s.net.tx := h.1 .tx htx
  calc t.net = { ({ t.net with tx := [] } : NetS) with tx := t.net.tx } := rfl
    _ = { ({ s.net with tx := [] } : NetS) with tx := s.net.tx } := by rw [hrest, hcells]

/-- A port after a port was replaced. -/
theorem State.port_setPort (s : State) {q : Nat} (hq : q < s.net.ports.length) (p : Nat) (x : PortS) :
    (s.setPort p x).port q = if q = p then x else s.port q := by
  simp only [State.port, State.setPort, List.getD_eq_getElem?_getD]
  by_cases h : q = p
  · subst h; simp [hq]
  · rw [List.getElem?_set_ne (Ne.symm h), if_neg h]

/-- The port states of a tile with an address: its arrival port UP, the other CLOSED. -/
theorem State.arrival_portState (s : State) {p : Nat} (hp : p < 2) (hports : s.net.ports.length = 8) :
    let t := (s.setPortState p .up).setPortState (1 - p) .closed
    t.portState p = .up ∧ t.portState (1 - p) = .closed := by
  have hset : ∀ t : State, t.net.ports.length = 8 → ∀ q k x, q < 8 → (t.setPortState k x).portState q = if q = k then x else t.portState q := by
    intro t ht q k x hq
    rw [State.portState, State.setPortState, State.port_setPort t (by omega)]
    split <;> rfl
  have hlen : (s.setPortState p .up).net.ports.length = 8 := List.length_set.trans hports
  intro t
  constructor
  · rw [hset _ hlen p (1 - p) _ (by omega), if_neg (by omega), hset s hports p p _ (by omega), if_pos rfl]
  · rw [hset _ hlen (1 - p) (1 - p) _ (by omega), if_pos rfl]

/-- A tile with a new address, before its ports follow it: the epoch stored, its chain's map and its session keys gone. -/
def State.withAddress (s : State) (p addr : Nat) (epoch : Word) : State :=
  { s.setReg Reg.glbTopoEpoch epoch with
    net := { s.net with valid := true, had := true, upPort := p, addr := addr, transit := [] },
    pai := { s.pai with rmap := [none, none, none, none] }, key := { s.key with sessA := none, sessB := none, lastId := none } }

/-- A tile that takes an address sets its two ports and raises EV_96. -/
theorem State.takeAddress_eq (s : State) (p addr : Nat) (epoch : Word) : s.takeAddress p addr epoch =
    (((s.withAddress p addr epoch).setPortState p .up).setPortState (1 - p) .closed).raise 96 0 (p * 4096 + addr) := rfl

/-- What a tile holds once it has taken an address, and what it keeps. -/
theorem State.takeAddress_course {s u : State} {p addr : Nat} {epoch : Word} (hp : p < 2) (hports : s.net.ports.length = 8)
    (hu : u = s.takeAddress p addr epoch) :
    u.net.valid = true ∧ u.net.had = true ∧ u.net.transit = [] ∧ u.net.upPort = p ∧ u.net.addr = addr ∧ u.reg Reg.glbTopoEpoch = epoch ∧
    u.portState p = .up ∧ u.portState (1 - p) = .closed ∧ u.key.sessA = none ∧ u.key.sessB = none ∧ u.key.lastId = none ∧
    Keeps ([.net, .pai, .key] ++ eventParts) [Reg.glbTopoEpoch, Reg.evtRingCfg] s u := by
  have hraise := (((s.withAddress p addr epoch).setPortState p .up).setPortState (1 - p) .closed).raise_keeps 96 0 (p * 4096 + addr)
  rw [← State.takeAddress_eq, ← hu] at hraise
  have hnet := hraise.net_eq (by decide) (by decide)
  have hkey : u.key = { s.key with sessA := none, sessB := none, lastId := none } := hraise.1 .key (by decide)
  have hreg := hraise.2 Reg.glbTopoEpoch (by decide)
  have hport : ∀ q, u.portState q = (((s.withAddress p addr epoch).setPortState p .up).setPortState (1 - p) .closed).portState q := fun q => by
    simp only [State.portState, State.port, hnet]
  obtain ⟨hup, hclosed⟩ := (s.withAddress p addr epoch).arrival_portState hp hports
  have hset : Keeps [.net, .pai, .key] [Reg.glbTopoEpoch] s (((s.withAddress p addr epoch).setPortState p .up).setPortState (1 - p) .closed) :=
    ⟨fun q hq => by cases q <;> first | rfl | simp at hq, fun a ha => s.reg_setReg_other (by simpa using ha) epoch⟩
  refine ⟨?_, ?_, ?_, ?_, ?_, hreg.trans (s.reg_setReg_same _ epoch), (hport p).trans hup, (hport _).trans hclosed, ?_, ?_, ?_,
    (hset.mono (List.subset_append_left ..) (by simp)).trans (hraise.mono (List.subset_append_right ..) (by simp))⟩
  · rw [hnet]; rfl
  · rw [hnet]; rfl
  · rw [hnet]; rfl
  · rw [hnet]; rfl
  · rw [hnet]; rfl
  · rw [hkey]
  · rw [hkey]
  · rw [hkey]

/-- A chip with eight ports takes a function or FEC_EN of one that it has. -/
theorem portRow {s : State} {p : Nat} (halive : s.alive = true) (hp : p < 8) (htile : s.isTile = true → p < 2) :
    ¬ (!s.alive || decide (8 ≤ p) || (s.isTile && decide (2 ≤ p))) = true := by
  simp only [halive, Bool.not_true, Bool.false_or, Bool.or_eq_true, decide_eq_true_eq, Bool.and_eq_true]
  rintro (hno | ⟨ht, hno⟩)
  · omega
  · have := htile ht
    omega

/-- A port that no PORT_OPEN holds, in a state that PORT_OPEN takes. -/
theorem execPortOpen_opens {s : State} {r : Req} (h : Ready s 0x0102 r) (hchain : s.chainPortOk (u8 r.payload 0) = true)
    (hlocked : s.topoLocked = true) (hvalid : s.isTile = true → s.net.valid = true) (hopening : (s.port (u8 r.payload 0)).opening = none)
    (hstate : s.portState (u8 r.payload 0) = .closed ∨ s.portState (u8 r.payload 0) = .lost ∨
      s.portState (u8 r.payload 0) = .off ∧ s.portForcedOff (u8 r.payload 0) = false) :
    let p := u8 r.payload 0
    let u := s.takeReq 0x0102 r
    let t := if s.portState p = .off then u.setFunc p 1 else u
    exec (.portOpen r) s = .next (t.setPort p { t.port p with
      opening := some { op := 0x0102, req := r, start := s.now, prev := (t.port p).state,
                        wasUp := s.isTile && p == s.net.upPort && s.portState p == .lost } }) := by
  have hup : ¬ ((!s.chainPortOk (u8 r.payload 0)) = true ∨ (s.port (u8 r.payload 0)).state = .up) := by
    rintro (hno | hno)
    · simp [hchain] at hno
    · simp [State.portState, hno] at hstate
  have hlock : ¬ (!s.topoLocked) = true := by simp [hlocked]
  have haddr : ¬ (s.isTile = true ∧ (!s.net.valid) = true) := by
    rintro ⟨ht, hno⟩
    simp [hvalid ht] at hno
  have hopen : ¬ (s.port (u8 r.payload 0)).state = .open_ := fun hno => by simp [State.portState, hno] at hstate
  have hfree : ¬ (s.port (u8 r.payload 0)).opening.isSome = true := by simp [hopening]
  have hoff : ¬ ((s.port (u8 r.payload 0)).state = .off ∧ s.portForcedOff (u8 r.payload 0) = true) := by
    rintro ⟨h1, h2⟩
    simp [State.portState, h1, h2] at hstate
  exact (runReqLater_later h ((if_neg hup).trans ((if_neg hlock).trans ((if_neg haddr).trans ((if_neg hopen).trans ((if_neg hfree).trans
    (if_neg hoff)))))) : execPortOpen r s = _)

/-! ### The rows -/

/-- Settles O32: each row's course is read off its definition. -/
theorem topologyCommandsComplete : Obligations.TopologyCommandsComplete := by
  refine ⟨?probe, ?assign, ?openClosed, ?openOff, ?openOpen, ?close, ?release, ?topoRead, ?epoch, ?epochIgnored, ?func, ?fecEn, ?qualified,
    ?resumed, ?openTimeout, ?qualifiesAgain⟩
  case probe =>
    intro s r h hnear
    have hmine : ¬ (!r.isNearest) = true := by simp [hnear]
    exact (h.run (if_neg hmine) : execProbeNearest r s = _)
  case assign =>
    intro s r h hepoch hmatch hunit hports
    have h1 : ¬ (u32 r.payload 20 = 0 ∨ u32 r.payload 20 ≠ r.epoch.toNat) := not_or.mpr ⟨hepoch, not_not.mpr hmatch⟩
    have hword : BitVec.ofNat 32 (u32 r.payload 20) = r.epoch := by rw [hmatch, BitVec.ofNat_toNat, BitVec.setWidth_eq]
    have hcourse := State.takeAddress_course (s := s.takeReq 0x0101 r) (addr := u16 r.payload 16 % 4096) (epoch := r.epoch)
      (Nat.mod_lt (viaPort r.via) (by decide)) hports rfl
    obtain ⟨hval, hhad, htransit, hup, haddr, hreg, hpu, hpc, ha, hb, hid, hkeeps⟩ := hcourse
    simp only [Answers, exec, execAssignAddress]
    refine h.run_with ((if_neg h1).trans (if_neg (not_not.mpr hunit))) ?_
    rw [hword]
    refine ⟨rfl, hval, hhad, htransit, hup, haddr, hreg, hpu, hpc, ha, hb, hid, ?_⟩
    exact ((s.takeReq_keeps 0x0101 r).mono (by simp) (by simp)).trans (hkeeps.mono (by simp) (by simp))
  case openClosed =>
    intro s r h hchain hlocked hvalid p hstate hopening
    have hon : ¬ s.portState p = .off := by rintro hno; simp [hno] at hstate
    refine (execPortOpen_opens h hchain hlocked hvalid hopening (hstate.imp_right .inl)).trans ?_
    rw [if_neg hon]
    rfl
  case openOff =>
    intro s r h hchain hlocked htile p hoff hopening hforced
    refine (execPortOpen_opens h hchain hlocked (by simp [htile]) hopening (.inr (.inr ⟨hoff, hforced⟩))).trans ?_
    rw [if_pos hoff, htile]
    rfl
  case openOpen =>
    intro s r h hchain hlocked hvalid hopen
    have hup : ¬ ((!s.chainPortOk (u8 r.payload 0)) = true ∨ (s.port (u8 r.payload 0)).state = .up) := by
      rintro (hno | hno)
      · simp [hchain] at hno
      · simp [State.portState, hno] at hopen
    have hlock : ¬ (!s.topoLocked) = true := by simp [hlocked]
    have haddr : ¬ (s.isTile = true ∧ (!s.net.valid) = true) := by
      rintro ⟨ht, hno⟩
      simp [hvalid ht] at hno
    exact (runReqLater_now h ((if_neg hup).trans ((if_neg hlock).trans ((if_neg haddr).trans (if_pos hopen)))) : execPortOpen r s = _)
  case close =>
    intro s r h hchain hlocked hvalid hstate
    have hmine : ¬ (!s.chainPortOk (u8 r.payload 0)) = true := by simp [hchain]
    have hlock : ¬ (!s.topoLocked) = true := by simp [hlocked]
    have haddr : ¬ (s.isTile = true ∧ (!s.net.valid) = true) := by
      rintro ⟨ht, hno⟩
      simp [hvalid ht] at hno
    refine (h.run ((if_neg hmine).trans ((if_neg hlock).trans ((if_neg haddr).trans ?_))) : execPortClose r s = _)
    rcases hstate with hst | hst
    all_goals
      rw [State.portState] at hst
      simp only [State.port_takeReq, hst]
  case release =>
    intro s r h hopen
    exact (runReqLater_later h (if_neg hopen) : execReleaseAddress r s = _)
  case topoRead =>
    intro s r h hc hlocked
    have hlock : ¬ (!s.topoLocked) = true := by simp [hlocked]
    exact (h.run ((if_neg (Nat.not_le.mpr hc)).trans (if_neg hlock)) : execTopoRead r s = _)
  case epoch =>
    intro s w halive hlead hnew
    refine ⟨s.newEpoch w, ?_, s.reg_setReg_same _ w, rfl, rfl, rfl, rfl, ?_⟩
    · simp [exec, execGlbTopoEpochWrite, halive, hlead, hnew]
    · exact ⟨fun q hq => by cases q <;> first | rfl | simp at hq, fun a ha => s.reg_setReg_other (by simpa using ha) w⟩
  case epochIgnored =>
    intro s w halive hlead hold
    simp [exec, execGlbTopoEpochWrite, halive, hlead, hold]
  case func =>
    intro s p f halive hp htile hrefusal hnew
    refine (if_neg (portRow halive hp htile)).trans ((if_neg (not_not.mpr hrefusal)).trans ?_)
    rw [State.setFunc, if_neg hnew]
    rfl
  case fecEn =>
    intro s p en halive hp htile hfixed
    exact (if_neg (portRow halive hp htile)).trans (if_neg (by simp [hfixed]))
  case qualified =>
    intro s p o halive hopening hdead st t v
    simp only [exec, execPortQualified, halive, hopening, hdead, Bool.not_true, Bool.false_eq_true, if_false]
    rfl
  case resumed =>
    intro s p halive hopening hwaits t
    have hmine : ¬ (Map.find s.pwr.qualifying p).isNone = true := by simpa using Option.isSome_iff_ne_none.mp hwaits
    have hup : ¬ (!s.alive) = true := by simp [halive]
    refine (if_neg hup).trans ?_
    split
    · next o ho => simp [hopening] at ho
    · exact if_neg hmine
  case openTimeout =>
    intro s p o locked halive hopening htime v t
    simp only [exec, execPortOpenTimeout, halive, hopening, Bool.not_true, Bool.false_eq_true, if_false, if_neg (Nat.not_lt.mpr htime)]
    rfl
  case qualifiesAgain =>
    intro s p halive hlost hagain
    exact if_pos ⟨halive, hlost, hagain⟩

end Sys2Proof.Machine
end

section
/-! PROOFS. Links, cells and Eclipse (R93, R103, R112 to R118, R131 to R145). -/

namespace Sys2Proof.Machine

/-! ### Slots -/

/-- A string of the length asked for is fitted as it is. -/
theorem fit_self {n : Nat} {b : List Byte} (h : b.length = n) : fit n b = b := List.take_left' h

/-- A port goes on to its next slot: no port changes but in its slot and its superframe counter. -/
theorem State.port_nextSlot (s : State) (p n k : Nat) :
    (s.nextSlot p n).port k = s.port k ∨ ∃ slot sfTx, (s.nextSlot p n).port k = { s.port k with slot := slot, sfTx := sfTx } := by
  have hset : ∀ x, (s.setPort p x).port k = s.port k ∨ p = k ∧ (s.setPort p x).port k = x := by
    intro x
    by_cases hk : k < s.net.ports.length
    · rw [State.port_setPort s hk]
      split
      · next h => exact .inr ⟨h.symm, rfl⟩
      · exact .inl rfl
    · left
      simp [State.port, State.setPort, Nat.le_of_not_lt hk]
  have hport : ∀ x os, ((if (s.port p).slot = 0 then (s.setPort p x).emits os else s.setPort p x).port k) = (s.setPort p x).port k := by
    intro x os
    split <;> rfl
  rw [State.nextSlot, hport]
  rcases hset { s.port p with slot := ((s.port p).slot + 1) % 16, sfTx := if (s.port p).slot = 15 then ((s.port p).sfTx + 1) % 65536 else (s.port p).sfTx }
    with h | ⟨rfl, h⟩
  · exact .inl h
  · exact .inr ⟨_, _, h⟩

/-- A port that goes on to its next slot sends as before. -/
theorem State.portSends_nextSlot (s : State) (p n q : Nat) : (s.nextSlot p n).portSends q = s.portSends q := by
  have hregs : (s.nextSlot p n).regs = s.regs := by
    rw [State.nextSlot]
    split <;> rfl
  have hreg : ∀ a, (s.nextSlot p n).reg a = s.reg a := fun a => by simp only [State.reg, hregs]
  have hstate : ∀ k, ((s.nextSlot p n).port k).state = (s.port k).state ∧ ((s.nextSlot p n).port k).farId = (s.port k).farId ∧
      ((s.nextSlot p n).port k).pcsLock = (s.port k).pcsLock := by
    intro k
    rcases s.port_nextSlot p n k with h | ⟨_, _, h⟩
    · rw [h]; exact ⟨rfl, rfl, rfl⟩
    · rw [h]; exact ⟨rfl, rfl, rfl⟩
  obtain ⟨h7, h7id, h7lock⟩ := hstate 7
  have hfar : (s.nextSlot p n).farLead = s.farLead := by
    simp only [State.farLead, h7, h7id, h7lock, State.func, State.fld, hreg, State.domainId, State.leadNum]
    rfl
  simp only [State.portSends, State.portState, (hstate q).1, hfar, State.func, State.fld, hreg]

/-- A port that sends and does not send on what arrives goes on to its next slot, and fills this one (R118). -/
theorem exec_slotTransmit {s : State} {p : Nat} (stamp : Nat) (halive : s.alive = true) (hp : p < 8) (hsends : s.portSends p = true)
    (hlane : s.laneIdle p = false) (hfed : s.fed p = false) :
    exec (.slotTransmit p stamp) s = .next ((s.nextSlot p 1).fillSlot p (s.port p).slot (s.atBalls p stamp true)) := by
  have hoff : ¬ s.portState p = .off := by
    intro hno
    simp [State.portSends, hno] at hsends
  have hrun : ¬ (!s.alive || decide (8 ≤ p) || s.portState p == .off || s.laneIdle p || s.fed p) = true := by
    simp [halive, hp, hoff, hlane, hfed]
  have hfunc : ¬ (s.portState p == .active && !(s.func p == 3 || s.func p == 4)) = true := by
    intro hno
    simp only [Bool.and_eq_true, beq_iff_eq, Bool.not_eq_true', Bool.or_eq_false_iff] at hno
    obtain ⟨hactive, h3, h4⟩ := hno
    simp [State.portSends, hactive, h3, h4] at hsends
  exact (if_neg hrun).trans (if_neg hfunc)

/-! ### Link faults and cells -/

/-- A link that is lost while its chain is awake (R103). -/
theorem State.linkFault_awake {s : State} {p : Nat} (c1 : Bool) (hopen : s.portState p = .open_ ∨ s.portState p = .up)
    (hawake : (if s.isTile then (s.pwr.sleep.getD 0 {}).state == .twilight else decide (p < 4) && s.chainAsleep p) = false) :
    let t := s.setPort p { s.port p with
      state := .lost, sfLock := false, pcsLock := false, c1Run := 0, sfGood := 0, again := false, asm := [], near := [] }
    let t := ({ t with net := { t.net with transit := t.net.transit.filter (fun x => x.inPort != p && x.outPort != p) } }).raise
      (if s.isTile ∧ p = s.net.upPort then 99 else 98) 3 (p + bn c1 * 256)
    s.linkFault p c1 = (if s.isLead then t.cutOff p 0 none else t).startStalled := by
  have hrun : ((s.port p).state = .open_ ∨ (s.port p).state = .up) ∧
      (!(if s.isTile then (s.pwr.sleep.getD 0 {}).state == .twilight else decide (p < 4) && s.chainAsleep p)) = true := ⟨hopen, by rw [hawake]; rfl⟩
  have hup : (if (s.isTile && p == s.net.upPort) = true then 99 else 98) = (if s.isTile = true ∧ p = s.net.upPort then 99 else 98) := by
    simp only [Bool.and_eq_true, beq_iff_eq]
  simp only [State.linkFault, if_pos hrun, hup]

/-- A cell that arrives on an OPEN or UP port is judged by its CCRC and its header, and leaves for the other port what its route says. -/
theorem exec_cellReceived {s : State} {p slot stamp : Nat} {c : List Byte} (halive : s.alive = true) (hp : p < 8) (hlane : s.laneIdle p = false)
    (hopen : s.portState p = .open_ ∨ s.portState p = .up) (hlen : c.length = 276) :
    exec (.cellReceived p slot stamp c) s =
    (let stamp := s.atBalls p stamp false
    let t := s.setPort p { s.port p with c1Run := 0 }
    let rt := s.routeCell p c
    let spoil (t : State) : State := if rt.taken then t.spoilAsm p c else t
    if u8 c 0 / 16 = 0 ∧ crcState c = 0 then .next (t.passOn p slot stamp false c .consume)
    else if crcState c = 1 then
      .next ((spoil ((s.bump (Reg.prtC1Stomp + 0x10000 * p)).raise 65 1 (evC1 p slot c))).passOn p slot stamp true c rt)
    else if crcState c = 2 then
      let v := spoil (((s.setPort p { s.port p with c1Run := (s.port p).c1Run + 1 }).bump (Reg.prtC1Bad + 0x10000 * p)).raise 64 2 (evC1 p slot c))
      if 8 ≤ (s.port p).c1Run + 1 then .next (v.linkFault p true) else .next (v.passOn p slot stamp true c rt)
    else if 7 ≤ u8 c 0 / 16 ∨ (slot = 15 ∧ (u8 c 0 / 16 = 1 ∨ u8 c 0 / 16 = 6)) ∨ (u8 c 0 / 16 = 6 ∧ p ≠ 6) then
      .next ((t.raise 69 2 (p + u8 c 0 / 16 * 256)).passOn p slot stamp false c (.drop false))
    else
      let v := (if (t.nearRoute p c).isSome then t.noteNear p c else t).passOn p slot stamp false c rt
      match rt with
      | .drop ev => .next (if ev then v.raise 70 2 (p + u8 c 0 / 16 * 16 + bn ((u8 c 0).testBit 3) * 256) else v)
      | .forward _ => .next (if s.isLead then v.bump Reg.paiRelayCells else v)
      | .copy _ => .next (v.consumeCell p stamp c)
      | .consume => .next (v.consumeCell p stamp c)) := by
  have hactive : ¬ s.portState p = .active := by
    intro hno
    simp [hno] at hopen
  have hrun : ¬ (!s.alive || decide (8 ≤ p) || s.laneIdle p || s.deafPort p) = true := by
    simp [halive, hp, hlane, State.deafPort, hactive]
  simp only [exec, execCellReceived, fit_self hlen]
  refine (if_neg hrun).trans ?_
  rcases hopen with h | h
  all_goals
    split
    · next hno => simp [h] at hno
    · next hno => simp [h] at hno
    · next hno => simp [h] at hno
    · rfl

/-! ### The rows -/

/-- Settles O33: each row's course is read off its definition. -/
theorem linkCommandsComplete : Obligations.LinkCommandsComplete := by
  refine ⟨?linkLost, ?sync, ?lockLost, ?markerError, ?slot, ?cell, ?cellClosed, ?transit, ?eclipse, ?eclipseSend, ?eclipseClear⟩
  case linkLost =>
    intro s p c1 halive hp hopen hawake
    have hrun : ¬ (!s.alive || decide (8 ≤ p)) = true := by simp [halive, hp]
    exact (if_neg hrun).trans (congrArg Host.Outcome.next (State.linkFault_awake c1 hopen hawake))
  case sync =>
    intro s p fills b x halive hp hoff hok hkind hfills hlast hnext q
    have hrun : ¬ (!s.alive || s.portState p == .off || decide (8 ≤ p)) = true := by simp [halive, hp, hoff]
    have hsync : ¬ (!(markerOk b && u8 b 1 == 0x56)) = true := by simp [hok, hkind]
    simp only [exec, execSyncMarkerReceived, if_neg hrun, if_neg hsync, hlast, hnext, beq_self_eq_true, if_neg (Nat.not_le.mpr hfills),
      if_true, Bool.not_true, Bool.and_false, Bool.false_eq_true, if_false, q]
  case lockLost =>
    intro s p halive hp hlock hgone
    have hrun : ¬ (!s.alive || decide (8 ≤ p) || !(s.port p).sfLock || !(s.port p).syncGone s.now) = true := by simp [halive, hp, hlock, hgone]
    exact if_neg hrun
  case markerError =>
    intro s p b halive hp hoff
    have hrun : ¬ (!s.alive || s.portState p == .off || decide (8 ≤ p)) = true := by simp [halive, hp, hoff]
    exact if_neg hrun
  case slot =>
    intro s p stamp halive hp hsends hlane hfed q at_ t u
    have hu : s.nextSlot p 1 = u := rfl
    have hmay : ¬ (!u.portSends p) = true := by
      rw [← hu, State.portSends_nextSlot, hsends]
      exact Bool.false_ne_true
    have hcourse := exec_slotTransmit stamp halive hp hsends hlane hfed
    rw [hu, State.fillSlot, if_neg hmay] at hcourse
    refine ⟨fun hnone => ?_, fun m hm htx => ?_, fun m n v hm htx hnotify => ?_⟩
    · rw [hcourse]
      simp only [q] at hnone
      rw [hnone]
    · rw [hcourse]
      simp only [q] at hm
      rw [hm]
      exact congrArg Host.Outcome.next (if_pos htx)
    · rw [hcourse]
      simp only [q] at hm
      rw [hm]
      simp only [htx, Bool.false_eq_true, if_false, hnotify]
      rfl
  case cell =>
    intro s p slot stamp c halive hp hlane hopen hlen at_ t
    have hcourse := exec_cellReceived (slot := slot) (stamp := stamp) halive hp hlane hopen hlen
    refine ⟨fun hidle hcrc => ?_, ?_, fun hcrc hrun hroute => ?_⟩
    · exact hcourse.trans (if_pos ⟨hidle, hcrc⟩)
    · intro hbusy htype hslot hmirr hcrc u
      have hbad : ¬ (7 ≤ u8 c 0 / 16 ∨ (slot = 15 ∧ (u8 c 0 / 16 = 1 ∨ u8 c 0 / 16 = 6)) ∨ (u8 c 0 / 16 = 6 ∧ p ≠ 6)) :=
        not_or.mpr ⟨Nat.not_le.mpr htype, not_or.mpr ⟨hslot, hmirr⟩⟩
      have hgood := hcourse.trans ((if_neg fun hx => hbusy hx.1).trans ((if_neg (by omega)).trans ((if_neg (by omega)).trans (if_neg hbad))))
      refine ⟨fun hr => ?_, fun o hr => ?_, fun o hr hlead => ?_⟩
      · rw [hgood]; simp only [hr]; simp only [u, hr, t, at_]
      · rw [hgood]; simp only [hr]; simp only [u, hr, t, at_]
      · rw [hgood]; simp only [hr]; simp only [u, hr, t, at_, hlead, Bool.false_eq_true, if_false]
    · have hfew : ¬ 8 ≤ (s.port p).c1Run + 1 := by omega
      refine hcourse.trans ((if_neg (by omega)).trans ((if_neg (by omega)).trans ((if_pos hcrc).trans ((if_neg hfew).trans ?_))))
      simp only [hroute, Route.taken, if_true, at_]
  case cellClosed =>
    intro s p slot stamp c halive hp hlane hclosed hfirst
    have hrun : ¬ (!s.alive || decide (8 ≤ p) || s.laneIdle p || s.deafPort p) = true := by
      simp [halive, hp, hlane, State.deafPort, hclosed]
    simp only [exec, execCellReceived, if_neg hrun, hclosed, hfirst, Bool.false_eq_true, false_and, and_false, if_false, prt]
  case transit =>
    intro s p stamp fills x halive hp htile hlead hfind at_ res t
    have hrun : ¬ (!s.alive || decide (8 ≤ p)) = true := by simp [halive, hp]
    have hkeep : ¬ (x.slot = 15 ∧ s.isLead = true ∧ (u8 x.bytes 0 / 16 = 1 ∨ u8 x.bytes 0 / 16 = 6)) := by simp [hlead]
    refine ⟨fun hidle => ?_, fun hbusy => ?_⟩
    · simp only [exec, execTransitEgress, if_neg hrun, hfind, htile, if_true]
      exact (if_neg hkeep).trans (if_pos (List.isEmpty_iff.mpr hidle))
    · have hsome : x.bytes.isEmpty = false := by simpa using hbusy
      simp only [exec, execTransitEgress, if_neg hrun, hfind, htile, if_true]
      exact (if_neg hkeep).trans (if_neg (by rw [hsome]; exact Bool.false_ne_true))
  case eclipse =>
    intro s p b halive hp htile hlead hopen hok hkind hscope hnew origin hold h e
    have hrun : ¬ (!s.alive || decide (8 ≤ p)) = true := by simp [halive, hp]
    have hmarker : ¬ (!(markerOk b && u8 b 1 == 0xEC && (u8 b 2 / 64 == 0 || u8 b 2 / 64 == 2))) = true := by
      rcases hscope with h | h <;> simp [hok, hkind, h]
    have hacted : ¬ (s.net.ecl.acted.any fun x => x.1 == u8 b 2 % 16 && x.2.1 == u8 b 3 && decide (s.now < x.2.2 + eclipseWindow)) = true := by
      simp only [hnew, Bool.false_eq_true, not_false_eq_true]
    rcases hopen with hst | hst
    all_goals
      simp only [exec, execEclipseMarkerReceived, if_neg hrun, if_neg hmarker, hst, Bool.not_true, Bool.false_eq_true, if_false,
        if_neg hacted, hlead, reduceCtorEq]
      rfl
  case eclipseSend =>
    intro s r h hscope e hnew hold o ports x
    have hnew' : ¬ (s.net.ecl.sentAt.any fun x => x.1 == s.net.ecl.nextEseq && decide (s.now < x.2 + eclipseWindow)) = true := by
      rw [hnew]
      exact Bool.false_ne_true
    have h1 : ¬ (u8 r.payload 0 ≠ 0 ∧ u8 r.payload 0 ≠ 2) := fun hno => hno.2 hscope
    have h2 : ¬ (u8 r.payload 0 = 0 ∧ 4 ≤ u8 r.payload 1) := by omega
    have h3 : ¬ u8 r.payload 0 = 0 := by omega
    refine (h.run ((if_neg h1).trans ((if_neg h2).trans ((if_neg hnew').trans ?_))) : execEclipseSend r s = _)
    simp only [hscope, OfNat.ofNat_ne_zero, if_false]
    rfl
  case eclipseClear =>
    intro s r o h htile hscope horigin hfind hseq hsafe hlast
    have h1 : ¬ (u8 r.payload 0 ≠ 0 ∧ u8 r.payload 0 ≠ 2) := by omega
    have h2 : ¬ (u8 r.payload 0 = 0 ∧ 4 ≤ u8 r.payload 1) := by omega
    have h3 : ¬ 16 ≤ u8 r.payload 2 := by omega
    have hauth : ¬ (o.safe && !r.isSafety) = true := by simpa using hsafe
    refine (runReqLater_now h ((if_neg h1).trans ((if_neg h2).trans ((if_neg h3).trans ((if_pos htile).trans ?_)))) : execEclipseClear r s = _)
    simp only [State.clearHold, State.takeReq_net, hfind, hseq, ne_eq, not_true_eq_false, if_false, if_neg hauth, hlast, List.isEmpty_nil, if_true]
    rfl

end Sys2Proof.Machine
end

section
/-! PROOFS. Register writes by command and over BAR0 (R7 to R12, R29, R31, R293, R540). -/

namespace Sys2Proof.Machine

/-! ### A register that holds a value -/

/-- TMU_STG_RATE and its second word hold whole values. -/
theorem regRow_tmuStgRate : regRow Reg.tmuStgRate = some { base := Reg.tmuStgRate, stride := 4, count := 2, rw := 0xFFFFFFFF } := by decide +kernel

theorem and_word (w : Word) : w.toNat &&& 0xFFFFFFFF = w.toNat :=
  (Nat.and_two_pow_sub_one_eq_mod w.toNat 32).trans (Nat.mod_eq_of_lt w.isLt)

/-- A write of all four bytes makes the word written. -/
theorem State.mergeBytes_whole (s : State) (a : Nat) (data : Word) : s.mergeBytes a 15 data = data.toNat := by
  have hmask : (List.range 4).foldl (fun x i => if (15 : Nat).testBit i then x + 0xFF * 256 ^ i else x) 0 = 0xFFFFFFFF := by decide
  simp only [State.mergeBytes, hmask, and_word, Nat.xor_self, Nat.and_zero, Nat.or_zero]

/-- Where every bit is RW, the word is stored whole. -/
theorem State.storeReg_whole {s : State} {r : RegRow} (hrw : r.rw ||| r.rwl = 0xFFFFFFFF) (hw1c : r.w1c = 0) (a : Nat) (w : Word) :
    s.storeReg r a w.toNat = s.setReg a w := by
  simp only [State.storeReg, hrw, hw1c, Nat.xor_self, Nat.and_zero, Nat.zero_or, and_word, BitVec.ofNat_toNat, BitVec.setWidth_eq]

/-- No field of TMU_STG_RATE has a range. -/
theorem State.keepRanges_tmuStgRate (s : State) (w : Nat) : s.keepRanges Reg.tmuStgRate w = (w, false) := by
  have hnone : ∀ f ∈ fieldRules, f.holds Reg.tmuStgRate = false := by decide +kernel
  have hbad : fieldRules.filter (fun f => f.holds Reg.tmuStgRate && !f.ok Reg.tmuStgRate w) = [] := by
    rw [List.filter_eq_nil_iff]
    intro f hf
    simp [hnone f hf]
  simp only [State.keepRanges, hbad]
  rfl

theorem State.writeReg_tmuStgRate (s : State) (w : Word) : s.writeReg Reg.tmuStgRate w.toNat = (s.setReg Reg.tmuStgRate w, none) := by
  have hstore := s.storeReg_whole (r := { base := Reg.tmuStgRate, stride := 4, count := 2, rw := 0xFFFFFFFF }) rfl rfl Reg.tmuStgRate w
  have htmu : s.writeTmu { base := Reg.tmuStgRate, stride := 4, count := 2, rw := 0xFFFFFFFF } Reg.tmuStgRate w.toNat =
      (s.setReg Reg.tmuStgRate w, none) := by
    rw [← hstore]
    exact (if_neg (by decide)).trans ((if_neg (by decide)).trans ((if_neg (by decide)).trans (if_neg (by decide))))
  simp only [State.writeReg, regRow_tmuStgRate, s.keepRanges_tmuStgRate]
  rw [show Reg.tmuStgRate / 2 ^ 20 = 3 from by decide]
  simp only [htmu]
  rfl

/-! ### BAR0 -/

/-- A write below PWR reaches the map while the main side runs. -/
theorem barRow {s : State} {a : Nat} (halive : s.alive = true) (ha : a < 0x01000000) : ¬ ((!s.alive) = true ∨ 0x01000000 ≤ a / 4 * 4) := by
  rw [halive]
  simp only [Bool.not_true, Bool.false_eq_true, false_or]
  omega

/-- A write within the registers mapped that the role has is judged by its register. -/
theorem exec_registerWrite {s : State} {a : Nat} (be : Nat) (data : Word) (halive : s.alive = true) (ha : a < 0x00E00000)
    (hrow : (regRow (a / 4 * 4)).isSome = true) (hon : s.regOff (a / 4 * 4) = false) :
    exec (.registerWrite a be data) s = .next
      (match s.writeReg (a / 4 * 4) (s.mergeBytes (a / 4 * 4) be data) with
        | (t, none) => t
        | (t, some (.time _)) => t
        | (t, some _) => t.raise 25 1 (a / 4 * 4)) := by
  have hbox : ¬ 0x00E00000 ≤ a / 4 * 4 := by omega
  have hreg : ¬ ((regRow (a / 4 * 4)).isNone = true ∨ s.regOff (a / 4 * 4) = true) := by
    rw [hon, Option.isNone_eq_false_iff.mpr hrow]
    simp
  have hrun := barRow (a := a) halive (by omega)
  simp only [exec, execRegisterWrite, if_neg hrun, if_neg hbox, if_neg hreg]
  rcases s.writeReg (a / 4 * 4) (s.mergeBytes (a / 4 * 4) be data) with ⟨t, _ | x⟩
  · rfl
  · cases x <;> rfl

/-! ### The rows -/

/-- Settles O35: each row's course is read off its definition. -/
theorem registerWritesComplete : Obligations.RegisterWritesComplete := by
  refine ⟨?regWrite, ?regWriteHeld, ?regWriteRefused, fun s a be data halive ha hrow hon => exec_registerWrite be data halive ha hrow hon,
    ?stgRate, ?mailbox, ?silent⟩
  case regWrite =>
    intro s r t h halign hfirst hwords hnow
    have hat : ¬ u32 r.payload 0 % 4 ≠ 0 := not_not.mpr halign
    refine (runReqLater_now h ?_ : execRegWrite r s = _)
    simp only [if_neg hat, hfirst, hwords]
    exact if_neg hnow
  case regWriteHeld =>
    intro s r t h halign hfirst hwords hbg hhold
    have hat : ¬ u32 r.payload 0 % 4 ≠ 0 := not_not.mpr halign
    refine (runReqLater_later h ?_ : execRegWrite r s = _)
    simp only [if_neg hat, hfirst, hwords]
    exact if_pos ⟨hbg, hhold⟩
  case regWriteRefused =>
    intro s r t x h halign hfirst
    exact exec_regWrite_firstRefused h halign hfirst
  case stgRate =>
    intro s data halive
    have hon : s.regOff Reg.tmuStgRate = false := by
      cases hlead : s.isLead <;> (simp only [State.regOff, regRow_tmuStgRate, hlead]; decide)
    refine ⟨s.setReg Reg.tmuStgRate data, ?_, s.reg_setReg_same _ data, s.setReg_keeps _ data⟩
    have hrow : (regRow Reg.tmuStgRate).isSome = true := by rw [regRow_tmuStgRate]; rfl
    refine (exec_registerWrite (a := Reg.tmuStgRate) 15 data halive (by decide) hrow hon).trans ?_
    rw [show Reg.tmuStgRate / 4 * 4 = Reg.tmuStgRate from by decide, State.mergeBytes_whole, State.writeReg_tmuStgRate]
  case mailbox =>
    intro s a be data halive hlo hhi
    exact (if_neg (barRow halive (by omega))).trans (if_pos (by omega))
  case silent =>
    intro s a be data halive ha hnone
    exact (if_neg (barRow halive (by omega))).trans ((if_neg (by omega)).trans (if_pos hnone))

end Sys2Proof.Machine
end

section
/-! PROOFS. The Meridian time unit: its commands and reads (R147 to R177). -/

namespace Sys2Proof.Machine

/-! ### Staged writes -/

/-- A command of TMU_STG_CTL stores its own register alone, so what a staged write is judged by stands. -/
theorem State.storeStgCtl_reg (s : State) (w : Word) {a : Nat} (ha : a ≠ Reg.tmuStgCtl) : (s.storeStgCtl w).reg a = s.reg a :=
  s.reg_setReg_other ha _

theorem State.storeStgCtl_stgValue (s : State) (w : Word) : (s.storeStgCtl w).stgValue = s.stgValue := by
  simp only [State.stgValue, State.fld, s.storeStgCtl_reg w (a := Reg.tmuStgValHi) (by decide), s.storeStgCtl_reg w (a := Reg.tmuStgValLo) (by decide),
    s.storeStgCtl_reg w (a := Reg.tmuStgValLo + 4) (by decide), s.storeStgCtl_reg w (a := Reg.tmuStgFrac) (by decide)]

theorem State.storeStgCtl_stgRate (s : State) (w : Word) : (s.storeStgCtl w).stgRate = s.stgRate := by
  simp only [State.stgRate, s.storeStgCtl_reg w (a := Reg.tmuStgRate) (by decide), s.storeStgCtl_reg w (a := Reg.tmuStgRate + 4) (by decide)]

theorem State.storeStgCtl_stgAt (s : State) (w : Word) : (s.storeStgCtl w).stgAt = s.stgAt := by
  simp only [State.stgAt, s.storeStgCtl_reg w (a := Reg.tmuStgAtHi) (by decide), s.storeStgCtl_reg w (a := Reg.tmuStgAtLo) (by decide),
    s.storeStgCtl_reg w (a := Reg.tmuStgAtLo + 4) (by decide)]

theorem State.storeStgCtl_stageRefusal (s : State) (w : Word) (d : Bool) (value rate : Option Nat) (at_ : Nat) (once : Bool) :
    (s.storeStgCtl w).stageRefusal d value rate at_ once = s.stageRefusal d value rate at_ once := by
  have hsrc : (s.storeStgCtl w).domSrc d = s.domSrc d := by
    cases d
    · simp only [State.domSrc, State.fld, s.storeStgCtl_reg w (a := domReg Reg.tmuDomCfg false) (by decide)]
    · simp only [State.domSrc, State.fld, s.storeStgCtl_reg w (a := domReg Reg.tmuDomCfg true) (by decide)]
  unfold State.stageRefusal
  rw [hsrc]
  rfl

/-- A GO keeps every bit of its command but the top one, which it sets. -/
theorem go_word (ctl : Word) : (ctl ||| 0x80000000#32).toNat.testBit 31 = true ∧ (ctl ||| 0x80000000#32).toNat % 4 = ctl.toNat % 4 ∧
    ∀ i, i < 31 → (ctl ||| 0x80000000#32).toNat.testBit i = ctl.toNat.testBit i := by
  have hbit : ∀ i, (ctl ||| 0x80000000#32).toNat.testBit i = (ctl.toNat.testBit i || decide (31 = i)) := by
    intro i
    rw [BitVec.toNat_or, Nat.testBit_or, show (0x80000000#32).toNat = 2 ^ 31 from rfl, Nat.testBit_two_pow]
  refine ⟨by rw [hbit, decide_eq_true rfl, Bool.or_true], Nat.eq_of_testBit_eq fun i => ?_, fun i hi => ?_⟩
  · rw [show (4 : Nat) = 2 ^ 2 from rfl, Nat.testBit_mod_two_pow, Nat.testBit_mod_two_pow, hbit]
    by_cases hi : i < 2
    · simp [show ¬ 31 = i by omega]
    · simp [hi]
  · rw [hbit, decide_eq_false (by omega), Bool.or_false]

/-- A cancel is a GO of kind 0 in the domain of the command. -/
theorem cancel_word (ctl : Word) : ((ctl &&& 0xFFFFFFFC#32) ||| 0x80000000#32).toNat.testBit 31 = true ∧
    ((ctl &&& 0xFFFFFFFC#32) ||| 0x80000000#32).toNat % 4 = 0 ∧
    ((ctl &&& 0xFFFFFFFC#32) ||| 0x80000000#32).toNat.testBit 4 = ctl.toNat.testBit 4 := by
  obtain ⟨htop, hkind, hbits⟩ := go_word (ctl &&& 0xFFFFFFFC#32)
  refine ⟨htop, hkind.trans ?_, (hbits 4 (by decide)).trans ?_⟩
  · rw [BitVec.toNat_and, show (4 : Nat) = 2 ^ 2 from rfl, Nat.and_mod_two_pow]
    exact Nat.and_zero _
  · rw [BitVec.toNat_and, Nat.testBit_and]
    exact Bool.and_true _

/-- A GO of some kind is refused for a value out of its range, or as a staged write is. -/
theorem State.goRefusal_go {s : State} (v : Word) {w : Nat} (hgo : w.testBit 31 = true) (hkind : ¬ w % 4 = 0) : (s.storeStgCtl v).goRefusal w =
    if w.testBit 0 ∧ s.stgValue.isNone then some 3
    else s.stageRefusal (w.testBit 4) (if w.testBit 0 then s.stgValue else none) (if w.testBit 1 then some s.stgRate else none) s.stgAt
      (w.testBit 5) := by
  have hrun : ¬ ((!w.testBit 31) = true ∨ w % 4 = 0) := by simp [hgo, hkind]
  refine (if_neg hrun).trans ?_
  simp only [State.storeStgCtl_stgValue, State.storeStgCtl_stgRate, State.storeStgCtl_stgAt, State.storeStgCtl_stageRefusal]

/-- The course of a GO: with a kind it is staged or refused, without one it cancels what is pending. -/
theorem State.stgGo_course {s : State} {w : Word} (hgo : w.toNat.testBit 31 = true) :
    (w.toNat % 4 = 0 → s.stgGo w = (s.storeStgCtl w).setDom (w.toNat.testBit 4) { s.dom (w.toNat.testBit 4) with pend := none }) ∧
    (¬ w.toNat % 4 = 0 → (s.storeStgCtl w).goRefusal w.toNat = none → s.stgGo w = (s.storeStgCtl w).stage (w.toNat.testBit 4)
      (if w.toNat.testBit 0 then s.stgValue else none) (if w.toNat.testBit 1 then some s.stgRate else none) s.stgAt (w.toNat.testBit 5)) ∧
    ∀ c, ¬ w.toNat % 4 = 0 → (s.storeStgCtl w).goRefusal w.toNat = some c → s.stgGo w =
      (s.storeStgCtl w).noteGoRefused (w.toNat.testBit 4) c := by
  have htop : ¬ (!w.toNat.testBit 31) = true := by rw [hgo]; exact Bool.false_ne_true
  refine ⟨fun hkind => (if_neg htop).trans (if_pos hkind), fun hkind hwhy => ?_, fun c hkind hwhy => ?_⟩
  · refine ((if_neg htop).trans (if_neg hkind)).trans ?_
    rw [hwhy, State.storeStgCtl_stgValue, State.storeStgCtl_stgRate, State.storeStgCtl_stgAt]
  · refine ((if_neg htop).trans (if_neg hkind)).trans ?_
    rw [hwhy]

/-- A staged write that nothing refuses is put in its slot. -/
theorem State.stageCmd_staged {s : State} {d : Bool} {value rate : Option Nat} {at_ : Nat} {once : Bool} (oR oV oA : Nat)
    (h : s.stageRefusal d value rate at_ once = none) : s.stageCmd d value rate at_ once oR oV oA = (s.stage d value rate at_ once, rspOk) := by
  rw [State.stageCmd, h]

/-! ### Reads -/

/-- A read of a TMU_NOW word other than the first. -/
theorem exec_tmuNowRead {s : State} {k : Nat} (halive : s.alive = true) (hk : k < 12) :
    exec (.tmuNowRead (4 * k)) s = .next ((s.latchNow k).emit (.readData (Reg.tmuNow + 4 * k) ((s.latchNow k).tmu.snap.word k))) := by
  have hrun : ¬ (!s.alive || decide (12 ≤ k) || 4 * k % 4 != 0) = true := by
    simp [halive, hk]
  simp only [exec, execTmuNowRead, Nat.mul_div_cancel_left k (show 0 < 4 by decide), if_neg hrun]

/-- The four bytes of TIME_STATUS that say how a domain's servo stands. -/
def State.servoBytes (s : State) (d : Bool) : List Byte := b1 (s.dom d).servo.code ++ b1 (s.domSrc d) ++ b1 (s.dom d).lhops ++ zeros 1

/-- The 24 bytes of TIME_STATUS that give a domain's offset, path delay and rate. -/
def State.offsetBytes (s : State) (d : Bool) : List Byte := b8 (s64 (s.dom d).theta) ++ b8 (s64 (s.dom d).mpd) ++ b8 (s.dom d).rate

/-- The four bytes of TIME_STATUS that give a domain's UTC offset. -/
def State.utcBytes (s : State) (d : Bool) : List Byte := b2 (unsigned 16 (s.dom d).utcOffset) ++ zeros 2

/-- The 76 bytes of TIME_STATUS. -/
def State.timeStatusBytes (s : State) : List Byte :=
  s.servoBytes false ++ (s.offsetBytes false ++ (s.utcBytes false ++ (s.servoBytes true ++ (s.offsetBytes true ++ (s.utcBytes true ++
    ((b1 (bn s.tmu.active) ++ b1 (bn s.tmu.bridge.isSome) ++ zeros 2) ++ b8 (s64 s.bridgeNow)))))))

theorem exec_timeStatus (r : Req) (s : State) : exec (.timeStatus r) s = runReq 0x0206 r s fun u => (u, rspOk u.timeStatusBytes) := by
  simp only [exec, execTimeStatus, State.timeStatusBytes, State.servoBytes, State.offsetBytes, State.utcBytes, List.append_assoc]

/-- What stands in a string after its first part. -/
theorem drop_append_right {x y : List Byte} {o k : Nat} (hk : x.length = k) : (x ++ y).drop (k + o) = y.drop o := by
  rw [← hk, List.drop_length_add_append]

theorem slice_append_right {x y : List Byte} {o k n : Nat} (hk : x.length = k) : slice (x ++ y) (k + o) n = slice y o n := by
  rw [slice, slice, drop_append_right hk]

/-- What stands first in a string. -/
theorem slice_append_left {x y : List Byte} {n : Nat} (hn : x.length = n) : slice (x ++ y) 0 n = x := by
  rw [slice, List.drop_zero, List.take_left' hn]

/-- Where the parts of TIME_STATUS stand. -/
theorem State.timeStatusBytes_slices (s : State) : s.timeStatusBytes.length = 76 ∧ s.timeStatusBytes.drop 68 = b8 (s64 s.bridgeNow) ∧
    slice s.timeStatusBytes 0 4 = s.servoBytes false ∧ slice s.timeStatusBytes 4 24 = s.offsetBytes false ∧
    slice s.timeStatusBytes 32 4 = s.servoBytes true ∧ slice s.timeStatusBytes 36 24 = s.offsetBytes true ∧
    slice s.timeStatusBytes 64 4 = b1 (bn s.tmu.active) ++ b1 (bn s.tmu.bridge.isSome) ++ zeros 2 := by
  have hservo : ∀ d, (s.servoBytes d).length = 4 := fun d => rfl
  have hoffset : ∀ d, (s.offsetBytes d).length = 24 := fun d => rfl
  have hutc : ∀ d, (s.utcBytes d).length = 4 := fun d => rfl
  have hend : (b1 (bn s.tmu.active) ++ b1 (bn s.tmu.bridge.isSome) ++ zeros 2).length = 4 := rfl
  unfold State.timeStatusBytes
  refine ⟨?_, ?_, slice_append_left (hservo _), ?_, ?_, ?_, ?_⟩
  · simp [hservo, hoffset, hutc]
  · exact (drop_append_right (o := 64) (hservo _)).trans ((drop_append_right (o := 40) (hoffset _)).trans
      ((drop_append_right (o := 36) (hutc _)).trans ((drop_append_right (o := 32) (hservo _)).trans
      ((drop_append_right (o := 8) (hoffset _)).trans ((drop_append_right (o := 4) (hutc _)).trans (drop_append_right (o := 0) hend))))))
  · exact (slice_append_right (o := 0) (hservo _)).trans (slice_append_left (hoffset _))
  · exact (slice_append_right (o := 28) (hservo _)).trans ((slice_append_right (o := 4) (hoffset _)).trans
      ((slice_append_right (o := 0) (hutc _)).trans (slice_append_left (hservo _))))
  · exact (slice_append_right (o := 32) (hservo _)).trans ((slice_append_right (o := 8) (hoffset _)).trans
      ((slice_append_right (o := 4) (hutc _)).trans ((slice_append_right (o := 0) (hservo _)).trans (slice_append_left (hoffset _)))))
  · exact (slice_append_right (o := 60) (hservo _)).trans ((slice_append_right (o := 36) (hoffset _)).trans
      ((slice_append_right (o := 32) (hutc _)).trans ((slice_append_right (o := 28) (hservo _)).trans
      ((slice_append_right (o := 4) (hoffset _)).trans ((slice_append_right (o := 0) (hutc _)).trans (slice_append_left hend))))))

/-! ### The rows -/

/-- Settles O36: each row's course is read off its definition. -/
theorem meridianCommandsComplete : Obligations.MeridianCommandsComplete := by
  refine ⟨?nowLatch, ?nowStand, ?nowSeq, ?go, ?cancel, ?apply, ?timeRead, ?timeSet, ?timeRate, ?selectSame, ?selectTile, ?selectLead, ?selectWait,
    ?ptpConfig, ?pathCal, ?pathCalRing, ?timeStatus, ?capPop, ?holdover, ?announce, ?bridge⟩
  case nowLatch =>
    intro s k halive hlo hhi hstale t n
    have hzero : ¬ k = 0 := by omega
    have hold : (!s.tmu.snap.fresh || s.tmu.snap.read.contains k || decide (s.tmu.snap.raw + rawUs 100 < s.now)) = true := by
      simpa [or_assoc] using hstale
    have hlatch : s.latchNow k = { t with tmu := { t.tmu with snap := n } } := by
      simp only [State.latchNow, if_neg hzero, hold, if_true]
      rfl
    rw [exec_tmuNowRead halive hhi, hlatch]
  case nowStand =>
    intro s k halive hlo hhi hfresh hnew hage
    have hzero : ¬ k = 0 := by omega
    have hold : (!s.tmu.snap.fresh || s.tmu.snap.read.contains k || decide (s.tmu.snap.raw + rawUs 100 < s.now)) = false := by
      simp [hfresh, hnew, hage]
    have hlatch : s.latchNow k = { s with tmu := { s.tmu with snap := { s.tmu.snap with read := k :: s.tmu.snap.read } } } := by
      simp only [State.latchNow, if_neg hzero, hold, Bool.false_eq_true, if_false]
    rw [exec_tmuNowRead halive hhi, hlatch]
    rfl
  case nowSeq =>
    intro s halive
    exact exec_tmuNowRead (k := 0) halive (by decide)
  case go =>
    intro s ctl halive hkind
    obtain ⟨htop, hmod, hbits⟩ := go_word ctl
    have hsome : ¬ (ctl ||| 0x80000000#32).toNat % 4 = 0 := hmod.symm ▸ hkind
    have hwhy := State.goRefusal_go (s := s) (ctl ||| 0x80000000#32) htop hsome
    obtain ⟨-, hstaged, hrefused⟩ := State.stgGo_course (s := s) htop
    have hrow : exec (.tmuStgGo ctl) s = .next (s.stgGo (ctl ||| 0x80000000#32)) := if_pos halive
    simp only [hbits 0 (by decide), hbits 1 (by decide), hbits 4 (by decide), hbits 5 (by decide)] at hwhy hstaged hrefused
    refine ⟨fun hnone => ?_, fun c hc => ?_⟩
    · rw [hrow, hstaged hsome (hwhy.trans hnone)]
    · rw [hrow, hrefused c hsome (hwhy.trans hc)]
      rfl
  case cancel =>
    intro s ctl halive
    obtain ⟨htop, hmod, hdom⟩ := cancel_word ctl
    have hrow : exec (.tmuStgCancel ctl) s = .next (s.stgGo ((ctl &&& 0xFFFFFFFC#32) ||| 0x80000000#32)) := if_pos halive
    rw [hrow, (State.stgGo_course htop).1 hmod, hdom]
  case apply =>
    intro s d w halive hpend htime t u
    simp only [exec, execStagedWriteApply, halive, if_true, State.settleDom, hpend, htime, State.applyStaged, u, t]
  case timeRead =>
    intro s r h
    simp only [Answers, exec, execTimeRead]
    exact h.run_with rfl ⟨rfl, rfl, rfl, rfl⟩
  case timeSet =>
    intro s r v h hd hmode htime hat hok
    have h3 : ¬ (u8 r.payload 1 = 0 ∧ fieldAt r.payload 16 3 ≠ 0) := fun hx => hx.2 (hat hx.1)
    refine (h.run ((if_neg (Nat.not_lt.mpr hd)).trans ((if_neg (Nat.not_lt.mpr hmode)).trans ?_)) : execTimeSet r s = _)
    simp only [htime, if_neg h3]
    exact State.stageCmd_staged 4 4 16 hok
  case timeRate =>
    intro s r h hd hmode hat hok
    have h3 : ¬ (u8 r.payload 1 = 0 ∧ rateOk (u64 r.payload 4) = true ∧ fieldAt r.payload 12 3 ≠ 0) := fun hx => hx.2.2 (hat hx.1)
    exact (h.run ((if_neg (Nat.not_lt.mpr hd)).trans ((if_neg (Nat.not_lt.mpr hmode)).trans ((if_neg h3).trans
      (State.stageCmd_staged 4 4 12 hok)))) : execTimeRate r s = _)
  case selectSame =>
    intro s r h hd hstep hsame
    exact (h.run ((if_neg (Nat.not_lt.mpr hd)).trans ((if_neg (Nat.not_lt.mpr hstep)).trans (if_pos hsame))) : execTimeSelect r s = _)
  case selectTile =>
    intro s r h hd hstep hother hbridge hswitch htile hempty hfree
    have hidle : ¬ (s.tmu.bridge.isSome = true ∨ s.tmu.switch.isSome = true) := by simp [hbridge, hswitch]
    have hblock : ¬ (s.lch.table.isEmpty = true ∧ s.kl05Blocks (u8 r.payload 0) s.now = true) := by simp [hfree]
    exact (h.run ((if_neg (Nat.not_lt.mpr hd)).trans ((if_neg (Nat.not_lt.mpr hstep)).trans ((if_neg hother).trans ((if_neg hidle).trans
      ((if_pos htile).trans ((if_neg hblock).trans (if_pos (List.isEmpty_iff.mpr hempty)))))))) : execTimeSelect r s = _)
  case selectLead =>
    intro s r h hd hstep hother hbridge hswitch htile hwaits hvalid hfree
    have hidle : ¬ (s.tmu.bridge.isSome = true ∨ s.tmu.switch.isSome = true) := by simp [hbridge, hswitch]
    have hlead : ¬ s.isTile = true := by simp [htile]
    have hnow : ¬ s.waitsForLaunch = true := by simp [hwaits]
    have hok : ¬ (!(s.dom (u8 r.payload 0 == 1)).valid) = true := by simp [hvalid]
    have hblock : ¬ s.kl05Blocks (u8 r.payload 0) s.now = true := by simp [hfree]
    have hswitched : (s.takeReq 0x0203 r).switchAtOnce (u8 r.payload 0) false = _ := (if_neg hok).trans (if_neg hblock)
    refine (h.run ((if_neg (Nat.not_lt.mpr hd)).trans ((if_neg (Nat.not_lt.mpr hstep)).trans ((if_neg hother).trans ((if_neg hidle).trans
      ((if_neg hlead).trans ((if_neg hnow).trans ?_)))))) : execTimeSelect r s = _)
    rw [hswitched]
    rfl
  case selectWait =>
    intro s r h hd hstep hother hbridge hswitch htile hwaits
    have hidle : ¬ (s.tmu.bridge.isSome = true ∨ s.tmu.switch.isSome = true) := by simp [hbridge, hswitch]
    have hlead : ¬ s.isTile = true := by simp [htile]
    exact (h.run ((if_neg (Nat.not_lt.mpr hd)).trans ((if_neg (Nat.not_lt.mpr hstep)).trans ((if_neg hother).trans ((if_neg hidle).trans
      ((if_neg hlead).trans (if_pos hwaits)))))) : execTimeSelect r s = _)
  case ptpConfig =>
    intro s r h hport hd hdomain hfree hlo hhi
    have h1 : ¬ (u8 r.payload 0 ≠ 4 ∧ u8 r.payload 0 ≠ 5 ∧ u8 r.payload 0 ≠ 7) := by omega
    have h3 : ¬ (127 < u8 r.payload 2 ∨ (u8 r.payload 3).testBit 0 = true ∧ (s.ptp (u8 r.payload 1 == 0)).enabled = true ∧
        (s.ptp (u8 r.payload 1 == 0)).domain = u8 r.payload 2) := not_or.mpr ⟨Nat.not_lt.mpr hdomain, hfree⟩
    have h4 : ¬ (u8 r.payload 4 < 2 ∨ 10 < u8 r.payload 4) := by omega
    exact (h.run ((if_neg h1).trans ((if_neg (Nat.not_lt.mpr hd)).trans ((if_neg h3).trans (if_neg h4)))) : execPtpConfig r s = _)
  case pathCal =>
    intro s r h hp htile hvolzia hidle hring
    have h1 : ¬ (8 ≤ u8 r.payload 0 ∨ s.isTile = true ∧ 2 ≤ u8 r.payload 0) :=
      not_or.mpr ⟨Nat.not_le.mpr hp, fun hx => absurd (htile hx.1) (Nat.not_lt.mpr hx.2)⟩
    have h2 : ¬ (!s.volziaPort (u8 r.payload 0)) = true := by simp [hvolzia]
    have h3 : ¬ s.tmu.pathCal.isSome = true := by simp [hidle]
    have hcal : (s.takeReq 0x0205 r).ringCal (u8 r.payload 0) = false := hring
    refine (h.run ((if_neg h1).trans ((if_neg h2).trans ((if_neg h3).trans ?_))) : execPathCal r s = _)
    simp only [hcal, Bool.false_eq_true, if_false]
  case pathCalRing =>
    intro s r h hp htile hvolzia hidle hring
    have h1 : ¬ (8 ≤ u8 r.payload 0 ∨ s.isTile = true ∧ 2 ≤ u8 r.payload 0) :=
      not_or.mpr ⟨Nat.not_le.mpr hp, fun hx => absurd (htile hx.1) (Nat.not_lt.mpr hx.2)⟩
    have h2 : ¬ (!s.volziaPort (u8 r.payload 0)) = true := by simp [hvolzia]
    have h3 : ¬ s.tmu.pathCal.isSome = true := by simp [hidle]
    have hcal : (s.takeReq 0x0205 r).ringCal (u8 r.payload 0) = true := hring
    refine (h.run ((if_neg h1).trans ((if_neg h2).trans ((if_neg h3).trans ?_))) : execPathCal r s = _)
    simp only [hcal, if_true]
  case timeStatus =>
    intro s r h
    obtain ⟨hlen, hend, hservo0, hoffset0, hservo1, hoffset1, hactive⟩ := s.timeStatusBytes_slices
    rw [Answers, exec_timeStatus]
    exact h.run_with rfl ⟨s.takeReq_keeps 0x0206 r, rfl, hlen, hend, hservo0, hoffset0, hservo1, hoffset1, hactive⟩
  case capPop =>
    intro s n e rest halive hn hentries
    have hrun : ¬ (!s.alive || decide (4 ≤ n)) = true := by simp [halive, hn]
    simp only [exec, execTmuCapPop, if_neg hrun, hentries]
  case holdover => exact fun s d halive hservo hlate => if_pos ⟨halive, hservo, hlate⟩
  case announce =>
    intro s d q halive hlead hbest hon hexpired x t
    have hrun : ¬ (!(s.alive && s.isLead && ((s.ptp d).port q).enabled && ((s.ptp d).port q).expired s.now)) = true := by
      simp [halive, hlead, hon, hexpired]
    refine ⟨fun hsrc hhold hfree => ?_, fun hsrc => ?_⟩
    · have hsteered : s.domSrc d = 1 ∧ (s.dom d).servo ≠ .holdover ∧ (s.dom d).servo ≠ .free := ⟨hsrc, hhold, hfree⟩
      simp only [exec, execAnnounceReceiptTimeout, hbest, if_neg hrun, if_pos hsteered, t, x]
    · have hother : ¬ (s.domSrc d = 1 ∧ (s.dom d).servo ≠ .holdover ∧ (s.dom d).servo ≠ .free) := fun hx => hsrc hx.1
      simp only [exec, execAnnounceReceiptTimeout, hbest, if_neg hrun, if_neg hother, t, x]
  case bridge => exact fun s halive hon hzero => if_pos ⟨halive, hon, hzero⟩

end Sys2Proof.Machine
end

section
/-! PROOFS. The Meridian time unit: its cells and its PTP messages (R162 to R172). -/

namespace Sys2Proof.Machine

/-! ### Messages -/

/-- A PDRESP of an exchange that this chip began (R165). -/
theorem exec_pdrespReceived {s : State} {m : Msg} {tx : Nat} (halive : s.alive = true) (hcore : s.coreFaulted 1 = false) (hkind : u8 m.body 0 = 6)
    (hfind : Map.find s.tmu.pdreq (65536 * m.port + u16 m.body 2) = some tx) :
    let v : Int := (m.stamp : Int) - tx - fieldAt m.body 18 6
    let l := (v :: Map.at s.tmu.pdelay [] m.port).take 16
    exec (.pdrespReceived m) s = .next (({ s.takeMsgRow m with tmu := { s.tmu with
      pdelay := Map.put s.tmu.pdelay m.port l, pdreq := Map.del s.tmu.pdreq (65536 * m.port + u16 m.body 2),
      pathCal := match s.tmu.pathCal with
        | some c => if c.port = m.port ∧ !c.ring then some { c with cw := v :: c.cw } else some c
        | none => none } }).setReg (Reg.tmuPortDly + 0x10 * m.port) (BitVec.ofInt 32 (avgHalves 1 l))) := by
  have hrun : ¬ (!(s.alive && u8 m.body 0 == 6) || s.coreFaulted 1) = true := by simp [halive, hkind, hcore]
  simp only [exec, execPdrespReceived, hfind, if_neg hrun]
  rfl

/-- A FOLLOW of the SYNC that its domain holds, within the interval that follows it (R166). -/
theorem exec_followReceived {s : State} {m : Msg} {stamp cs t1 : Nat} (halive : s.alive = true) (hon : s.tmuOn = true) (hkind : u8 m.body 0 = 2)
    (htime : timeAt m.body 6 = some t1) (hsync : (s.dom ((u8 m.body 1).testBit 0)).sync = some (u16 m.body 2, stamp, cs))
    (htakes : s.takesTime ((u8 m.body 1).testBit 0) m.port = true) (hlate : m.stamp ≤ stamp + s.sampleInterval ((u8 m.body 1).testBit 0)) :
    let d := (u8 m.body 1).testBit 0
    let x := s.dom d
    let t := (s.takeMsgRow m).setDom d
      { x with sync := none, lastSync := some (t1, stamp, cs), utcOffset := signed 16 (u16 m.body 28),
               lhops := if s.isTile then u8 m.body 30 else u8 m.body 30 + 1 }
    exec (.followReceived m) s =
      match s.pathDelay d m.port with
      | some delay =>
        if s.coreFaulted 1 || !(u8 m.body 1).testBit 1 then .next t
        else .next (t.servoSample d (x.at stamp - t1 - (cs : Int) * 1000 - delay))
      | none => .next t := by
  have hdom : (s.takeMsgRow m).dom ((u8 m.body 1).testBit 0) = s.dom ((u8 m.body 1).testBit 0) := rfl
  have hrun : ¬ (!(s.alive && s.tmuOn && u8 m.body 0 == 2 && u16 m.body 2 == u16 m.body 2 && s.takesTime ((u8 m.body 1).testBit 0) m.port &&
      decide (m.stamp ≤ stamp + s.sampleInterval ((u8 m.body 1).testBit 0)))) = true := by
    rw [halive, hon, hkind, htakes, decide_eq_true hlate, beq_self_eq_true (u16 m.body 2)]
    exact Bool.false_ne_true
  simp only [exec, execFollowReceived, hdom, hsync, htime, if_neg hrun] <;> rfl

/-- A DREQ from a chain of this lead alone is judged by its own number of hops (R167). -/
theorem exec_dreqReceived {s : State} {m : Msg} (halive : s.alive = true) (hlead : s.isLead = true) (hkind : u8 m.body 0 = 3) (hport : m.port ≠ 6)
    (htails : s.pai.tails = 0) :
    let d := (u8 m.body 1).testBit 0
    let req := u16 m.body 4 % 4096
    exec (.dreqReceived m) s = if decide (m.hops ≠ req % 64) || decide (m.hops * 26214 < m.corr) || !s.isSourceFor m then
        .next ((s.takeMsgRow m).raise 68 3
          (m.port + bn (decide (m.hops ≠ req % 64)) * 16 + bn (decide (m.hops * 26214 < m.corr)) * 32 + m.hops * 256))
      else .next ((s.takeMsgRow m).send
        { port := m.port, typ := 3, dest := req, dir := false, relay := false, key := 3,
          body := timeBody 4 (s.mflags d) (u16 m.body 2) req ((s.dom d).at m.stamp).toNat m.corr (unsigned 32 (s.asymFor req false false))
            (unsigned 16 (s.dom d).utcOffset) (s.dom d).lhops }) := by
  have hrun : ¬ (!(s.alive && s.isLead && u8 m.body 0 == 3)) = true := by simp [halive, hlead, hkind]
  have hside : (m.port == 6) = false := beq_eq_false_iff_ne.mpr hport
  simp only [exec, execDreqReceived, if_neg hrun, hside, htails, Nat.zero_testBit, Bool.or_self, Bool.false_eq_true, if_false]

/-- A DRESP of the exchange that its domain holds (R166). -/
theorem exec_drespReceived {s : State} {m : Msg} {st3 t1 st2 cs t4 : Nat} (halive : s.alive = true) (htile : s.isTile = true)
    (hcore : s.coreFaulted 1 = false) (hkind : u8 m.body 0 = 4) (htime : timeAt m.body 6 = some t4)
    (hdreq : (s.dom ((u8 m.body 1).testBit 0)).dreq = some (u16 m.body 2, some st3))
    (hlast : (s.dom ((u8 m.body 1).testBit 0)).lastSync = some (t1, st2, cs)) :
    let d := (u8 m.body 1).testBit 0
    let x := s.dom d
    let m2 : Int := (x.at st2 - x.at st3) + ((t4 : Int) - t1) - (cs : Int) * 1000 - (fieldAt m.body 18 6 : Int) * 1000
    exec (.drespReceived m) s = if !x.mpds.isEmpty ∧ 2 * 655360 < (m2 - 2 * x.mpd).natAbs then
        .next (((s.takeMsgRow m).setDom d { x with dreq := none, rej := min 255 (x.rej + 1) }).raise 137 1
          (bn d + (min 0xFFFFFF ((m2 - 2 * x.mpd).natAbs / 131072)) * 256))
      else .next (((s.takeMsgRow m).setDom d (({ x with dreq := none, asym := signed 32 (u32 m.body 24) } : Dom).addDelay m2)).setReg
        Reg.tmuPathAsym (BitVec.ofInt 32 (signed 32 (u32 m.body 24)))) := by
  have hdom : (s.takeMsgRow m).dom ((u8 m.body 1).testBit 0) = s.dom ((u8 m.body 1).testBit 0) := rfl
  have hrun : ¬ (!(s.alive && s.isTile && u8 m.body 0 == 4 && u16 m.body 2 == u16 m.body 2) || s.coreFaulted 1) = true := by
    simp [halive, htile, hkind, hcore]
  simp only [exec, execDrespReceived, hdom, hdreq, hlast, htime, if_neg hrun]

/-- A cell of a ring calibration that returns is one sample (R170). -/
theorem exec_loopCellReturn {s : State} {m : Msg} {c : PathCal} {sent : Nat} (halive : s.alive = true) (hkind : u8 m.body 0 = 7)
    (hcal : s.tmu.pathCal = some c) (hring : c.ring = true) (hfind : Map.find c.loops (u16 m.body 2 * 2 + bn ((u8 m.body 1).testBit 3)) = some sent) :
    let p6 := (u8 m.body 1).testBit 3
    let v : Int := (m.stamp : Int) - sent - m.corr
    let c1 : PathCal := { c with loops := Map.del c.loops (u16 m.body 2 * 2 + bn p6) }
    let c2 : PathCal := if p6 then { c1 with ccw := v :: c.ccw } else { c1 with cw := v :: c.cw }
    exec (.loopCellReturn m) s = .next ((if !p6 ∧ c2.cw.length = 64 then s.loopCells c.port true else []).foldl State.send
      { s.takeMsgRow m with tmu := { s.tmu with pathCal := some c2 } }) := by
  have hrun : ¬ (!(s.alive && u8 m.body 0 == 7 && c.ring)) = true := by simp [halive, hkind, hring]
  simp only [exec, execLoopCellReturn, hcal, hfind, if_neg hrun]
  rfl

/-- A PTP message of the first domain, the second disabled. -/
theorem State.ptpDomain_first {s : State} (p : PtpMsg) (hoff : s.tmu.ptp1.enabled = false) :
    (s.tmu.ptp1.enabled && s.tmu.ptp1.domain == p.domain) = false := by
  rw [hoff]
  rfl

/-! ### The rows -/

/-- Settles O37: each row's course is read off its definition. -/
theorem meridianCellsComplete : Obligations.MeridianCellsComplete := by
  refine ⟨?syncSend, ?dreqSend, ?pdreqSend, ?pdreq, ?pdresp, ?sync, ?follow, ?dreq, ?dresp, ?loopReturn, ?pathCal, ?pathCalRing, ?announce,
    ?ptpSync⟩
  case syncSend =>
    intro s port d halive hlead hon hp hdist hvalid hopen
    have hrun : ¬ (!(s.alive && s.isLead && s.tmuOn && decide (port < 8) && s.bit Reg.tmuCfg (24 + port) && (s.dom d).valid &&
        (s.portState port == .open_ || s.pai.relay.testBit port ||
          (s.portState port == .active && (s.func port == 3 || s.func port == 4))))) = true := by
      simp [halive, hlead, hon, hp, hdist, hvalid, hopen]
    exact if_neg hrun
  case dreqSend =>
    intro s d halive htile hon haddr hsrc
    have hrun : ¬ (!(s.alive && s.isTile && s.tmuOn && s.net.valid && s.domSrc d == 4)) = true := by simp [halive, htile, hon, haddr, hsrc]
    exact if_neg hrun
  case pdreqSend =>
    intro s port halive hon hp hvolzia
    have hrun : (s.alive && s.tmuOn && decide (port < 8) && s.volziaPort port) = true := by simp [halive, hon, hp, hvolzia]
    exact if_pos hrun
  case pdreq =>
    intro s m halive hkind
    have hrun : ¬ (!(s.alive && u8 m.body 0 == 5)) = true := by simp [halive, hkind]
    exact if_neg hrun
  case pdresp =>
    intro s m tx halive hcore hkind hfind v l
    refine ⟨_, exec_pdrespReceived halive hcore hkind hfind, Map.at_put_same .., State.reg_setReg_same .., ?_, rfl, rfl, rfl, fun c hc hport hring => ?_⟩
    · exact ⟨fun q hq => by cases q <;> first | rfl | simp at hq, fun a ha => State.reg_setReg_other _ (by simpa using ha) _⟩
    · simp only [State.setReg_tmu, hc, hport, hring, Bool.not_false, and_self, if_true]
      rfl
  case sync =>
    intro s m halive hon hkind d
    have hrun : ¬ (!(s.alive && s.tmuOn && u8 m.body 0 == 1)) = true := by simp [halive, hon, hkind]
    exact if_neg hrun
  case follow =>
    intro s m stamp cs t1 halive hon hkind htime d x t hsync htakes hlate
    have hcourse := exec_followReceived halive hon hkind htime hsync htakes hlate
    refine ⟨fun delay hdelay hcore hvalid => ?_, fun hdelay => ?_⟩
    · have hrun : ¬ (s.coreFaulted 1 || !(u8 m.body 1).testBit 1) = true := by simp [hcore, hvalid]
      simp only [d] at hdelay
      simp only [hdelay, if_neg hrun] at hcourse
      exact hcourse
    · simp only [d] at hdelay
      simp only [hdelay] at hcourse
      exact hcourse
  case dreq =>
    intro s m halive hlead hkind hport htails req d
    have hcourse := exec_dreqReceived halive hlead hkind hport htails
    refine ⟨fun hhops hcorr hsource => ?_, fun hhops => ?_⟩
    · have hfits : ¬ (decide (m.hops ≠ u16 m.body 4 % 4096 % 64) || decide (m.hops * 26214 < m.corr) || !s.isSourceFor m) = true := by
        rw [decide_eq_false (not_not.mpr hhops), decide_eq_false (Nat.not_lt.mpr hcorr), hsource]
        exact Bool.false_ne_true
      exact hcourse.trans (if_neg hfits)
    · have hbad : decide (m.hops ≠ u16 m.body 4 % 4096 % 64) = true := decide_eq_true hhops
      simp only [hbad, Bool.true_or, if_true] at hcourse
      exact hcourse
  case dresp =>
    intro s m st3 t1 st2 cs t4 halive htile hcore hkind htime d x m2 asym hdreq hlast
    have hcourse := exec_drespReceived halive htile hcore hkind htime hdreq hlast
    refine ⟨fun hnear => hcourse.trans (if_neg ?_), fun hsome hfar => hcourse.trans (if_pos ⟨?_, hfar⟩)⟩
    · rintro ⟨hsome, hfar⟩
      rcases hnear with hnone | hnear
      · have hempty : (s.dom ((u8 m.body 1).testBit 0)).mpds = [] := hnone
        rw [hempty] at hsome
        exact Bool.false_ne_true hsome
      · exact absurd hfar (Nat.not_lt.mpr hnear)
    · have hempty : (s.dom ((u8 m.body 1).testBit 0)).mpds.isEmpty = false := List.isEmpty_eq_false_iff.mpr hsome
      rw [hempty]
      rfl
  case loopReturn =>
    intro s m c sent halive hkind hcal hring p6 k v t hfind
    have hcourse := exec_loopCellReturn halive hkind hcal hring hfind
    refine ⟨fun hp6 => ?_, fun hp6 hmore => ?_⟩
    · simp only [p6] at hp6
      simp only [hp6, if_true, Bool.not_true, Bool.false_eq_true, false_and, if_false, List.foldl_nil] at hcourse
      simp only [k, p6, hp6]
      exact hcourse
    · simp only [p6] at hp6
      have hlast : ¬ c.cw.length + 1 = 64 := by omega
      simp only [hp6, Bool.false_eq_true, if_false, Bool.not_false, true_and, List.length_cons, if_neg hlast, List.foldl_nil] at hcourse
      simp only [k, p6, hp6]
      exact hcourse
  case pathCal =>
    intro s l c halive hcore hcal hring hlen
    have hrun : ¬ (!s.alive || s.coreFaulted 0 || decide (c.cw.length < 64) || (c.ring && decide (c.ccw.length < 64))) = true := by
      simp [halive, hcore, hlen, hring]
    have hlink : (!c.ring) = true := by rw [hring]; rfl
    simp only [exec, execPathCalComplete, hcal, if_neg hrun, if_pos hlink]
  case pathCalRing =>
    intro s l c halive hcore hcal hring hcw hccw hspread
    have hrun : ¬ (!s.alive || s.coreFaulted 0 || decide (c.cw.length < 64) || (c.ring && decide (c.ccw.length < 64))) = true := by
      simp [halive, hcore, hcw, hccw]
    have hover : ((64 * 64 * 64 : Nat) : Int) * 687195 < spread (List.zipWith (· - ·) (c.cw.take 64) (c.ccw.take 64)) * 100000 := hspread
    have hloop : ¬ (!c.ring) = true := by rw [hring]; exact Bool.false_ne_true
    simp only [exec, execPathCalComplete, hcal, if_neg hrun, if_neg hloop, if_pos hover]
  case announce =>
    intro s port p halive hlead hfunc hoff hon hdomain hkind hnone y hy
    have hrun : ¬ (!(s.alive && s.isLead && s.func port == 2 && (s.tmu.ptp0.port port).enabled && s.tmu.ptp0.domain == p.domain)) = true := by
      simp [halive, hlead, hfunc, hon, hdomain]
    have htakes : s.takeAnnounce false port p = (s.setPtp false { s.tmu.ptp0 with
        ports := s.tmu.ptp0.ports.set (ingIdx port) { s.tmu.ptp0.port port with master := some y } }).rechoose false := by
      have hexpired : (s.tmu.ptp0.port port).expired s.now = true := by simp only [PtpPort.expired, hnone]
      simp only [State.takeAnnounce, State.ptp, Bool.false_eq_true, if_false, hexpired, Bool.true_or, if_true, hy]
    simp only [exec, execPtpMessageReceived, State.ptpDomain_first p hoff, State.ptp, Bool.false_eq_true, if_false, if_neg hrun, hkind, if_true, htakes]
  case ptpSync =>
    intro s port p c halive hlead hfunc hoff hon hdomain hkind htwo hbest hmaster hsender hsrc htmu hcore
    have hrun : ¬ (!(s.alive && s.isLead && s.func port == 2 && (s.tmu.ptp0.port port).enabled && s.tmu.ptp0.domain == p.domain)) = true := by
      simp [halive, hlead, hfunc, hon, hdomain]
    have hmine : ¬ ((!(s.tmu.ptp0.best == some port && (match (s.tmu.ptp0.port port).master with | some m => m.sender == p.sender | none => false))) = true ∨
        s.domSrc false ≠ 1 ∨ (!s.tmuOn) = true ∨ s.coreFaulted 1 = true) := by
      simp [hbest, hmaster, hsender, hsrc, htmu, hcore]
    have hother : ¬ p.kind = 3 := by omega
    refine ((if_neg ?_).trans ((if_neg hother).trans ((if_neg ?_).trans ((if_pos hkind).trans ((if_pos htwo).trans ?_))))
      : execPtpMessageReceived port p s = _)
    · rw [State.ptpDomain_first p hoff]
      exact hrun
    · rw [State.ptpDomain_first p hoff]
      exact hmine
    · rw [State.ptpDomain_first p hoff]
      rfl

end Sys2Proof.Machine
end

section
/-! PROOFS. Ephemeris: the lead's announcements and the tile's launches (R173, R181 to R206). -/

namespace Sys2Proof.Machine

/-! ### The lead -/

/-- The next announcement of mode 0 (R188). -/
theorem State.nextAnnounce_fixed {s : State} {l : Launch} (hmode : lchMode s.lch.cfg = 0) (hnewest : s.newest = some l) :
    s.nextAnnounce = some ((l.at_ : Int) + 1000 * lchPeriod s.lch.cfg - 1000 * lchAnn s.lch.cfg,
      s.lch.sched + 1000 * lchPeriod s.lch.cfg, false, s) := by
  simp only [State.nextAnnounce, hnewest, hmode, OfNat.zero_ne_ofNat, zero_ne_one, if_false]

/-- Without a domain switch and a bridge the next launch is announced at its scheduled instant (R173, R188). -/
theorem State.announceNext_fixed {s : State} {l : Launch} (hmode : lchMode s.lch.cfg = 0) (hnewest : s.newest = some l)
    (hswitch : s.tmu.switch = none) (hbridge : s.tmu.bridge = none) :
    let late : Int := s.domNow s.lch.count - ((l.at_ : Int) + 1000 * lchPeriod s.lch.cfg - 1000 * lchAnn s.lch.cfg)
    0 ≤ late → s.announceNext = some (s.announce (s.lch.sched + 1000 * lchPeriod s.lch.cfg) (s.lch.sched + 1000 * lchPeriod s.lch.cfg)
      (s.derivedNow - late).toNat) := by
  intro late hlate
  have hdue : ¬ s.domNow s.lch.count < (l.at_ : Int) + 1000 * lchPeriod s.lch.cfg - 1000 * lchAnn s.lch.cfg := not_lt.mpr (sub_nonneg.mp hlate)
  have hdecide : ∀ a, s.decideSwitch a = s := fun a => by simp only [State.decideSwitch, hswitch]
  have hrho : s.bridgeNow = 0 := by simp only [State.bridgeNow, hbridge]
  simp only [State.announceNext, State.nextAnnounce_fixed hmode hnewest, if_neg hdue, Bool.false_eq_true, if_false, hdecide, hrho, add_zero,
    Int.toNat_natCast]
  rfl

/-- What LCH_STATUS answers. -/
def State.lchStatusBytes (s : State) : List Byte :=
  b1 s.lch.state.code ++ (b1 (if s.lch.cfg.isEmpty then 0 else lchMode s.lch.cfg) ++ (b1 s.lch.servo.code ++
    (b1 (if s.lch.cfg.isEmpty then 0 else lchId s.lch.cfg) ++ ((launchBytes s.lch.past.head? ++ launchBytes s.lch.table.head?) ++
    (b4 (s.reg Reg.lchAbortCnt).toNat ++ (b4 (s.reg Reg.lchCoastCnt).toNat ++ (b4 (s.reg Reg.lchDiscCnt).toNat ++ b4 (unsigned 32 s.lch.err))))))))

theorem exec_lchStatus (r : Req) (s : State) : exec (.lchStatus r) s = runReq 0x0304 r s fun u => (u, rspOk u.lchStatusBytes) := by
  simp only [exec, execLchStatus, State.lchStatusBytes, List.append_assoc]

/-- Where the parts of LCH_STATUS stand. -/
theorem State.lchStatusBytes_parts (s : State) : u8 s.lchStatusBytes 0 = s.lch.state.code ∧ u8 s.lchStatusBytes 2 = s.lch.servo.code ∧
    (s.lch.past = [] → s.lch.table = [] → slice s.lchStatusBytes 4 32 = zeros 32) := by
  have hstate : s.lch.state.code % 256 = s.lch.state.code := by cases s.lch.state <;> rfl
  have hservo : s.lch.servo.code % 256 = s.lch.servo.code := by cases s.lch.servo <;> rfl
  unfold State.lchStatusBytes
  refine ⟨?_, ?_, fun hpast htable => ?_⟩
  · exact ((fieldAt_append_left (o := 0) (n := 1) (by simp)).trans (fieldAt_beBytes 1 _)).trans hstate
  · exact ((fieldAt_append_right (b1 _) _ 1 1).trans ((fieldAt_append_right (b1 _) _ 0 1).trans
      ((fieldAt_append_left (by simp)).trans (fieldAt_beBytes 1 _)))).trans hservo
  · have hbytes : launchBytes s.lch.past.head? ++ launchBytes s.lch.table.head? = zeros 32 := by rw [hpast, htable]; rfl
    rw [hbytes]
    exact (slice_append_right (o := 3) (b1_length _)).trans ((slice_append_right (o := 2) (b1_length _)).trans
      ((slice_append_right (o := 1) (b1_length _)).trans ((slice_append_right (o := 0) (b1_length _)).trans
      (slice_append_left (zeros_length 32)))))

/-! ### The tile -/

/-- One entry of an LNCH cell of the lead's epoch (R197). -/
theorem exec_lnchCell_entry {s : State} {m : Msg} {l : Nat} (halive : s.alive = true) (htile : s.isTile = true) (hvalid : s.net.valid = true)
    (hepoch : u32 m.body 4 = s.leadEpoch) (hcfg : s.lch.cfg ≠ []) (hone : u8 m.body 2 = 1) (hstop : (u8 m.body 1).testBit 2 = false)
    (hsw : (u8 m.body 32).testBit 2 = false) (htime : timeAt m.body 40 = some l) :
    let t := (s.takeMsgRow m).setFaultEpoch (u32 m.body 8)
    exec (.lnchCellReceived m) s = .next
      (({ t with lch := { t.lch with pcoast := u32 m.body 12, smin := u32 m.body 16, sw := none } }).takeEntry
        { n := u32 m.body 36, at_ := l, cfgOk := u8 m.body 3 == lchId s.lch.cfg }) := by
  have hrun : ¬ (!s.alive || !s.isTile) = true := by simp [halive, htile]
  have hmine : ¬ ((!s.net.valid) = true ∨ u32 m.body 4 ≠ s.leadEpoch) := by simp [hvalid, hepoch]
  have hconf : ¬ s.lch.cfg.isEmpty = true := by simpa using hcfg
  have hk : min 4 (u8 m.body 2) = 1 := by rw [hone]; rfl
  simp only [exec, execLnchCellReceived, if_neg hrun, if_neg hmine, if_neg hconf, hk, hstop, hsw, List.range_one, List.filterMap_cons,
    List.filterMap_nil, Nat.mul_zero, Nat.add_zero, htime, Option.map_some, List.foldl_cons, List.foldl_nil, Bool.false_eq_true, if_false,
    Bool.false_and]

/-- Where no slot of a launch has a fault, every slot shows its frame (R200). -/
theorem State.nexts_frame {s : State} {l : Launch} (rep : Bool) (hall : ∀ k ∈ s.slots, s.slotFault l k = none) :
    s.slots.map (fun k => if (s.slotFault l k).isNone then SlotNext.frame else if rep && (s.currentRegion k).isSome then .previous else .dark) =
      s.slots.map (fun _ => SlotNext.frame) ∧
    (s.slots.map (fun k => if (s.slotFault l k).isSome then 2 ^ k else 0)).sum = 0 := by
  refine ⟨List.map_congr_left fun k hk => ?_, List.sum_eq_zero fun x hx => ?_⟩
  · simp [hall k hk]
  · obtain ⟨k, hk, rfl⟩ := List.mem_map.mp hx
    simp [hall k hk]

/-- At its instant a tile that misses a launch decides whether it coasts (R204, R205). -/
theorem exec_missingLaunch {s : State} {l : Launch} (halive : s.alive = true) (htile : s.isTile = true) (hpast : s.lch.past.head? = some l)
    (hrunning : s.lch.state = .tRun ∨ s.lch.state = .tCoast) (htable : s.lch.table = []) (hnext : s.lch.coastNext = none)
    (hstop : s.lch.stopN ≠ some l.n) (hdue : s.inActive l + 1000 * s.lch.pcoast - 1000 * rawUs 250 ≤ s.derivedNow) :
    let n := (l.n + 1) % 2 ^ 32
    exec .missingLaunchDecision s = if !s.isArmed 0x0302 then .next ((s.restTile .tWait).raise 195 3 (n % 8192))
      else if lchCoastMax s.lch.cfg ≤ s.lch.coasts then .next ((s.restTile .tWait).raise 195 3 (n % 8192 + 65536))
      else
        let t := { s with lch := { s.lch with
          state := .tCoast, coasts := s.lch.coasts + 1, coastNext := some (n, l.at_ + 1000 * s.lch.pcoast, s.isArmed 0x0301) } }
        let t := if s.lch.coasts = 0 then t.raiseA 194 2 (n % 8192) true else t
        .next (if s.ems.enabled then t.sampleCodes else t) := by
  have hrun : ¬ (!(s.alive && s.isTile && (s.lch.state == .tRun || s.lch.state == .tCoast) && s.lch.table.isEmpty && s.lch.coastNext.isNone &&
      s.lch.stopN != some l.n && decide (s.inActive l + 1000 * s.lch.pcoast - 1000 * rawUs 250 ≤ s.derivedNow))) = true := by
    have hst : (s.lch.state == .tRun || s.lch.state == .tCoast) = true := by rcases hrunning with h | h <;> rw [h] <;> rfl
    have hne : (s.lch.stopN != some l.n) = true := bne_iff_ne.mpr hstop
    rw [halive, htile, hst, htable, hnext, hne, decide_eq_true hdue]
    exact Bool.false_ne_true
  simp only [exec, execMissingLaunchDecision, hpast, if_neg hrun]

/-! ### The rows -/

/-- Settles O38: each row's course is read off its definition. -/
theorem launchCommandsComplete : Obligations.LaunchCommandsComplete := by
  refine ⟨?shref, ?configLead, ?configTile, ?start, ?stop, ?shrefConfig, ?status, ?announceNext, ?announceFixed, ?lnchRepeat, ?repeatFirst, ?repeatSecond,
    ?stoppingEnd, ?cut, ?lnchOther, fun s m l halive htile hvalid hepoch hcfg hone hstop hsw htime =>
      exec_lnchCell_entry halive htile hvalid hepoch hcfg hone hstop hsw htime,
    ?underrun, ?launchLead, ?launchTile, ?missing, ?coastDark, ?coastRepeat, ?stopPeriod⟩
  case shref =>
    intro s input stamp halive hlead hon hinput hen
    have hrun : ¬ (!(s.alive && s.isLead && s.tmuOn && decide (input < 4) && (u8 (s.lch.shref.getD input []) 1).testBit 0)) = true := by
      rw [halive, hlead, hon, decide_eq_true hinput, hen]
      exact Bool.false_ne_true
    refine ⟨fun href => ?_, fun href => ?_⟩
    · simp only [exec, execShrefEdgeCapture, if_neg hrun, href, Bool.false_eq_true, if_false]
    · simp only [exec, execShrefEdgeCapture, if_neg hrun, href, if_true]
  case configLead =>
    intro s r h hlead hfault hover h1 h2 h3 h4
    have hidle : ¬ (s.lch.state = .run ∨ s.lch.state = .stopping ∨ s.lch.state = .tRun ∨ s.lch.state = .tCoast) := by simp [h1, h2, h3, h4]
    refine (h.run ?_ : execLchConfig r s = _)
    simp only [State.isLead_takeReq, hlead, hfault, if_true, hover]
    exact if_neg hidle
  case configTile =>
    intro s r h hlead hfault hmisfit h1 h2 h3 h4
    have hidle : ¬ (s.lch.state = .run ∨ s.lch.state = .stopping ∨ s.lch.state = .tRun ∨ s.lch.state = .tCoast) := by simp [h1, h2, h3, h4]
    refine (h.run ?_ : execLchConfig r s = _)
    simp only [State.isLead_takeReq, hlead, hfault, Bool.false_eq_true, if_false, hmisfit]
    exact if_neg hidle
  case start =>
    intro s r l h htime hearly hlock h1 h2 hcfg hvalid hpair hinert
    have hlate : ¬ (s.actDom.valid = true ∧ (l : Int) < s.derivedNow + 1000 * rawUs 500) := fun hx => absurd hx.2 (not_lt.mpr hearly)
    have htopo : ¬ (!s.bit Reg.glbTopoCfg 31) = true := by simp [hlock]
    have hidle : ¬ (s.lch.state = .run ∨ s.lch.state = .stopping) := by simp [h1, h2]
    have hconf : ¬ s.lch.cfg.isEmpty = true := by simpa using hcfg
    have hdom : ¬ (!s.actDom.valid) = true := by simp [hvalid]
    have hact : ¬ (s.paired = true ∧ s.pai.state ≠ .active) := fun hx => hx.2 (hpair hx.1)
    have hlit : ¬ s.pwr.inert = true := by simp [hinert]
    refine (h.run ?_ : execLchStart r s = _)
    simp only [htime]
    exact (if_neg hlate).trans ((if_neg htopo).trans ((if_neg hidle).trans ((if_neg hconf).trans ((if_neg hdom).trans ((if_neg hact).trans
      (if_neg hlit))))))
  case stop =>
    intro s r l m h htime hnewest hst k
    have hnew : (s.takeReq 0x0302 r).newest = some m := hnewest
    have hon : ¬ s.lch.state ≠ .run := not_not.mpr hst
    refine (h.run ?_ : execLchStop r s = _)
    simp only [htime, hnew]
    exact if_neg hon
  case shrefConfig =>
    intro s r h hinput hone hslot hslots hlo hhi hphase hbounds
    have h1 : ¬ ((u8 r.payload 1).testBit 2 = true ∧
        ((List.range 4).any fun k => k != u8 r.payload 0 && (u8 (s.lch.shref.getD k []) 1).testBit 2) = true) := by
      rintro ⟨href, hother⟩
      obtain ⟨k, hk, hbit⟩ := List.any_eq_true.mp hother
      obtain ⟨hne, hk2⟩ := (Bool.and_eq_true _ _).mp hbit
      rw [hone href k (List.mem_range.mp hk) (bne_iff_ne.mp hne)] at hk2
      exact Bool.false_ne_true hk2
    have h2 : ¬ (3 < u8 r.payload 2 ∨ (!s.lch.cfg.isEmpty) = true ∧ lchSlots s.lch.cfg ≤ u8 r.payload 2) := by
      rintro (hbig | ⟨hsome, hle⟩)
      · omega
      · exact absurd (hslots (by simpa using hsome)) (Nat.not_lt.mpr hle)
    have h3 : ¬ (u8 r.payload 3 < 1 ∨ 8 < u8 r.payload 3) := by omega
    have h4 : ¬ ((!s.lch.cfg.isEmpty) = true ∧ lchPcoast s.lch.cfg ≤ 2 * (signed 32 (u32 r.payload 4)).natAbs) := by
      rintro ⟨hsome, hle⟩
      exact absurd (hphase (by simpa using hsome)) (Nat.not_lt.mpr hle)
    exact (h.run ((if_neg (Nat.not_lt.mpr hinput)).trans ((if_neg h1).trans ((if_neg h2).trans ((if_neg h3).trans ((if_neg h4).trans
      (if_neg (not_lt.mpr hbounds))))))) : execShrefConfig r s = _)
  case status =>
    intro s r h
    obtain ⟨hstate, hservo, hnone⟩ := s.lchStatusBytes_parts
    rw [Answers, exec_lchStatus]
    exact h.run_with rfl ⟨s.takeReq_keeps 0x0304 r, rfl, hstate, hservo, fun _ => hnone⟩
  case announceNext =>
    intro s t halive hlead hann hvalid hnext
    simp [exec, execLaunchAnnounce, halive, hlead, hann, hvalid, hnext]
  case announceFixed =>
    intro s l halive hlead hann hvalid hmode hnewest hswitch hbridge late hlate
    have hnext := State.announceNext_fixed hmode hnewest hswitch hbridge hlate
    simp only [exec, execLaunchAnnounce, halive, hlead, hann, hvalid, hnext, Bool.and_self, Bool.not_true, Bool.false_eq_true, if_false]
    rfl
  case lnchRepeat =>
    intro s a k b halive hlead hdue
    have hrun : ¬ (!(s.alive && s.isLead)) = true := by simp [halive, hlead]
    refine ⟨fun hk => ?_, fun hk => ?_⟩
    · subst hk
      simp only [exec, execLnchRepeat, hdue, if_neg hrun, if_true]
    · simp only [exec, execLnchRepeat, hdue, if_neg hrun, if_neg hk]
  case repeatFirst =>
    intro s a b hone
    simp [State.repeatDue, hone]
  case repeatSecond =>
    intro s a b hone
    simp [State.repeatDue, hone]
  case stoppingEnd =>
    intro s l halive hlead hnewest hst hstop hdue
    have hrun : (s.alive && s.isLead && s.lch.state == .stopping && s.lch.stopN == some l.n &&
        decide (((l.at_ + 1000 * lchPcoast s.lch.cfg : Nat) : Int) ≤ s.domNow l.n)) = true := by
      rw [halive, hlead, hst, hstop, decide_eq_true hdue, beq_self_eq_true (some l.n)]
      rfl
    simp only [exec, execStoppingEnd, hnewest, hrun, if_true]
  case cut =>
    intro s chain slot frame l a halive hlead hknown hfirst hlate
    have hrun : (s.alive && s.isLead && decide ((l.at_ : Int) - 1000 * lchGuard s.lch.cfg < s.domNow l.n)) = true := by
      rw [halive, hlead, decide_eq_true hlate]
      rfl
    simp only [exec, execLeadSubframeCut, hknown, hfirst, hrun, if_true]
  case lnchOther =>
    intro s m halive htile hother
    have hrun : ¬ (!s.alive || !s.isTile) = true := by simp [halive, htile]
    have hnone : (!s.net.valid) = true ∨ u32 m.body 4 ≠ s.leadEpoch := hother.imp_left fun hv => by rw [hv]; rfl
    exact (if_neg hrun).trans (if_pos hnone)
  case underrun =>
    intro s l halive htile hon hfind hdue hall
    have hrun : ¬ (!(s.alive && s.isTile && s.ems.enabled && decide ((s.guardOf l : Int) ≤ s.derivedNow))) = true := by
      rw [halive, htile, hon, decide_eq_true hdue]
      exact Bool.false_ne_true
    obtain ⟨hframes, hmask⟩ := State.nexts_frame (s.isArmed 0x0301) hall
    simp only [exec, execUnderrunCheck, hfind, if_neg hrun, hframes, hmask, if_true]
  case launchLead =>
    intro s l halive hlead hhead hswitch hdue
    have hup : ¬ (!s.alive) = true := by simp [halive]
    simp only [exec, execLaunch, hhead, if_neg hup, hlead, if_true, if_pos hdue, State.launchLead, hswitch]
  case launchTile =>
    intro s l halive hlead hhead hdue
    have hup : ¬ (!s.alive) = true := by simp [halive]
    simp only [exec, execLaunch, hhead, if_neg hup, hlead, Bool.false_eq_true, if_false, if_pos hdue]
  case missing =>
    intro s l halive htile hpast hrunning htable hnext hstop hdue
    have hcourse := exec_missingLaunch halive htile hpast hrunning htable hnext hstop hdue
    refine ⟨fun harmed => hcourse.trans (if_pos (by rw [harmed]; rfl)), fun harmed hoff hnone hmax => ?_⟩
    have hcoast : ¬ (!s.isArmed 0x0302) = true := by simp [harmed]
    have hleft : ¬ lchCoastMax s.lch.cfg ≤ s.lch.coasts := by omega
    refine hcourse.trans ((if_neg hcoast).trans ((if_neg hleft).trans ?_))
    simp only [hoff, hnone, Bool.false_eq_true, if_false, if_true]
  case coastDark =>
    intro s n at_ halive htile hnext l hdue hoff t
    have hrun : ¬ (!(s.alive && s.isTile && decide (s.inActive { n := n, at_ := at_ } ≤ s.derivedNow))) = true := by
      rw [halive, htile, decide_eq_true hdue]
      exact Bool.false_ne_true
    simp only [exec, execCoastLaunch, hnext, if_neg hrun, hoff, Bool.false_and, Bool.false_eq_true, if_false]
    rfl
  case coastRepeat =>
    intro s n at_ halive htile hnext l hdue hon u shows t
    have hrun : ¬ (!(s.alive && s.isTile && decide (s.inActive { n := n, at_ := at_ } ≤ s.derivedNow))) = true := by
      rw [halive, htile, decide_eq_true hdue]
      exact Bool.false_ne_true
    simp only [exec, execCoastLaunch, hnext, if_neg hrun, hon, Bool.true_and, decide_eq_true_eq, if_true]
    rfl
  case stopPeriod =>
    intro s l halive htile hpast hstop htable hrunning hdue
    have hst : (s.lch.state == .tRun || s.lch.state == .tCoast) = true := by rcases hrunning with h | h <;> rw [h] <;> rfl
    have hrun : (s.alive && s.isTile && s.lch.stopN == some l.n && s.lch.table.isEmpty && (s.lch.state == .tRun || s.lch.state == .tCoast) &&
        decide (s.inActive l + 1000 * s.lch.pcoast ≤ s.derivedNow)) = true := by
      rw [halive, htile, hstop, hst, htable, decide_eq_true hdue, beq_self_eq_true (some l.n)]
      rfl
    simp only [exec, execTileStopPeriodEnd, hpast, hrun, if_true]

end Sys2Proof.Machine
end

section
/-! PROOFS. The ingest unit: ports, streams, the merge and locked streams (R211 to R217, R235, R236, R260). -/

namespace Sys2Proof.Machine

/-! ### Streams -/

/-- A stream after a stream was replaced. -/
theorem State.strm_setStrm (s : State) {m : Nat} (hm : m < s.pix.streams.length) (x : Strm) : (s.setStrm m x).strm m = x := by
  simp [State.strm, State.setStrm, List.getD_eq_getElem?_getD, hm]

theorem State.strm_bump (s : State) (a m : Nat) : (s.bump a).strm m = s.strm m := rfl

/-- The rules that bear on a stream's control word: the two port codes, of which 3 is reserved. -/
theorem fieldRules_strCtl {m : Nat} (hm : m < 4) : ∀ f ∈ fieldRules, f.holds (strReg Reg.ingStrCtl m) = true →
    f.min = 0 ∧ f.max = 2 ∧ (f.hi = 25 ∧ f.lo = 24 ∨ f.hi = 23 ∧ f.lo = 22) := by
  have hall : ∀ k : Fin 4, ∀ f ∈ fieldRules, f.holds (strReg Reg.ingStrCtl k) = true →
      f.min = 0 ∧ f.max = 2 ∧ (f.hi = 25 ∧ f.lo = 24 ∨ f.hi = 23 ∧ f.lo = 22) := by decide +kernel
  exact hall ⟨m, hm⟩

/-- A control word without a reserved port code is within its ranges (R8). -/
theorem State.keepRanges_strCtl (s : State) {m : Nat} {ctl : Nat} (hm : m < 4) (hp : bitsOf ctl 25 24 ≠ 3) (hq : bitsOf ctl 23 22 ≠ 3) :
    s.keepRanges (strReg Reg.ingStrCtl m) ctl = (ctl, false) := by
  have hport : bitsOf ctl 25 24 ≤ 2 := by
    have : bitsOf ctl 25 24 < 2 ^ (25 + 1 - 24) := Nat.mod_lt _ (by decide)
    omega
  have hport' : bitsOf ctl 23 22 ≤ 2 := by
    have : bitsOf ctl 23 22 < 2 ^ (23 + 1 - 22) := Nat.mod_lt _ (by decide)
    omega
  have hbad : fieldRules.filter (fun f => f.holds (strReg Reg.ingStrCtl m) && !f.ok (strReg Reg.ingStrCtl m) ctl) = [] := by
    rw [List.filter_eq_nil_iff]
    intro f hf hx
    obtain ⟨hholds, hnot⟩ := (Bool.and_eq_true _ _).mp hx
    obtain ⟨hmin, hmax, hfield⟩ := fieldRules_strCtl hm f hf hholds
    have hle : bitsOf ctl f.hi f.lo ≤ 2 := by
      rcases hfield with ⟨hhi, hlo⟩ | ⟨hhi, hlo⟩
      · rw [hhi, hlo]; exact hport
      · rw [hhi, hlo]; exact hport'
    have hok : f.ok (strReg Reg.ingStrCtl m) ctl = true := by
      simp only [FieldRule.ok, hmin, hmax, Nat.zero_le, hle, decide_true, Bool.and_self, Bool.true_or]
    rw [hok] at hnot
    exact Bool.false_ne_true hnot
  simp only [State.keepRanges, hbad, List.foldl_nil, List.isEmpty_nil, Bool.not_true]

/-- Bit 31 of a control word is one of those that are stored. -/
theorem strCtl_enable (ctl : Word) : (ctl &&& 0xC3C000FF#32).toNat.testBit 31 = ctl.toNat.testBit 31 := by
  rw [BitVec.toNat_and, Nat.testBit_and, show (0xC3C000FF#32).toNat.testBit 31 = true from by decide, Bool.and_true]

/-- A write of a stream's control word whose port codes are in range: EV_25 where it is refused (R214). -/
theorem State.busStrCtl_inRange (s : State) {m : Nat} {ctl : Word} (hm : m < 4) (hp : bitsOf ctl.toNat 25 24 ≠ 3) (hq : bitsOf ctl.toNat 23 22 ≠ 3) :
    s.busStrCtl m ctl = if (s.writeStrCtl m ctl).2 = 0 then (s.writeStrCtl m ctl).1
      else (s.writeStrCtl m ctl).1.raise 25 1 (strReg Reg.ingStrCtl m) := by
  have hword : BitVec.ofNat 32 ctl.toNat = ctl := by rw [BitVec.ofNat_toNat, BitVec.setWidth_eq]
  simp only [State.busStrCtl, s.keepRanges_strCtl hm hp hq, hword, Bool.not_false, and_true]

/-- A write that sets ENABLE (R214). -/
theorem State.writeStrCtl_enable (s : State) {m : Nat} {ctl : Word} (hen : ctl.toNat.testBit 31 = true) (hfree : s.forced (144 + m / 2) = false) :
    let v := ctl &&& 0xC3C000FF#32
    let a := strReg Reg.ingStrCtl m
    let t := s.stopStream m
    (s.strRefusal m v.toNat = 0 → s.writeStrCtl m ctl =
      ((((t.setReg a v).setStrm m { conf := (t.strm m).conf, since := t.now, curBuf := (t.strm m).curBuf,
                                    legOk := [true, (legsOf v.toNat).length == 2] }).igmp m false (fun _ _ => true)).raise 256 0 m, 0)) ∧
    (s.strRefusal m v.toNat ≠ 0 → s.writeStrCtl m ctl = (t.setReg a (v &&& 0x7FFFFFFF#32), s.strRefusal m v.toNat)) := by
  intro v a t
  have htop : v.toNat.testBit 31 = true := (strCtl_enable ctl).trans hen
  refine ⟨fun hok => ?_, fun hno => ?_⟩
  · refine (if_pos htop).trans ?_
    simp only [hfree, Bool.false_eq_true, if_false]
    exact if_neg (not_not.mpr hok)
  · refine (if_pos htop).trans ?_
    simp only [hfree, Bool.false_eq_true, if_false]
    exact if_pos hno

/-- A write that clears ENABLE stops the stream (R214). -/
theorem State.writeStrCtl_disable (s : State) {m : Nat} {ctl : Word} (hen : ctl.toNat.testBit 31 = false) :
    s.writeStrCtl m ctl = ((s.stopStream m).setReg (strReg Reg.ingStrCtl m) (ctl &&& 0xC3C000FF#32), 0) := by
  have htop : ¬ (ctl &&& 0xC3C000FF#32).toNat.testBit 31 = true := by
    rw [strCtl_enable, hen]
    exact Bool.false_ne_true
  exact if_neg htop

/-! ### Frames on the wire -/

/-- An ingest port of a lead. -/
theorem ingestRow {s : State} {port : Nat} (halive : s.alive = true) (hlead : s.isLead = true) (hport : port = 4 ∨ port = 5 ∨ port = 7)
    (hfunc : s.func port = 2) : ¬ (!(s.alive && s.isLead && (port == 4 || port == 5 || port == 7) && s.func port == 2)) = true := by
  have hp : (port == 4 || port == 5 || port == 7) = true := by
    rcases hport with rfl | rfl | rfl <;> rfl
  rw [halive, hlead, hp, hfunc]
  exact Bool.false_ne_true

/-- A frame with a good FCS that the filter takes. -/
theorem exec_ingestFrame {s : State} {port : Nat} {f : EthFrame} {x : Res} (halive : s.alive = true) (hlead : s.isLead = true)
    (hport : port = 4 ∨ port = 5 ∨ port = 7) (hfunc : s.func port = 2) (hfcs : f.fcsOk = true) (hfilter : s.ethFilter port f = true)
    (htake : s.takeFrame port f = (x, true)) : exec (.ingestFrameReceived port f) s = x := by
  have hgood : ¬ (!f.fcsOk) = true := by simp [hfcs]
  have hmine : ¬ (!s.ethFilter port f) = true := by simp [hfilter]
  refine (if_neg (ingestRow halive hlead hport hfunc)).trans ((if_neg hgood).trans ((if_neg hmine).trans ?_))
  rw [htake]

/-! ### The merge -/

/-- The number after another is after it, and nothing lies between them. -/
theorem isAfter_next {h q : Nat} (hh : h < 2 ^ 32) (hq : q = (h + 1) % 2 ^ 32) : isAfter q h = true ∧ (q + 2 ^ 32 - h) % 2 ^ 32 = 1 := by
  have hstep : (q + 2 ^ 32 - h) % 2 ^ 32 = 1 := by omega
  refine ⟨?_, hstep⟩
  simp only [isAfter, hstep]
  decide

/-- A packet that waits alone with nothing missing before it goes on at once (R215). -/
theorem State.releaseAll_single {u : State} {m : Nat} {y : Strm} {p : RtpPkt} {at_ : Nat} (hy : u.strm m = y) (hqueue : y.queue = [(p, at_)])
    (hmissing : ∀ e ∈ y.missing, isAfter p.seq e.1 = false) : u.releaseAll m = (u.setStrm m { y with queue := [] }).depacketise m p at_ := by
  have hfirst : y.first? = some (p, at_) := by simp [Strm.first?, hqueue]
  have hfree : ¬ (y.missing.any fun e => isAfter p.seq e.1) = true := by
    rw [List.any_eq_true]
    rintro ⟨e, he, hx⟩
    rw [hmissing e he] at hx
    exact Bool.false_ne_true hx
  simp only [State.releaseAll, hy, hqueue, List.length_singleton, State.unqueue, hfirst, if_neg hfree, List.erase_cons_head]

/-- A packet on a leg in use counts for its leg; the merge then sees the stream with its legs noted. -/
theorem State.streamPacket_course {s : State} {m leg : Nat} {p : RtpPkt} (hleg : (s.strm m).legOk.getD leg false = true)
    (hlost : p.seq ∉ (s.strm m).lost) (hm : m < s.pix.streams.length) :
    let x : Strm := { s.strm m with legAt := (s.strm m).legAt.set leg (some s.now), legOk := (s.strm m).legOk.set leg true }
    let t := (s.bump (strReg Reg.ingStrPkt0 m + 4 * leg)).setStrm m x
    (p.seq ∈ (s.strm m).got → s.streamPacket m leg p = t) ∧
    ∀ h, p.seq ∉ (s.strm m).got → (s.strm m).high = some h → p.seq = (h + 1) % 2 ^ 32 → h < 2 ^ 32 →
      s.streamPacket m leg p = (t.setStrm m { x with
        high := some p.seq, missing := x.missing.filter (fun e => e.1 != p.seq), got := (p.seq :: x.got).filter (nearSeq p.seq),
        lost := x.lost.filter (nearSeq p.seq), queue := x.queue ++ [(p, s.now)] }).releaseAll m := by
  intro x t
  have hnow : (s.bump (strReg Reg.ingStrPkt0 m + 4 * leg)).now = s.now := rfl
  have hmerged := State.strm_setStrm (s.bump (strReg Reg.ingStrPkt0 m + 4 * leg)) hm x
  have hlost' : ¬ (s.strm m).lost.contains p.seq = true := by simpa using hlost
  refine ⟨fun hgot => ?_, fun h hgot hhigh hnext hlt => ?_⟩
  · have hgot' : (s.strm m).got.contains p.seq = true := by simpa using hgot
    simp only [State.streamPacket, hleg, if_true, hnow, hmerged, x, if_neg hlost', if_pos hgot', t]
  · have hgot' : ¬ (s.strm m).got.contains p.seq = true := by simpa using hgot
    obtain ⟨hahead, hstep⟩ := isAfter_next hlt hnext
    simp only [State.streamPacket, hleg, if_true, hnow, hmerged, x, if_neg hlost', if_neg hgot', t]
    simp only [hhigh, hahead, hstep, if_true, List.range_one, List.drop_one, List.tail_cons, List.map_nil, List.append_nil]
    rfl

/-- A number lost of a stream that has nothing queued and is not locked counts for the frame in progress (R215). -/
theorem State.loseNumber_idle {s : State} {m : Nat} (q : Nat) (hm : m < s.pix.streams.length) (hqueue : (s.strm m).queue = [])
    (hlock : (s.strm m).lock = []) :
    s.loseNumber m q = ((s.setStrm m { s.strm m with
      missing := (s.strm m).missing.filter (fun e => e.1 != q), lost := q :: (s.strm m).lost }).bump (strReg Reg.ingStrLost m)).updFrame m
        (fun f => { f with lost := f.lost + 1 }) := by
  have hnone : ∀ t : State, (t.strm m).queue = [] → t.releaseAll m = t := fun t ht => by rw [State.releaseAll, ht]; rfl
  have hset := s.strm_setStrm hm { s.strm m with missing := (s.strm m).missing.filter (fun e => e.1 != q), lost := q :: (s.strm m).lost }
  have hlost : (((s.setStrm m { s.strm m with
      missing := (s.strm m).missing.filter (fun e => e.1 != q), lost := q :: (s.strm m).lost }).bump (strReg Reg.ingStrLost m)).strm m).queue = [] := by
    rw [State.strm_bump, hset]
    exact hqueue
  have hadd : ((((s.setStrm m { s.strm m with
      missing := (s.strm m).missing.filter (fun e => e.1 != q), lost := q :: (s.strm m).lost }).bump (strReg Reg.ingStrLost m)).updFrame m
        (fun f => { f with lost := f.lost + 1 })).strm m).queue = [] := by
    rw [State.updFrame, State.strm_setStrm _ (List.length_set.symm ▸ hm)]
    exact hlost
  simp only [State.loseNumber, hnone _ hlost, hnone _ hadd, ite_self, hlock, List.isEmpty_nil, Bool.true_or, if_true]
  split <;> rfl

/-! ### The rows -/

/-- Settles O39: each row's course is read off its definition. -/
theorem ingestCommandsComplete : Obligations.IngestCommandsComplete := by
  refine ⟨?badFcs, ?filtered, ?arpRequest, ?arpReply, ?arpRetry, ?arpExpiry, ?enable, ?disable, ?packet, ?packetCopy, ?lossDeclared, ?loseNumber,
    ?legLoss, ?lockWindow, ?streamConfig, ?pack, ?deferred⟩
  case badFcs =>
    intro s port f halive hlead hport hfunc hfcs
    have hbad : (!f.fcsOk) = true := by simp [hfcs]
    exact (if_neg (ingestRow halive hlead hport hfunc)).trans (if_pos hbad)
  case filtered =>
    intro s port f halive hlead hport hfunc hfcs hfilter
    have hgood : ¬ (!f.fcsOk) = true := by simp [hfcs]
    have hout : (!s.ethFilter port f) = true := by simp [hfilter]
    exact (if_neg (ingestRow halive hlead hport hfunc)).trans ((if_neg hgood).trans (if_pos hout))
  case arpRequest =>
    intro s port f sender mac halive hlead hport hfunc hfcs hfilter hkind hip
    refine exec_ingestFrame halive hlead hport hfunc hfcs hfilter ?_
    simp only [State.takeFrame, hkind, if_neg hip, true_and]
  case arpReply =>
    intro s port f sender mac w halive hlead hport hfunc hfcs hfilter hkind hip hfind
    refine exec_ingestFrame halive hlead hport hfunc hfcs hfilter ?_
    simp only [State.takeFrame, hkind, if_neg hip, hfind]
  case arpRetry =>
    intro s w halive hfind
    have hup : ¬ (!s.alive) = true := by simp [halive]
    refine ⟨fun hfew => ?_, fun hmany => ?_⟩
    · simp only [exec, execArpRequestRetry, hfind, if_neg hup, if_pos hfew]
    · simp only [exec, execArpRequestRetry, hfind, if_neg hup, if_neg (Nat.not_lt.mpr hmany)]
  case arpExpiry =>
    intro s halive
    have hup : ¬ (!s.alive) = true := by simp [halive]
    exact if_neg hup
  case enable =>
    intro s m ctl halive hlead hm hen v a t
    have hrun : ¬ (!s.alive || !s.isLead || decide (4 ≤ m) || !ctl.toNat.testBit 31) = true := by
      rw [halive, hlead, hen, decide_eq_false (Nat.not_le.mpr hm)]
      exact Bool.false_ne_true
    have hrow : exec (.streamEnable m ctl) s = .next (s.busStrCtl m ctl) := if_neg hrun
    refine ⟨fun hoff => if_neg (by simp [hoff]), fun hp hq hfree => ?_, fun w hw => ?_⟩
    · obtain ⟨hstarts, hrefused⟩ := s.writeStrCtl_enable hen hfree
      rw [hrow, s.busStrCtl_inRange hm hp hq]
      refine ⟨fun hok => ?_, fun hno => ?_⟩
      · rw [hstarts hok]
        rfl
      · rw [hrefused hno]
        exact congrArg Host.Outcome.next (if_neg hno)
    · rw [hrow]
      simp only [a] at hw
      simp only [State.busStrCtl, hw, Bool.not_true, Bool.false_eq_true, and_false, if_false]
      rfl
  case disable =>
    intro s m ctl halive hlead hm hen hp hq v a
    have hrun : ¬ (!s.alive || !s.isLead || decide (4 ≤ m) || ctl.toNat.testBit 31) = true := by
      rw [halive, hlead, hen, decide_eq_false (Nat.not_le.mpr hm)]
      exact Bool.false_ne_true
    have hrow : exec (.streamDisable m ctl) s = .next (s.busStrCtl m ctl) := if_neg hrun
    rw [hrow, s.busStrCtl_inRange hm hp hq, s.writeStrCtl_disable hen]
    refine ⟨fun hon => ?_, fun hoff => ?_⟩
    · rw [State.stopStream, if_pos hon]
      rfl
    · rw [State.stopStream, hoff]
      rfl
  case packet =>
    intro s m leg p h halive hlead hm hon hleg hok hlost hgot hhigh hnext hlt hset hlen x t y u
    have hrun : (s.alive && s.isLead && decide (m < 4) && s.strOn m && (legsOf (s.strCtl m)).contains leg) = true := by
      rw [halive, hlead, hon, decide_eq_true hm, List.contains_iff_mem.mpr hleg]
      rfl
    obtain ⟨-, hcourse⟩ := State.streamPacket_course (p := p) hok hlost hlen
    have hu : u.strm m = y := State.strm_setStrm _ (List.length_set.symm ▸ hlen) y
    refine ⟨?_, fun hempty hbefore => ?_⟩
    · refine (if_pos hrun).trans (congrArg Host.Outcome.next ((hcourse h hgot hhigh hnext hlt).trans ?_))
      rw [hset]
    · refine State.releaseAll_single hu ?_ fun e he => hbefore e (List.mem_of_mem_filter he)
      simp only [y, hempty, List.nil_append]
  case packetCopy =>
    intro s m leg p halive hlead hm hon hleg hok hlost hgot hlen
    have hrun : (s.alive && s.isLead && decide (m < 4) && s.strOn m && (legsOf (s.strCtl m)).contains leg) = true := by
      rw [halive, hlead, hon, decide_eq_true hm, List.contains_iff_mem.mpr hleg]
      rfl
    obtain ⟨hcopy, -⟩ := State.streamPacket_course (p := p) hok hlost hlen
    exact (if_pos hrun).trans (congrArg Host.Outcome.next (hcopy hgot))
  case lossDeclared =>
    intro s m halive hlead hm hon due hsome
    have hdue : due.isEmpty = false := List.isEmpty_eq_false_iff.mpr hsome
    have hrun : ¬ (!s.alive || !s.isLead || decide (4 ≤ m) || !s.strOn m || due.isEmpty) = true := by
      rw [halive, hlead, hon, hdue, decide_eq_false (Nat.not_le.mpr hm)]
      exact Bool.false_ne_true
    exact if_neg hrun
  case loseNumber => exact fun s m q hm hqueue hlock => State.loseNumber_idle q hm hqueue hlock
  case legLoss =>
    intro s m leg halive hlead hm hon hleg hok hlate
    have hrun : (s.alive && s.isLead && decide (m < 4) && s.strOn m && (legsOf (s.strCtl m)).contains leg && (s.strm m).legOk.getD leg false &&
        decide (((s.strm m).legAt.getD leg none).getD (s.strm m).since + rawMs 10 ≤ s.now)) = true := by
      rw [halive, hlead, hon, hok, decide_eq_true hm, List.contains_iff_mem.mpr hleg, decide_eq_true hlate]
      rfl
    exact if_pos hrun
  case lockWindow =>
    intro s m l halive hlead hm hlock hquiet x hfind
    have hrun : ¬ (!s.alive || !s.isLead || decide (4 ≤ m) || (s.strm m).lock.isEmpty) = true := by
      rw [halive, hlead, List.isEmpty_eq_false_iff.mpr hlock, decide_eq_false (Nat.not_le.mpr hm)]
      exact Bool.false_ne_true
    simp only [x] at hfind
    simp only [exec, execLockWindowEnd, if_neg hrun, hfind, hquiet, Bool.false_eq_true, if_false, x]
  case streamConfig =>
    intro s r h hm h1 h2 hunlock
    have hidle : ¬ (s.lch.state = .run ∨ s.lch.state = .stopping) := by simp [h1, h2]
    have hfree : (!(u8 r.payload 1).testBit 0) = true := by rw [hunlock]; rfl
    exact (h.run ((if_neg (Nat.not_le.mpr hm)).trans ((if_neg hidle).trans (if_pos hfree))) : execStreamConfig r s = _)
  case pack =>
    intro s m block f u halive hlead hon hlock hframe hsurf hdrop hdone hblock hpacked hrows
    have hall : (((List.range 4).map (fun j => block / surfBw u.w * 4 + j)).filter (fun y => decide (y < u.h))).all (rowDone u f) = true := by
      rw [List.all_eq_true]
      intro y hy
      obtain ⟨hmem, hlt⟩ := List.mem_filter.mp hy
      obtain ⟨j, hj, rfl⟩ := List.mem_map.mp hmem
      exact hrows j (List.mem_range.mp hj) (of_decide_eq_true hlt)
    have hrun : (s.alive && s.isLead && s.strOn m && (s.strm m).lock.isEmpty && !f.drop && !f.done && decide (block < surfBlocks u.w u.h) &&
        !f.packed.contains block && (((List.range 4).map (fun j => block / surfBw u.w * 4 + j)).filter (fun y => decide (y < u.h))).all
          (rowDone u f)) = true := by
      rw [halive, hlead, hon, hlock, hdrop, hdone, hall, decide_eq_true hblock]
      simpa using hpacked
    simp only [exec, execSurfaceBlockPack, hframe, hsurf, hrun, if_true]
  case deferred =>
    intro s h halive hfind t
    have hup : ¬ (!s.alive) = true := by simp [halive]
    simp only [exec, execDeferredChangeReply, hfind, if_neg hup, t]

end Sys2Proof.Machine
end

section
/-! PROOFS. Surfaces, layers, flips, composition and the block coder's commands (R219 to R240, R251, R263 to R270, R293). -/

namespace Sys2Proof.Machine

/-! ### Surfaces -/

/-- A condition on tiles does not hold in a lead. -/
theorem not_tile_and {s : State} {p : Prop} (htile : s.isTile = false) : ¬ (s.isTile = true ∧ p) := by
  simp [htile]

/-- SURFACE_ALLOC of a new surface that meets every rule (R219). -/
theorem Ready.allocates {s : State} {r : Req} (h : Ready s 0x0403 r) (htile : s.isTile = false) (hn : u16 r.payload 0 ≤ 255)
    (hf : 1 ≤ u8 r.payload 2 ∧ u8 r.payload 2 ≤ 6) (hcol : colourOk false (u8 r.payload 2) (u8 r.payload 3) = true)
    (hw : 16 ≤ u16 r.payload 4 ∧ u16 r.payload 4 ≤ 8192) (heven : u8 r.payload 2 = 1 → u16 r.payload 4 % 2 = 0)
    (hh : 16 ≤ u16 r.payload 6 ∧ u16 r.payload 6 ≤ 8192) (hb : 1 ≤ u8 r.payload 8 ∧ u8 r.payload 8 ≤ 3) (ha : u64 r.payload 12 % 256 = 0)
    (hreg : s.regionBad (u16 r.payload 0) (u64 r.payload 12) (u8 r.payload 8 * foot (u8 r.payload 2) (u16 r.payload 4) (u16 r.payload 6)) = false)
    (hnone : s.surf (u16 r.payload 0) = none) :
    Does (.surfaceAlloc r) 0x0403 r s fun u => (u.setSurf (u16 r.payload 0)
      { fmt := u8 r.payload 2, colour := u8 r.payload 3 % 16, w := u16 r.payload 4, h := u16 r.payload 6, bufs := u8 r.payload 8,
        addr := u64 r.payload 12 }, rspOk) := by
  have hrole : (s.takeReq 0x0403 r).isTile = false := htile
  have h0 : ¬ 255 < u16 r.payload 0 := by omega
  have h1 : ¬ (u16 r.payload 4 = 0 ∧ u16 r.payload 6 = 0) := by omega
  have h2 : ¬ (!(decide (1 ≤ u8 r.payload 2) && decide (u8 r.payload 2 ≤ 6))) = true := by simp [hf]
  have h3 : ¬ (!colourOk false (u8 r.payload 2) (u8 r.payload 3)) = true := by simp [hcol]
  have h4 : ¬ (u16 r.payload 4 < 16 ∨ 8192 < u16 r.payload 4 ∨ u8 r.payload 2 = 1 ∧ u16 r.payload 4 % 2 = 1) := by omega
  have h5 : ¬ (u16 r.payload 6 < 16 ∨ 8192 < u16 r.payload 6) := by omega
  have h6 : ¬ (u8 r.payload 8 < 1 ∨ 3 < u8 r.payload 8) := by omega
  have h7 : ¬ (u64 r.payload 12 % 256 ≠ 0 ∨ (s.takeReq 0x0403 r).regionBad (u16 r.payload 0) (u64 r.payload 12)
      (u8 r.payload 8 * foot (u8 r.payload 2) (u16 r.payload 4) (u16 r.payload 6)) = true) := by
    rintro (h | h)
    · exact h ha
    · exact Bool.false_ne_true (hreg.symm.trans h)
  have h8 : ¬ (((s.takeReq 0x0403 r).surf (u16 r.payload 0)).isSome = true ∧ ((s.takeReq 0x0403 r).surfShown (u16 r.payload 0) ||
      (s.takeReq 0x0403 r).streamTarget (u16 r.payload 0)) = true) := by
    rintro ⟨h, -⟩
    have hsurf : (s.takeReq 0x0403 r).surf (u16 r.payload 0) = none := hnone
    simp [hsurf] at h
  refine (h.run ?_ : execSurfaceAlloc r s = _)
  simp only [hrole, Bool.false_eq_true, if_false, false_and, if_neg h0, if_neg h1, if_neg h2, if_neg h3, if_neg h4, if_neg h5, if_neg h6, if_neg h7,
    if_neg h8]

/-! ### The coder's status and its runs -/

/-- The chains' words of CODER_STATUS are 16 bytes. -/
theorem State.chainWords_length (s : State) : ((List.range 4).flatMap (fun c => b4 (s.chainWord c))).length = 16 := rfl

/-- The first 16 bytes of CODER_STATUS are the chains' words (R269). -/
theorem State.take_coderStatus (s : State) : ((List.range 4).flatMap (fun c => b4 (s.chainWord c)) ++ b4 (s.busyWord true) ++
      b4 (s.freeNext.busyWord false) ++ (List.range 7).flatMap (fun k => b4 (s.reg (Reg.bcdC2Trn + 4 * k)).toNat) ++
      b4 (s.reg Reg.bcdSmax).toNat).take 16 = (List.range 4).flatMap (fun c => b4 (s.chainWord c)) := by
  simp only [List.append_assoc]
  exact List.take_left' s.chainWords_length

/-- From byte 24 on CODER_STATUS holds the counters and BCD_SMAX (R269). -/
theorem State.drop_coderStatus (s : State) : ((List.range 4).flatMap (fun c => b4 (s.chainWord c)) ++ b4 (s.busyWord true) ++
      b4 (s.freeNext.busyWord false) ++ (List.range 7).flatMap (fun k => b4 (s.reg (Reg.bcdC2Trn + 4 * k)).toNat) ++
      b4 (s.reg Reg.bcdSmax).toNat).drop 24 =
    (List.range 7).flatMap (fun k => b4 (s.reg (Reg.bcdC2Trn + 4 * k)).toNat) ++ b4 (s.reg Reg.bcdSmax).toNat := by
  rw [List.append_assoc _ _ (b4 (s.reg Reg.bcdSmax).toNat)]
  exact List.drop_left' rfl

/-! ### The rows -/

/-- Settles O40: each row's course is read off its definition. -/
theorem pictureCommandsComplete : Obligations.PictureCommandsComplete := by
  refine ⟨?alloc, ?remove, ?write, ?decode, ?layer, ?prot, ?protClear, ?flip, ?fence, ?fenceTimeout, ?mesh, ?cmpOff, ?cmpOn, ?cmpRefused, ?compose,
    ?cutFed, ?coderConfig, ?coderStatus, ?encode⟩
  case alloc =>
    intro s r h htile hn hf1 hf6 hcol hw hw' heven hh hh' hb hb' ha hreg hnone
    exact h.allocates htile hn ⟨hf1, hf6⟩ hcol ⟨hw, hw'⟩ heven ⟨hh, hh'⟩ ⟨hb, hb'⟩ ha hreg hnone
  case remove =>
    intro s r h htile hn hw hh hshown htarget
    have hrole : (s.takeReq 0x0403 r).isTile = false := htile
    have h0 : ¬ 255 < u16 r.payload 0 := by omega
    have h1 : ¬ ((s.takeReq 0x0403 r).surfShown (u16 r.payload 0) || (s.takeReq 0x0403 r).streamTarget (u16 r.payload 0)) = true := by
      rw [show (s.takeReq 0x0403 r).surfShown (u16 r.payload 0) = false from hshown,
        show (s.takeReq 0x0403 r).streamTarget (u16 r.payload 0) = false from htarget]
      exact Bool.false_ne_true
    refine (h.run ?_ : execSurfaceAlloc r s = _)
    simp only [hrole, Bool.false_eq_true, if_false, false_and, if_neg h0, hw, hh, and_self, if_true, if_neg h1]
  case write =>
    intro s r x t h htile hsurf htarget hshown o data total ho hin hlen hmerge w
    have hshape : ¬ (o % 8 ≠ 0 ∨ total < o + data.length ∨ data.length % 8 ≠ 0 ∧ o + data.length ≠ total) := by omega
    have hs : (s.takeReq 0x0404 r).surf (u16 r.payload 0) = some x := hsurf
    have ht : ¬ (s.takeReq 0x0404 r).streamTarget (u16 r.payload 0) = true := ne_true_of_eq_false htarget
    have hv : ¬ (s.takeReq 0x0404 r).surfShown (u16 r.payload 0) = true := ne_true_of_eq_false hshown
    refine (h.run ((if_neg (not_tile_and htile)).trans ?_) : execSurfaceWrite r s = _)
    simp only [hs, if_neg ht, if_neg hv]
    refine (if_neg hshape).trans ?_
    simp only [o, data] at hmerge
    simp only [hmerge, w, o, data, total]
  case decode =>
    intro s n b k x halive hsurf hb hk
    have hrun : s.alive = true ∧ b < x.bufs ∧ k < surfBlocks x.w x.h := ⟨halive, hb, hk⟩
    simp only [exec, execSurfaceBlockDecode, hsurf, if_pos hrun]
  case layer =>
    intro s r h hnone
    refine stages_of h (rfl : execLayerConfig r s = _) ?_
    rw [hnone]
  case prot =>
    intro s r h hsource hx hy
    have h0 : ¬ 2 < u8 r.payload 0 := by omega
    refine stages_of h (rfl : execProtLayerSet r s = _) ?_
    simp only [if_neg h0, if_neg (Nat.not_lt.mpr hx), if_neg (Nat.not_lt.mpr hy), if_pos hsource]
  case protClear => exact fun s r h => stages_of h (rfl : execProtLayerClear r s = _) rfl
  case flip =>
    intro s r h htile hlead hg he he' hf hbad hfree hidle hfits
    have hcount : ¬ (u8 r.payload 1 = 0 ∨ s.nLayers < u8 r.payload 1) := by omega
    have hfence : ¬ ((s.isTile = true ∧ u16 r.payload 4 ≠ 0) ∨ 1023 < u16 r.payload 4) := by
      rintro (⟨ht, -⟩ | hout)
      · exact Bool.false_ne_true (htile.symm.trans ht)
      · omega
    have hbusy : ¬ ((Map.find s.pix.flips (u8 r.payload 0)).isSome = true ∨
        ((flipEntries r.payload).any fun e => s.layerFlipping e.1) = true) := by
      rw [hfree, List.any_eq_true]
      rintro (hx | ⟨e, hmem, hx⟩)
      · exact Bool.false_ne_true hx
      · exact Bool.false_ne_true ((hidle e hmem).symm.trans hx)
    have hover : ¬ (s.isLead = true ∧ decodeOver s.lch.cfg ((s.takeReq 0x0401 r).viewAll.pix.layers.map Prod.snd) = true) := by
      rw [hfits]
      exact fun hx => Bool.false_ne_true hx.2
    have hhold : (s.takeReq 0x0401 r).holdUntil = 0 := if_neg (ne_true_of_eq_false htile)
    have hfirst : (s.takeReq 0x0401 r).firstUnbegun = none := if_neg (ne_true_of_eq_false htile)
    refine (runReqLater_now h ((if_neg (Nat.not_le.mpr hg)).trans ((if_neg hcount).trans ((if_neg (not_tile_and htile)).trans
      ((if_neg hfence).trans ?_)))) : execFlip r s = _)
    simp only [hbad]
    refine (if_neg hbusy).trans ((if_neg hover).trans ?_)
    simp only [hhold, hfirst, Nat.not_lt_zero, decide_false, Bool.false_eq_true, if_false]
  case fence =>
    intro s r h hlo hhi f v
    have hf : ¬ (f = 0 ∨ 1023 < f) := by omega
    refine ⟨fun heq => ?_, fun hne hok => ?_, fun hne hno => ?_⟩
    · exact (h.run ((if_neg hf).trans (if_pos heq)) : execFenceSignal r s = _)
    · have hahead : ¬ (!fenceOk v (Map.at s.pix.fences 0 f)) = true := by simp [hok]
      exact (h.run ((if_neg hf).trans ((if_neg hne).trans (if_neg hahead))) : execFenceSignal r s = _)
    · have hbehind : (!fenceOk v (Map.at s.pix.fences 0 f)) = true := by simp [hno]
      exact (h.run ((if_neg hf).trans ((if_neg hne).trans (if_pos hbehind))) : execFenceSignal r s = _)
  case fenceTimeout =>
    intro s g f halive hfind
    have hup : ¬ (!s.alive) = true := by simp [halive]
    refine ⟨?_, ?_⟩
    · intro hoff t
      simp only [exec, execFenceTimeout, if_neg hup]
      erw [hfind]
      simp only [hoff, Bool.false_eq_true, if_false, t]
      rfl
    · intro hon t
      simp only [exec, execFenceTimeout, if_neg hup]
      erw [hfind]
      simp only [hon, if_true, t]
      rfl
  case mesh =>
    intro s r h hl ho hin hstaged l o data
    have hl' : ¬ 32 ≤ l := Nat.not_le.mpr hl
    have ho' : ¬ (o % 8 ≠ 0 ∨ 33800 < o + data.length) := by
      rintro (h8 | hout)
      · exact h8 ho
      · exact Nat.not_lt.mpr hin hout
    exact (h.run ((if_neg hl').trans ((if_neg ho').trans (if_neg (Bool.not_eq_true _ ▸ hstaged)))) : execMeshLoad r s = _)
  case cmpOff =>
    intro s cfg halive hen
    exact (if_neg (by simp [halive])).trans (if_pos (by rw [hen]; rfl))
  case cmpOn =>
    intro s cfg halive hen hok
    exact (if_neg (by simp [halive])).trans ((if_neg (by rw [hen]; exact Bool.false_ne_true)).trans (if_neg (not_not.mpr hok)))
  case cmpRefused =>
    intro s cfg halive hen hno
    exact (if_neg (by simp [halive])).trans ((if_neg (by rw [hen]; exact Bool.false_ne_true)).trans (if_pos hno))
  case compose =>
    intro s n slot chain pos l hcomp hnext hfind hlock
    have hrun : ¬ (!(s.composes n slot && s.composeNext n == some (slot, chain, pos))) = true := by
      rw [hcomp, hnext, beq_self_eq_true (some (slot, chain, pos))]
      exact Bool.false_ne_true
    refine ⟨fun px hpx => ?_, fun bad hbad => ?_⟩
    · simp only [exec, execComposeTile, if_neg hrun, hfind, hlock, hpx]
    · simp only [exec, execComposeTile, if_neg hrun, hfind, hlock, hbad]
  case cutFed =>
    intro s n slot chain pos bad halone
    have hfed : (s.tileMap.map (fun e => (e.1, e.2.1))).filter (fun e => e != (chain, pos) && s.feeds bad slot e.1 e.2) = [] := by
      rw [List.filter_eq_nil_iff]
      intro e he
      obtain ⟨x, hx, rfl⟩ := List.mem_map.mp he
      rcases halone x hx with hself | hnot
      · simp [hself]
      · simp [hnot]
    simp only [State.cutFed, hfed, List.foldl_nil, List.length_nil]
    rfl
  case coderConfig =>
    intro s r h hc hr hm h0 hf1 hf2 hcfg
    have hmode : ¬ (2 ≤ u8 r.payload 2 ∨ u8 r.payload 1 = 0 ∧ u8 r.payload 2 ≠ 0) := by omega
    have hplain : ¬ ((u8 r.payload 1 = 0 ∨ u8 r.payload 2 = 0) ∧ u8 r.payload 3 ≠ 0) := fun ⟨h, hne⟩ => hne (hf1 h)
    have hfloor : ¬ (u8 r.payload 2 = 1 ∧ (u8 r.payload 3 < 1 ∨ sMax (u8 r.payload 1) < u8 r.payload 3)) := by
      rintro ⟨h, hout⟩
      obtain ⟨hlo, hhi⟩ := hf2 h
      omega
    have hidle : ∀ p : Prop, ¬ ((!(s.takeReq 0x0500 r).lch.cfg.isEmpty) = true ∧ p) := by
      rintro p ⟨h, -⟩
      simp [hcfg] at h
    exact (h.run ((if_neg (Nat.not_le.mpr hc)).trans ((if_neg (Nat.not_le.mpr hr)).trans ((if_neg hmode).trans ((if_neg hplain).trans
      ((if_neg hfloor).trans (if_neg (hidle _))))))) : execCoderConfig r s = _)
  case coderStatus =>
    intro s r h
    rw [Answers, exec_coderStatus]
    refine h.run_with rfl ⟨?_, rfl, ?_, ?_⟩
    · exact ⟨fun q hq => by cases q <;> first | rfl | simp at hq, fun _ _ => rfl⟩
    · exact (s.takeReq 0x0501 r).take_coderStatus
    · exact (s.takeReq 0x0501 r).drop_coderStatus
  case encode =>
    intro s slice c rest halive hlead hslice hcomp u a reg w hh x ks runs close
    have hrun : ¬ ((!s.alive) = true ∨ (!s.isLead) = true ∨ 8 ≤ slice) := by
      simp [halive, hlead, hslice]
    have hrow : ∀ b, exec (.encodeSubframe slice b) s = execEncodeSubframe slice b s := fun _ => rfl
    refine ⟨?_, fun hkey => ?_, fun hkey hone => ?_⟩
    all_goals simp only [hrow, execEncodeSubframe, hcomp, if_neg hrun]
    · rfl
    · rw [if_pos hkey]
      rfl
    · rw [if_neg hkey]
      change Host.Outcome.next (close (((List.range runs.length).map _).foldl State.send u)) = _
      rw [hone]
      rfl

end Sys2Proof.Machine
end

section
/-! PROOFS. The lamp pipeline and the Almanac engine (R250, R252, R262, R271 to R300). -/

namespace Sys2Proof.Machine

/-! ### Block groups -/

/-- TRANSPORT_GROUP_DECODE of a group not decoded yet, of a sub-frame that has not failed and whose header was received. -/
theorem groupRow {s : State} {slot frame group : Nat} (hrun : s.pipeRuns = true) (hfail : s.failReason slot frame = none)
    (hnew : group ∉ ((s.subOf slot frame).getD { slot := slot, frame := frame }).groups) :
    ¬ (!s.pipeRuns || (s.failReason slot frame).isSome || ((s.subOf slot frame).getD { slot := slot, frame := frame }).groups.contains group) =
      true := by
  have hc : ((s.subOf slot frame).getD { slot := slot, frame := frame }).groups.contains group = false := by simpa using hnew
  rw [hrun, hfail, hc]
  exact Bool.false_ne_true

/-! ### The Almanac's sets -/

/-- The mask 0 names no set. -/
theorem State.maskSets_zero (s : State) : s.maskSets 0 = [] := rfl

/-- The record of a zone in ZONE_READ (R298). -/
def State.zoneRec (s : State) (z : Nat) : List Byte :=
  let f := s.lpp.zones.getD z {}
  let e := (s.lpp.bufs.getD s.lpp.active {}).zones.getD z (0xFF, 0, 0)
  b2 (unsigned 16 (s.zoneTemp z)) ++ b1 (bn f.stale + bn f.fallback * 2) ++ b1 e.1 ++ b4 e.2.2

/-- A zone's record is 8 bytes. -/
theorem State.zoneRec_length (s : State) (z : Nat) : (s.zoneRec z).length = 8 := rfl

/-- The reply of ZONE_READ (R298). -/
def State.zoneBytes (s : State) : List Byte :=
  b4 (s.lpp.bufs.getD s.lpp.active {}).seq ++ zeros 4 ++ (List.range 64).flatMap s.zoneRec

/-- ZONE_READ runs by the course whose reply follows at once. -/
theorem exec_zoneRead (r : Req) (s : State) : exec (.zoneRead r) s = runReq 0x0604 r s fun u => (u, rspOk u.zoneBytes) := rfl

/-- The reply of ZONE_READ is its 8-byte head and 64 records, and begins with the buffer's SEQ. -/
theorem State.zoneBytes_parts (s : State) : s.zoneBytes.length = 520 ∧
    u32 s.zoneBytes 0 = (s.lpp.bufs.getD s.lpp.active {}).seq % 2 ^ 32 := by
  refine ⟨?_, ?_⟩
  · simp only [State.zoneBytes, List.length_append, List.length_flatMap, State.zoneRec_length, b4_length, zeros_length]
    decide
  · simp only [State.zoneBytes, List.append_assoc]
    exact (fieldAt_append_left (o := 0) (n := 4) (by simp)).trans (fieldAt_beBytes 4 _)

/-! ### The rows -/

/-- Settles O41: each row's course is read off its definition. -/
theorem lampCommandsComplete : Obligations.LampCommandsComplete := by
  refine ⟨?header, ?group, ?config, ?lut, ?load, ?enable, ?enableNone, ?zoneRead, ?begin, ?discard, ?written, ?checkFailure, ?stale, ?regenStart,
    ?regenComplete⟩
  case header =>
    intro s slot frame group h hrun hfail hnew hhdr hwhy
    simp only [exec, execTransportGroupDecode, if_neg (groupRow hrun hfail hnew), hhdr, if_pos hwhy]
    rfl
  case group =>
    intro s slot frame group h b hrun hfail x ratio first count len hnew hhdr hok hfirst hbytes
    have hgood : ¬ (s.headerFault slot frame h ≠ 0) := not_not.mpr hok
    have hin : ¬ (nBlk (u16 h 4) (u16 h 6) ≤ 32 * group) := Nat.not_le.mpr hfirst
    have hhead : (exec (.transportGroupDecode slot frame group) s : Res) = execTransportGroupDecode slot frame group s := rfl
    simp only [hhead, execTransportGroupDecode, if_neg (groupRow hrun hfail hnew), hhdr, if_neg hgood, if_neg hin]
    simp only [len, count, ratio, first] at hbytes
    simp only [hbytes]
    refine ⟨fun hwaits hfull => ⟨fun hregion => ?_, fun hnofree hnorel => ?_⟩, fun hroom => ⟨fun hcrc => ?_, fun hcrc hblocks => ?_⟩⟩
    · have hwait : (x.begun.isNone && s.buffersFull count) = true := by rw [hwaits, hfull]; rfl
      have hfreed : (s.freeRegion.isSome || s.releasable.isSome) = true := by simpa using hregion
      exact (if_pos hwait).trans (if_pos hfreed)
    · have hwait : (x.begun.isNone && s.buffersFull count) = true := by rw [hwaits, hfull]; rfl
      have hstuck : ¬ (s.freeRegion.isSome || s.releasable.isSome) = true := by simp [hnofree, hnorel]
      exact (if_pos hwait).trans (if_neg hstuck)
    · exact (if_neg (ne_true_of_eq_false hroom)).trans (if_pos hcrc)
    · have hnone : ((List.range count).map (fun i => decodeBlk ratio (slice (b.drop (if group = 0 then 16 else 0)) (i * blkBytes ratio)
          (blkBytes ratio)))).filter Option.isNone = [] := by
        rw [List.filter_eq_nil_iff]
        intro y hy
        obtain ⟨i, hi, rfl⟩ := List.mem_map.mp hy
        obtain ⟨p, hp⟩ := Option.isSome_iff_exists.mp (hblocks i (List.mem_range.mp hi))
        rw [hp]
        exact Bool.false_ne_true
      have hgoodAll : ¬ (((List.range count).map (fun i => decodeBlk ratio (slice (b.drop (if group = 0 then 16 else 0)) (i * blkBytes ratio)
          (blkBytes ratio)))).filter Option.isNone).length ≠ 0 := by
        rw [hnone]
        exact not_not.mpr rfl
      refine ⟨_, (if_neg (ne_true_of_eq_false hroom)).trans ((if_neg (not_not.mpr hcrc)).trans (if_neg hgoodAll)), ?_⟩
      exact ⟨fun q hq => by cases q <;> first | rfl | simp at hq, fun _ _ => rfl⟩
  case config =>
    intro s r h hprims hbank hbank3 hw1 hw2 hh1 hh2 hg1 hg2 href hforced v hover hcfg
    have h0 : ¬ (lppPrims r.payload ≠ 3 ∧ lppPrims r.payload ≠ 4) := by omega
    have h1 : ¬ (4 < u8 r.payload 1 ∨ lppPrims r.payload = 3 ∧ u8 r.payload 1 ≠ 0) := by omega
    have h2 : ¬ (lppW r.payload < 1 ∨ 512 < lppW r.payload) := by omega
    have h3 : ¬ (lppH r.payload < 1 ∨ 512 < lppH r.payload) := by omega
    have h4 : ¬ (u8 r.payload 7 < 1 ∨ 10 < u8 r.payload 7) := by omega
    have hrefs : (List.range 16).find? (fun k => decide (u16 r.payload (8 + 2 * k) < 0x4000)) = none := by
      rw [List.find?_eq_none]
      intro k hk hlt
      exact absurd (href k (List.mem_range.mp hk)) (Nat.not_le.mpr (of_decide_eq_true hlt))
    have h5 : ¬ ((List.range (lppPrims r.payload)).any (fun k => s.forced (72 + k))) = true := by
      rw [List.any_eq_true]
      rintro ⟨k, hk, hx⟩
      exact Bool.false_ne_true ((hforced k (List.mem_range.mp hk)).symm.trans hx)
    have hsame : (!(s.takeReq 0x0600 r).viewAll.lpp.cfg.isEmpty) = false := by
      rw [show (s.takeReq 0x0600 r).viewAll.lpp.cfg = [] from hcfg]
      rfl
    refine stages_of h (rfl : execLppConfig r s = _) ?_
    refine (if_neg h0).trans ((if_neg h1).trans ((if_neg h2).trans ((if_neg h3).trans ((if_neg h4).trans ?_))))
    simp only [hrefs, hsame, Bool.false_and, Bool.false_eq_true, false_and, if_false]
    exact (if_neg h5).trans (if_neg (ne_true_of_eq_false hover))
  case lut =>
    intro s r h hc hcommit count hcount hlast hstaged
    have hempty : ¬ ((r.payload.length - 4) / 3 = 0 ∧ (!(u8 r.payload 1).testBit 0) = true) := by
      rintro ⟨hx, -⟩
      exact absurd hcount (by simp only [count]; omega)
    have hrange : ¬ (4096 < u16 r.payload 2 + (r.payload.length - 4) / 3 ∨ 4095 < u16 r.payload 2) := by
      simp only [count] at hcount hlast
      omega
    refine (runReqLater_now h ((if_neg (Nat.not_lt.mpr hc)).trans ((if_neg hempty).trans ((if_neg hrange).trans
      ((if_neg (ne_true_of_eq_false hstaged)).trans (if_neg (ne_true_of_eq_false hcommit)))))) : execLutLoad r s = _)
  case load =>
    intro s r h hk htlo hthi k o data z x ho hin hlen hfree
    have htemp : ¬ (signed 16 (u16 r.payload 2) < -160 ∨ 1280 < signed 16 (u16 r.payload 2)) := by omega
    have hshape : ¬ (o % 64 ≠ 0 ∨ z < o + data.length ∨ data.length % 64 ≠ 0 ∧ o + data.length ≠ z) := by omega
    have hunused : ¬ (s.takeReq 0x0602 r).setInUse (u8 r.payload 0) = true := ne_true_of_eq_false hfree
    refine ⟨fun hon => ?_, fun hoff => ?_⟩
    · have hmem : ¬ (!s.mem.enabled) = true := by simp [hon]
      exact (runReqLater_now h ((if_neg (Nat.not_lt.mpr hk)).trans ((if_neg htemp).trans ((if_neg hshape).trans
        ((if_neg hunused).trans (if_neg hmem))))) : execAlmanacLoad r s = _)
    · have hmem : (!s.mem.enabled) = true := by simp [hoff]
      exact (runReqLater_later h ((if_neg (Nat.not_lt.mpr hk)).trans ((if_neg htemp).trans ((if_neg hshape).trans
        ((if_neg hunused).trans (if_pos hmem))))) : execAlmanacLoad r s = _)
  case enable =>
    intro s r h hstaged hregen m hloaded htemps hm
    have hfull : ¬ ((s.maskSets m).any fun k => !(s.lpp.sets.getD k {}).loaded) = true := by
      rw [List.any_eq_true]
      rintro ⟨k, hk, hx⟩
      rw [hloaded k hk] at hx
      exact Bool.false_ne_true hx
    have hapart : ¬ ((s.maskSets m).any fun a => (s.maskSets m).any fun b =>
        a != b && (s.lpp.sets.getD a {}).temp == (s.lpp.sets.getD b {}).temp) = true := by
      simp only [List.any_eq_true, Bool.and_eq_true, bne_iff_ne, beq_iff_eq]
      rintro ⟨a, ha, b, hb, hne, heq⟩
      exact htemps a ha b hb hne heq
    have hidle : ¬ (s.stagedMask.isSome || (match s.lpp.regen with | some g => g.enable.isSome | none => false)) = true := by
      rw [hstaged]
      cases hg : s.lpp.regen with
      | none => exact Bool.false_ne_true
      | some g => simp [hregen g hg]
    exact (runReqLater_later h ((if_neg hfull).trans ((if_neg hapart).trans ((if_neg hidle).trans (if_neg hm)))) : execAlmanacEnable r s = _)
  case enableNone =>
    intro s r h hstaged hregen hm
    have hsame : ({ s.takeReq 0x0603 r with lpp := { s.lpp with regen := none } } : State) = s.takeReq 0x0603 r := by rw [← hregen]; rfl
    have hidle : ¬ ((s.takeReq 0x0603 r).stagedMask.isSome || (match s.lpp.regen with | some g => g.enable.isSome | none => false)) = true := by
      rw [show (s.takeReq 0x0603 r).stagedMask = none from hstaged, hregen]
      exact Bool.false_ne_true
    refine stages_of h (rfl : execAlmanacEnable r s = _) ?_
    simp only [hm, State.maskSets_zero, List.any_nil, Bool.false_eq_true, if_false, if_true]
    exact (if_neg hidle).trans (congrArg (fun u => u.stageReply 0x0603 r (.mask 0)) hsame)
  case zoneRead =>
    intro s r h
    rw [Answers, exec_zoneRead]
    obtain ⟨hlen, hseq⟩ := (s.takeReq 0x0604 r).zoneBytes_parts
    exact h.run_with rfl ⟨s.takeReq_keeps 0x0604 r, rfl, hlen, hseq⟩
  case begin =>
    intro s slot frame h r hrun hfirst hhdr hok hn hfree u
    have hgo : ¬ (!(s.pipeRuns && s.firstToBegin slot frame)) = true := by simp [hrun, hfirst]
    have hin : ¬ (!s.nInRange (u32 h 8)) = true := by simp [hn]
    simp only [exec, execSubframeProcessBegin, if_neg hgo, hhdr, hok, ne_eq, not_true_eq_false, if_false, if_neg hin, hfree, u]
  case discard =>
    intro s slot frame h hrun hfirst hhdr hok hn
    have hgo : ¬ (!(s.pipeRuns && s.firstToBegin slot frame)) = true := by simp [hrun, hfirst]
    have hout : (!s.nInRange (u32 h 8)) = true := by simp [hn]
    simp only [exec, execSubframeProcessBegin, if_neg hgo, hhdr, hok, ne_eq, not_true_eq_false, if_false, if_pos hout]
  case written =>
    intro s slot n corrected f r codes hrun hsub hbegun hgroups hwhole hcodes t
    have hall : (List.range ((nBlk (lppW (s.viewFor n).lpp.cfg) (lppH (s.viewFor n).lpp.cfg) + 31) / 32)).all f.groups.contains = true := by
      rw [List.all_eq_true]
      exact fun g hg => List.contains_iff_mem.mpr (hgroups g (List.mem_range.mp hg))
    have hgo : ¬ (!s.pipeRuns || n != n || !(List.range ((nBlk (lppW (s.viewFor n).lpp.cfg) (lppH (s.viewFor n).lpp.cfg) + 31) / 32)).all
        f.groups.contains || !s.pixWhole slot (frameOfN n)) = true := by
      rw [hrun, hall, hwhole, bne_self_eq_false n]
      exact Bool.false_ne_true
    simp only [exec, execSubframeWriteComplete, hsub, hbegun, if_neg hgo, hcodes, t]
  case checkFailure =>
    intro s slot n source dis x r hrun hsub hbegun
    have hgo : (s.pipeRuns && n == n) = true := by rw [hrun, beq_self_eq_true n]; rfl
    simp only [exec, execPipelineCheckFailure, hsub, Option.bind_some, hbegun, if_pos hgo]
    rfl
  case stale =>
    intro s z halive htile hz hsrc hfresh hnone
    have hgo : (s.alive && s.isTile && decide (z < 64) && s.zoneSrc z == 0 && !(s.lpp.zones.getD z {}).stale && (s.freshReports z).isEmpty) =
        true := by
      rw [halive, htile, decide_eq_true hz, hsrc, hfresh, hnone]
      rfl
    exact if_pos hgo
  case regenStart =>
    intro s halive htile hmask hregen hstaged hdue
    have hgo : (s.alive && s.isTile && s.lpp.mask != 0 && s.lpp.regen.isNone && s.stagedMask.isNone &&
        decide (s.lpp.regenAt + rawMs (100 * u8 s.lpp.cfg 7) ≤ s.now)) = true := by
      rw [halive, htile, bne_iff_ne.mpr hmask, hregen, hstaged, decide_eq_true hdue]
      rfl
    exact if_pos hgo
  case regenComplete =>
    intro s g halive hregen henable
    have hup : ¬ (!s.alive) = true := by simp [halive]
    refine ⟨fun hgood hintime => ?_, fun k => ?_⟩
    · have hlate : ¬ (true && decide (g.start + rawMs (100 * u8 s.lpp.cfg 7) ≤ s.now) && s.lpp.mask != 0) = true := by
        rw [decide_eq_false (Nat.not_le.mpr hintime)]
        exact Bool.false_ne_true
      simp only [exec, execAlmanacRegenerationComplete, hregen, if_neg hup, Option.none_or, hgood, henable, Option.isNone_none, if_neg hlate]
    · simp only [exec, execAlmanacRegenerationComplete, hregen, if_neg hup, Option.some_or, henable]

end Sys2Proof.Machine
end

section
/-! PROOFS. The emission scheduler and the lamp port (R275, R303 to R335). -/

namespace Sys2Proof.Machine

/-! ### Banks -/

/-- No enabled bank is forced off. -/
theorem not_any_forcedBank {s : State} {banks : Nat} (h : ∀ b, b < 4 → banks.testBit b = true → s.forced (76 + b) = false) :
    (List.range 4).any (fun b => banks.testBit b && s.forced (76 + b)) = false := by
  rw [List.any_eq_false]
  intro b hb hx
  obtain ⟨hbank, hoff⟩ := (Bool.and_eq_true _ _).mp hx
  rw [h b (List.mem_range.mp hb) hbank] at hoff
  exact Bool.false_ne_true hoff

/-! ### Windows -/

/-- A tile that drives its lamps. -/
theorem emissionRow {s : State} (halive : s.alive = true) (htile : s.isTile = true) (hen : s.ems.enabled = true) (hhold : s.ems.hold = false) :
    ¬ (!(s.alive && s.isTile && s.ems.enabled && !s.ems.hold)) = true := by
  rw [halive, htile, hen, hhold]
  exact Bool.false_ne_true

/-- DARK_LATCH at the end of a lit unit that no other follows at once: what is next takes its scale, and where nothing is, the window ends. -/
theorem exec_darkLatch {s : State} {w : Win} {u : Shown} (halive : s.alive = true) (hen : s.ems.enabled = true) (hhold : s.ems.hold = false)
    (hwin : s.ems.win = some w) (hopen : w.open_ = true) (hunit : (s.planOf w)[w.next - 1]? = some u)
    (hnext : ∀ v, (s.planOf w)[w.next]? = some v → v.dark = true) (hedge : w.edge u.stop ≤ s.nowFine) :
    let t := (s.credit.emit (.latch (emsBanks s.ems.cfg) 3 (s.llatEdges (w.edge u.stop) w.phase))).applyCodes
    let x : State := { t with ems := { t.ems with
      lit := none, win := some { w with open_ := false },
      scale := match (s.planOf w)[w.next]? with | some v => v.u.scale | none => 0 } }
    exec .darkLatch s = .next (if (s.planOf w)[w.next]?.isNone = true then x.endWindow w else x) := by
  intro t x
  have hback : (match (s.planOf w)[w.next]? with | some v => !v.dark | none => false) = false := by
    cases hv : (s.planOf w)[w.next]? with
    | none => rfl
    | some v => simp [hnext v hv]
  have hrun : ¬ (!(s.alive && s.ems.enabled && !s.ems.hold && w.open_ &&
      !(match (s.planOf w)[w.next]? with | some v => !v.dark | none => false) && decide (w.edge u.stop ≤ s.nowFine))) = true := by
    rw [halive, hen, hhold, hopen, hback, decide_eq_true hedge]
    exact Bool.false_ne_true
  simp only [exec, execDarkLatch, hwin, hunit]
  exact if_neg hrun

/-! ### Setup transfers -/

/-- With nothing selected no driver returns a status word (R320). -/
theorem State.returned_of_none {s : State} (banks : Nat) (h : ∀ b, s.ems.selected.getD b none = none) : s.returned banks = [] := by
  have hnone : (lanesOf banks).filter (fun l => s.ems.selected.getD (l / 16) none == some (l % 8)) = [] := by
    rw [List.filter_eq_nil_iff]
    intro l _
    rw [h]
    exact Bool.false_ne_true
  simp only [State.returned, hnone, List.flatMap_nil]

/-- A host's transfer returns what it names. -/
theorem State.retOf_host {s : State} {x : Setup} (h : x.kind = 0) : s.retOf x = x.ret :=
  if_neg (by omega)

/-! ### The rows -/

/-- Settles O42: each row's course is read off its definition. -/
theorem emissionCommandsComplete : Obligations.EmissionCommandsComplete := by
  refine ⟨?config, ?enable, ?delay, ?disable, ?setup, ?status, ?preshift, ?showFirst, ?showLater, ?darkNext, ?darkLast, ?fill, ?cut, ?collect,
    ?setupRun, ?setupDrop⟩
  case config =>
    intro s r h hoff hinit hlch hbad hforced
    have hstate : ¬ (s.ems.enabled = true ∨ s.ems.init.isSome = true) := by simp [hoff, hinit]
    refine (h.run ((if_neg hstate).trans ?_) : execEmsConfig r s = _)
    have hnone : ¬ ((List.range 4).any fun b => (emsBanks r.payload).testBit b && s.forced (76 + b)) = true :=
      ne_true_of_eq_false (not_any_forcedBank hforced)
    simp only [State.takeReq_lch, hlch, hbad, List.isEmpty_nil, Bool.not_true, Bool.false_eq_true, false_and, if_false]
    exact if_neg hnone
  case enable =>
    intro s r h hoff hinit hcfg hinert hhold hlock hdelay hlch hforced hdomain hmap
    have hany : ((List.range 4).any fun b => (emsBanks s.ems.cfg).testBit b && s.forced (76 + b)) = false := not_any_forcedBank hforced
    have h0 : ¬ (65536000 < u32 r.payload 0 ∨ ((!s.lch.cfg.isEmpty) = true ∧ (!windowsEnd s.lch.cfg (u32 r.payload 0)) = true) ∨
        ((!s.ems.cfg.isEmpty) = true ∧ (!s.lch.cfg.isEmpty) = true ∧ ((!delayFits s.lch.cfg s.ems.cfg (u32 r.payload 0)) = true ∨
          (windowBad s.lch.cfg s.ems.cfg).isSome = true))) := by
      rw [hlch]
      rintro (hx | ⟨hx, -⟩ | ⟨-, hx, -⟩)
      · omega
      · exact Bool.false_ne_true hx
      · exact Bool.false_ne_true hx
    have h1 : ¬ (s.ems.enabled = true ∨ s.ems.init.isSome = true) := by simp [hoff, hinit]
    have h2 : ¬ s.ems.cfg.isEmpty = true := by simp [hcfg]
    have h3 : ¬ s.pwr.inert = true := by simp [hinert]
    have h4 : ¬ (s.ems.hold = true ∨ (!s.pllLock 2) = true) := by simp [hhold, hlock]
    have h5 : ¬ (((List.range 4).any fun b => (emsBanks s.ems.cfg).testBit b && s.forced (76 + b)) || s.forced 148) = true := by
      rw [hany, hdomain]
      exact Bool.false_ne_true
    have hscan : (s.takeReq 0x0701 r).mapScan = 0 := hmap
    refine (runReqLater_later h ((if_neg h0).trans ((if_neg h1).trans ((if_neg h2).trans ((if_neg h3).trans ((if_neg h4).trans
      ((if_neg h5).trans ?_)))))) : execEmitEnable r s = _)
    simp only [hscan, if_true]
    rfl
  case delay =>
    intro s r h hbad
    have h0 : 65536000 < u32 r.payload 0 ∨ ((!s.lch.cfg.isEmpty) = true ∧ (!windowsEnd s.lch.cfg (u32 r.payload 0)) = true) ∨
        ((!s.ems.cfg.isEmpty) = true ∧ (!s.lch.cfg.isEmpty) = true ∧ ((!delayFits s.lch.cfg s.ems.cfg (u32 r.payload 0)) = true ∨
          (windowBad s.lch.cfg s.ems.cfg).isSome = true)) := by
      rcases hbad with hx | ⟨hx, hy⟩
      · exact .inl hx
      · exact .inr (.inl ⟨by simp [hx], by simp [hy]⟩)
    exact (runReqLater_now h (if_pos h0) : execEmitEnable r s = _)
  case disable => exact fun s r h => (h.run rfl : execEmitDisable r s = _)
  case setup =>
    intro s r h hcfg hmode hlen hbanks haddr
    have h0 : ¬ s.ems.cfg.isEmpty = true := by simp [hcfg]
    have h1 : ¬ ((List.range 4).any fun b => (u8 r.payload 0).testBit b && !(emsBanks s.ems.cfg).testBit b) = true := by
      rw [List.any_eq_true]
      rintro ⟨b, hb, hx⟩
      obtain ⟨hnamed, hoff⟩ := (Bool.and_eq_true _ _).mp hx
      rw [hbanks b (List.mem_range.mp hb) hnamed] at hoff
      exact Bool.false_ne_true hoff
    have h2 : ¬ 2 < u8 r.payload 4 := by omega
    have h3 : ¬ (u8 r.payload 4 = 1 ∧ 63 < u8 r.payload 5) := by omega
    refine (h.run ((if_neg h0).trans ((if_neg h1).trans ((if_neg haddr).trans ((if_neg h2).trans ((if_neg h3).trans ?_))))) :
      execSetupTransfer r s = _)
    simp only [hmode, hlen, Nat.sub_self, List.range_zero, List.map_nil]
  case status =>
    intro s r h h1 h511 hlast
    have hcount : ¬ (u16 r.payload 2 < 1 ∨ 511 < u16 r.payload 2) := by omega
    have hin : ¬ 16383 < u16 r.payload 0 + u16 r.payload 2 - 1 := by omega
    exact (h.run ((if_neg hcount).trans (if_neg hin)) : execDriverStatus r s = _)
  case preshift =>
    intro s corrected n w f codes halive htile hen hhold hnext hpre hedge
    have hrun := emissionRow halive htile hen hhold
    refine ⟨fun hmay => ?_, fun hearly => ?_⟩
    · have hgo : ¬ (s.ems.pre = some (n, w) ∨ s.nowFine + cycleTime (emsTsh s.ems.cfg) < s.edgeOf f ∨ (!s.shiftAllowed w f) = true) := by
        rw [hmay]
        rintro (hx | hx | hx)
        · exact hpre hx
        · exact Nat.not_lt.mpr hedge hx
        · exact Bool.false_ne_true hx
      simp only [exec, execWindowPreshift, if_neg hrun, hnext, if_neg hgo]
    · have hwait : s.ems.pre = some (n, w) ∨ s.nowFine + cycleTime (emsTsh s.ems.cfg) < s.edgeOf f ∨ (!s.shiftAllowed w f) = true :=
        .inr (.inr (by rw [hearly]; rfl))
      simp only [exec, execWindowPreshift, if_neg hrun, hnext, if_pos hwait]
  case showFirst =>
    intro s corrected w u halive htile hen hhold hwin hopens hunit
    simp only [exec, execUnitShow, if_neg (emissionRow halive htile hen hhold), hwin, hopens, hunit]
  case showLater =>
    intro s corrected w u halive htile hen hhold hwin hunit hedge hopen
    simp only [exec, execUnitShow, if_neg (emissionRow halive htile hen hhold), hwin, hunit, if_pos (And.intro hedge hopen)]
    rfl
  case darkNext =>
    intro s w u v halive hen hhold hwin hopen hunit hv hdark hedge t
    have hnext : ∀ y, (s.planOf w)[w.next]? = some y → y.dark = true := by
      intro y hy
      rw [← Option.some.inj (hv.symm.trans hy)]
      exact hdark
    refine (exec_darkLatch halive hen hhold hwin hopen hunit hnext hedge).trans ?_
    simp only [hv, Option.isNone_some, Bool.false_eq_true, if_false, t]
  case darkLast =>
    intro s w u halive hen hhold hwin hopen hunit hnone hedge t
    have hnext : ∀ y, (s.planOf w)[w.next]? = some y → y.dark = true := fun y hy => absurd (hnone.symm.trans hy) (by simp)
    refine (exec_darkLatch halive hen hhold hwin hopen hunit hnext hedge).trans ?_
    simp only [hnone, Option.isNone_none, if_true, t]
  case fill =>
    intro s corrected n l halive htile hen hhold hemits hfill hdone hwin hleft hlaunch c g hedge codes
    have hrun : ¬ (!(s.alive && s.isTile && s.ems.enabled && !s.ems.hold && s.ems.emits && emsFill c && !s.ems.fillDone && s.ems.win.isNone &&
        s.windowsLeft.isEmpty && decide (gridEdge g 0 ≤ s.nowFine + cycleTime (emsTsh c)))) = true := by
      rw [halive, htile, hen, hhold, hemits, show emsFill c = true from hfill, hdone, hwin, hleft, decide_eq_true hedge]
      exact Bool.false_ne_true
    simp only [exec, execFillStart, hlaunch]
    exact if_neg hrun
  case cut =>
    intro s w lane halive hen hwin hfill hcut t
    have hrun : ¬ (!s.alive || !s.ems.enabled) = true := by simp [halive, hen]
    have hlit : ¬ (w.fill = true ∨ w.cut = true) := by simp [hfill, hcut]
    simp only [exec, execWindowCut, hwin, if_neg hrun, Bool.false_eq_true, if_false, if_neg hlit, t]
    rfl
  case collect =>
    intro s halive htile hen hstat hdue x
    have hrun : (s.alive && s.isTile && s.ems.enabled && emsStat s.ems.cfg != 0 && decide (s.ems.collectAt + rawMs (emsStat s.ems.cfg) ≤ s.now)) =
        true := by
      rw [halive, htile, hen, bne_iff_ne.mpr hstat, decide_eq_true hdue]
      rfl
    exact if_pos hrun
  case setupRun =>
    intro s words x rest r halive htile hhold hoff hinert hsetups hkind hreq hnone t
    have hrun : ¬ (!(s.alive && s.isTile && !s.ems.hold) || (if s.ems.enabled then !s.setupFits else s.pwr.inert && s.ems.init.isNone)) = true := by
      rw [halive, htile, hhold, hoff, hinert]
      exact Bool.false_ne_true
    have hself : ({ x with ret := s.retOf x } : Setup) = x := by rw [State.retOf_host hkind]
    have hcount : ¬ x.kind = 2 := by omega
    simp only [exec, execSetupTransferRun, hsetups, if_neg hrun, hself, State.returned_of_none _ hnone, List.foldl_nil, if_neg hcount, t]
    simp only [hkind, hreq, State.retOf_host hkind, State.bump_ems, State.emits_ems, hnone]
  case setupDrop =>
    intro s x rest r halive htile hen hsetups hlate hkind hreq
    have hrun : ¬ (!(s.alive && s.isTile && s.ems.enabled && decide (x.since + rawSec 1 ≤ s.now))) = true := by
      rw [halive, htile, hen, decide_eq_true hlate]
      exact Bool.false_ne_true
    simp only [exec, execSetupTransferDrop, hsetups, if_neg hrun, hreq, hkind, if_true]
    rw [show bn ((0 : Nat) == 1) = 0 from rfl, Nat.zero_add]

end Sys2Proof.Machine
end

section
/-! PROOFS. Calibration runs, delay trims and the precision reference (R388 to R404). -/

namespace Sys2Proof.Machine

/-! ### The handover of the spare channel -/

/-- A tile that is dark at scale ×1 with no show planned. -/
theorem handoverRow {s : State} (halive : s.alive = true) (htile : s.isTile = true) (hen : s.ems.enabled = true) (hlit : s.ems.lit = none)
    (hscale : s.ems.scale = 0) (hshow : s.nextShow = none) :
    ¬ (!(s.alive && s.isTile && s.ems.enabled && (s.ems.lit.isNone && s.ems.scale == 0 &&
      (match s.nextShow with | some f => decide (s.nowFine + 6553600 ≤ f) | none => true)))) = true := by
  rw [halive, htile, hen, hlit, hscale, hshow]
  exact Bool.false_ne_true

/-! ### The end of a run -/

/-- A run that ends while emission is disabled waits for no handover. -/
theorem runRow {s : State} {q : CalRun} {fault : Option Nat} {a b : Int} (halive : s.alive = true) (hoff : s.ems.enabled = false) :
    ¬ (!s.alive || (irefTarget q.target && s.ems.enabled && s.cal.spare != some q.out && fault != some 0x0A06 && s.withinTol a b)) = true := by
  rw [halive, hoff]
  simp

/-! ### CAL_STATUS -/

/-- A part of CAL_STATUS that only a tile has. -/
def State.tilePart (s : State) (l : List Byte) : List Byte := if s.isLead then zeros l.length else l

/-- CAL_STATUS after the register and the run's target (R404). -/
def State.calStatusRest (s : State) : List Byte :=
  b1 s.cal.last.2.1 ++ b1 s.cal.last.2.2.1 ++ zeros 1 ++ b4 (unsigned 32 s.cal.last.2.2.2.1) ++ b4 (unsigned 32 s.cal.last.2.2.2.2) ++
    s.cal.temps.flatMap (fun v => b2 (unsigned 16 v)) ++ s.tilePart (s.cal.sets.flatMap CalSet.bytes) ++
    s.tilePart ((List.range 4).flatMap (fun b => b1 (s.fld Reg.calLlat (8 * b + 7) (8 * b)))) ++
    (List.range 8).flatMap (fun p => if s.portPresent p then b4 (s.reg (Reg.calPortDly + 4 * p)).toNat else zeros 4) ++
    s.tilePart (s.cal.codes.flatMap b2)

/-- CAL_STATUS runs by the course whose reply follows at once. -/
theorem exec_calStatus (r : Req) (s : State) : exec (.calStatus r) s = runReq 0x0A02 r s fun u =>
    (u, rspOk (b4 u.calStatus ++ (b1 u.cal.last.1 ++ u.calStatusRest))) := by
  simp only [exec, execCalStatus, State.calStatusRest, State.tilePart, List.append_assoc]

/-- The first word of CAL_STATUS is the register, and the next byte the target of the last run. -/
theorem State.calStatus_parts (s : State) : u32 (b4 s.calStatus ++ (b1 s.cal.last.1 ++ s.calStatusRest)) 0 = s.calStatus % 2 ^ 32 ∧
    u8 (b4 s.calStatus ++ (b1 s.cal.last.1 ++ s.calStatusRest)) 4 = s.cal.last.1 % 256 := by
  refine ⟨?_, ?_⟩
  · exact (fieldAt_append_left (o := 0) (n := 4) (by simp)).trans (fieldAt_beBytes 4 _)
  · exact (fieldAt_append_right (b4 _) _ 0 1).trans ((fieldAt_append_left (o := 0) (n := 1) (by simp)).trans (fieldAt_beBytes 1 _))

/-! ### CAL_CFG -/

/-- The one rule that bears on CAL_CFG: TOL is 5 to 100. -/
theorem fieldRules_calCfg : fieldRules.filter (fun f => f.holds Reg.calCfg) = [{ base := Reg.calCfg, hi := 15, lo := 8, min := 5, max := 100 }] := by
  decide +kernel

/-- The rules that a word for CAL_CFG breaks. -/
theorem badRules_calCfg (w : Nat) : fieldRules.filter (fun f => f.holds Reg.calCfg && !f.ok Reg.calCfg w) =
    if 5 ≤ bitsOf w 15 8 ∧ bitsOf w 15 8 ≤ 100 then [] else [{ base := Reg.calCfg, hi := 15, lo := 8, min := 5, max := 100 }] := by
  have hreset : bitsOf (regReset Reg.calCfg).toNat 15 8 = 20 := by decide +kernel
  have hother : (Reg.calCfg == Reg.memCfg) = false := by decide
  have hsplit : fieldRules.filter (fun f => f.holds Reg.calCfg && !f.ok Reg.calCfg w) =
      (fieldRules.filter (fun f => f.holds Reg.calCfg)).filter (fun f => !f.ok Reg.calCfg w) := by
    rw [List.filter_filter]
    exact List.filter_congr fun f _ => Bool.and_comm _ _
  rw [hsplit, fieldRules_calCfg]
  by_cases hin : 5 ≤ bitsOf w 15 8 ∧ bitsOf w 15 8 ≤ 100
  · simp [FieldRule.ok, hin]
  · have hnot : ¬ bitsOf w 15 8 = 20 := by omega
    have hrange : bitsOf w 15 8 < 5 ∨ 100 < bitsOf w 15 8 := by omega
    simp [FieldRule.ok, hreset, hother, hnot, hrange, if_neg hin]

/-- A TOL in range is taken as written (R8). -/
theorem State.keepRanges_calCfg_in (s : State) {w : Nat} (h : 5 ≤ bitsOf w 15 8 ∧ bitsOf w 15 8 ≤ 100) :
    s.keepRanges Reg.calCfg w = (w, false) := by
  simp only [State.keepRanges, badRules_calCfg, if_pos h, List.foldl_nil, List.isEmpty_nil, Bool.not_true]

/-- A TOL out of range stays as it is (R8). -/
theorem State.keepRanges_calCfg_out (s : State) {w : Nat} (h : ¬ (5 ≤ bitsOf w 15 8 ∧ bitsOf w 15 8 ≤ 100)) :
    s.keepRanges Reg.calCfg w = (setBits w 15 8 (s.fld Reg.calCfg 15 8), true) := by
  simp only [State.keepRanges, badRules_calCfg, if_neg h, List.foldl_cons, List.foldl_nil, List.isEmpty_cons, Bool.not_false]

/-- The fields of a word for CAL_CFG are those of its low 16 bits. -/
theorem calCfg_fields (w : Nat) : bitsOf ((BitVec.ofNat 32 w).toNat % 65536) 15 8 = bitsOf w 15 8 ∧
    ((BitVec.ofNat 32 w).toNat % 65536).testBit 0 = w.testBit 0 := by
  simp only [bitsOf, Nat.testBit_eq_decide_div_mod_eq, BitVec.toNat_ofNat]
  refine ⟨by omega, ?_⟩
  congr 1
  apply propext
  omega

/-- A word whose TOL is replaced has that TOL and its bit 0. -/
theorem setBits_tol (w : Nat) {v : Nat} (hv : v < 256) : bitsOf (setBits w 15 8 v) 15 8 = v ∧ (setBits w 15 8 v).testBit 0 = w.testBit 0 := by
  simp only [setBits, bitsOf, Nat.testBit_eq_decide_div_mod_eq]
  refine ⟨by omega, ?_⟩
  congr 1
  apply propext
  omega

/-- A write to CAL_CFG in its fields. -/
theorem State.writeCalCfg_eq (s : State) (w : Nat) : s.writeCalCfg (BitVec.ofNat 32 w) =
    if w.testBit 0 = s.bit Reg.calCfg 0 then (s.setReg Reg.calCfg (BitVec.ofNat 32 (bitsOf w 15 8 * 256 + bn (w.testBit 0))), true)
    else if s.ems.enabled then (s, false)
    else
      let t := s.setReg Reg.calCfg (BitVec.ofNat 32 (bitsOf w 15 8 * 256 + bn (w.testBit 0)))
      ({ t with cal := { t.cal with sets := t.cal.sets.map (fun (x : CalSet) => { x with valid := 0 }), refOk := false, refAt := t.now } }, true) := by
  obtain ⟨htol, hsel⟩ := calCfg_fields w
  simp only [State.writeCalCfg, htol, hsel]

/-! ### The rows -/

/-- Settles O43: each row's course is read off its definition. -/
theorem calibrationCommandsComplete : Obligations.CalibrationCommandsComplete := by
  refine ⟨?runRef, ?runIref, ?runLlat, ?runPort, ?release, ?takeOver, ?rejected, ?accepted, ?gains, ?llat, ?port, ?status, ?compare, ?refSel, ?tolKept,
    ?target, ?codes⟩
  case runRef =>
    intro s r h hidle ht
    refine (h.run ?_ : execCalRun r s = _)
    simp [ht, hidle, irefTarget]
  case runIref =>
    intro s r h hidle ht hlead hset hncw
    have hiref : irefTarget (u8 r.payload 0) = true := decide_eq_true ht
    have hport : ¬ 0x30 ≤ u8 r.payload 0 := by omega
    have hllat : ¬ 0x20 ≤ u8 r.payload 0 := by omega
    have hpulse : (s.ems.enabled && emsNcw s.ems.cfg != 0) = false := by
      cases hen : s.ems.enabled with
      | false => rfl
      | true => simp [hncw hen]
    refine (h.run ?_ : execCalRun r s = _)
    simp [hiref, hidle, hlead, hport, hllat, hpulse, Nat.not_lt.mpr hset]
  case runLlat =>
    intro s r h hidle ht ht' hlead hclk
    have hiref : irefTarget (u8 r.payload 0) = false := decide_eq_false (by omega)
    have hport : ¬ 0x30 ≤ u8 r.payload 0 := by omega
    have hout : ¬ u8 r.payload 0 < 0x10 := by omega
    have hruns : (s.takeReq 0x0A00 r).lclkRuns (u8 r.payload 0 - 0x20) = true := hclk
    refine (h.run ?_ : execCalRun r s = _)
    simp [hiref, hidle, hlead, hport, hout, ht, ht', hruns]
  case runPort =>
    intro s r h hidle ht ht' hport hup hopen hactive
    have hiref : irefTarget (u8 r.payload 0) = false := decide_eq_false (by omega)
    have hllat : ¬ u8 r.payload 0 ≤ 0x23 := by omega
    have hout : ¬ u8 r.payload 0 < 0x10 := by omega
    have hpresent : (s.takeReq 0x0A00 r).portPresent (u8 r.payload 0 - 0x30) = true := hport
    refine (h.run ?_ : execCalRun r s = _)
    simp [hiref, hidle, hllat, hout, ht, ht', hpresent, hup, hopen, hactive]
  case release =>
    intro s n halive htile hen hlit hscale hshow hspare hrun
    simp only [exec, execSpareHandover, hspare, hrun, reduceCtorEq, if_false]
    exact if_neg (handoverRow halive htile hen hlit hscale hshow)
  case takeOver =>
    intro s q halive htile hen hlit hscale hshow hspare hrun ht habort
    have hwanted : (irefTarget q.target && !q.abort) = true := by rw [irefTarget, decide_eq_true ht, habort]; rfl
    simp only [exec, execSpareHandover, hspare, hrun, hwanted, if_true]
    exact if_neg (handoverRow halive htile hen hlit hscale hshow)
  case rejected =>
    intro s q c a b pa pb ta tb halive hrun hoff hfault
    simp only [exec, execCalRunComplete, hrun, hfault]
    refine (if_neg (runRow halive hoff)).trans ?_
    simp only [hoff, Bool.false_eq_true, if_false]
  case accepted =>
    intro s q a b pa pb ta tb halive hrun hoff hfault hlast u
    simp only [exec, execCalRunComplete, hrun, hfault]
    refine (if_neg (runRow halive hoff)).trans ((if_neg hlast).trans ?_)
    simp only [hoff, Bool.false_eq_true, if_false, u, hrun]
  case gains =>
    intro s r h hk hlead hb hi htlo hthi hnear hidle
    have h0 : ¬ 2 < u8 r.payload 0 := by omega
    have h1 : ¬ (u8 r.payload 0 < 2 ∧ s.isLead = true) := by simp [hlead]
    have h2 : ¬ (signed 16 (u16 r.payload 4) < -640 ∨ 2000 < signed 16 (u16 r.payload 4) ∨
        nearOther (s.takeReq 0x0A01 r).viewAll.cal.sets (u8 r.payload 1) (u8 r.payload 2) (signed 16 (u16 r.payload 4)) = true) := by
      rw [hnear]
      rintro (hx | hx | hx)
      · omega
      · omega
      · exact Bool.false_ne_true hx
    refine (h.run ((if_neg h0).trans ((if_neg h1).trans ((if_pos hk).trans ((if_neg (Nat.not_lt.mpr hb)).trans ((if_neg (Nat.not_lt.mpr hi)).trans
      ((if_neg h2).trans ?_)))))) : execCalTrimLoad r s = _)
    simp only [State.takeReq_cal, hidle, Bool.false_eq_true, if_false]
  case llat =>
    intro s r h hk hlead
    have h0 : ¬ 2 < u8 r.payload 0 := by omega
    have h1 : ¬ (u8 r.payload 0 < 2 ∧ s.isLead = true) := by simp [hlead]
    have h2 : ¬ u8 r.payload 0 = 0 := by omega
    exact (h.run ((if_neg h0).trans ((if_neg h1).trans ((if_neg h2).trans (if_pos hk)))) : execCalTrimLoad r s = _)
  case port =>
    intro s r h hk hport
    have h0 : ¬ 2 < u8 r.payload 0 := by omega
    have h1 : ¬ (u8 r.payload 0 < 2 ∧ s.isLead = true) := by omega
    have h2 : ¬ u8 r.payload 0 = 0 := by omega
    have h3 : ¬ u8 r.payload 0 = 1 := by omega
    have h4 : ¬ (!s.portPresent (u8 r.payload 1)) = true := by simp [hport]
    exact (h.run ((if_neg h0).trans ((if_neg h1).trans ((if_neg h2).trans ((if_neg h3).trans (if_neg h4))))) : execCalTrimLoad r s = _)
  case status =>
    intro s r h
    obtain ⟨hword, htarget⟩ := (s.takeReq 0x0A02 r).calStatus_parts
    rw [Answers, exec_calStatus]
    exact h.run_with rfl ⟨s.takeReq_keeps 0x0A02 r, rfl, hword, htarget⟩
  case compare =>
    intro s diff halive hsel hdue
    have hrun : ¬ (!(s.alive && s.bit Reg.calCfg 0 && decide (s.cal.refAt + rawMs 100 ≤ s.now))) = true := by
      rw [halive, hsel, decide_eq_true hdue]
      exact Bool.false_ne_true
    refine ⟨fun hnear => ?_, fun hfar => ?_⟩
    · simp only [exec, execRefInCompare, if_neg hrun, decide_eq_true hnear, if_true]
    · simp only [exec, execRefInCompare, if_neg hrun, decide_eq_false (Nat.not_le.mpr hfar), Bool.false_eq_true, if_false]
  case refSel =>
    intro s data halive hlo hhi w t
    have hup : ¬ (!s.alive) = true := by simp [halive]
    refine ⟨fun hsame => ?_, fun hother hoff => ?_, fun hother hon => ?_⟩
    all_goals simp only [exec, execRefSelWrite, if_neg hup, s.keepRanges_calCfg_in ⟨hlo, hhi⟩, s.writeCalCfg_eq]
    · simp only [if_pos hsame, Bool.not_false, Bool.and_self, if_true, t, w]
    · simp only [if_neg hother, hoff, Bool.false_eq_true, if_false, Bool.not_false, Bool.and_self, if_true, t, w]
      rfl
    · simp only [if_neg hother, hon, if_true, Bool.false_and, Bool.false_eq_true, if_false]
  case tolKept =>
    intro s data halive htol hsame
    have hup : ¬ (!s.alive) = true := by simp [halive]
    have hout : ¬ (5 ≤ bitsOf data.toNat 15 8 ∧ bitsOf data.toNat 15 8 ≤ 100) := by omega
    obtain ⟨hfield, hbit⟩ := setBits_tol data.toNat (v := s.fld Reg.calCfg 15 8) (Nat.mod_lt _ (by decide))
    simp only [exec, execRefSelWrite, if_neg hup, s.keepRanges_calCfg_out hout, s.writeCalCfg_eq, hfield, hbit, hsame, if_true, Bool.not_true,
      Bool.and_false, Bool.false_eq_true, if_false]
  case target =>
    intro s n data halive htile hn
    have hrun : ¬ (!s.alive || !s.isTile || decide (16 ≤ n)) = true := by
      rw [halive, htile, decide_eq_false (Nat.not_le.mpr hn)]
      exact Bool.false_ne_true
    exact if_neg hrun
  case codes =>
    intro s halive htile hidle hdue
    exact if_pos ⟨halive, htile, hidle, hdue⟩

end Sys2Proof.Machine
end

section
/-! PROOFS. The memory controller (R338 to R360). -/

namespace Sys2Proof.Machine

/-! ### MEM_KEEP -/

/-- The flags and the signature of MEM_KEEP, as numbers. -/
theorem memKeep_fields (w : Word) : bitsOf w.toNat 3 0 = w.toNat % 16 ∧ bitsOf w.toNat 31 16 = w.toNat / 65536 := by
  have hlt : w.toNat < 2 ^ 32 := w.isLt
  simp only [bitsOf]
  omega

/-! ### Channels -/

/-- Zeros for each of so many channels. -/
theorem flatMap_zeros (n k : Nat) : (List.range n).flatMap (fun _ => zeros k) = zeros (n * k) := by
  induction n with
  | zero => simp [zeros]
  | succ n ih => rw [List.range_succ, List.flatMap_append, ih, List.flatMap_singleton, zeros, zeros, List.replicate_append_replicate, zeros, Nat.succ_mul]

/-- A row of a channel of a chip that runs. -/
theorem channelRow {s : State} {ch : Nat} (halive : s.alive = true) (hch : ch < 4) : ¬ ((!s.alive) = true ∨ 4 ≤ ch) := by
  simp [halive, hch]

/-- The outcome of a returned burst follows from what its words say. -/
theorem exec_dramReadComplete {s : State} {ch : Nat} {words : List Nat} {r : MemReq} {rest : List MemReq} (halive : s.alive = true) (hch : ch < 4)
    (hflight : (s.chan ch).flight = r :: rest) :
    let ws := (words ++ List.replicate 8 0).take 8
    let t := (s.setChan ch { s.chan ch with flight := rest }).checkWords ch r 0 ws
    exec (.dramReadComplete ch words) s = if (ws.contains 1 && !((List.range 8).any fun i => t.mem.bad.contains (r.addr / 8 + i)) &&
        !((t.chan ch).writes.any fun w => w.req.addr == r.addr) && decide ((t.chan ch).writes.length < 64)) = true then
      .next (t.enqueue ch [{ addr := r.addr, client := .scrub, write := true, data := (List.range 64).map (fun i => t.memByte (r.addr + i)) }])
    else .next t := by
  intro ws t
  simp only [exec, execDramReadComplete, if_neg (channelRow halive hch), hflight]
  rfl

/-- No request leaves installed DRAM. -/
theorem find_addr_none {s : State} {arrived : List MemReq} (h : ∀ r ∈ arrived, r.addr + 64 ≤ s.installed) :
    arrived.find? (fun r => decide (s.installed < r.addr + 64)) = none := by
  rw [List.find?_eq_none]
  intro r hr hx
  exact Nat.not_lt.mpr (h r hr) (of_decide_eq_true hx)

/-! ### The rows -/

/-- Settles O44: each row's course is read off its definition. -/
theorem memoryCommandsComplete : Obligations.MemoryCommandsComplete := by
  refine ⟨?config, ?configWaits, ?trained, ?retrained, ?status, ?release, ?scrubConfig, ?issue, ?fault, ?promotion, ?readClean, ?readCorrected,
    ?refresh, ?retrainDue, ?retrainWindow, ?retrainForced, ?powerDown, ?parity, ?scrub⟩
  case config =>
    intro s r h hoff hidle hgood hforced hkeep
    obtain ⟨hflags, hsig⟩ := memKeep_fields (s.reg Reg.memKeep)
    have h0 : ¬ s.mem.enabled = true := ne_true_of_eq_false hoff
    have h1 : ¬ s.mem.training.isSome = true := by simp [hidle]
    have h2 : ¬ s.memForced (memNch r.payload) = true := ne_true_of_eq_false hforced
    have h3 : ¬ (memKeepFlag r.payload = true ∧ ((s.reg Reg.memKeep).toNat % 16 &&& chanMask (memNch r.payload) ≠ chanMask (memNch r.payload) ∨
        (s.reg Reg.memKeep).toNat / 65536 ≠ memSig r.payload)) := by
      rintro ⟨hk, hbad⟩
      obtain ⟨hm, hs⟩ := hkeep hk
      rw [hflags] at hm
      rw [hsig] at hs
      exact hbad.elim (fun hx => hx hm) (fun hx => hx hs)
    have hfields : (s.takeReq 0x0800 r).memConfigBad r.payload = none := hgood
    refine (runReqLater_later h ((if_neg h0).trans ((if_neg h1).trans ?_)) : execMemConfig r s = _)
    simp only [hfields]
    exact (if_neg h2).trans (if_neg h3)
  case configWaits =>
    intro s r x h hoff htraining
    have h0 : ¬ s.mem.enabled = true := ne_true_of_eq_false hoff
    have h1 : s.mem.training.isSome = true := by rw [htraining]; rfl
    exact (runReqLater_later h ((if_neg h0).trans (if_pos h1)) : execMemConfig r s = _)
  case trained =>
    intro s r halive htraining t go
    have hup : ¬ (!s.alive) = true := by simp [halive]
    have hcfg : t.mem.cfg = s.mem.cfg := rfl
    refine ⟨?_, ?_, fun n lane hn hlane => ?_⟩
    · intro hkeep u
      simp only [exec, execMemTrainingComplete, if_neg hup, htraining]
      simp only [State.resumeWaiting, hkeep, Bool.false_eq_true, if_false, u, go, t]
    · intro hkeep u
      simp only [exec, execMemTrainingComplete, if_neg hup, htraining]
      simp only [State.resumeWaiting, hkeep, if_true, u, go, t]
    · intro off u
      have hmod : n % max 1 (memNch s.mem.cfg) = n := Nat.mod_eq_of_lt (lt_of_lt_of_le hn (Nat.le_max_right _ _))
      simp only [exec, execMemTrainingComplete, if_neg hup, htraining]
      simp only [State.resumeWaiting, hmod, Nat.mod_eq_of_lt hlane, u, off, t]
  case retrained =>
    intro s r n halive htraining t u
    have hup : ¬ (!s.alive) = true := by simp [halive]
    refine ⟨?_, fun f => ?_⟩
    · simp only [exec, execMemTrainingComplete, if_neg hup, htraining, u, t]
    · simp only [exec, execMemTrainingComplete, if_neg hup, htraining, t]
  case status =>
    intro s r h
    have hrow : exec (.memStatus r) s = execMemStatus r s := rfl
    rw [Answers, hrow, execMemStatus]
    refine h.run_with rfl ⟨s.takeReq_keeps 0x0801 r, rfl, fun hoff => ?_⟩
    simp only [State.takeReq_mem, hoff, Bool.false_eq_true, false_and, if_false]
    exact flatMap_zeros 4 52
  case release =>
    intro s r h hn hhold
    have h0 : ¬ 4 ≤ u8 r.payload 0 := Nat.not_le.mpr hn
    have h1 : ¬ (s.chan (u8 r.payload 0)).st ≠ .hold := not_not.mpr hhold
    refine ⟨fun hoff => ?_, fun hon hidle => ?_⟩
    · have h2 : (!s.mem.enabled) = true := by rw [hoff]; rfl
      exact (runReqLater_now h ((if_neg h0).trans ((if_neg h1).trans (if_pos h2))) : execMemRelease r s = _)
    · have h2 : ¬ (!s.mem.enabled) = true := by simp [hon]
      have h3 : ¬ s.mem.training.isSome = true := by simp [hidle]
      exact (runReqLater_later h ((if_neg h0).trans ((if_neg h1).trans ((if_neg h2).trans (if_neg h3)))) : execMemRelease r s = _)
  case scrubConfig => exact fun s r h hle => (h.run (if_neg (Nat.not_lt.mpr hle)) : execScrubConfig r s = _)
  case issue =>
    intro s ch arrived halive hch hon hin mine t
    have hrun : ¬ ((!s.alive) = true ∨ 4 ≤ ch ∨ (!s.mem.enabled) = true) := by simp [halive, hch, hon]
    refine ⟨fun hst => ⟨fun q hq => ?_, fun hnone => ?_⟩, fun hst => ?_⟩
    · simp only [t, mine] at hq
      simp only [exec, execDramRequestIssue, if_neg hrun, find_addr_none hin, hst, hq, t, mine]
    · simp only [t, mine] at hnone
      simp only [exec, execDramRequestIssue, if_neg hrun, find_addr_none hin, hst, hnone, t, mine]
    · simp only [exec, execDramRequestIssue, if_neg hrun, find_addr_none hin, hst, mine]
  case fault =>
    intro s ch r halive hch hon hout
    have hrun : ¬ ((!s.alive) = true ∨ 4 ≤ ch ∨ (!s.mem.enabled) = true) := by simp [halive, hch, hon]
    simp only [exec, execDramRequestIssue, if_neg hrun, List.find?_cons, decide_eq_true hout]
  case promotion =>
    intro s ch halive hch c old up
    exact if_neg (channelRow halive hch)
  case readClean =>
    intro s ch words r rest halive hch hflight ws hclean
    refine (exec_dramReadComplete halive hch hflight).trans (if_neg ?_)
    simp only [Bool.and_eq_true]
    rintro ⟨⟨⟨hx, -⟩, -⟩, -⟩
    exact hclean (List.contains_iff_mem.mp hx)
  case readCorrected =>
    intro s ch words r rest halive hch hflight ws t hone hgood hfree hroom
    have hcontains : ws.contains 1 = true := by simpa using hone
    have hbad : ((List.range 8).any fun i => t.mem.bad.contains (r.addr / 8 + i)) = false := by
      rw [List.any_eq_false]
      exact fun i hi hx => hgood i (List.mem_range.mp hi) (List.contains_iff_mem.mp hx)
    have hqueued : ((t.chan ch).writes.any fun w => w.req.addr == r.addr) = false := by
      rw [List.any_eq_false]
      exact fun w hw hx => hfree w hw (beq_iff_eq.mp hx)
    have hback : (ws.contains 1 && !((List.range 8).any fun i => t.mem.bad.contains (r.addr / 8 + i)) &&
        !((t.chan ch).writes.any fun w => w.req.addr == r.addr) && decide ((t.chan ch).writes.length < 64)) = true := by
      rw [hcontains, hbad, hqueued, decide_eq_true hroom]
      rfl
    exact (exec_dramReadComplete halive hch hflight).trans (if_pos hback)
  case refresh =>
    intro s ch rank halive hch hrank hst hdue c at_
    have hrun : ¬ ((!s.alive) = true ∨ 4 ≤ ch ∨ memRanks s.mem.cfg ≤ rank ∨ c.st ≠ .run ∨ s.now < c.refAt.getD rank 0) := by
      rintro (hx | hx | hx | hx | hx)
      · simp [halive] at hx
      · exact Nat.not_le.mpr hch hx
      · exact Nat.not_le.mpr hrank hx
      · exact hx hst
      · exact Nat.not_lt.mpr hdue hx
    refine ⟨fun hnone => ?_, fun hsome hfew => ?_, fun hsome hmany => ?_⟩
    · exact (if_neg hrun).trans (if_pos hnone)
    · exact (if_neg hrun).trans ((if_neg hsome).trans (if_pos hfew))
    · exact (if_neg hrun).trans ((if_neg hsome).trans (if_neg (Nat.not_lt.mpr hmany)))
  case retrainDue => exact fun s ch halive hch hst hnone hdue => if_pos ⟨halive, hch, hst, hnone, hdue⟩
  case retrainWindow =>
    intro s ch halive hch hst hdue hquiet hback t
    have hrow : ∀ l, exec (.retrainWindow ch l) s = .next (s.retrain ch l) := fun l => if_pos ⟨halive, hch, hst, hdue, hquiet, hback⟩
    refine ⟨hrow none, fun l hl => (hrow (some l)).trans ?_⟩
    simp only [State.retrain, Nat.mod_eq_of_lt hl, t]
  case retrainForced =>
    intro s ch badLane d halive hch hst hflight hdue hlate
    simp only [exec, execRetrainForced, hdue]
    exact if_pos ⟨halive, hch, hst, hflight, hlate⟩
  case powerDown =>
    intro s ch rank halive hch hrank hst hidle hquiet hup hlate
    have hbusy : (!(((s.chan ch).reads ++ (s.chan ch).writes).any fun q => s.rankOf q.req.addr == rank)) = true := by
      rw [Bool.not_eq_true', List.any_eq_false]
      exact fun q hq hx => hquiet q hq (beq_iff_eq.mp hx)
    have hawake : (!(s.chan ch).pd.contains rank) = true := by simpa using hup
    exact if_pos ⟨halive, hch, hrank, hst, hidle, hbusy, hawake, hlate⟩
  case parity =>
    intro s ch halive hch hst c k
    have hrun : ¬ ((!s.alive) = true ∨ 4 ≤ ch ∨ c.st ≠ .run) := by
      rintro (hx | hx | hx)
      · simp [halive] at hx
      · exact Nat.not_le.mpr hch hx
      · exact hx hst
    refine ⟨fun hplain hfew => ?_, fun hplain hmany => ?_, fun hstack => ?_⟩
    · exact (if_neg hrun).trans ((if_neg (not_not.mpr hplain)).trans (if_neg (Nat.not_le.mpr hfew)))
    · exact (if_neg hrun).trans ((if_neg (not_not.mpr hplain)).trans (if_pos hmany))
    · exact (if_neg hrun).trans (if_pos hstack)
  case scrub =>
    intro s ch halive hch hon hst hpass hroom hdue t nxt
    have hrun : s.alive = true ∧ ch < 4 ∧ s.mem.enabled = true ∧ (s.chan ch).st = .run ∧ s.fld Reg.memScrub 5 0 ≠ 0 ∧ (s.chan ch).reads.length < 64 ∧
        (s.chan ch).scrubAt ≤ s.now := ⟨halive, hch, hon, hst, hpass, hroom, hdue⟩
    refine ⟨fun hmore => ?_, fun hend => ?_⟩
    · exact (if_pos hrun).trans (if_pos hmore)
    · exact (if_pos hrun).trans (if_neg (Nat.not_lt.mpr hend))

end Sys2Proof.Machine
end

section
/-! PROOFS. The island's own rows (R408 to R430, R513). -/

namespace Sys2Proof.Machine

/-! ### The boundary of a second -/

/-- With no parameters waiting a boundary takes none. -/
theorem MetS.takeParams_none {m : MetS} (h : m.params = []) : m.takeParams = m := by
  simp only [MetS.takeParams, h, List.getLast?_nil]

/-- One request's parameters take effect while the seal is open. -/
theorem MetS.takeParams_open {m : MetS} {x : Nat × Nat × List (Nat × Nat)} (h : m.params = [x]) (hseal : m.sealPin = false) :
    m.takeParams = ({ m with params := [] } : MetS).applyParams x := by
  simp only [MetS.takeParams, h, List.getLast?_singleton, hseal, Bool.false_eq_true, if_false, List.foldl_cons, List.foldl_nil]

/-- One request's parameters are dropped once the seal is closed. -/
theorem MetS.takeParams_sealed {m : MetS} {x : Nat × Nat × List (Nat × Nat)} (h : m.params = [x]) (hseal : m.sealPin = true) :
    m.takeParams = { m with params := [], rsp := (stNotAuthorized, 0x0B15), rspSeq := x.1, dropped := m.dropped + 1 } := by
  simp only [MetS.takeParams, h, List.getLast?_singleton, hseal, if_true, List.length_singleton]

/-- A boundary of a running island: a second is added, and the period closes when it is over or open parameters wait. -/
theorem exec_integrationBoundary {s : State} (xs : List (List (Int × Int))) (n : Nat) (hrun : s.met.run = true) :
    exec (.integrationBoundary xs n) s = .next { s with met := (((if s.met.perStart + s.met.par.perLen ≤ s.met.meter.mono + 1 ∨
      (!s.met.params.isEmpty && !s.met.sealPin) = true then (s.met.accumulate xs).closePeriod else s.met.accumulate xs).takeParams).stepCal
        n).snapshot } :=
  if_neg (by rw [hrun]; exact Bool.false_ne_true)

/-! ### Power fail and reset -/

/-- A running island writes its POWER_FAIL record and stands. -/
theorem MetS.stop_running {m : MetS} (h : m.run = true) :
    m.stop = { m.write 0x06 0 (m.meter.energyBytes ++ b8 m.meter.zoneSum) with run := false, saved := m.meter, cal := none, duty := none } :=
  if_neg (by rw [h]; exact Bool.false_ne_true)

/-- An island that stands stays as it is. -/
theorem MetS.stop_standing {m : MetS} (h : m.run = false) : m.stop = m :=
  if_pos (by rw [h]; rfl)

/-! ### Frames -/

/-- A row of a running island. -/
theorem not_met_stopped {s : State} (h : s.met.run = true) : ¬ (!s.met.run) = true := by simp [h]

/-- A row of an island that stands. -/
theorem met_stopped {s : State} (h : s.met.run = false) : (!s.met.run) = true := by simp [h]

/-- Nothing of 64 zones. -/
theorem map_range_zero (k : Nat) (f : Nat → Nat) (h : ∀ z, f z = 0) : (List.range k).map f = List.replicate k 0 := by
  rw [List.map_congr_left fun z _ => h z, List.map_const', List.length_range]

/-! ### The rows -/

/-- Settles O46: each row's course is read off its definition. -/
theorem islandRowsComplete : Obligations.IslandRowsComplete := by
  refine ⟨?boundary, ?boundaryOff, ?cal, ?calOff, ?checkpoint, ?checkpointOff, ?duty, ?dutyBad, ?label, ?labelNext, ?labelBad, ?logsel, ?logselBad,
    ?off, ?crystal, ?powerFail, ?reset, ?start, ?watchdog, ?startOff, ?sealing, ?request⟩
  case boundary =>
    intro s xs n hrun m
    rw [exec_integrationBoundary xs n hrun]
    refine ⟨fun hopen hnone => ?_, fun hdue hnone => ?_, fun x hone hseal => ?_, fun x hone hseal hopen => ?_⟩
    · have hstays : ¬ (s.met.perStart + s.met.par.perLen ≤ s.met.meter.mono + 1 ∨ (!s.met.params.isEmpty && !s.met.sealPin) = true) := by
        rw [hnone]
        rintro (hx | hx)
        · exact Nat.not_le.mpr hopen hx
        · exact Bool.false_ne_true hx
      have hm : m.params = [] := hnone
      rw [if_neg hstays, MetS.takeParams_none hm]
    · have hm : m.closePeriod.params = [] := m.closePeriod_params.trans hnone
      rw [if_pos (.inl hdue), MetS.takeParams_none hm]
    · have hearly : (!s.met.params.isEmpty && !s.met.sealPin) = true := by rw [hone, hseal]; rfl
      have hm : m.closePeriod.params = [x] := m.closePeriod_params.trans hone
      have hs : m.closePeriod.sealPin = false := m.closePeriod_sealPin.trans hseal
      rw [if_pos (.inr hearly), MetS.takeParams_open hm hs]
    · have hstays : ¬ (s.met.perStart + s.met.par.perLen ≤ s.met.meter.mono + 1 ∨ (!s.met.params.isEmpty && !s.met.sealPin) = true) := by
        rw [hseal, Bool.not_true, Bool.and_false]
        rintro (hx | hx)
        · exact Nat.not_le.mpr hopen hx
        · exact Bool.false_ne_true hx
      have hm : m.params = [x] := hone
      have hs : m.sealPin = true := hseal
      rw [if_neg hstays, MetS.takeParams_sealed hm hs]
  case boundaryOff => exact fun s xs n hoff => if_pos (met_stopped hoff)
  case cal =>
    intro s n ch hrun hnone hch hhere hbefore
    have hfind : (List.range 4).find? (fun k => s.met.meter.mono % s.met.par.calInt == k * s.met.par.calInt / 4) = some ch := by
      rw [List.find?_range_eq_some]
      refine ⟨beq_iff_eq.mpr hhere, List.mem_range.mpr hch, fun k hk => ?_⟩
      simpa using hbefore k hk
    simp only [exec, execSelfCalibrationStart, hnone, hfind, hrun, if_true]
  case calOff =>
    intro s n hoff
    simp only [exec, execSelfCalibrationStart]
    split
    · next ch hnone hfind =>
      rcases hoff with hstands | hbusy
      · exact if_neg (by rw [hstands]; exact Bool.false_ne_true)
      · rw [hnone] at hbusy
        exact absurd hbusy Bool.false_ne_true
    · rfl
  case checkpoint =>
    intro s hrun hdue
    exact if_pos (by rw [hrun, decide_eq_true hdue]; rfl)
  case checkpointOff =>
    intro s hoff
    refine if_neg ?_
    rw [Bool.and_eq_true]
    rintro ⟨hrun, hdue⟩
    rcases hoff with hstands | hearly
    · exact Bool.false_ne_true (hstands.symm.trans hrun)
    · exact Nat.not_le.mpr hearly (of_decide_eq_true hdue)
  case duty =>
    intro s d i hrun hnone
    refine ⟨fun hlit => ?_, fun hinert => ?_⟩
    · subst hlit
      refine (if_neg (not_met_stopped hrun)).trans ((if_neg Bool.false_ne_true).trans ?_)
      simp only [hnone, Bool.false_eq_true, if_false]
    · subst hinert
      refine (if_neg (not_met_stopped hrun)).trans ((if_neg Bool.false_ne_true).trans ?_)
      simp only [hnone, if_true, map_range_zero 64 (fun _ => 0) fun _ => rfl]
  case dutyBad => exact fun s d i hrun => (if_neg (not_met_stopped hrun)).trans (if_pos rfl)
  case label =>
    intro s t v hrun hnone
    refine (if_neg (not_met_stopped hrun)).trans ((if_neg Bool.false_ne_true).trans ?_)
    simp only [hnone]
  case labelNext =>
    intro s t v l hrun hlabel want
    refine ⟨fun hlo hhi => ?_, fun hfar => ?_⟩
    · have hnear : ¬ (want + 2 * unitsPerSec < t ∨ t + 2 * unitsPerSec < want) := by omega
      refine (if_neg (not_met_stopped hrun)).trans ((if_neg Bool.false_ne_true).trans ?_)
      simp only [hlabel]
      rw [if_neg hnear]
    · refine (if_neg (not_met_stopped hrun)).trans ((if_neg Bool.false_ne_true).trans ?_)
      simp only [hlabel]
      rw [if_pos (.inl hfar)]
      rfl
  case labelBad => exact fun s t v hrun => (if_neg (not_met_stopped hrun)).trans (if_pos rfl)
  case logsel => exact fun s q hrun => (if_neg (not_met_stopped hrun)).trans (if_neg Bool.false_ne_true)
  case logselBad => exact fun s q hrun => (if_neg (not_met_stopped hrun)).trans (if_pos rfl)
  case off =>
    intro s hoff
    have hstands := met_stopped hoff
    have hfault : (!s.met.run || s.met.clkFault) = true := by rw [hstands]; rfl
    exact ⟨fun d i c => if_pos hstands, fun t v c => if_pos hstands, fun q c => if_pos hstands, fun p c => if_pos hstands, if_pos hfault⟩
  case crystal =>
    intro s hrun hok
    exact if_neg (by rw [hrun, hok]; exact Bool.false_ne_true)
  case powerFail =>
    intro s mv
    refine ⟨?_, fun hlow hstands => ?_, fun hup => ?_⟩
    · intro hlow hrun r
      refine congrArg (fun x => Host.Outcome.next { s with met := x }) ((if_pos hlow).trans ?_)
      rw [MetS.stop_running (m := { s.met with vdd := mv }) hrun]
    · refine congrArg (fun x => Host.Outcome.next { s with met := x }) ((if_pos hlow).trans ?_)
      rw [MetS.stop_standing (m := { s.met with vdd := mv }) hstands]
    · exact congrArg (fun x => Host.Outcome.next { s with met := x }) (if_neg (Nat.not_lt.mpr hup))
  case reset =>
    intro s
    refine ⟨?_, fun hpower hstands => ?_, fun hno => if_pos (by rw [hno]; rfl)⟩
    · intro hpower hrun r
      refine (if_neg (by rw [hpower]; exact Bool.false_ne_true)).trans ?_
      rw [MetS.stop_running hrun]
    · refine (if_neg (by rw [hpower]; exact Bool.false_ne_true)).trans ?_
      rw [MetS.stop_standing hstands]
  case start =>
    intro s mv hstands ok
    have hmine : ¬ (s.met.run != false) = true := by rw [hstands]; exact Bool.false_ne_true
    refine ⟨fun hok => ?_, fun hno => ?_⟩
    · exact (if_neg hmine).trans (if_neg (show ¬ (!ok) = true by rw [hok]; exact Bool.false_ne_true))
    · exact (if_neg hmine).trans (if_pos (show (!ok) = true by rw [hno]; rfl))
  case watchdog =>
    intro s mv hrun ok hok
    have hmine : ¬ (s.met.run != true) = true := by rw [hrun]; exact Bool.false_ne_true
    exact (if_neg hmine).trans (if_neg (show ¬ (!ok) = true by rw [hok]; exact Bool.false_ne_true))
  case startOff =>
    intro s w mv hw
    subst hw
    exact if_pos (show (s.met.run != !s.met.run) = true by cases s.met.run <;> rfl)
  case sealing =>
    intro s low
    refine ⟨fun hrun hother => ?_, fun hsame => ?_⟩
    · have hchange : s.met.run = true ∧ low ≠ s.met.sealed := ⟨hrun, hother.symm⟩
      exact congrArg (fun x => Host.Outcome.next { s with met := x }) (if_pos hchange)
    · have hstays : ¬ (s.met.run = true ∧ low ≠ s.met.sealed) := by
        rintro ⟨hrun, hother⟩
        rcases hsame with hstands | heq
        · exact Bool.false_ne_true (hstands.symm.trans hrun)
        · exact hother heq.symm
      exact congrArg (fun x => Host.Outcome.next { s with met := x }) (if_neg hstays)
  case request =>
    intro s p hrun
    refine ⟨?_, (if_neg (not_met_stopped hrun)).trans (if_pos rfl)⟩
    refine (if_neg (not_met_stopped hrun)).trans ((if_neg Bool.false_ne_true).trans ?_)
    simp only [MetS.request]
    cases s.met.earlyCheck p with
    | some a => rfl
    | none =>
      dsimp only
      cases ({ s.met with reqSeq := u32 p 16 } : MetS).lateCheck p with
      | some a => rfl
      | none => rfl

end Sys2Proof.Machine
end

section
/-! PROOFS. The main side's end of the island's paths (R408, R415, R417, R428 to R435). -/

namespace Sys2Proof.Machine

/-! ### Periodic rows -/

/-- A periodic row whose time has come. -/
theorem mailboxRow {s : State} {p : Prop} [Decidable p] (hon : s.mailboxOn = true) (hdue : p) : ¬ (!(s.mailboxOn && decide p)) = true := by
  rw [hon, decide_eq_true hdue]
  exact Bool.false_ne_true

/-- A periodic row before its time. -/
theorem mailboxEarly {s : State} {a b : Nat} (hearly : b < a) : (!(s.mailboxOn && decide (a ≤ b))) = true := by
  rw [decide_eq_false (Nat.not_le.mpr hearly), Bool.and_false]
  rfl

/-! ### The island's answers -/

/-- A request that the island has not answered within its time, and that has one, times out (R433, R434). -/
theorem exec_metRequestTimeout {s : State} {r : Req} {a n : Nat} (halive : s.alive = true) (hsent : s.metm.sent = some (r, a, n))
    (hsame : n = s.met.answers) (hlate : a + rawMs 200 ≤ s.now) (hlimit : u8 r.payload 20 ≠ 3 ∨ s.met.run = false) :
    exec .metRequestTimeout s = .next (({ s with metm := { s.metm with sent := none } }).complete r stTimeout) := by
  have hbound : (u8 r.payload 20 == 3 && s.met.run) = false := by
    rcases hlimit with hkind | hstands
    · simp [hkind]
    · simp [hstands]
  have hrun : (s.alive && n == s.met.answers && decide (a + rawMs 200 ≤ s.now) && !(u8 r.payload 20 == 3 && s.met.run)) = true := by
    rw [halive, hsame, beq_self_eq_true s.met.answers, decide_eq_true hlate, hbound]
    rfl
  simp only [exec, execMetRequestTimeout, hsent, hrun, if_true]

/-! ### The rows -/

/-- Settles O47: each row's course is read off its definition. -/
theorem islandMailboxComplete : Obligations.IslandMailboxComplete := by
  refine ⟨?duty, ?dutyEarly, ?label, ?labelEarly, ?poll, ?pollEarly, ?read, ?logRead, ?sealed, ?answers, ?ident⟩
  case duty =>
    intro s hon hdue t go
    have hrun := mailboxRow (s := s) hon hdue
    refine ⟨fun hinert => ?_, fun hlive hdom => ?_⟩
    · have hdark : (t.pwr.inert || !t.domOn 72) = true := by rw [hinert]; rfl
      refine (if_neg hrun).trans ?_
      simp only [t] at hdark
      simp only [hdark, if_true, go, t]
    · have hlit : (t.pwr.inert || !t.domOn 72) = false := by rw [hlive, hdom]; rfl
      refine (if_neg hrun).trans ?_
      simp only [t] at hlit
      simp only [hlit, Bool.false_eq_true, if_false, go, t]
  case dutyEarly => exact fun s hearly => if_pos (mailboxEarly hearly)
  case label => exact fun s hon hdue => if_neg (mailboxRow hon hdue)
  case labelEarly => exact fun s hearly => if_pos (mailboxEarly hearly)
  case poll =>
    intro s hon hdue
    have hrun := mailboxRow (s := s) hon hdue
    refine ⟨fun hfirst => ?_, ?_, ?_⟩
    · simp only [exec, execMailboxPoll, if_neg hrun, hfirst]
    · intro p hpoll hpower hmoved t
      have hmove : (p.snapSeq != s.metWord 0) = true := bne_iff_ne.mpr hmoved
      simp only [exec, execMailboxPoll, if_neg hrun, hpoll, hpower, hmove, if_true, Bool.not_true, Bool.false_and, Bool.false_eq_true, if_false, t]
    · intro p hpoll hpower hsame htold hlate t
      have hstays : (p.snapSeq != s.metWord 0) = false := by rw [hsame]; exact bne_self_eq_false _
      simp only [exec, execMailboxPoll, if_neg hrun, hpoll, hpower, hstays, htold, decide_eq_true hlate, Bool.not_false, Bool.and_self,
        Bool.false_eq_true, if_false, if_true, Bool.or_true, t]
  case pollEarly => exact fun s hearly => if_pos (mailboxEarly hearly)
  case read =>
    intro s r h o n halign hin hlo hhi
    have h0 : ¬ (o % 4 ≠ 0 ∨ 0x2000 ≤ o) := by omega
    have h1 : ¬ (n < 1 ∨ 1023 < n) := by omega
    refine ⟨fun hpower hrun => ?_, fun hoff => ?_⟩
    · have hup : ¬ (!(s.met.power && s.met.run)) = true := by simp [hpower, hrun]
      exact (h.run ((if_neg h0).trans ((if_neg h1).trans (if_neg hup))) : execMetRead r s = _)
    · have hdown : (!(s.met.power && s.met.run)) = true := by simpa [Classical.or_iff_not_imp_left] using hoff
      exact (h.run ((if_neg h0).trans ((if_neg h1).trans (if_pos hdown))) : execMetRead r s = _)
  case logRead =>
    intro s r h hpower hrun f n head hlo hhi
    have h0 : ¬ (n < 1 ∨ 15 < n) := by omega
    have hup : ¬ (!(s.met.power && s.met.run)) = true := by simp [hpower, hrun]
    refine ⟨fun hold hnew => ?_, fun hout => ?_⟩
    · have hin : ¬ (f + 4095 < head ∨ head < f) := by omega
      exact (h.run ((if_neg h0).trans ((if_neg hup).trans (if_neg hin))) : execMetLogRead r s = _)
    · exact (h.run ((if_neg h0).trans ((if_neg hup).trans (if_pos hout))) : execMetLogRead r s = _)
  case sealed => exact fun s r h => ⟨h.does_metSealed_of_none, h.does_metSealed_of_isSome⟩
  case answers =>
    intro s r a n halive hsent
    refine ⟨fun hpower hnew => ?_, fun hsame => ?_, exec_metRequestTimeout halive hsent, fun hearly => ?_⟩
    · have hrun : (s.alive && s.met.power && n != s.met.answers) = true := by
        rw [halive, hpower, bne_iff_ne.mpr hnew]
        rfl
      simp only [exec, execMetSealedComplete, hsent, hrun, if_true]
    · have hrun : (s.alive && s.met.power && n != s.met.answers) = false := by simp [hsame]
      simp only [exec, execMetSealedComplete, hsent, hrun, Bool.false_eq_true, if_false]
    · have hrun : (s.alive && n == s.met.answers && decide (a + rawMs 200 ≤ s.now) && !(u8 r.payload 20 == 3 && s.met.run)) = false := by
        rw [decide_eq_false (Nat.not_le.mpr hearly), Bool.and_false, Bool.false_and]
      simp only [exec, execMetRequestTimeout, hsent, hrun, Bool.false_eq_true, if_false]
  case ident => exact fun s r h => (h.run rfl : execMetIdent r s = _)

end Sys2Proof.Machine
end

section
/-! PROOFS. Keys, credentials, attestation and the debug gate (R436 to R448). -/

namespace Sys2Proof.Machine

/-- Settles O48: each row's course is read off its definition. -/
theorem securityCommandsComplete : Obligations.SecurityCommandsComplete := by
  refine ⟨?attest, ?provision, ?provisionGroup, ?revoke, ?perm, ?session, ?debugOpen, ?gateComplete⟩
  case attest => exact fun s r h => (h.run rfl : execAttest r s = _)
  case provision =>
    intro s r slot h hslot hle
    subst hslot
    have h0 : ¬ 16 < u8 r.payload 0 := by omega
    have h1 : ¬ u8 r.payload 0 = 16 := by omega
    refine (h.run ((if_neg h0).trans ?_) : execCredProvision r s = _)
    simp only [if_neg h1] <;> rfl
  case provisionGroup =>
    intro s r h hslot
    have h0 : ¬ 16 < u8 r.payload 0 := by omega
    refine (h.run ((if_neg h0).trans ?_) : execCredProvision r s = _)
    simp only [hslot, if_true] <;> rfl
  case revoke =>
    intro s r slot h hslot hflash
    subst hslot
    have hgood : ¬ s.pwr.flashBad = true := ne_true_of_eq_false hflash
    refine ⟨fun hle hheld => ?_, fun hgroup hheld => ?_, fun hle hnone => ?_⟩
    · have h0 : ¬ 16 < u8 r.payload 0 := by omega
      have h1 : ¬ u8 r.payload 0 = 16 := by omega
      have h2 : ¬ (!s.provMap.testBit (u8 r.payload 0)) = true := by simp [hheld]
      refine (h.run ((if_neg h0).trans ((if_neg h2).trans ((if_neg hgood).trans ?_))) : execCredRevoke r s = _)
      simp only [if_neg h1]
    · have h0 : ¬ 16 < u8 r.payload 0 := by omega
      have h2 : ¬ (!s.provMap.testBit (u8 r.payload 0)) = true := by simp [hgroup, hheld]
      refine (h.run ((if_neg h0).trans ((if_neg h2).trans ((if_neg hgood).trans ?_))) : execCredRevoke r s = _)
      simp only [hgroup, if_true]
    · have h2 : (!s.provMap.testBit (u8 r.payload 0)) = true := by rw [hnone]; rfl
      exact (h.run ((if_neg (Nat.not_lt.mpr hle)).trans (if_pos h2)) : execCredRevoke r s = _)
  case perm =>
    intro s r slot h hslot hle
    subst hslot
    have h0 : ¬ 14 < u8 r.payload 0 := Nat.not_lt.mpr hle
    refine ⟨fun hheld hgood => ?_, fun hheld hbad => ?_, fun hnone => ?_⟩
    · have h1 : ¬ (Map.find s.ks.creds (u8 r.payload 0)).isNone = true := fun hx =>
        Option.isSome_iff_ne_none.mp hheld (Option.isNone_iff_eq_none.mp hx)
      exact (h.run ((if_neg h0).trans ((if_neg h1).trans (if_neg (ne_true_of_eq_false hgood)))) : execCredPerm r s = _)
    · have h1 : ¬ (Map.find s.ks.creds (u8 r.payload 0)).isNone = true := fun hx =>
        Option.isSome_iff_ne_none.mp hheld (Option.isNone_iff_eq_none.mp hx)
      exact (h.run ((if_neg h0).trans ((if_neg h1).trans (if_pos hbad))) : execCredPerm r s = _)
    · have h1 : (Map.find s.ks.creds (u8 r.payload 0)).isNone = true := by rw [hnone]; rfl
      exact (h.run ((if_neg h0).trans (if_pos h1)) : execCredPerm r s = _)
  case session =>
    intro s r h id hle
    refine ⟨fun hnew => ?_, fun hsame => ?_⟩
    · exact (h.run ((if_neg (Nat.not_lt.mpr hle)).trans (if_neg hnew)) : execSessionKey r s = _)
    · exact (h.run ((if_neg (Nat.not_lt.mpr hle)).trans (if_pos hsame)) : execSessionKey r s = _)
  case debugOpen =>
    intro s r h
    refine ⟨fun hidle => ?_, fun hbusy => (h.run (if_pos hbusy) : execDebugOpen r s = _)⟩
    exact (h.run (if_neg (by rw [State.takeReq_sec, hidle]; exact Bool.false_ne_true)) : execDebugOpen r s = _)
  case gateComplete =>
    intro s r open_ halive hcore hgate t t'
    have hrun : ¬ (!s.alive || s.coreFaulted 0) = true := by
      rw [halive, hcore]
      exact Bool.false_ne_true
    simp only [exec, execDebugGateComplete, hgate]
    refine (if_neg hrun).trans ?_
    cases open_ <;> rfl

end Sys2Proof.Machine
end

section
/-! PROOFS. Image updates (R449 to R462, R482). -/

namespace Sys2Proof.Machine

/-! ### Slots -/

/-- A slot made INVALID is INVALID. -/
theorem State.imgSlot_dropSlot_same (s : State) (k : Nat) : ((s.dropSlot k).imgSlot k).mark = 0 := by
  by_cases hk : k = 2
  · subst hk
    rfl
  · by_cases hlt : k < s.flash.slots.length
    · simp [State.dropSlot, State.setImgSlot, State.imgSlot, hk, List.getD_eq_getElem?_getD, hlt]
    · simp [State.dropSlot, State.setImgSlot, State.imgSlot, hk, List.getD_eq_getElem?_getD, hlt]

/-- Making a slot INVALID leaves the others. -/
theorem State.imgSlot_dropSlot_other (s : State) {j k : Nat} (h : j ≠ k) : (s.dropSlot k).imgSlot j = s.imgSlot j := by
  by_cases hk : k = 2
  · subst hk
    simp [State.dropSlot, State.setImgSlot, State.imgSlot, h]
  · simp [State.dropSlot, State.setImgSlot, State.imgSlot, hk, List.getD_eq_getElem?_getD, Ne.symm h]

/-- Making a slot INVALID closes no update. -/
theorem State.dropSlot_upd (s : State) (k : Nat) : (s.dropSlot k).sec.upd = s.sec.upd := by
  by_cases hk : k = 2 <;> simp [State.dropSlot, State.setImgSlot, hk]

/-- A step of IMG_ABORT: a VERIFIED slot becomes INVALID. -/
def State.dropIfVerified (s : State) (k : Nat) : State := if (s.imgSlot k).mark = 2 then s.dropSlot k else s

/-- IMG_ABORT looks at the three slots in turn. -/
theorem State.dropVerified_eq (s : State) : s.dropVerified = ((s.dropIfVerified 0).dropIfVerified 1).dropIfVerified 2 := rfl

theorem State.dropIfVerified_upd (s : State) (k : Nat) : (s.dropIfVerified k).sec.upd = s.sec.upd := by
  unfold State.dropIfVerified
  split
  · exact s.dropSlot_upd k
  · rfl

theorem State.dropIfVerified_other (s : State) {j k : Nat} (h : j ≠ k) : (s.dropIfVerified k).imgSlot j = s.imgSlot j := by
  unfold State.dropIfVerified
  split
  · exact s.imgSlot_dropSlot_other h
  · rfl

theorem State.dropIfVerified_kept {s : State} {k : Nat} (h : (s.imgSlot k).mark ≠ 2) : s.dropIfVerified k = s := if_neg h

theorem State.dropIfVerified_mark (s : State) (k : Nat) : ((s.dropIfVerified k).imgSlot k).mark = if (s.imgSlot k).mark = 2 then 0 else (s.imgSlot k).mark := by
  unfold State.dropIfVerified
  split
  · exact s.imgSlot_dropSlot_same k
  · rfl

/-- A slot after the VERIFIED ones were dropped: INVALID where it was VERIFIED, else as it was. -/
theorem State.dropVerified_slot (s : State) {k : Nat} (hk : k < 3) :
    (s.dropVerified.imgSlot k).mark = (if (s.imgSlot k).mark = 2 then 0 else (s.imgSlot k).mark) ∧
    ((s.imgSlot k).mark ≠ 2 → s.dropVerified.imgSlot k = s.imgSlot k) := by
  have hturn : ∃ t : State, t.imgSlot k = s.imgSlot k ∧ s.dropVerified.imgSlot k = (t.dropIfVerified k).imgSlot k := by
    rw [State.dropVerified_eq]
    obtain rfl | rfl | rfl : k = 0 ∨ k = 1 ∨ k = 2 := by omega
    · exact ⟨s, rfl, by rw [State.dropIfVerified_other _ (by decide), State.dropIfVerified_other _ (by decide)]⟩
    · exact ⟨s.dropIfVerified 0, State.dropIfVerified_other _ (by decide), State.dropIfVerified_other _ (by decide)⟩
    · exact ⟨(s.dropIfVerified 0).dropIfVerified 1,
        (State.dropIfVerified_other _ (by decide)).trans (State.dropIfVerified_other _ (by decide)), rfl⟩
  obtain ⟨t, hsame, hdropped⟩ := hturn
  rw [hdropped, ← hsame]
  exact ⟨t.dropIfVerified_mark k, fun h => by rw [State.dropIfVerified_kept h]⟩

theorem State.dropVerified_upd (s : State) : s.dropVerified.sec.upd = s.sec.upd := by
  rw [State.dropVerified_eq, State.dropIfVerified_upd, State.dropIfVerified_upd, State.dropIfVerified_upd]

/-- After an open update is closed none is open. -/
theorem State.closeUpdate_upd (s : State) : s.closeUpdate.sec.upd = none := by
  unfold State.closeUpdate
  cases h : s.sec.upd with
  | none => exact h
  | some u => exact State.dropSlot_upd _ _

/-- Closing an update leaves its slot INVALID (R461). -/
theorem State.closeUpdate_slot {s : State} {u : ImgUpdate} (h : s.sec.upd = some u) : (s.closeUpdate.imgSlot u.slot).mark = 0 := by
  simp only [State.closeUpdate, h]
  exact State.imgSlot_dropSlot_same _ _

/-- Closing an update leaves the other slots. -/
theorem State.closeUpdate_other {s : State} {k : Nat} (h : ∀ u, s.sec.upd = some u → u.slot ≠ k) : s.closeUpdate.imgSlot k = s.imgSlot k := by
  unfold State.closeUpdate
  cases hu : s.sec.upd with
  | none => rfl
  | some u => exact State.imgSlot_dropSlot_other _ (h u hu).symm

/-! ### The rows -/

/-- Settles O49: each row's course is read off its definition. -/
theorem updateCommandsComplete : Obligations.UpdateCommandsComplete := by
  refine ⟨?begin, ?erased, ?block, ?blockWaits, ?verify, ?verified, ?activate, ?activateLoad, ?instant, ?abort, ?confirm, ?confirmOutside, ?status⟩
  case begin =>
    intro s r k h hk size hlo hhi htrial hrunning hpend hupd
    have hkk : (s.takeReq 0x0D00 r).beginSlot (u8 r.payload 0) = some k := hk
    have h0 : ¬ (size < 4097 ∨ 8388608 < size) := by omega
    have h1 : ¬ s.sec.trial = true := ne_true_of_eq_false htrial
    have h2 : ¬ s.flash.pend.isSome = true := by simp [hpend]
    have h3 : ¬ s.sec.upd.isSome = true := by simp [hupd]
    refine ⟨fun hslot hgood => ?_, fun hload => ?_, fun hslot hbad => ?_⟩
    · have h4 : ¬ (s.pwr.flashBad = true ∧ k ≠ 2) := by simp [hgood]
      refine (h.run ?_ : execImgBegin r s = _)
      simp only [hkk]
      refine (if_neg h0).trans ((if_neg h1).trans ((if_neg hrunning).trans ((if_neg h2).trans ((if_neg h3).trans ((if_neg h4).trans ?_)))))
      rw [if_neg (show ¬ k = 2 by omega)]
    · subst hload
      have h4 : ¬ (s.pwr.flashBad = true ∧ 2 ≠ 2) := by simp
      refine (h.run ?_ : execImgBegin r s = _)
      simp only [hkk]
      exact (if_neg h0).trans ((if_neg h1).trans ((if_neg hrunning).trans ((if_neg h2).trans ((if_neg h3).trans (if_neg h4)))))
    · have h4 : s.pwr.flashBad = true ∧ k ≠ 2 := ⟨hbad, by omega⟩
      refine (h.run ?_ : execImgBegin r s = _)
      simp only [hkk]
      exact (if_neg h0).trans ((if_neg h1).trans ((if_neg hrunning).trans ((if_neg h2).trans ((if_neg h3).trans (if_pos h4)))))
  case erased =>
    intro s k halive hcore herasing
    have hrun : ¬ (!s.alive || s.coreFaulted 0) = true := by
      rw [halive, hcore]
      exact Bool.false_ne_true
    refine ⟨?_, ?_⟩
    · simp only [exec, execSlotEraseComplete, herasing]
      exact if_neg hrun
    · simp only [exec, execSlotEraseComplete, herasing]
      exact if_neg hrun
  case block =>
    intro s r u h hupd hidle hgood o d n x same halign hin hend
    have hwaits : ¬ (s.sec.upd.any fun u => s.flash.erasing == some u.slot) = true := by
      rw [hupd]
      simpa using hidle
    have h0 : ¬ (o % 64 ≠ 0 ∨ u.size < o + n) := by omega
    have h1 : ¬ (n % 64 ≠ 0 ∧ o + n ≠ u.size) := by omega
    have h3 : ¬ (s.pwr.flashBad = true ∧ u.slot ≠ 2) := by simp [hgood]
    have hdiffers : ((List.range n).any fun i => u.units.contains ((o + i) / 64) && Map.at x.img 0xFF (o + i) != d.getD i 0) = true ↔ ¬ same := by
      simp only [List.any_eq_true, List.mem_range, Bool.and_eq_true, bne_iff_ne, same, not_forall, exists_prop, ne_eq]
    have hrow : ∀ g, _ → exec (.imgBlock r) s = _ := fun g hg => (if_neg hwaits).trans (h.run (g := g) hg)
    refine ⟨fun hsame => hrow _ ?_, fun hother => hrow _ ?_⟩
    · simp only [State.takeReq_sec, hupd]
      exact (if_neg h0).trans ((if_neg h1).trans ((if_neg (hdiffers.not.mpr (not_not.mpr hsame))).trans (if_neg h3)))
    · simp only [State.takeReq_sec, hupd]
      exact (if_neg h0).trans ((if_neg h1).trans (if_pos (hdiffers.mpr hother)))
  case blockWaits =>
    intro s r u hupd herasing
    exact if_pos (by rw [hupd]; simpa using herasing)
  case verify =>
    intro s r u h hupd hidle hfull
    have h0 : ¬ u.verify.isSome = true := by simp [hidle]
    refine (h.run ?_ : execImgVerify r s = _)
    simp only [State.takeReq_sec, hupd]
    exact (if_neg h0).trans (if_neg (Nat.not_lt.mpr hfull))
  case verified =>
    intro s r u halive hcore hupd hverify x
    have hrun : (s.alive && !s.coreFaulted 0) = true := by rw [halive, hcore]; rfl
    refine ⟨?_, rfl, fun why => rfl⟩
    simp only [exec, execImgVerifyComplete, hupd, hverify, hrun, if_true, x]
  case activate =>
    intro s r k h htrials hpend hflash hload hfind n go
    have h1 : ¬ 7 < u8 r.payload 1 := Nat.not_lt.mpr htrials
    have h3 : ¬ s.flash.pend.isSome = true := by simp [hpend]
    have h4 : ¬ (s.pcieBoot && s.inRecovery) = true := ne_true_of_eq_false hload
    have h7 : ¬ s.pwr.flashBad = true := ne_true_of_eq_false hflash
    have hslot : [0, 1].find? (fun k => ((s.takeReq 0x0D03 r).imgSlot k).mark == 2) = some k := hfind
    refine ⟨fun hmode => ?_, fun t hmode hrun htime hvalid hlater => ?_⟩
    · have h0 : ¬ 1 < u8 r.payload 0 := by omega
      have hnow : ∀ p : Prop, ¬ (u8 r.payload 0 = 1 ∧ p) := fun p hx => by omega
      refine (h.run ((if_neg h0).trans ((if_neg h1).trans ((if_neg (hnow _)).trans ((if_neg h3).trans ((if_neg h4).trans ?_))))) :
        execImgActivate r s = _)
      simp only [hslot]
      refine (if_neg (hnow _)).trans ((if_neg (hnow _)).trans ((if_neg h7).trans ?_))
      simp only [hmode, Nat.zero_ne_one, if_false, go, n]
    · have h0 : ¬ 1 < u8 r.payload 0 := by omega
      have h2 : ¬ (u8 r.payload 0 = 1 ∧ s.inRecovery = true) := by simp [hrun]
      have h5 : ¬ (u8 r.payload 0 = 1 ∧ (some t).isNone = true) := by simp
      have h6 : ¬ (u8 r.payload 0 = 1 ∧ ((!s.actDom.valid) = true ∨ (((some t).getD 0 : Nat) : Int) < s.derivedNow + 1000 * rawMs 1000)) := by
        rw [hvalid]
        rintro ⟨-, hx | hx⟩
        · exact Bool.false_ne_true hx
        · exact not_lt.mpr hlater hx
      refine (h.run ((if_neg h0).trans ((if_neg h1).trans ((if_neg h2).trans ((if_neg h3).trans ((if_neg h4).trans ?_))))) :
        execImgActivate r s = _)
      simp only [hslot, htime]
      refine (if_neg h5).trans ((if_neg h6).trans ((if_neg h7).trans ?_))
      simp only [hmode, if_true, go, n]
  case activateLoad =>
    intro s r h hmode htrials hpend hload hmark
    have h0 : ¬ 1 < u8 r.payload 0 := by omega
    have h1 : ¬ 7 < u8 r.payload 1 := Nat.not_lt.mpr htrials
    have h2 : ¬ (u8 r.payload 0 = 1 ∧ s.inRecovery = true) := by omega
    have h3 : ¬ s.flash.pend.isSome = true := by simp [hpend]
    exact (h.run ((if_neg h0).trans ((if_neg h1).trans ((if_neg h2).trans ((if_neg h3).trans ((if_pos hload).trans (if_pos hmark)))))) :
      execImgActivate r s = _)
  case instant =>
    intro s t halive hpend
    have hup : ¬ (!s.alive) = true := by simp [halive]
    refine ⟨fun hvalid hreached => ?_, fun hvalid hahead => ?_, fun hinvalid => ?_⟩
    · simp only [exec, execActivationInstant, hpend, if_neg hup, hvalid, Bool.not_true, Bool.false_eq_true, if_false, if_pos hreached]
    · simp only [exec, execActivationInstant, hpend, if_neg hup, hvalid, Bool.not_true, Bool.false_eq_true, if_false, if_neg (not_le.mpr hahead)]
    · simp only [exec, execActivationInstant, hpend, if_neg hup, hinvalid, Bool.not_false, if_true]
  case abort =>
    intro s r h
    refine ⟨fun hpend hgood => ?_, fun hpend hbad => ?_, fun hnone => ?_⟩
    · have h0 : ¬ s.flash.pend.isNone = true := fun hx => Option.isSome_iff_ne_none.mp hpend (Option.isNone_iff_eq_none.mp hx)
      exact (h.run ((if_neg h0).trans (if_neg (ne_true_of_eq_false hgood))) : execImgAbort r s = _)
    · have h0 : ¬ s.flash.pend.isNone = true := fun hx => Option.isSome_iff_ne_none.mp hpend (Option.isNone_iff_eq_none.mp hx)
      exact (h.run ((if_neg h0).trans (if_pos hbad)) : execImgAbort r s = _)
    · have h0 : s.flash.pend.isNone = true := by rw [hnone]; rfl
      refine ⟨(h.run (if_pos h0) : execImgAbort r s = _), ?_⟩
      intro t
      refine ⟨(State.dropVerified_upd _).trans s.closeUpdate_upd, fun k hk hx => ?_, fun x hx hslot => ?_, fun k hk hmark hother => ?_⟩
      · obtain ⟨hm, -⟩ := s.closeUpdate.dropVerified_slot hk
        rw [hm] at hx
        split at hx <;> omega
      · obtain ⟨hm, -⟩ := s.closeUpdate.dropVerified_slot hslot
        rw [hm, State.closeUpdate_slot hx]
        rfl
      · obtain ⟨-, hkept⟩ := s.closeUpdate.dropVerified_slot hk
        rw [State.closeUpdate_other hother] at hkept
        exact hkept hmark
  case confirm =>
    intro s r k h htrial hrunning hgood hd arb rev
    refine (h.run ?_ : execImgConfirm r s = _)
    simp only [State.takeReq_sec, htrial, hrunning]
    exact if_neg (ne_true_of_eq_false hgood)
  case confirmOutside =>
    intro s r h htrial
    refine (h.run ?_ : execImgConfirm r s = _)
    simp only [State.takeReq_sec, htrial]
  case status => exact fun s r h => (h.run rfl : execImgStatus r s = _)

end Sys2Proof.Machine
end

section
/-! PROOFS. The tolerance of an output code (R228, log entry 5). -/

namespace Sys2Proof.Machine

/-- A code off by at most a tolerance is within it of the code, and is a code. -/
theorem withinCode_near {tol n code : Nat} (free : Nat) (h : tol ≤ n) (hcode : code ≤ 4095) :
    code ≤ withinCode tol free code + n ∧ withinCode tol free code ≤ code + n ∧ withinCode tol free code ≤ 4095 := by
  have hoff : free % (2 * tol + 1) < 2 * tol + 1 := Nat.mod_lt _ (Nat.succ_pos _)
  simp only [withinCode]
  omega

/-- A light's code is a 12-bit code. -/
theorem pqEncode_le (y : Nat) : pqEncode y ≤ 4095 := Nat.min_le_left _ _

/-- A mapped list's entries keep a bound of the function. -/
theorem getD_map_le {f : Nat → Nat} {n : Nat} (h : ∀ y, f y ≤ n) (l : List Nat) (c : Nat) : (l.map f).getD c 0 ≤ n := by
  rw [List.getD_eq_getElem?_getD, List.getElem?_map]
  cases l[c]? with
  | none => exact Nat.zero_le _
  | some y => exact h y

/-- Every code of exact arithmetic is a 12-bit code. -/
theorem exactCodes_le (base : Nat × Nat × Nat) (ls : List Config.LayerIn) (c : Nat) : (exactCodes base ls).getD c 0 ≤ 4095 :=
  getD_map_le pqEncode_le _ c

/-- The tolerance is at most 2. -/
theorem codeTolerance_le (ls : List Config.LayerIn) : codeTolerance ls ≤ 2 := by
  unfold codeTolerance
  split
  · decide
  · split <;> decide
  · decide

/-- The tolerance of a single opaque layer with GAIN 1.0, unscaled and without a mesh, is 1. -/
theorem codeTolerance_opaque {l : Config.LayerIn} (hplain : l.plain = true) (hfmt : l.fmt ≠ 6) (hgain : l.gain = 0x1000) (halpha : l.alpha = 0xFFF) :
    codeTolerance [l] = 1 := by
  simp [codeTolerance, hplain, hfmt, hgain, halpha]

/-- With layers over the base every component is a code within the tolerance of that of exact arithmetic. -/
theorem composePixel_near {base : Nat × Nat × Nat} {ls : List Config.LayerIn} {n : Nat} (hsome : ls ≠ []) (htol : codeTolerance ls ≤ n) :
    ∀ c < 3, (exactCodes base ls).getD c 0 ≤ [(composePixel base ls).1, (composePixel base ls).2.1, (composePixel base ls).2.2].getD c 0 + n ∧
      [(composePixel base ls).1, (composePixel base ls).2.1, (composePixel base ls).2.2].getD c 0 ≤ (exactCodes base ls).getD c 0 + n ∧
      [(composePixel base ls).1, (composePixel base ls).2.1, (composePixel base ls).2.2].getD c 0 ≤ 4095 := by
  have hpixel : composePixel base ls = (withinCode (codeTolerance ls) (Config.codeError base ls 0) ((exactCodes base ls).getD 0 0),
      withinCode (codeTolerance ls) (Config.codeError base ls 1) ((exactCodes base ls).getD 1 0),
      withinCode (codeTolerance ls) (Config.codeError base ls 2) ((exactCodes base ls).getD 2 0)) := by
    simp only [composePixel, List.isEmpty_iff, if_neg hsome]
  intro c hc
  rw [hpixel]
  obtain rfl | rfl | rfl : c = 0 ∨ c = 1 ∨ c = 2 := by omega
  all_goals exact withinCode_near _ htol (exactCodes_le base ls _)

/-- Settles O52: each component is the code of exact arithmetic but for the tolerance of its layers. -/
theorem outputCodesAreNearExact : Obligations.OutputCodesAreNearExact := by
  intro base ls
  refine ⟨fun hnone => ?_, fun hsome => composePixel_near hsome (codeTolerance_le ls), ?_⟩
  · subst hnone
    rfl
  · rintro l rfl hplain hfmt hgain halpha
    exact composePixel_near (List.cons_ne_nil l []) (codeTolerance_opaque hplain hfmt hgain halpha).le

end Sys2Proof.Machine
end

section
/-! PROOFS. The block coder's bound (R243, R246 to R251): what the decoder reads back of a coded block, and how far it lies from the source. -/

namespace Sys2Proof.Machine

/-! ### Fields of a packed bit string -/

/-- A field of width `w` and value `v` stands at bit offset `o` of the fields. -/
def HasField (fs : List (Nat × Nat)) (o w v : Nat) : Prop := ∃ pre post, fs = pre ++ (w, v) :: post ∧ packWidth pre = o

theorem packWidth_append (a b : List (Nat × Nat)) : packWidth (a ++ b) = packWidth a + packWidth b := by
  simp only [packWidth, List.map_append, List.sum_append]

theorem packWidth_flatMap {α : Type} {l : List α} {g : α → List (Nat × Nat)} {W : Nat} (h : ∀ x ∈ l, packWidth (g x) = W) :
    packWidth (l.flatMap g) = W * l.length := by
  induction l with
  | nil => rfl
  | cons x l ih =>
    rw [List.flatMap_cons, packWidth_append, h x List.mem_cons_self, ih fun y hy => h y (List.mem_cons_of_mem x hy), List.length_cons,
      Nat.mul_succ, Nat.add_comm]

theorem hasField_head (w v : Nat) (fs : List (Nat × Nat)) : HasField ((w, v) :: fs) 0 w v := ⟨[], fs, rfl, rfl⟩

theorem HasField.append_left {a : List (Nat × Nat)} {o w v : Nat} (h : HasField a o w v) (b : List (Nat × Nat)) : HasField (a ++ b) o w v := by
  obtain ⟨pre, post, rfl, hw⟩ := h
  exact ⟨pre, post ++ b, by rw [List.append_assoc, List.cons_append], hw⟩

theorem HasField.append_right {b : List (Nat × Nat)} {o w v : Nat} (h : HasField b o w v) (a : List (Nat × Nat)) :
    HasField (a ++ b) (packWidth a + o) w v := by
  obtain ⟨pre, post, rfl, hw⟩ := h
  exact ⟨a ++ pre, post, by rw [List.append_assoc], by rw [packWidth_append, hw]⟩

theorem HasField.cons {fs : List (Nat × Nat)} {o w v : Nat} (h : HasField fs o w v) (x y : Nat) : HasField ((x, y) :: fs) (x + o) w v :=
  h.append_right [(x, y)]

/-- A field of the `i`-th of groups of one width. -/
theorem HasField.flatMap {α : Type} {l : List α} {g : α → List (Nat × Nat)} {W i o w v : Nat} {x : α} (hx : l[i]? = some x)
    (hW : ∀ y ∈ l, packWidth (g y) = W) (h : HasField (g x) o w v) : HasField (l.flatMap g) (W * i + o) w v := by
  induction l generalizing i with
  | nil => simp at hx
  | cons y l ih =>
    rw [List.flatMap_cons]
    cases i with
    | zero =>
      obtain rfl : y = x := by simpa using hx
      rw [Nat.mul_zero, Nat.zero_add]
      exact h.append_left _
    | succ i =>
      have hrest := ih (i := i) (by simpa using hx) fun z hz => hW z (List.mem_cons_of_mem y hz)
      have hoff : W * (i + 1) + o = packWidth (g y) + (W * i + o) := by rw [hW y List.mem_cons_self]; ring
      rw [hoff]
      exact hrest.append_right _

theorem packBytes_length (n : Nat) (fs : List (Nat × Nat)) : (packBytes n fs).length = n := beBytes_length n _

/-- A field is read back at its offset. -/
theorem HasField.bitsAt {fs : List (Nat × Nat)} {o w v n : Nat} (h : HasField fs o w v) (hv : v < 2 ^ w) (hn : packWidth fs ≤ 8 * n) :
    bitsAt (fun j => (packBytes n fs).getD j 0) o w = v := by
  obtain ⟨pre, post, rfl, rfl⟩ := h
  refine bitsAt_packBytes n pre post w v hv ?_
  rw [packWidth_append] at hn
  simp only [packWidth, List.map_cons, List.sum_cons] at hn ⊢
  omega

/-! ### A block's components -/

/-- The values of a component of a block. -/
def blkComp (px : List Rgb) (c : Nat) : List Nat := px.map (fun p => Rgb.comp p c)

theorem blkComps_eq (px : List Rgb) : blkComps px = [blkComp px 0, blkComp px 1, blkComp px 2] := rfl

theorem getD_blkComp (px : List Rgb) (c i : Nat) : (blkComp px c).getD i 0 = Rgb.comp (px.getD i (0, 0, 0)) c := by
  have hzero : Rgb.comp (0, 0, 0) c = 0 := by simp [Rgb.comp]
  rw [blkComp, List.getD_eq_getElem?_getD, List.getD_eq_getElem?_getD, List.getElem?_map]
  cases px[i]? with
  | none => exact hzero.symm
  | some p => rfl

/-- The range of a component. -/
def blkRange (px : List Rgb) (c : Nat) : Nat := maxOf (blkComp px c) - minOf (blkComp px c)

/-- The width of a component's residuals at shift `k` (R249). -/
def blkWid (k : Nat) (px : List Rgb) (c : Nat) : Nat := bitLen (blkRange px c / 2 ^ k)

/-- The residual of a component of a pixel at shift `k` (R247). -/
def blkRes (k : Nat) (px : List Rgb) (i c : Nat) : Nat := ((blkComp px c).getD i 0 - minOf (blkComp px c)) / 2 ^ k

/-- The widths' sum at a shift. -/
def blkSum (k : Nat) (px : List Rgb) : Nat := blkWid k px 0 + blkWid k px 1 + blkWid k px 2

/-- What the bound assumes of a block: 32 pixels of 12-bit components. -/
def IsBlk (px : List Rgb) : Prop := px.length = 32 ∧ ∀ p ∈ px, ∀ c < 3, Rgb.comp p c < 4096

theorem IsBlk.mem_lt {px : List Rgb} (h : IsBlk px) {c x : Nat} (hc : c < 3) (hx : x ∈ blkComp px c) : x < 4096 := by
  obtain ⟨p, hp, rfl⟩ := List.mem_map.mp hx
  exact h.2 p hp c hc

theorem IsBlk.comp_mem {px : List Rgb} (h : IsBlk px) {c i : Nat} (hi : i < 32) : (blkComp px c).getD i 0 ∈ blkComp px c := by
  have hlt : i < (blkComp px c).length := by rw [blkComp, List.length_map, h.1]; exact hi
  rw [List.getD_eq_getElem _ _ hlt]
  exact List.getElem_mem hlt

theorem IsBlk.range_lt {px : List Rgb} (h : IsBlk px) {c : Nat} (hc : c < 3) : blkRange px c < 4096 :=
  lt_of_le_of_lt (Nat.sub_le _ _) (maxOf_lt (by decide) fun _ hx => h.mem_lt hc hx)

/-- A component's least value is one of its values' bounds, so a 12-bit number. -/
theorem IsBlk.min_lt {px : List Rgb} (h : IsBlk px) {c : Nat} (hc : c < 3) : minOf (blkComp px c) < 4096 :=
  lt_of_le_of_lt (minOf_le (h.comp_mem (i := 0) (by decide))) (h.mem_lt hc (h.comp_mem (by decide)))

/-- A residual fits its component's width. -/
theorem IsBlk.res_lt {px : List Rgb} (h : IsBlk px) (k : Nat) {i : Nat} (c : Nat) (hi : i < 32) : blkRes k px i c < 2 ^ blkWid k px c := by
  refine lt_of_le_of_lt (Nat.div_le_div_right (Nat.sub_le_sub_right (le_maxOf (h.comp_mem hi)) _)) ?_
  exact lt_two_pow_bitLen (blkRange px c / 2 ^ k)

theorem IsBlk.wid_le {px : List Rgb} (h : IsBlk px) (k : Nat) {c : Nat} (hc : c < 3) : blkWid k px c ≤ 12 :=
  bitLen_le (lt_of_le_of_lt (Nat.div_le_self _ _) (h.range_lt hc))

/-! ### The shift (R249) -/

/-- At s_max every block fits. -/
theorem IsBlk.sum_sMax {px : List Rgb} (h : IsBlk px) {ratio : Nat} (h0 : ratio ≠ 0) (h3 : ratio ≤ 3) : blkSum (sMax ratio) px ≤ wMax ratio := by
  have hwid : ∀ k n, 12 ≤ k + n → ∀ c < 3, blkWid k px c ≤ n := by
    intro k n hkn c hc
    refine bitLen_le ((Nat.div_lt_iff_lt_mul (Nat.two_pow_pos k)).mpr ?_)
    calc blkRange px c < 2 ^ 12 := h.range_lt hc
      _ ≤ 2 ^ (n + k) := Nat.pow_le_pow_right (by decide) (by omega)
      _ = 2 ^ n * 2 ^ k := Nat.pow_add 2 n k
  have hall : ∀ n, 12 ≤ sMax ratio + n → blkSum (sMax ratio) px ≤ 3 * n := by
    intro n hn
    have w0 := hwid _ n hn 0 (by decide)
    have w1 := hwid _ n hn 1 (by decide)
    have w2 := hwid _ n hn 2 (by decide)
    simp only [blkSum]
    omega
  obtain rfl | rfl | rfl : ratio = 1 ∨ ratio = 2 ∨ ratio = 3 := by omega
  · exact (hall 5 (by decide)).trans (by decide)
  · exact (hall 3 (by decide)).trans (by decide)
  · exact (hall 2 (by decide)).trans (by decide)

/-- The residual widths that the shift is chosen by are those of the block. -/
theorem sum_widths (px : List Rgb) (k : Nat) :
    (((blkComps px).map (fun l => maxOf l - minOf l)).map (fun r => bitLen (r / 2 ^ k))).sum = blkSum k px := by
  simp only [blkComps_eq, List.map_cons, List.map_nil, List.sum_cons, List.sum_nil, blkSum, blkWid, blkRange]
  ring

theorem blkSum_anti (px : List Rgb) {j k : Nat} (h : j ≤ k) : blkSum k px ≤ blkSum j px := by
  have hwid : ∀ c, blkWid k px c ≤ blkWid j px c := fun c =>
    bitLen_mono (Nat.div_le_div_left (Nat.pow_le_pow_right (by decide) h) (Nat.two_pow_pos j))
  exact Nat.add_le_add (Nat.add_le_add (hwid 0) (hwid 1)) (hwid 2)

theorem sMax_le (ratio : Nat) (h3 : ratio ≤ 3) : sMax ratio ≤ 10 := by
  obtain rfl | rfl | rfl | rfl : ratio = 0 ∨ ratio = 1 ∨ ratio = 2 ∨ ratio = 3 := by omega
  all_goals decide

/-- The smallest shift that fits (R249). -/
def needed (ratio : Nat) (px : List Rgb) : Nat := sNeed (wMax ratio) ((blkComps px).map (fun l => maxOf l - minOf l)) 11 0

/-- It fits, and no shift that fits lies below it. -/
theorem needed_le {ratio : Nat} {px : List Rgb} {j : Nat} (hj : j ≤ 11) (h : blkSum j px ≤ wMax ratio) :
    needed ratio px ≤ j ∧ blkSum (needed ratio px) px ≤ wMax ratio := by
  obtain ⟨hle, hfits⟩ := sNeed_spec (wMax ratio) ((blkComps px).map (fun l => maxOf l - minOf l)) 11 0 j (Nat.zero_le j) (by omega)
    ((sum_widths px j).trans_le h)
  exact ⟨hle, (sum_widths px _).symm.trans_le hfits⟩

/-- The shift of a compressed block: that needed, or the floor of mode 1 where it is greater. -/
theorem blkShift_eq {ratio : Nat} (h0 : ratio ≠ 0) (mode floor : Nat) (px : List Rgb) :
    blkShift ratio mode floor px = if mode = 0 then needed ratio px else max floor (needed ratio px) := if_neg h0

/-- The shift is within s_max and the residuals fit. -/
theorem IsBlk.shift_fits {px : List Rgb} (h : IsBlk px) {ratio mode floor : Nat} (h0 : ratio ≠ 0) (h3 : ratio ≤ 3) (hmode : mode ≤ 1)
    (hfloor : mode = 1 → floor ≤ sMax ratio) :
    blkShift ratio mode floor px ≤ sMax ratio ∧ blkSum (blkShift ratio mode floor px) px ≤ wMax ratio := by
  obtain ⟨hle, hfits⟩ := needed_le (ratio := ratio) ((sMax_le ratio h3).trans (by decide)) (h.sum_sMax h0 h3)
  rw [blkShift_eq h0]
  split
  · exact ⟨hle, hfits⟩
  · exact ⟨max_le (hfloor (by omega)) hle, (blkSum_anti px (le_max_right _ _)).trans hfits⟩

/-! ### The coded block -/

/-- The header's fields of a component: its least value, and the width of its residuals. -/
def compHeader (k : Nat) (l : List Nat) : List (Nat × Nat) := [(12, minOf l), (4, bitLen ((maxOf l - minOf l) / 2 ^ k))]

/-- The fields of a compressed block at shift `k` before its residuals (R246, R247). -/
def blkHeader (k : Nat) (px : List Rgb) : List (Nat × Nat) :=
  (4, k) :: [blkComp px 0, blkComp px 1, blkComp px 2].flatMap (compHeader k)

/-- The residuals of a pixel. -/
def blkPixel (k : Nat) (px : List Rgb) (i : Nat) : List (Nat × Nat) :=
  [(blkWid k px 0, blkRes k px i 0), (blkWid k px 1, blkRes k px i 1), (blkWid k px 2, blkRes k px i 2)]

theorem encodeBlk_eq {ratio : Nat} (h0 : ratio ≠ 0) (mode floor : Nat) (px : List Rgb) : encodeBlk ratio mode floor px =
    packBytes (blkBytes ratio) (blkHeader (blkShift ratio mode floor px) px ++
      (List.range 32).flatMap (blkPixel (blkShift ratio mode floor px) px)) := if_neg h0

theorem packWidth_blkHeader (k : Nat) (px : List Rgb) : packWidth (blkHeader k px) = 52 := rfl

theorem packWidth_blkPixel (k : Nat) (px : List Rgb) (i : Nat) : packWidth (blkPixel k px i) = blkSum k px := by
  simp only [packWidth, blkPixel, blkSum, List.map_cons, List.map_nil, List.sum_cons, List.sum_nil]
  ring

/-- A compressed block whose residuals fit has room in its bytes. -/
theorem blkFields_fit {ratio k : Nat} {px : List Rgb} (h0 : ratio ≠ 0) (h3 : ratio ≤ 3) (hfits : blkSum k px ≤ wMax ratio) :
    packWidth (blkHeader k px ++ (List.range 32).flatMap (blkPixel k px)) ≤ 8 * blkBytes ratio := by
  have hroom : 52 + 32 * wMax ratio ≤ 8 * blkBytes ratio := by
    obtain rfl | rfl | rfl : ratio = 1 ∨ ratio = 2 ∨ ratio = 3 := by omega
    all_goals decide
  rw [packWidth_append, packWidth_blkHeader, packWidth_flatMap fun i _ => packWidth_blkPixel k px i, List.length_range]
  omega

/-- The offset of a component in a pixel's residuals. -/
def resOff (k : Nat) (px : List Rgb) (c : Nat) : Nat :=
  if c = 0 then 0 else if c = 1 then blkWid k px 0 else blkWid k px 0 + blkWid k px 1

/-- The header's fields of a component. -/
theorem hasField_header (k : Nat) (px : List Rgb) {c : Nat} (hc : c < 3) :
    HasField (blkHeader k px) (4 + 16 * c) 12 (minOf (blkComp px c)) ∧ HasField (blkHeader k px) (16 + 16 * c) 4 (blkWid k px c) := by
  have hcomp : [blkComp px 0, blkComp px 1, blkComp px 2][c]? = some (blkComp px c) := by
    obtain rfl | rfl | rfl : c = 0 ∨ c = 1 ∨ c = 2 := by omega
    all_goals rfl
  have hbase := (HasField.flatMap (g := compHeader k) (W := 16) hcomp (fun _ _ => rfl) (hasField_head _ _ _)).cons 4 k
  have hwid := (HasField.flatMap (g := compHeader k) (W := 16) hcomp (fun _ _ => rfl) ((hasField_head _ _ _).cons _ _)).cons 4 k
  rw [show 4 + (16 * c + (12 + 0)) = 16 + 16 * c from by omega] at hwid
  exact ⟨hbase, hwid⟩

/-- A residual's field in its pixel. -/
theorem hasField_pixel (k : Nat) (px : List Rgb) (i : Nat) {c : Nat} (hc : c < 3) :
    HasField (blkPixel k px i) (resOff k px c) (blkWid k px c) (blkRes k px i c) := by
  obtain rfl | rfl | rfl : c = 0 ∨ c = 1 ∨ c = 2 := by omega
  · exact hasField_head _ _ _
  · exact (hasField_head _ _ _).cons _ _
  · exact ((hasField_head _ _ _).cons _ _).cons _ _

/-! ### The decoder -/

/-- What the decoder rebuilds of a component. -/
def rebuilt (k : Nat) (px : List Rgb) (i c : Nat) : Nat := rebuild k (minOf (blkComp px c)) (blkRes k px i c)

/-- The block that the decoder rebuilds. -/
def rebuiltBlk (k : Nat) (px : List Rgb) : List Rgb := (List.range 32).map (fun i => (rebuilt k px i 0, rebuilt k px i 1, rebuilt k px i 2))

theorem rebuiltBlk_length (k : Nat) (px : List Rgb) : (rebuiltBlk k px).length = 32 := by rw [rebuiltBlk, List.length_map, List.length_range]

theorem comp_rebuiltBlk (k : Nat) (px : List Rgb) {i c : Nat} (hi : i < 32) (hc : c < 3) :
    Rgb.comp ((rebuiltBlk k px).getD i (0, 0, 0)) c = rebuilt k px i c := by
  have hget : (rebuiltBlk k px).getD i (0, 0, 0) = (rebuilt k px i 0, rebuilt k px i 1, rebuilt k px i 2) := by
    rw [List.getD_eq_getElem?_getD, rebuiltBlk, List.getElem?_map, List.getElem?_range hi]
    rfl
  rw [hget]
  obtain rfl | rfl | rfl : c = 0 ∨ c = 1 ∨ c = 2 := by omega
  all_goals rfl

/-- The decoder accepts a compressed block whose residuals fit, and rebuilds its components. -/
theorem IsBlk.decode_fields {px : List Rgb} (h : IsBlk px) {ratio k : Nat} (h0 : ratio ≠ 0) (h3 : ratio ≤ 3) (hk : k ≤ 11)
    (hfits : blkSum k px ≤ wMax ratio) :
    decodeBlk ratio (packBytes (blkBytes ratio) (blkHeader k px ++ (List.range 32).flatMap (blkPixel k px))) =
      some (rebuiltBlk k px) := by
  have hroom := blkFields_fit h0 h3 hfits
  have hshift : bitsAt (fun j => (packBytes (blkBytes ratio) (blkHeader k px ++ (List.range 32).flatMap (blkPixel k px))).getD j 0) 0 4 = k :=
    ((hasField_head 4 k _).append_left _).bitsAt (by omega) hroom
  have hbase : ∀ c < 3, bitsAt (fun j => (packBytes (blkBytes ratio) (blkHeader k px ++ (List.range 32).flatMap (blkPixel k px))).getD j 0)
      (4 + 16 * c) 12 = minOf (blkComp px c) := fun c hc =>
    ((hasField_header k px hc).1.append_left _).bitsAt (h.min_lt hc) hroom
  have hwid : ∀ c < 3, bitsAt (fun j => (packBytes (blkBytes ratio) (blkHeader k px ++ (List.range 32).flatMap (blkPixel k px))).getD j 0)
      (16 + 16 * c) 4 = blkWid k px c := fun c hc =>
    ((hasField_header k px hc).2.append_left _).bitsAt (lt_of_le_of_lt (h.wid_le k hc) (by decide)) hroom
  have hres : ∀ i < 32, ∀ c < 3, bitsAt (fun j => (packBytes (blkBytes ratio) (blkHeader k px ++
      (List.range 32).flatMap (blkPixel k px))).getD j 0) (52 + blkSum k px * i + resOff k px c) (blkWid k px c) = blkRes k px i c := by
    intro i hi c hc
    have hfield := (HasField.flatMap (l := List.range 32) (List.getElem?_range hi) (fun j _ => packWidth_blkPixel k px j)
      (hasField_pixel k px i hc)).append_right (blkHeader k px)
    rw [packWidth_blkHeader, ← Nat.add_assoc] at hfield
    exact hfield.bitsAt (h.res_lt k c hi) hroom
  have hvalid : ¬ (11 < k ∨ 12 < blkWid k px 0 ∨ 12 < blkWid k px 1 ∨ 12 < blkWid k px 2 ∨
      wMax ratio < blkWid k px 0 + blkWid k px 1 + blkWid k px 2) := by
    have w0 := h.wid_le k (c := 0) (by decide)
    have w1 := h.wid_le k (c := 1) (by decide)
    have w2 := h.wid_le k (c := 2) (by decide)
    rw [blkSum] at hfits
    omega
  generalize packBytes (blkBytes ratio) (blkHeader k px ++ (List.range 32).flatMap (blkPixel k px)) = b at hshift hbase hwid hres ⊢
  refine (if_neg h0).trans ?_
  simp only [hshift, hwid 0 (by decide), hwid 1 (by decide), hwid 2 (by decide), hbase 0 (by decide), hbase 1 (by decide), hbase 2 (by decide)]
  refine (if_neg hvalid).trans (congrArg some (List.map_congr_left fun i hi => ?_))
  have hi' := List.mem_range.mp hi
  exact Prod.ext (congrArg (rebuild k _) (hres i hi' 0 (by decide))) (Prod.ext (congrArg (rebuild k _) (hres i hi' 1 (by decide)))
    (congrArg (rebuild k _) (hres i hi' 2 (by decide))))

/-- A rebuilt component lies within half a step of its source, and is the source where the shift is 0 (R248). -/
theorem IsBlk.rebuilt_near {px : List Rgb} (h : IsBlk px) (k : Nat) {i c : Nat} (hi : i < 32) (hc : c < 3) :
    let x := Rgb.comp (px.getD i (0, 0, 0)) c
    if k = 0 then rebuilt k px i c = x else rebuilt k px i c ≤ x + 2 ^ (k - 1) ∧ x ≤ rebuilt k px i c + 2 ^ (k - 1) := by
  intro x
  have hx : (blkComp px c).getD i 0 = x := getD_blkComp px c i
  have hmem := h.comp_mem (c := c) hi
  have hmin := minOf_le hmem
  have hlt := h.mem_lt hc hmem
  rw [hx] at hmin hlt
  split
  · next hk =>
    subst hk
    simp only [rebuilt, rebuild, blkRes, hx, if_true, Nat.pow_zero, Nat.div_one]
    omega
  · next hk =>
    have hstep : 2 ^ k = 2 * 2 ^ (k - 1) := by rw [← Nat.pow_succ', Nat.succ_eq_add_one, Nat.sub_add_cancel (by omega)]
    have hdiv := Nat.div_add_mod (x - minOf (blkComp px c)) (2 ^ k)
    have hmod := Nat.mod_lt (x - minOf (blkComp px c)) (Nat.two_pow_pos k)
    simp only [rebuilt, rebuild, blkRes, hx, if_neg hk]
    rw [Nat.mul_comm] at hdiv
    omega

/-! ### Blocks at 1:1 -/

/-- The fields of a pixel at 1:1. -/
def wholePixel (p : Rgb) : List (Nat × Nat) := [(12, p.1), (12, p.2.1), (12, p.2.2)]

/-- At 1:1 the decoder gives the block back (R246). -/
theorem IsBlk.decode_whole {px : List Rgb} (h : IsBlk px) (mode floor : Nat) : decodeBlk 0 (encodeBlk 0 mode floor px) = some px := by
  have hroom : packWidth (px.flatMap wholePixel) ≤ 8 * 144 := by
    rw [packWidth_flatMap (W := 36) fun _ _ => rfl, h.1]
  have hfield : ∀ i < 32, ∀ p, px[i]? = some p →
      (bitsAt (fun j => (packBytes 144 (px.flatMap wholePixel)).getD j 0) (36 * i) 12,
        bitsAt (fun j => (packBytes 144 (px.flatMap wholePixel)).getD j 0) (36 * i + 12) 12,
        bitsAt (fun j => (packBytes 144 (px.flatMap wholePixel)).getD j 0) (36 * i + 24) 12) = p := by
    intro i _ p hp
    have hlt := h.2 p (List.mem_of_getElem? hp)
    have f0 := HasField.flatMap (g := wholePixel) (W := 36) hp (fun _ _ => rfl) (hasField_head _ _ _)
    have f1 := HasField.flatMap (g := wholePixel) (W := 36) hp (fun _ _ => rfl) ((hasField_head _ _ _).cons _ _)
    have f2 := HasField.flatMap (g := wholePixel) (W := 36) hp (fun _ _ => rfl) (((hasField_head _ _ _).cons _ _).cons _ _)
    exact Prod.ext (f0.bitsAt (hlt 0 (by decide)) hroom) (Prod.ext (f1.bitsAt (hlt 1 (by decide)) hroom) (f2.bitsAt (hlt 2 (by decide)) hroom))
  change some ((List.range 32).map _) = some px
  refine congrArg some (List.ext_getElem? fun i => ?_)
  by_cases hi : i < 32
  · obtain ⟨p, hp⟩ : ∃ p, px[i]? = some p := ⟨_, List.getElem?_eq_getElem (h.1.symm ▸ hi)⟩
    rw [List.getElem?_map, List.getElem?_range hi, hp]
    exact congrArg some (hfield i hi _ hp)
  · rw [List.getElem?_eq_none (by simpa using hi), List.getElem?_eq_none (h.1.symm ▸ Nat.not_lt.mp hi)]

/-! ### The bound -/

/-- The shift of mode 1 is not below its floor, and a block of mode 0 whose ranges fit has none. -/
theorem blkShift_mode {ratio : Nat} (h0 : ratio ≠ 0) (mode floor : Nat) (px : List Rgb) : (mode = 1 → floor ≤ blkShift ratio mode floor px) ∧
    (mode = 0 → ((blkComps px).map (fun l => bitLen (maxOf l - minOf l))).sum ≤ wMax ratio → blkShift ratio mode floor px = 0) := by
  rw [blkShift_eq h0]
  refine ⟨fun h1 => ?_, fun hm hwhole => ?_⟩
  · subst h1
    exact le_max_left _ _
  · subst hm
    have hsum : blkSum 0 px ≤ wMax ratio := by
      rw [← sum_widths, List.map_map]
      simpa only [Function.comp_def, Nat.pow_zero, Nat.div_one] using hwhole
    exact Nat.le_zero.mp (needed_le (Nat.zero_le 11) hsum).1

/-- Settles O21: the fields that the encoder packs are read back, and what is rebuilt of them is within half a step of the source. -/
theorem coderErrorBound : Obligations.CoderErrorBound := by
  intro ratio mode floor px h3 hmode hfloor0 hfloor1 hlen hcomp k
  have hblk : IsBlk px := ⟨hlen, hcomp⟩
  by_cases h0 : ratio = 0
  · subst h0
    have hplain : k = 0 := if_pos rfl
    refine ⟨packBytes_length 144 _, hplain.le, fun h1 => ?_, fun h => absurd rfl h, px, hblk.decode_whole mode floor, hlen, fun i _ c _ => ?_⟩
    · obtain ⟨hlo, hhi⟩ := hfloor1 h1
      exact absurd (hlo.trans hhi) (by decide)
    · exact (if_pos hplain).mpr rfl
  · obtain ⟨hmax, hfits⟩ := hblk.shift_fits h0 h3 hmode fun h => (hfloor1 h).2
    obtain ⟨hmode1, hmode0⟩ := blkShift_mode h0 mode floor px
    refine ⟨?_, hmax, hmode1, fun _ => hmode0, rebuiltBlk k px, ?_, rebuiltBlk_length k px, fun i hi c hc => ?_⟩
    · rw [encodeBlk_eq h0, packBytes_length]
    · rw [encodeBlk_eq h0]
      exact hblk.decode_fields h0 h3 (hmax.trans ((sMax_le ratio h3).trans (by decide))) hfits
    · rw [comp_rebuiltBlk k px hi hc]
      exact hblk.rebuilt_near k hi hc

end Sys2Proof.Machine
end
